-- ==== Sys2Proof/Word.lean ====
section
/-! DEFINITION. The word types of the device and the sizes every chapter shares. -/

namespace Sys2Proof

/-- One byte of a packet, a register or the store. -/
abbrev Byte := BitVec 8

/-- One of the four virtual instances of the device (12 R287); pen 0 is root. -/
abbrev Pen := Fin 4

/-- A signed count of femtoseconds (00 R1), held exactly and saturated where R5 says. -/
abbrev Fs := Int

/-- A signed count of 10^-15 (00 R2). -/
abbrev Fu := Int

/-- The length of a fold, 125 µs (01 R11). -/
def foldFs : Nat := 125000000000

/-- Folds in a device second (01 R11). -/
def foldsPerSecond : Nat := 8000

/-- A device second in femtoseconds. -/
def secondFs : Nat := 1000000000000000

/-! ### Fixed numbers of like things -/

/-- A list of exactly `n` things: a register file, a table of the spec with a fixed number of rows. -/
structure Vec (α : Type) (n : Nat) where
  toList : List α
  length_eq : toList.length = n
  deriving DecidableEq, Repr

/-- `n` copies. -/
def Vec.replicate {α : Type} (n : Nat) (a : α) : Vec α n := ⟨List.replicate n a, List.length_replicate⟩

/-- The list of `f 0` to `f (n - 1)`. -/
def Vec.ofFn {α : Type} (n : Nat) (f : Nat → α) : Vec α n := ⟨(List.range n).map f, by simp⟩

/-- Place `i`, or `d` where there is none. -/
def Vec.getD {α : Type} {n : Nat} (v : Vec α n) (i : Nat) (d : α) : α := v.toList.getD i d

/-- Place `i` changed by `f`. -/
def Vec.upd {α : Type} {n : Nat} (v : Vec α n) (i : Nat) (f : α → α) : Vec α n := ⟨v.toList.modify i f, by simp [v.length_eq]⟩

/-- Every place changed by `f`. -/
def Vec.map {α β : Type} {n : Nat} (f : α → β) (v : Vec α n) : Vec β n := ⟨v.toList.map f, by simp [v.length_eq]⟩

/-- Every place changed by `f`, which is told its number. -/
def Vec.mapIdx {α β : Type} {n : Nat} (f : Nat → α → β) (v : Vec α n) : Vec β n := ⟨v.toList.mapIdx f, by simp [v.length_eq]⟩

/-- Two of one length, place by place. -/
def Vec.zip {α β : Type} {n : Nat} (v : Vec α n) (w : Vec β n) : Vec (α × β) n := ⟨v.toList.zip w.toList, by simp [v.length_eq, w.length_eq]⟩

end Sys2Proof
end

