-- ==== Sys2Proof/Config.lean ====
section
/-! DEFINITION. What one part or one image fixes, and the values the spec leaves open: constants
without a body, so that nothing can be proved about their values (log 8). -/

namespace Sys2Proof

/-- REVISION of the ROM firmware on this part (12 R272: per part, per image). -/
opaque Config.romRevision : BitVec 32

/-- Fractional step of the APLL's divider in f-units, about 6 (04 R77). -/
opaque Config.dcoStep : Nat

/-- How long past two SYS cycles a signal takes to cross into SYS, in fs; 01 R29 bounds it by a third cycle. -/
opaque Config.crossing : Nat

/-- First rising edge of output `n`'s divider after reset, in fs of device time (06 R135 gives none). -/
opaque Config.dividerOrigin : (n : Nat) → Nat

/-- Pipeline latency L of the drove in ps, measured at production, at most 120 ns (11 R249). -/
opaque Config.droveLatency : Nat

/-- The variance, less one LSB, with which the fit begins coefficient `k` (0 F0, 1 c1, 2 c2, 3 c3, 4 a_log, 5 a_lin), of which nothing is known yet: 04
R98 does not give the start of the least-squares fit. -/
opaque Config.fitStart : (k : Nat) → Nat

/-- A stored covariance entry counts units of 2 to the power −`covBits` (15 R356 gives 8 bytes and no scale). -/
opaque Config.covBits : Nat

/-- Time in fs from a crook decode to the output logic, bounded by 160 ns (14 R349). -/
opaque Config.crookLatency : (n : Nat) → Nat

/-- Random number of the `n`-th draw (10 R230, R232). -/
opaque Config.random : (n : Nat) → Nat

/-- Latency in ns of the receive path at a RATE, from the end of the last SFD bit at the ball to its detection (09 R220: calibrated at production). -/
opaque Config.rxLatency : (rate : Nat) → Nat

/-- Whether the tuner's `n`-th move is made on bank B, where 09 R216 does not say which bank moves. -/
opaque Config.tunerBank : (n : Nat) → Bool

/-- The region (0-3) of SRAM word `w` (16 R377 gives no map). -/
opaque Config.sramRegion : (w : Nat) → Nat

/-- The host-drained item that an SRAM word of region 2 lies in, and its 8-byte word of it: reply `k` of a pen, the reject slot, event `k` of the queue,
entry `k` of the telemetry ring or of the retired ring. -/
inductive Config.SramItem where
  | reply (pen : Fin 4) (k word : Nat)
  | reject (word : Nat)
  | event (k word : Nat)
  | telemetry (k word : Nat)
  | retired (k word : Nat)
  deriving DecidableEq, Repr, Inhabited

/-- What SRAM word `w` of region 2 holds (16 R377 gives no map). -/
opaque Config.sramItem : (w : Nat) → Config.SramItem

/-- The SRAM word that holds configuration shadow word `n`, and the setting that this shadow word copies, as a place in the list of them; it takes the remainder
by the list's length (16 R377 gives neither). -/
opaque Config.shadowWord : (n : Nat) → Nat
opaque Config.shadowPiece : (n : Nat) → Nat

/-- The scale that eight steps of the TDC recalibration give channel `ch`, and whether it lies within its limits (16 R383 gives neither). -/
opaque Config.tdcScale : (steps : List Nat) → (ch : Nat) → Nat
opaque Config.tdcInLimits : (scale : Nat) → Bool

/-- The APLL's VCO band that supervision chooses for an F_VCO in Hz, at the `n`-th free choice (16 R384). -/
opaque Config.vcoBand : (n fvco : Nat) → Nat

/-- What a loaded patch writes to the output latches through the private port at the `n`-th free choice: the bits it writes, and their values (17 R401). -/
opaque Config.patchPort : (n : Nat) → BitVec 24 × BitVec 24

/-- Length of the JTAG instruction register less two (19 R441 gives no length; IEEE 1149.1 asks at least two). -/
opaque Config.jtagIrExtra : Nat

/-- What an instruction code selects, but for the code of all ones, which IEEE 1149.1 makes BYPASS: 1 IDCODE, 2 SAMPLE/PRELOAD, 3 EXTEST, any other value
BYPASS (19 R441). -/
opaque Config.jtagDecode : (code : Nat) → Nat

/-- Perarn Devices' manufacturer identity, in the BSDL file only (19 R441). -/
opaque Config.jtagManufacturer : BitVec 11

/-- Where in the boundary register the cell of ball `k` stands among those of the balls before it; it takes the remainder by k + 1 (19 R442 gives no order). -/
opaque Config.jtagCell : (k : Nat) → Nat

/-- Byte `i` of the snapshot data of part `part` of the CONFIG generation `gen` (15 R369 gives its content, not its layout). -/
opaque Config.snapshotByte : (gen part i : Nat) → BitVec 8

/-- Words of a hot-set image that stand at the `n`-th loss of power within a save; it takes the remainder by 32 (15 R367 ends no save that is cut off). -/
opaque Config.savedWords : (n : Nat) → Nat

/-- Pages of a bank, from its page 0 on, that the `n`-th erase cut by a reset has erased; it takes the remainder by 49 (15 R359 orders them alone). -/
opaque Config.erasedPages : (n : Nat) → Nat

/-- Boundaries that the `n`-th start-up takes before the one that commits its snapshot; it takes the remainder by 65, 8 ms (18 R417, R421). -/
opaque Config.bootFolds : (n : Nat) → Nat

/-- Content of byte `i` of a user page left undefined, at the `n`-th free choice (15 R372). -/
opaque Config.undefinedByte : (n i : Nat) → BitVec 8

/-- Phase of the GPS clock against device time, in fs: the instants to which edges are stamped (17 R395 gives the resolution alone). -/
opaque Config.gpsPhase : Nat

/-- Whether NRESET low for `ns` nanoseconds, 100 ns to 1 µs, is recognised (18 R410 gives neither). -/
opaque Config.nresetSeen : (ns : Nat) → Bool

end Sys2Proof
end

