-- ==== Sys2Proof/Syntax.lean ====
section
/-! DEFINITION. The commands of the block: one constructor for each row of spec/opcode_table.json. The table
gives no operands; each constructor carries what its rule says arrives with the step (log 1). `t` is the instant
of the step, in femtoseconds after the boundary of the present fold. -/

namespace Sys2Proof

/-- A command packet (12 R278) whose CRC is right, without its OPCODE, which the constructor names. LEN is the
length of `params`; `rsv` is bytes 6-7. -/
structure Call where
  pen : Pen
  cls : BitVec 2
  flags : BitVec 4
  tag : Byte
  rsv : BitVec 16
  params : List Byte
  deriving DecidableEq, Repr

/-- Where a crook action comes from (14 R344): the 12 bytes of a frame, or an edge on a pin to a level. -/
inductive CrookSrc where
  | frame (bytes : List Byte)
  | pin (n : Fin 24) (level : Bool)
  deriving DecidableEq, Repr

/-- What the boundary's snapshot latches from outside the model's state: for each output named, the rising edges it
emitted in the fold less those counted at its pad (06 R151). -/
structure BoundaryIn where
  padMissed : List (Nat × Int)
  deriving DecidableEq, Repr

/-- What befalls the SRAM between two scrub slots (16 R377, R379): a soft error turns one of a word's 72 bits, or a task, an engine or the host reads a word. -/
inductive SramAct where
  | strike (word bit : Nat)
  | read (word : Nat)
  deriving DecidableEq, Repr

/-- The two shared engines (12 R284). -/
inductive Engine where
  | store
  | calibration
  deriving DecidableEq, Repr

/-- Why word lock is lost (11 R250). -/
inductive LockLoss where
  | recovery
  | codes
  | breakWord
  | silence
  deriving DecidableEq, Repr

/-- The phase of an input that an edge begins (02 R37, R46): its width in fs at the ball, and, where the edge passes the deglitch filter, the width that the
phase has once removed pulses are out of it. -/
structure EdgePhase where
  raw : Nat
  kept : Nat
  deriving DecidableEq, Repr

/-- The loss of word lock: why, and when. -/
structure LockEnd where
  cause : LockLoss
  t : Nat
  deriving DecidableEq, Repr

/-- The entry to SLEEP: the words of the image, 0–31, that did not verify, and when (18 R424). -/
structure SleepEnd where
  bad : List Nat
  t : Nat
  deriving DecidableEq, Repr

/-- The place of a figure that a row reports and that State computes: it carries nothing. -/
inductive Computed where
  | ofState
  deriving DecidableEq, Repr

/-- A word of the drove, decoded: a control character or data (11 R244). -/
structure Sym where
  control : Bool
  byte : Byte
  deriving DecidableEq, Repr

/-- A received PSDU as the PHY hands it up: its PHR facts, its content without the FCS, the verdict of the FCS, the
device time at which its SFD was detected (09 R220) and the RSSI. -/
structure RxFrame where
  modeSwitch : Bool
  length : Nat
  psdu : List Byte
  fcsOk : Bool
  seconds : Nat
  ns : Nat
  rssi : Int
  deriving DecidableEq, Repr

/-- The result of a synthesiser calibration of one channel entry (09 R201). -/
structure SynthCal where
  band : BitVec 6
  amp : BitVec 4
  deriving DecidableEq, Repr

/-- What a hop's calibration reports: whether it stayed within its limits, and its result. -/
structure HopEnd where
  inLimits : Bool
  cal : SynthCal
  deriving DecidableEq, Repr

/-- The figures of a calibration (09 R219): those of a synthesiser, and the trims of the others. -/
structure CalFigures where
  cal : SynthCal
  trim : List Int
  deriving DecidableEq, Repr

/-- A transaction as it stands on a bus (12 R265, R268): over SPI the bytes that the host clocks, over I2C the address, the bytes written after it and the number
of bytes that are then read. -/
inductive BusTx where
  | spi (bytes : List Byte)
  | i2c (addr : BitVec 7) (sent : List Byte) (reads : Nat)
  deriving DecidableEq, Repr

/-- One constructor for each row of the table, in its order. -/
inductive Instr where
  /-- WRITE_COMMAND_PACKET (R282) -/
  | writeCommandPacket (bytes : List Byte) (t : Nat)
  /-- READ_REPLY (R267) -/
  | readReply (selector : Byte) (whole : Bool) (t : Nat)
  /-- BAD_INSTRUCTION_TRANSACTION (R266, R268) -/
  | badInstructionTransaction (tx : BusTx) (t : Nat)
  /-- GPIO_SET (R400) -/
  | gpioSet (off : Fin 4) (data : List Byte) (t : Nat)
  /-- GPIO_CLR (R400) -/
  | gpioClr (off : Fin 4) (data : List Byte) (t : Nat)
  /-- GPIO_TGL (R400) -/
  | gpioTgl (off : Fin 4) (data : List Byte) (t : Nat)
  /-- DIRECT_REGISTER_WRITE (R270) -/
  | directRegisterWrite (addr : Byte) (data : List Byte) (t : Nat)
  /-- STEP_FLOCK (R346) -/
  | stepFlock (src : CrookSrc) (t : Nat)
  /-- GATE_ON (R346) -/
  | gateOn (src : CrookSrc) (t : Nat)
  /-- GATE_OFF (R346) -/
  | gateOff (src : CrookSrc) (t : Nat)
  /-- FREEZE (R346) -/
  | freeze (src : CrookSrc) (t : Nat)
  /-- GATHER_NOW (R165) -/
  | gatherNow (src : CrookSrc) (t : Nat)
  /-- NOP (R308) -/
  | nop (q : Call)
  /-- AUDIT (R309) -/
  | audit (q : Call)
  /-- OUTPUTS_RELEASE (R419) -/
  | outputsRelease (q : Call)
  /-- POWER_STATE (R422) -/
  | powerState (q : Call)
  /-- SOFT_RESET (R308) -/
  | softReset (q : Call)
  /-- RESET_INFO (R308) -/
  | resetInfo (q : Call)
  /-- REF_INPUT (R310) -/
  | refInput (q : Call)
  /-- REF_INPUT_GROUP_READ (R302) -/
  | refInputGroupRead (q : Call)
  /-- REF_MON (R310) -/
  | refMon (q : Call)
  /-- REF_MON_GROUP_READ (R302) -/
  | refMonGroupRead (q : Call)
  /-- REF_RANK (R310) -/
  | refRank (q : Call)
  /-- REF_RANK_GROUP_READ (R302) -/
  | refRankGroupRead (q : Call)
  /-- REF_STATUS (R54) -/
  | refStatus (q : Call)
  /-- TDC_ARM (R58) -/
  | tdcArm (q : Call)
  /-- TDC_RESULT (R59) -/
  | tdcResult (q : Call)
  /-- FORCE (R68) -/
  | force (q : Call)
  /-- SEL_STATUS (R72) -/
  | selStatus (q : Call)
  /-- LOOP (R91) -/
  | loop (q : Call)
  /-- LOOP_GROUP_READ (R302) -/
  | loopGroupRead (q : Call)
  /-- STILE (R105) -/
  | stile (q : Call)
  /-- STILE_GROUP_READ (R302) -/
  | stileGroupRead (q : Call)
  /-- LOOP_STATUS (R104) -/
  | loopStatus (q : Call)
  /-- HOLD (R82) -/
  | hold (q : Call)
  /-- NEW_OSC (R103) -/
  | newOsc (q : Call)
  /-- MODEL_READ (R312) -/
  | modelRead (q : Call)
  /-- MODEL_WRITE (R311) -/
  | modelWrite (q : Call)
  /-- STEP (R122) -/
  | step (q : Call)
  /-- TALLY_CANCEL (R125) -/
  | tallyCancel (q : Call)
  /-- TALLY_READ (R312) -/
  | tallyRead (q : Call)
  /-- VCO (R130) -/
  | vco (q : Call)
  /-- VCO_GROUP_READ (R302) -/
  | vcoGroupRead (q : Call)
  /-- PADDOCK (R131) -/
  | paddock (q : Call)
  /-- PADDOCK_GROUP_READ (R302) -/
  | paddockGroupRead (q : Call)
  /-- OUT (R134) -/
  | out (q : Call)
  /-- OUT_GROUP_READ (R302) -/
  | outGroupRead (q : Call)
  /-- OUT_DELAY (R123) -/
  | outDelay (q : Call)
  /-- GATE_WINDOW (R139) -/
  | gateWindow (q : Call)
  /-- GATE_FLUSH (R313) -/
  | gateFlush (q : Call)
  /-- OUT_STATUS (R313) -/
  | outStatus (q : Call)
  /-- MON (R152) -/
  | mon (q : Call)
  /-- MON_GROUP_READ (R302) -/
  | monGroupRead (q : Call)
  /-- ALIGN (R154) -/
  | align (q : Call)
  /-- ALIGN_GROUP_READ (R302) -/
  | alignGroupRead (q : Call)
  /-- GATHER (R159) -/
  | gather (q : Call)
  /-- TIME (R168) -/
  | time (q : Call)
  /-- TIME_GROUP_READ (R302) -/
  | timeGroupRead (q : Call)
  /-- TIME_WRITE (R175) -/
  | timeWrite (q : Call)
  /-- TIME_READ (R176) -/
  | timeRead (q : Call)
  /-- SSCT (R181) -/
  | ssct (q : Call)
  /-- SSCT_GROUP_READ (R302) -/
  | ssctGroupRead (q : Call)
  /-- SSCT_LOAD (R192) -/
  | ssctLoad (q : Call)
  /-- SSCT_READ (R192) -/
  | ssctRead (q : Call)
  /-- SSCT_SAVE (R193) -/
  | ssctSave (q : Call)
  /-- SSCT_STATUS (R194) -/
  | ssctStatus (q : Call)
  /-- RF (R316) -/
  | rf (q : Call)
  /-- RF_GROUP_READ (R302) -/
  | rfGroupRead (q : Call)
  /-- CHAN_WRITE (R198) -/
  | chanWrite (q : Call)
  /-- CHAN_READ (R201) -/
  | chanRead (q : Call)
  /-- RF_RX (R316) -/
  | rfRx (q : Call)
  /-- RF_TX (R316) -/
  | rfTx (q : Call)
  /-- RF_CAPTURE (R316) -/
  | rfCapture (q : Call)
  /-- RF_CAL (R316) -/
  | rfCal (q : Call)
  /-- RF_STATUS (R316) -/
  | rfStatus (q : Call)
  /-- COMMONS (R223) -/
  | commons (q : Call)
  /-- COMMONS_GROUP_READ (R302) -/
  | commonsGroupRead (q : Call)
  /-- MGMT (R240) -/
  | mgmt (q : Call)
  /-- MGMT_GROUP_READ (R302) -/
  | mgmtGroupRead (q : Call)
  /-- COMMONS_KEY (R371) -/
  | commonsKey (q : Call)
  /-- COMMONS_STATUS (R317) -/
  | commonsStatus (q : Call)
  /-- DROVE (R245) -/
  | drove (q : Call)
  /-- DROVE_GROUP_READ (R302) -/
  | droveGroupRead (q : Call)
  /-- DROVE_CMD (R261) -/
  | droveCmd (q : Call)
  /-- DROVE_STATUS (R263) -/
  | droveStatus (q : Call)
  /-- CONFIG_SAVE (R369) -/
  | configSave (q : Call)
  /-- PAGE_WRITE (R372) -/
  | pageWrite (q : Call)
  /-- PAGE_ERASE (R373) -/
  | pageErase (q : Call)
  /-- PAGE_READ (R319) -/
  | pageRead (q : Call)
  /-- STORE_STATUS (R319) -/
  | storeStatus (q : Call)
  /-- PAGE_WEAR (R319) -/
  | pageWear (q : Call)
  /-- PATCH_WRITE (R370) -/
  | patchWrite (q : Call)
  /-- EVT_CONFIG (R334) -/
  | evtConfig (q : Call)
  /-- EVT_NOTIFY (R334) -/
  | evtNotify (q : Call)
  /-- EVT_STATUS (R320) -/
  | evtStatus (q : Call)
  /-- EVT_CLEAR (R333) -/
  | evtClear (q : Call)
  /-- EVT_COUNTERS (R320) -/
  | evtCounters (q : Call)
  /-- EVT_QUEUE (R339) -/
  | evtQueue (q : Call)
  /-- PIN (R389) -/
  | pin (q : Call)
  /-- PIN_GROUP_READ (R302) -/
  | pinGroupRead (q : Call)
  /-- PIN_LOCK (R404) -/
  | pinLock (q : Call)
  /-- PIN_STATUS (R402) -/
  | pinStatus (q : Call)
  /-- OWNER_SET (R288) -/
  | ownerSet (q : Call)
  /-- OWNER_READ (R323) -/
  | ownerRead (q : Call)
  /-- OWNER_LOCK (R290) -/
  | ownerLock (q : Call)
  /-- PEN_RESET (R292) -/
  | penReset (q : Call)
  /-- PEN_DISABLE (R292) -/
  | penDisable (q : Call)
  /-- PEN_ENABLE (R291) -/
  | penEnable (q : Call)
  /-- INJECT (R432) -/
  | inject (q : Call)
  /-- REF_KILL (R435) -/
  | refKill (q : Call)
  /-- STORE_INJECT (R436) -/
  | storeInject (q : Call)
  /-- SLOT_OVERRUN (R437) -/
  | slotOverrun (q : Call)
  /-- DRV_TEST (R438) -/
  | drvTest (q : Call)
  /-- RF_TONE (R440) -/
  | rfTone (q : Call)
  /-- TEST_STATUS (R434) -/
  | testStatus (q : Call)
  /-- TELEM_READ (R387) -/
  | telemRead (q : Call)
  /-- CROOK_STEP (R124) -/
  | crookStep (q : Call)
  /-- CROOK_GATHER (R165) -/
  | crookGather (q : Call)
  /-- CROOK_CLEAR (R326) -/
  | crookClear (q : Call)
  /-- FOLD_BOUNDARY (R21) -/
  | foldBoundary (m : BoundaryIn)
  /-- SLEEP_ENTRY (R424) -/
  | sleepEntry (e : SleepEnd)
  /-- DPLL_UPDATE_SLOT (R84) -/
  | dpllUpdateSlot (onDie : Int) (tsense : Nat) (t : Nat)
  /-- STILE_AND_TALLY_SLOT (R113) -/
  | stileAndTallySlot (t : Nat)
  /-- SHAFT_TABLE_SLOT (R188) -/
  | shaftTableSlot (t : Nat)
  /-- OUTPUT_SCHEDULER_SLOT (R161) -/
  | outputSchedulerSlot (t : Nat)
  /-- REFERENCE_MONITORS_SLOT (R48) -/
  | referenceMonitorsSlot (t : Nat)
  /-- EVENT_ENGINE_SLOT (R337) -/
  | eventEngineSlot (t : Nat)
  /-- COMMAND_INTERPRETER_SLOT (R22) -/
  | commandInterpreterSlot (done : Nat) (begun : Bool) (t : Nat)
  /-- COMMONS_MAC_SLOT (R225) -/
  | commonsMacSlot (t : Nat)
  /-- DROVE_SLOT (R17) -/
  | droveSlot (m : Computed) (t : Nat)
  /-- STORE_ENGINE_SLOT (R17) -/
  | storeEngineSlot (verifyOk : Bool) (t : Nat)
  /-- FLASH_WORD_PROGRAM_END (R17) -/
  | flashWordProgramEnd (t : Nat)
  /-- CALIBRATION_SLOT (R382) -/
  | calibrationSlot (vtuneMargin : Nat) (tdcMeas : Nat) (t : Nat)
  /-- SCRUB_SLOT (R378) -/
  | scrubSlot (acts : List SramAct) (live : List (Nat × List Byte)) (t : Nat)
  /-- TELEMETRY_SLOT (R386) -/
  | telemetrySlot (sample : Int) (t : Nat)
  /-- RESERVE_SLOT (R19) -/
  | reserveSlot (done : Bool) (t : Nat)
  /-- SLOT_END (R20) -/
  | slotEnd (slot : Fin 16) (held : Nat) (t : Nat)
  /-- REF_EDGE (R57) -/
  | refEdge (i : Fin 6) (rising : Bool) (phase : EdgePhase) (t : Nat)
  /-- ACTIVITY_WINDOW_EXPIRY (R39) -/
  | activityWindowExpiry (i : Fin 8) (t : Nat)
  /-- PRECISE_GATE_END (R43) -/
  | preciseGateEnd (i : Fin 8) (m : Computed) (t : Nat)
  /-- QUALIFICATION_TIMER_EXPIRY (R47) -/
  | qualificationTimerExpiry (i : Fin 8) (t : Nat)
  /-- TDC_INTERVAL_TIMEOUT (R59) -/
  | tdcIntervalTimeout (p : Pen)
  /-- BW_STAGE_END (R87) -/
  | bwStageEnd
  /-- LOCK_ACHIEVED (R88) -/
  | lockAchieved
  /-- LOSS_OF_LOCK (R89) -/
  | lossOfLock
  /-- LEARNING_OBSERVATION (R97) -/
  | learningObservation
  /-- MODEL_SAVE_TIMER (R99) -/
  | modelSaveTimer
  /-- HOURLY_RECORD (R356) -/
  | hourlyRecord (t : Nat)
  /-- REFRESH_CHECK (R362) -/
  | refreshCheck
  /-- COMPACTION (R359) -/
  | compaction
  /-- COMPACTION_RETRY (R361) -/
  | compactionRetry
  /-- DEFERRED_COMMAND_SERVED (R297) -/
  | deferredCommandServed (p : Pen) (t : Nat)
  /-- LONG_COMMAND_START (R284) -/
  | longCommandStart (p : Pen) (t : Nat)
  /-- JOB_END (R284) -/
  | jobEnd (p : Pen) (eng : Engine) (t : Nat)
  /-- PEN_RESET_END (R291) -/
  | penResetEnd (p : Pen)
  /-- TALLY_ENTRY_ACTIVATION (R112) -/
  | tallyEntryActivation (seq : BitVec 32)
  /-- GATE_WINDOW_START (R138) -/
  | gateWindowStart (o : Fin 16) (t : Nat)
  /-- GATE_WINDOW_STOP (R140) -/
  | gateWindowStop (o : Fin 16) (t : Nat)
  /-- ALIGNED_START (R156) -/
  | alignedStart (o : Fin 16)
  /-- SHAFT_INDEX_EDGE (R189) -/
  | shaftIndexEdge (ref5 : Bool) (t : Nat)
  /-- SHAFT_INDEX_TIMEOUT (R185) -/
  | shaftIndexTimeout (t : Nat)
  /-- MON_SECOND_END (R152) -/
  | monSecondEnd (meas : List (Nat × Nat × Nat))
  /-- SECONDS_COMPARISON (R173) -/
  | secondsComparison (t : Nat)
  /-- UART_SENTENCE (R170) -/
  | uartSentence (pin21 : Bool) (bytes : List Byte) (span : Nat) (t : Nat)
  /-- GPIO_EDGE (R395) -/
  | gpioEdge (n : Fin 24) (level : Bool) (t : Nat)
  /-- PEN_RESET_PIN_EDGE (R397) -/
  | penResetPinEdge (n : Fin 24) (level : Bool) (t : Nat)
  /-- APLL_LOCK_ACQUIRED (R79) -/
  | apllLockAcquired
  /-- APLL_LOSS_OF_LOCK (R79) -/
  | apllLossOfLock (t : Nat)
  /-- APLL_LOCK_TIMEOUT (R79) -/
  | apllLockTimeout (t : Nat)
  /-- OUTPUT_RELEASE_TAKES_EFFECT (R419) -/
  | outputReleaseTakesEffect
  /-- NPFAIL_FALL (R32) -/
  | npfailFall (t : Nat)
  /-- HOTSET_SAVE_END (R367) -/
  | hotsetSaveEnd (bad : List Nat) (t : Nat)
  /-- POWER_ON_RESET (R408) -/
  | powerOnReset
  /-- PIN_RESET (R410) -/
  | pinReset (ns : Nat)
  /-- WATCHDOG_EXPIRY (R413) -/
  | watchdogExpiry
  /-- SOFT_RESET_EXECUTION (R415) -/
  | softResetExecution (t : Nat)
  /-- RESET_RELEASE (R417) -/
  | resetRelease (strap0 strap1 : Bool)
  /-- WAKE_REQUEST (R426) -/
  | wakeRequest (ns : Nat) (interval : Nat)
  /-- WAKE_DIVIDER_RESTART (R428) -/
  | wakeDividerRestart
  /-- LEAD_FRAME_TRANSMIT (R246) -/
  | leadFrameTransmit (t : Nat)
  /-- DROVE_FRAME_RECEIVED (R248) -/
  | droveFrameReceived (words : List Sym) (codesOk : Bool) (t : Nat)
  /-- WORD_LOCK_LOSS (R250) -/
  | wordLockLoss (e : LockEnd)
  /-- CLAIM_TIMEOUT (R251) -/
  | claimTimeout
  /-- LEAD_TIMEOUT (R252) -/
  | leadTimeout
  /-- RING_RETURN_TIMEOUT (R252) -/
  | ringReturnTimeout
  /-- ECHO_MEASUREMENT (R254) -/
  | echoMeasurement (rt : Nat)
  /-- DROVE_FREEZE_TAKES_EFFECT (R262) -/
  | droveFreezeTakesEffect
  /-- BEACON_DUE (R230) -/
  | beaconDue
  /-- CCA_ATTEMPT (R230) -/
  | ccaAttempt (m : Computed) (t : Nat)
  /-- TX_FRAME_END (R216) -/
  | txFrameEnd (returnLoss : Nat) (t : Nat)
  /-- RADIO_FRAME_RECEIVED (R238) -/
  | radioFrameReceived (f : RxFrame) (t : Nat)
  /-- DELAY_REQ_DUE (R232) -/
  | delayReqDue
  /-- DELAY_RESP_DUE (R232) -/
  | delayRespDue
  /-- EXCHANGE_TIMEOUT (R233) -/
  | exchangeTimeout
  /-- BEACON_MISSED (R241) -/
  | beaconMissed (t : Nat)
  /-- CARRIER_DETECT (R212) -/
  | carrierDetect (m : Computed) (t : Nat)
  /-- DIVERSITY_WINDOW_END (R212) -/
  | diversityWindowEnd (m : Computed) (sfd : Bool) (t : Nat)
  /-- RX_BLOCK (R207) -/
  | rxBlock (rssi : Int) (sat : Bool) (peak : Int) (sfd : Bool) (iq : List (Int × Int)) (t : Nat)
  /-- HOP_SETTLE_COMPLETE (R202) -/
  | hopSettleComplete (e : HopEnd) (t : Nat)
  /-- SYNTH_UNLOCK (R215) -/
  | synthUnlock (t : Nat)
  /-- RADIO_CAL_DUE (R218) -/
  | radioCalDue (cal : Fin 4)
  /-- RADIO_CALIBRATION_END (R219) -/
  | radioCalibrationEnd (inLimits : Bool) (f : CalFigures) (t : Nat)
  /-- NPFAIL_RISE (R413) -/
  | npfailRise
  /-- FLASH_ERASE_END (R374) -/
  | flashEraseEnd (t : Nat)
  /-- PIN_INPUT_LEVEL_CHANGE (R394) -/
  | pinInputLevelChange (n : Fin 24) (level : Bool)
  /-- CODE_ERROR (R244) -/
  | codeError (t : Nat)
  /-- PRBS_CHECKER_LOCK (R439) -/
  | prbsCheckerLock (bits : Nat) (errors : Nat)
  /-- JTAG_TCK_EDGE (R441) -/
  | jtagTckEdge (rising tms tdi : Bool) (pads : List Bool)
  deriving DecidableEq, Repr

end Sys2Proof
end

