-- ==== Sys2Proof/Machine/Num.lean ====
section
/-! DEFINITION. Arithmetic the whole device shares: saturation, rounding, little-endian fields, checksums. -/

namespace Sys2Proof.Machine

/-- `x` held to the range `lo` to `hi`. -/
def clampI (lo hi x : Int) : Int := max lo (min hi x)

/-- The representable extremes of a 64-bit femtosecond count (00 R1). -/
def fsMax : Int := 9223372036854775807
def fsMin : Int := -9223372036854775808

/-- Internal phase arithmetic saturates (00 R5). -/
def satFs (x : Int) : Int := clampI fsMin fsMax x

/-- Internal frequency arithmetic saturates at 48 bits (00 R2, R5). -/
def satFu (x : Int) : Int := clampI (-140737488355328) 140737488355327 x

/-- Quotient of integers rounded to the nearest whole number, ties away from zero (00 R8). -/
def divNear (a : Int) (b : Nat) : Int :=
  if b = 0 then 0
  else if 0 ≤ a then (2 * a + b) / (2 * b) else -((2 * (-a) + b) / (2 * b))

/-- The multiple of `step` nearest `v`, ties away from zero (00 R8). -/
def roundStep (v : Int) (step : Nat) : Int := divNear v step * step

/-- Ceiling quotient. -/
def ceilDiv (a b : Nat) : Nat := if b = 0 then 0 else (a + b - 1) / b

/-- One step of `isqrt`: try bit `k`. -/
def isqrtGo (n : Nat) : Nat → Nat → Nat
  | 0, r => r
  | k + 1, r =>
    let r' := r + 2 ^ k
    isqrtGo n k (if r' * r' ≤ n then r' else r)

/-- Integer square root, rounded down, of a number below 2^160. -/
def isqrt (n : Nat) : Nat := isqrtGo n 80 0

/-- Reduction modulo `p` into (−p/2, p/2] (05 R119, 07 R161). -/
def centred (x : Int) (p : Nat) : Int :=
  if p = 0 then x
  else
    let r := x % (p : Int)
    if 2 * r > p then r - p else r

/-- The low `n` bytes of `v`, least significant first (00 R4). -/
def le (n v : Nat) : List Byte :=
  match n with
  | 0 => []
  | k + 1 => BitVec.ofNat 8 v :: le k (v / 256)

/-- A signed value in `n` bytes, two's complement, little-endian. -/
def leI (n : Nat) (v : Int) : List Byte := le n (v % (256 ^ n : Int)).toNat

/-- The number that little-endian bytes spell. -/
def ofLe : List Byte → Nat
  | [] => 0
  | b :: r => b.toNat + 256 * ofLe r

/-- The unsigned field of `n` bytes at offset `o`. -/
def fld (p : List Byte) (o n : Nat) : Nat := ofLe ((p.drop o).take n)

/-- The signed field of `n` bytes at offset `o`. -/
def fldI (p : List Byte) (o n : Nat) : Int :=
  let v := fld p o n
  if 2 * v ≥ 256 ^ n then (v : Int) - 256 ^ n else v

/-- A signed number of `n` bits from its two's complement pattern. -/
def signed (n v : Nat) : Int := if 2 * v ≥ 2 ^ n then (v : Int) - 2 ^ n else v

/-- Bit `k` of a number. -/
def bit (v k : Nat) : Bool := v.testBit k

/-- 1 for true. -/
def b2n (b : Bool) : Nat := if b then 1 else 0

/-- One bit of a most-significant-first CRC of width `w`. -/
def crcMsbBit (w poly c : Nat) : Nat :=
  let c2 := c * 2
  (if c / 2 ^ (w - 1) % 2 = 1 then (c2 % 2 ^ w) ^^^ poly else c2 % 2 ^ w)

/-- A byte of a most-significant-first CRC of width `w`. -/
def crcMsbByte (w poly c : Nat) (b : Byte) : Nat :=
  let c0 := c ^^^ (b.toNat * 2 ^ (w - 8))
  (List.range 8).foldl (fun a _ => crcMsbBit w poly a) c0

/-- CRC-16/CCITT-FALSE (12 R278). -/
def crc16 (bs : List Byte) : Nat := bs.foldl (crcMsbByte 16 0x1021) 0xFFFF

/-- CRC-8, polynomial 0x07, initial value 0 (11 R247). -/
def crc8 (bs : List Byte) : Nat := bs.foldl (crcMsbByte 8 0x07) 0

/-- One bit of the reflected CRC-32C. -/
def crc32cBit (c : Nat) : Nat := if c % 2 = 1 then (c / 2) ^^^ 0x82F63B78 else c / 2

/-- CRC-32C (Castagnoli: reflected, initial value and final XOR all ones; 11 R247, 15 R352 name it; log 23). -/
def crc32c (bs : List Byte) : Nat :=
  (bs.foldl (fun c b => (List.range 8).foldl (fun a _ => crc32cBit a) (c ^^^ b.toNat)) 0xFFFFFFFF) ^^^ 0xFFFFFFFF

/-- One bit of the base-2 logarithm: square a number in [1, 2) held to 2^-60. -/
def log2Go : Nat → Nat → Nat → Nat
  | 0, _, acc => acc
  | k + 1, x, acc =>
    let x2 := x * x / 2 ^ 60
    if x2 ≥ 2 ^ 61 then log2Go k (x2 / 2) (2 * acc + 1) else log2Go k x2 (2 * acc)

/-- Natural logarithm of `a / b` (`a ≥ b > 0`) in units of 2^-48: the whole part by halving, 48 bits by squaring, times ln 2
(04 R94; its rounding is log 24). -/
def lnFix (a b : Nat) : Nat :=
  if b = 0 then 0
  else
    let e := Nat.log2 (a / b)
    let m := a * 2 ^ 60 / (b * 2 ^ e)
    let l2 := e * 2 ^ 48 + log2Go 48 m 0
    l2 * 799144290325165979 / 2 ^ 60

/-- Bytes of an item of which scrub has rewritten the 8-byte words `l` as zero (16 R380). -/
def blankWords (l : List Nat) (b : List Byte) : List Byte := b.mapIdx fun i x => if l.contains (i / 8) then 0 else x

end Sys2Proof.Machine
end

