-- ==== Sys2Proof/Machine/Cmac.lean ====
section
/-! DEFINITION. AES-128-CMAC over bytes (10 R229 names it; the cipher is FIPS 197 and the mode NIST SP 800-38B, log 33). -/

namespace Sys2Proof.Machine

/-- Multiplication by x in GF(2^8). -/
def gfX (a : Nat) : Nat := if a ≥ 128 then (2 * a % 256) ^^^ 0x1B else 2 * a

/-- Product in GF(2^8), over the low `k` bits of `b`. -/
def gfMulGo : Nat → Nat → Nat → Nat → Nat
  | 0, _, _, acc => acc
  | k + 1, a, b, acc => gfMulGo k (gfX a) (b / 2) (if b % 2 = 1 then acc ^^^ a else acc)

def gfMul (a b : Nat) : Nat := gfMulGo 8 a b 0

/-- Inverse in GF(2^8): a^254. -/
def gfInv (a : Nat) : Nat :=
  let a2 := gfMul a a
  let a4 := gfMul a2 a2
  let a8 := gfMul a4 a4
  let a16 := gfMul a8 a8
  let a32 := gfMul a16 a16
  let a64 := gfMul a32 a32
  let a128 := gfMul a64 a64
  gfMul a128 (gfMul a64 (gfMul a32 (gfMul a16 (gfMul a8 (gfMul a4 a2)))))

/-- A byte turned left by `k` bits. -/
def rotl8 (a k : Nat) : Nat := (a * 2 ^ k) % 256 + a / 2 ^ (8 - k)

/-- The AES S-box. -/
def sbox (a : Nat) : Nat :=
  let b := gfInv a
  b ^^^ rotl8 b 1 ^^^ rotl8 b 2 ^^^ rotl8 b 3 ^^^ rotl8 b 4 ^^^ 0x63

/-- Exclusive OR of two lists. -/
def xorL (a b : List Nat) : List Nat := List.zipWith (· ^^^ ·) a b

/-- The next round key, of 16 bytes. -/
def nextKey (k : List Nat) (rc : Nat) : List Nat :=
  let w (i : Nat) : List Nat := (k.drop (4 * i)).take 4
  let t := (w 3)
  let r := [sbox (t.getD 1 0) ^^^ rc, sbox (t.getD 2 0), sbox (t.getD 3 0), sbox (t.getD 0 0)]
  let w0 := xorL (w 0) r
  let w1 := xorL (w 1) w0
  let w2 := xorL (w 2) w1
  w0 ++ w1 ++ w2 ++ xorL (w 3) w2

/-- ShiftRows on a state in column order. -/
def shiftRows (b : List Nat) : List Nat := (List.range 16).map fun i => b.getD ((i + 4 * (i % 4)) % 16) 0

/-- MixColumns of one column. -/
def mixCol (a b c d : Nat) : List Nat :=
  [gfX a ^^^ gfX b ^^^ b ^^^ c ^^^ d, a ^^^ gfX b ^^^ gfX c ^^^ c ^^^ d, a ^^^ b ^^^ gfX c ^^^ gfX d ^^^ d, gfX a ^^^ a ^^^ b ^^^ c ^^^ gfX d]

def mixCols (b : List Nat) : List Nat :=
  ((List.range 4).map fun i => mixCol (b.getD (4 * i) 0) (b.getD (4 * i + 1) 0) (b.getD (4 * i + 2) 0) (b.getD (4 * i + 3) 0)).flatten

/-- Rounds 1 to 9, with their constants, and round 10. -/
def aesRounds : List Nat → List Nat → List Nat → List Nat
  | [], b, _ => b
  | [rc], b, k => xorL (shiftRows (b.map sbox)) (nextKey k rc)
  | rc :: r, b, k =>
    let k1 := nextKey k rc
    aesRounds r (xorL (mixCols (shiftRows (b.map sbox))) k1) k1

/-- AES-128 of one block. -/
def aes (key b : List Nat) : List Nat := aesRounds [1, 2, 4, 8, 16, 32, 64, 128, 0x1B, 0x36] (xorL b key) key

/-- Doubling in GF(2^128), most significant byte first. -/
def dbl (l : List Nat) : List Nat :=
  let n := l.foldl (fun a x => a * 256 + x) 0
  let m := if n ≥ 2 ^ 127 then (2 * n % 2 ^ 128) ^^^ 0x87 else 2 * n
  (List.range 16).map fun i => m / 256 ^ (15 - i) % 256

/-- The CBC chain over `n` whole blocks. -/
def cbc (key : List Nat) : Nat → List Nat → List Nat → List Nat
  | 0, _, c => c
  | n + 1, m, c => cbc key n (m.drop 16) (aes key (xorL c (m.take 16)))

/-- AES-128-CMAC. -/
def cmac (key msg : List Byte) : List Byte :=
  let k := key.map (·.toNat)
  let m := msg.map (·.toNat)
  let k1 := dbl (aes k (List.replicate 16 0))
  let n := if m.isEmpty then 1 else (m.length + 15) / 16
  let last := m.drop (16 * (n - 1))
  let x := if last.length = 16 then xorL last k1 else xorL (last ++ [0x80] ++ List.replicate (15 - last.length) 0) (dbl k1)
  (aes k (xorL (cbc k (n - 1) m (List.replicate 16 0)) x)).map fun b => BitVec.ofNat 8 b

end Sys2Proof.Machine
end

