-- ==== Sys2Proof/Machine/State.lean ====
section
/-! DEFINITION. The state of the block: every register, queue, table, counter, mode and pin the spec gives it, as
plain data. A field's default is its reset value; INVENTORY.md names the rule and the log entry of each. -/

namespace Sys2Proof.Machine

/-! ### Committed settings (16 R377: what the configuration shadow copies, 15 R369: what CONFIG_SAVE stores) -/

/-- Settings of one candidate (02 R36, R38; 13 R310). `grade` is the host's grade on 0-5 and the floor on 6-7. -/
structure RefCfg where
  mode : Nat := 3
  term : Bool := false
  falling : Bool := false
  nomNum : Nat := 1
  nomDen : Nat := 1
  div : Nat := 1
  deglitch : Nat := 0
  en : BitVec 4 := 15
  dq : BitVec 4 := 15
  pjThr : Fs := 10000000
  runtMin : Fs := 0
  fastThr : Fu := 50000000000
  precThr : Fu := 10000000000
  qualT : Nat := 100
  prio : Nat := 15
  grade : Nat := 15
  deriving DecidableEq, Repr

/-- Loop and model settings (04 R91; encodings of 13 R312: bandwidths in 0.1 mHz, times in 0.1 s). -/
structure LoopCfg where
  auto : Bool := true
  damp : Nat := 1
  tsrc : Nat := 0
  learnGrade : Nat := 6
  bw : Nat := 10000
  acqBw : Nat := 1000000
  trackBw : Nat := 10000
  lockThr : Fs := 100000
  freqRate : Fu := 500000000
  sigmaNoModel : Fu := 50000000
  ntcRes : Nat := 10000
  ntcBeta : Nat := 3435
  lockT : Nat := 10
  thermLag : Nat := 1200
  tempHorizon : Nat := 90
  modelSave : Nat := 1
  uncRef : Fs := 0
  uncAlarm : Fs := 1000000000
  deriving DecidableEq, Repr

/-- Stile settings (05 R105). -/
structure StileCfg where
  slew : Fu := 1000000000
  keep : Bool := false
  deriving DecidableEq, Repr

/-- Settings of one output (06 R134, R137, R143; 07 R154). -/
structure OutCfg where
  config : BitVec 32 := 0x2000
  div : Nat := 1
  period : Nat := 2
  width : Nat := 1
  delay : Fs := 0
  alignCount : Nat := 0
  alignOffset : Fs := 250000000000
  deriving DecidableEq, Repr

/-- One paddock (06 R131). -/
structure PaddockCfg where
  prediv : Nat := 60
  vddo : Nat := 2
  deriving DecidableEq, Repr

/-- Time settings (07 R168). -/
structure TimeCfg where
  src : Nat := 4
  pps : Nat := 0
  taiUtc : Nat := 0
  accept : Bool := false
  baud : Nat := 9600
  gatherMask : BitVec 16 := 0
  deriving DecidableEq, Repr

/-- Shaft-table settings (08 R181). -/
structure SsctCfg where
  mode : Nat := 0
  ref5 : Bool := false
  shift : Nat := 8
  deriving DecidableEq, Repr

/-- Front-end settings (09 R197). -/
structure RfCfg where
  chan : Nat := 0
  rate : Nat := 0
  loSide : Nat := 0
  fixedGain : Bool := false
  gain : Nat := 5
  diversity : Bool := false
  power : Int := -10
  ramp : Nat := 2
  fixedTuner : Bool := false
  tuneA : Nat := 16
  tuneB : Nat := 16
  rlThr : Nat := 6
  sfd : Nat := 0
  whiten : Nat := 1
  fcs2 : Nat := 1
  deriving DecidableEq, Repr

/-- A channel-table entry (09 R201). -/
structure Chan where
  freq : Nat := 0
  calValid : Bool := false
  band : BitVec 6 := 0
  amp : BitVec 4 := 0
  calTemp : Int := 0
  tuneA : BitVec 5 := 0
  tuneB : BitVec 5 := 0
  deriving DecidableEq, Repr

/-- Commons settings (10 R223). -/
structure ComCfg where
  role : Nat := 0
  beaconChan : Nat := 0
  period : Nat := 2
  hopAdd : Nat := 1
  holdGrade : Nat := 10
  ccaThr : Int := -85
  maxCca : Nat := 4
  netId : Nat := 1
  delayInterval : Nat := 64
  beaconFold : Nat := 0
  reqWindow : Nat := 2000
  devId : Nat := 1
  delayFixed : Fs := 0
  mgmtEn : Bool := false
  mgmtPeer : Nat := 1
  deriving DecidableEq, Repr

/-- Drove settings (11 R245). -/
structure DrvCfg where
  en : Bool := false
  ring : Bool := false
  prio : Nat := 255
  hopAdd : Nat := 1
  holdGrade : Nat := 10
  cmdEn : BitVec 2 := 0
  id : Nat := 1
  deriving DecidableEq, Repr

/-- Fields of one pin (17 R389). -/
structure PinCfg where
  func : Nat := 0
  sub : BitVec 8 := 0
  pull : Nat := 2
  sleep : Nat := 2
  deriving DecidableEq, Repr

/-- ENABLE and CLASS of one event source (14 R334): 0 NONE, 1 NORMAL, 2 URGENT. -/
structure EvCfg where
  enable : Bool := true
  cls : Nat := 1
  deriving DecidableEq, Repr

/-- True of a reserved event ID (14 R328, R329). -/
def evReserved (id : Nat) : Bool :=
  (0x08C ≤ id && id ≤ 0x097) || (0x09D ≤ id && id ≤ 0x0A7) || (0x0B5 ≤ id && id ≤ 0x0CF) ||
  (0x0DB ≤ id && id ≤ 0x0E7) || (0x0F4 ≤ id && id ≤ 0x0F7) || id = 0x117 || 288 ≤ id

/-- Reset class of a source (14 R335). -/
def evResetClass (id : Nat) : Nat :=
  if evReserved id then 0
  else if id < 0x40 then (if id % 8 = 0 then 2 else 1)
  else if id < 0x80 then (if id % 4 = 0 then 2 else 1)
  else if id = 0x084 || id = 0x088 || id = 0x118 || id = 0x11B || id = 0x11E then 2
  else if id = 0x089 || id = 0x08A || id = 0x0AB || id = 0x0D7 || id = 0x115 then 0
  else 1

/-- Every committed setting. -/
structure Settings where
  refs : Vec RefCfg 8 :=
    ⟨[{}, {}, {}, {}, { runtMin := 100000000 }, { runtMin := 100000000 },
      { grade := 0, nomNum := 31250000 }, { grade := 0 }], rfl⟩
  lp : LoopCfg := {}
  stile : StileCfg := {}
  outs : Vec OutCfg 16 := .replicate 16 {}
  fvco : Nat := 6000000000
  pads : Vec PaddockCfg 4 := ⟨[{ prediv := 4 }, {}, {}, {}], rfl⟩
  monFtol : Fu := 10000000000
  tod : TimeCfg := {}
  ssct : SsctCfg := {}
  rf : RfCfg := {}
  chans : Vec Chan 64 := .replicate 64 {}
  com : ComCfg := {}
  drv : DrvCfg := {}
  pins : Vec PinCfg 24 := .replicate 24 {}
  owners : Vec Pen 96 := .replicate 96 0
  ev : Vec EvCfg 288 := .ofFn 288 fun i => { enable := !evReserved i, cls := evResetClass i }
  autostart : Bool := false
  deriving DecidableEq, Repr

/-! ### Time -/

/-- Fold counters, device seconds and the sequencer (01 R15, R17, R20; 07 R167). `slot` is the number of the first slot of the fold in hand that has
not begun; `cut` the slots whose task the end of its slot suspended with its context. -/
structure Clock where
  absFold : BitVec 64 := 0
  inSec : Nat := 0
  seconds : BitVec 48 := 0
  now : Nat := 0
  secIdx : Nat := 0
  slot : Nat := 0
  cut : List Nat := []
  deriving DecidableEq, Repr

/-! ### References -/

/-- What the monitors gather of one candidate in one fold (02 R31's snapshot): the first and last divided edges and their count, the runts or
code errors and the narrowest runt, the pulses that the deglitch filter removed, the trips of the hardware and of ended gates (bit 0 LOS, 2 PREC, 3 PJ),
activity. -/
structure Meas where
  first : Option Nat := none
  last : Option Nat := none
  edges : Nat := 0
  runts : Nat := 0
  narrowest : Option Nat := none
  removed : Nat := 0
  trips : BitVec 6 := 0
  activity : Bool := false
  deriving DecidableEq, Repr

/-- The open gate of a precise monitor (02 R43): where it began, its length in device seconds, the first and the last event in it with their phase
samples, the divided periods between them, and the sum of the words in force up to its beginning. -/
structure Gate where
  start : Nat
  seconds : Nat
  first : Option (Nat × Fs) := none
  last : Option (Nat × Fs) := none
  periods : Nat := 0
  words : Int := 0
  deriving DecidableEq, Repr

/-- A precise gate that has ended: where it began and the offset that it measured, none without two events (02 R43). -/
structure GateEnd where
  start : Nat
  offset : Option Fu
  deriving DecidableEq, Repr

/-- Running state of one candidate (02). Instants are femtoseconds since fold 0; `configDq` a CONFIG disqualification that the next reference-monitor
slot raises, `configNext` one that the next boundary commits (10 R236, 11 R259); `late` what arrived in the crossing's latency before the boundary, with
the activity before it in `wasActive` (01 R31); `inGlitch` that the last edge of the raw input was removed (02 R37). -/
structure Cand where
  active : Bool := false
  late : Meas := {}
  wasActive : Option Bool := none
  inGlitch : Bool := false
  gate : Option Gate := none
  gateEnd : Option GateEnd := none
  lastEdge : Option Nat := none
  divCount : Nat := 0
  deglitched : BitVec 32 := 0
  meas : Meas := {}
  latched : Meas := {}
  accepted : Option (Nat × Fs) := none
  rate : Option (Fs × Nat) := none
  sample : Option (Nat × Fs) := none
  newSample : Bool := false
  timer : Nat := 0
  timing : Bool := false
  timerFrom : Nat := 0
  precClean : Bool := false
  qualified : Bool := false
  dqCause : BitVec 6 := 0x20
  configDq : Bool := false
  configNext : Bool := false
  precOffset : Fu := 0
  fastDir : Int := 0
  precDir : Int := 0
  advGrade : Nat := 15
  advNew : Option Nat := none
  advUnc : Fs := 0
  killed : Bool := false
  deriving DecidableEq, Repr

/-- One pen's interval measurement (02 R58, R59). -/
structure TdcSlot where
  start : Nat := 0
  stop : Nat := 0
  armed : Bool := false
  done : Bool := false
  subres : Bool := false
  timeout : Bool := false
  armFold : Nat := 0
  tStart : Option Nat := none
  tStop : Option Nat := none
  result : Fs := 0
  deriving DecidableEq, Repr

/-- Selector states (03 R66). -/
inductive SelState where
  | none
  | auto
  | forced
  | forcedInvalid
  deriving DecidableEq, Repr

/-- The result of one selector pass (03 R63, R477). -/
structure PassResult where
  bell : Option Nat
  state : SelState
  force : Option Nat
  shadow : Option Nat
  cause : Nat
  deriving DecidableEq, Repr

/-- The selector (03 R72). -/
structure Selector where
  bell : Option Nat := none
  state : SelState := .none
  usedForce : Option Nat := none
  force : Option Nat := none
  shadow : Option Nat := none
  lastCause : Nat := 0
  switches : BitVec 32 := 0
  staged : Option PassResult := none
  deriving DecidableEq, Repr

/-! ### Loops -/

/-- DPLL states (04 R80, R104). -/
inductive DpllState where
  | freerun
  | acquire
  | locked
  | holdover
  deriving DecidableEq, Repr

/-- A staged DCO word (04 R76): its saturated total, the parts of its three terms that it carries, and the tally entry that its payout pays. -/
structure Dco where
  total : Fu
  loop : Fu
  payout : Fu
  ssct : Fu
  paySeq : Option (BitVec 32)
  deriving DecidableEq, Repr

/-- Tally sources (05 R107). -/
inductive TallySrc where
  | step
  | switch
  | gather
  | ssct
  | holdoverExit
  deriving DecidableEq, Repr

/-- TSENSE verdicts (04 R92). -/
inductive TsFault where
  | none
  | openFault
  | short
  deriving DecidableEq, Repr

/-- The DPLL, the APLL flags, temperature and uncertainty (04). Temperatures are in 0.01 °C, `teff` in 10^-12 °C;
the stage bandwidth is `stageBw / 2 ^ stageK` in 0.1 mHz. -/
structure LoopSt where
  state : DpllState := .freerun
  nextState : Option DpllState := none
  frozen : Bool := false
  dcoLoop : Fu := 0
  dcoPay : Fu := 0
  dcoSsct : Fu := 0
  dcoSeq : Option (BitVec 32) := none
  held : Bool := false
  everLocked : Bool := false
  aplLock : Bool := false
  apllUnlock : Bool := false
  loop : Fu := 0
  ssctTerm : Fu := 0
  staged : Option Dco := none
  dco : Fu := 0
  /-- The word in force in the fold that has ended, whose measurements the candidates' snapshots hold. -/
  dcoWas : Fu := 0
  /-- The sum, over all folds so far, of the word in force (02 R41, R43). -/
  wordSum : Int := 0
  /-- That sum as the present device second began, and the mean word of the second before (06 R152). -/
  wordMark : Int := 0
  meanWord : Fu := 0
  /-- The instant by which the APLL is to have locked (04 R79). -/
  lockBy : Option Nat := some 20000000000000
  /-- The fold whose boundary was the first to find the APLL locked (18 R419). -/
  lockFold : Option Nat := none
  /-- The state and HELD that the last boundary left (04 R83). -/
  told : DpllState × Bool := (.freerun, false)
  /-- A new ACQ_BW, TRACK_BW or BW_MODE was committed at the boundary in hand (04 R80, R87). -/
  bwNew : Bool := false
  carry : Fu := 0
  integ : Fu := 0
  /-- What the integrator holds below one f-unit, in units of 2^-40 (04 R84). -/
  integR : Nat := 0
  lastSteer : Option Nat := none
  unmeasured : Option (TallySrc × BitVec 64) := none
  steerFrom : Nat := 0
  holdCmd : Option Bool := none
  /-- The crook lane has asked for a hold in this fold (04 R82). -/
  crookHold : Bool := false
  /-- The APLL's VCO band (16 R384). -/
  vcoBand : Nat := 0
  /-- APLL_LOCK and MODEL_VALID as the last boundary committed them (17 R399). -/
  shown : Bool × Bool := (false, false)
  stageBw : Nat := 10000
  stageK : Nat := 0
  stageLeft : Nat := 0
  cleanFolds : Nat := 0
  outside : Nat := 0
  lockedFolds : Nat := 0
  bwLimit : Option Nat := none
  err : Option Fs := none
  onDie : Int := 2500
  tsense : Option Int := none
  tsLast : Option Int := none
  tsFault : TsFault := .none
  tsOffset : Option (Int × Nat) := none
  tempValid : Bool := false
  tfallback : Bool := false
  teff : Int := 25000000000000
  teffSet : Bool := false
  extrap : Bool := false
  lockedLoops : List Fu := []
  heldLoop : Fu := 0
  errWindow : List (Nat × Fs) := []
  unc : Fs := 9223372036854775807
  uncRaised : Bool := false
  uncFrac : Int := 0
  episode : Nat := 0
  /-- The folds of the episode that U has grown by (04 R100). -/
  grown : Nat := 0
  /-- The stile owes the ended episode's record its amount (04 R102). -/
  amountDue : Bool := false
  lastEpisode : Nat × Fs × Fs := (0, 0, 0)
  deriving DecidableEq, Repr

/-- The oscillator model and its learning (04 R94–R99). `cov` is the upper triangle of the fit's covariance, row by row; `sumLoop`, `sumD`, `obsFolds` and
`spoiled` belong to the second in hand, `closed` holds the sums of the last second, where nothing spoiled it. -/
structure Model where
  f0 : Fu := 0
  c1 : Fu := 0
  c2 : Fu := 0
  c3 : Fu := 0
  aLog : Fu := 0
  aLin : Fu := 0
  oscAge : BitVec 48 := 0
  span : Option (Int × Int) := none
  valid : Bool := false
  nObs : BitVec 32 := 0
  sigmaY : Fu := 0
  sigmaD : Nat := 0
  residuals : List Fu := []
  cov : List (BitVec 64) := List.replicate 21 0
  sumLoop : Int := 0
  sumD : Int := 0
  obsFolds : Nat := 0
  spoiled : Bool := false
  closed : Option (Int × Int) := none
  newOsc : Option Bool := none
  saveIn : Nat := 3600
  deriving DecidableEq, Repr

/-! ### Tally -/

/-- Entry states (05 R112). -/
inductive EStat where
  | pending
  | applying
  | done
  | cancelled
  deriving DecidableEq, Repr

/-- A tally entry (05 R110); `prog` is each named output's own progress (05 R111); `target` and `fixed` are a
GATHER's (07 R161); `movedTo` the instant up to which a fired crook step or an immediate entry has been paid at edges; `blank` as in a reply. -/
structure Entry where
  src : TallySrc
  flock : BitVec 16
  pen : Pen
  cause : Nat := 0
  crook : Bool := false
  delay : Bool := false
  immediate : Bool := false
  status : EStat := .pending
  wake : Bool := false
  slot : Nat
  seq : BitVec 32
  amount : Fs
  applied : Fs := 0
  cancelled : Fs := 0
  created : BitVec 64
  startFold : BitVec 64 := 0
  prog : List (Nat × Fs) := []
  target : Option Nat := none
  fixed : Bool := true
  movedTo : Nat := 0
  blank : List Nat := []
  deriving DecidableEq, Repr

/-- Ledger totals (05 R127). -/
structure Totals where
  entered : BitVec 64 := 0
  applied : BitVec 64 := 0
  cancelled : BitVec 64 := 0
  opened : BitVec 64 := 0
  deriving DecidableEq, Repr

/-- The tally (05). -/
structure Tally where
  entries : List Entry := []
  ring : List Entry := []
  dropped : BitVec 32 := 0
  bySrc : Vec Totals 5 := .replicate 5 {}
  byTarget : Vec Totals 17 := .replicate 17 {}
  nextSeq : BitVec 32 := 1
  steer : Fs := 0
  crookNew : List Entry := []
  deriving DecidableEq, Repr

/-! ### Outputs -/

/-- A queued gate window (06 R139). -/
structure Window where
  fold : BitVec 64
  start : Nat
  stop : Nat
  begun : Bool := false
  deriving DecidableEq, Repr

/-- What a pen reset did to an output (06 R150). -/
inductive PrstAct where
  | none
  | holdLow
  | off
  deriving DecidableEq, Repr

/-- A planned start of a pulse train: from an index edge (07 R156–R158), or for a GATHER entry, with its shift (07 R161). `count` is the
pulses of the new train, none without limit; `crook` the place of its entry among the crook gathers of the fold, which the next boundary numbers (07 R165). -/
structure Plan where
  start : Nat
  target : Nat
  deferred : Bool
  late : Bool := false
  count : Option Nat := none
  seq : Option (BitVec 32) := none
  shift : Fs := 0
  crook : Option Nat := none
  deriving DecidableEq, Repr

/-- Running state of one output (06, 07). Instants are femtoseconds since fold 0; `upTo` is the instant up to which the counters are settled,
`counted` the periods that the open window has emitted, `before` those emitted and swallowed in it before the output or its divider last changed, `ran`
that the output has run in it, `prevEdge` the divider's last edge before its last change, `prevFall` the falling edge of the period that began at it, `shown`
EMITTED and SWALLOWED as they have crossed into SYS by the last boundary (01 R30, R31), `lowAt` the instant at which an output that stopped has gone
low, `oldPulse` the start and the falling edge of the pulse in progress at the last change of settings, `plans` the planned starts in time order, `index`
an index edge to plan, `aligns` the ALIGN_DONE details to raise at the next boundary, each with its crook gather's place, `begun` the gathers whose starts came
before the boundary that fixes their amounts, with their shifts (07 R161). -/
structure Out where
  running : Bool := false
  runFrom : Nat := 0
  upTo : Nat := 0
  gate : Bool := false
  openAt : Nat := 0
  counted : Nat := 0
  before : Nat × Nat := (0, 0)
  ran : Bool := false
  prevEdge : Option Nat := none
  prevFall : Nat := 0
  shown : BitVec 64 × BitVec 64 := (0, 0)
  lowAt : Nat := 0
  oldPulse : Option (Nat × Nat) := none
  windows : List Window := []
  emitted : BitVec 64 := 0
  swallowed : BitVec 64 := 0
  diff : Int := 0
  prst : PrstAct := .none
  quietOff : Bool := false
  carry : Fs := 0
  origin : Option Nat := none
  frame : Option Nat := none
  lastStart : Option Nat := none
  pulsesLeft : Option Nat := none
  index : Option Nat := none
  plans : List Plan := []
  aligns : List (Option Nat × BitVec 32) := []
  begun : List (BitVec 32 × Fs) := []
  grazed : Fs := 0
  deriving DecidableEq, Repr

/-- The release of outputs (18 R419); `stopping` while a soft reset or the entry to SLEEP stops them (18 R415, R424). -/
structure Release where
  ordered : Bool := false
  released : Bool := false
  stopping : Bool := false
  deriving DecidableEq, Repr

/-! ### Time of day -/

/-- A label, as its difference from the device's own count (07 R172–R174): the device second and the instant in which it came, and the difference that the
source reported in the device second before. -/
structure Label where
  diffSec : Int
  diffFold : Int
  at_ : Nat
  time : Nat := 0
  prev : Option Int := none
  rank : Nat := 0
  deriving DecidableEq, Repr

/-- Time of day (07). -/
structure Tod where
  valid : Bool := false
  conflict : Bool := false
  subsec : Bool := false
  jump : Option Int := none
  last : Nat := 1
  uart : Option Label := none
  drove : Option Label := none
  commons : Option Label := none
  compared : Option Nat := none
  raisedSec : Option Int := none
  raisedFold : Option Int := none
  ppsEdges : Option Nat × Option Nat := (none, none)
  deriving DecidableEq, Repr

/-! ### Shaft table -/

/-- Application states (08 R185). -/
inductive Apply where
  | idle
  | fadeIn
  | active
  | fadeOut
  deriving DecidableEq, Repr

/-- A latched revolution in its update pass (08 R189): per-bin mean error (none where w is 0), the overall mean, next bin, and whether it ran in LEARN
throughout. -/
structure Pass where
  ebar : List (Option Int)
  mean : Int
  bin : Nat
  fold : Nat
  learn : Bool
  deriving DecidableEq, Repr

/-- The shaft table (08). `turn` is the state of application that the next boundary enters; `lastIdx` is the last index edge of the present SSCT_SRC; `ang` and `prevAng` are the last two index edges with the P formed at
each, which the angle follows; `net` what was delivered since the last settlement and `sum` all that ever was; `gatherOk` and `learnOk` that no fold of the revolution has failed what R191 and R188 ask. -/
structure Ssct where
  bins : List Fs := List.replicate 256 0
  resid : List Fs := List.replicate 256 0
  apply : Apply := .idle
  turn : Option Apply := none
  scale : Nat := 0
  lastIdx : Option Nat := none
  period : Option Nat := none
  prevPeriod : Option Nat := none
  pauseSpeed : Bool := false
  pauseLoop : Bool := false
  pauseIdx : Bool := false
  ang : Option (Nat × Nat) := none
  prevAng : Option (Nat × Nat) := none
  gatherOk : Bool := false
  learnOk : Bool := false
  missing : Bool := false
  slowNext : Bool := false
  acc : List Int := List.replicate 256 0
  wgt : List Nat := List.replicate 256 0
  pass : Option Pass := none
  net : Fs := 0
  sum : Fs := 0
  settle : Option Fs := none
  learned : BitVec 32 := 0
  skipped : BitVec 32 := 0
  rms : Fs := 0
  meanP : Fs := 0
  shown : Nat := 0x80000
  deriving DecidableEq, Repr

/-! ### Radio -/

/-- Front-end states (13 R316). -/
inductive RfState where
  | off
  | idle
  | rx
  | tx
  | cal
  deriving DecidableEq, Repr

/-- The open diversity window (09 R212): the instant at which it opened, and the RSSI of the valid blocks on each antenna. -/
structure DivWin where
  openAt : Nat
  heard : List Int := []
  other : List Int := []
  deriving DecidableEq, Repr

/-- A capture command in progress (13 R316): `start` is the boundary at which its command begins, none before it. -/
structure Capture where
  pen : Pen
  tag : Byte
  cls : BitVec 2
  iq : Bool
  want : Nat
  got : List Byte
  start : Option Nat := none
  air : Bool := false
  deriving DecidableEq, Repr

/-- A host PSDU on its way to the air (13 R316 RF_TX). -/
structure HostTx where
  pen : Pen
  tag : Byte
  cls : BitVec 2
  psdu : List Byte
  started : Bool := false
  air : Bool := false
  stampSec : Nat := 0
  stampNs : Nat := 0
  deriving DecidableEq, Repr

/-- What goes on the air after the preamble (09 R203): the SFD, the PHR, and the PSDU with its FCS before whitening. -/
structure AirFrame where
  sfd : BitVec 16
  phr : BitVec 16
  octets : List Byte
  deriving DecidableEq, Repr

/-- The front end (09). `act` is the settings in use, `deferred` the requests that wait for the end of a frame, each the settings with the channel that
it asks for, and `hops` the channels still to hop to, in request order (R221); `invalid` is the instant at which the invalid-sample counter reaches 0;
`rxFrom` is the instant at which RX last began, `switched` the last antenna switch and `run` the ends and RSSI of the last six valid blocks (R207); `frozen` that the AGC is, from SFD detection (R209);
`air` the frame on the air, none for a tone, `txFrom` the start of its ramp up, `cut` that it has been abandoned and ramps down; `toneNext` a tone that
waits for the front end; `lastCal` is, for image, filter, synthesiser and DC, the temperature and device second of the last run, `trims` the results of
image (gain, phase), filter (three rates) and DC (I and Q of six gains), 0 until one is kept. -/
structure Radio where
  state : RfState := .idle
  act : RfCfg := {}
  wantRx : Bool := false
  gain : Nat := 5
  shadowGain : Nat := 5
  kept : Bool := false
  tuneA : Nat := 16
  tuneB : Nat := 16
  shadowA : Nat := 16
  shadowB : Nat := 16
  tuneUp : Bool := true
  lastRl : Option Nat := none
  invalid : Nat := 0
  satStands : Bool := false
  cleanBlocks : Nat := 0
  satBlocks : BitVec 32 := 0
  received : BitVec 32 := 0
  dropped : BitVec 32 := 0
  sent : BitVec 32 := 0
  txTime : BitVec 32 := 0
  inFrame : Bool := false
  divShort : Bool := false
  deferred : List (RfCfg × Nat) := []
  hops : List Nat := []
  switched : Nat := 0
  rxFrom : Nat := 0
  run : List (Nat × Int) := []
  frozen : Bool := false
  air : Option AirFrame := none
  txFrom : Nat := 0
  cut : Bool := false
  toneNext : Option Nat := none
  trims : Vec (List Int) 4 := ⟨[List.replicate 2 0, List.replicate 3 0, [], List.replicate 12 0], rfl⟩
  win : Option DivWin := none
  hop : Option Nat := none
  hopCal : Bool := false
  chan : Nat := 0
  lock : Bool := true
  lastCal : Vec (Option (Int × Nat)) 4 := .replicate 4 none
  capture : Option Capture := none
  hostTx : Option HostTx := none
  tone : Nat := 0
  airUs : Nat := 0
  deriving DecidableEq, Repr

/-! ### Commons -/

/-- MAC states (10 R225). -/
inductive MacState where
  | off
  | search
  | track
  | master
  deriving DecidableEq, Repr

/-- What the device knows of a master it has heard (10 R236): `unc` is the U of its newest beacon, in ns. -/
structure Heard where
  id : Nat
  grade : Nat
  better : Nat
  fold : Nat
  unc : Nat := 0
  deriving DecidableEq, Repr

/-- Replay state of one sender (10 R239). -/
structure Replay where
  id : Nat
  seq : Nat
  secs : Option Nat
  deriving DecidableEq, Repr

/-- A frame waiting for the channel (10 R230): its PSDU without tag, which attempt, the fold of the next CCA, and the fold in which it fell due. -/
structure TxFrame where
  kind : Nat
  body : List Byte
  attempt : Nat
  fold : Nat
  seq : Nat
  dst : Nat := 0
  reqSeq : Nat := 0
  t2 : Nat := 0
  due : Nat := 0
  deriving DecidableEq, Repr

/-- A delay request the device has sent (10 R232, R233). -/
structure Request where
  seq : Nat
  t1 : Nat
  master : Nat
  fold : Nat
  deriving DecidableEq, Repr

/-- A response a master owes (10 R232): requester, its SEQ, t2. -/
structure Owed where
  dst : Nat
  reqSeq : Nat
  t2Sec : Nat
  t2Ns : Nat
  dueFold : Nat
  deriving DecidableEq, Repr

/-- The fifteen counters of 10 R241, in its order. -/
structure MacCounters where
  sent : BitVec 32 := 0
  skipped : BitVec 32 := 0
  accepted : BitVec 32 := 0
  missed : BitVec 32 := 0
  ccaFail : BitVec 32 := 0
  stranger : BitVec 32 := 0
  badFrame : BitVec 32 := 0
  forged : BitVec 32 := 0
  replay : BitVec 32 := 0
  overflow : BitVec 32 := 0
  exAccepted : BitVec 32 := 0
  exRejected : BitVec 32 := 0
  reqDropped : BitVec 32 := 0
  mgmtServed : BitVec 32 := 0
  mgmtDropped : BitVec 32 := 0
  deriving DecidableEq, Repr

/-- A received frame on its way to slot 7 (10 R238; 19 R432): with its receive timestamp, the instant of its SFD end in fs since fold 0, and what an
injection has added to both, in fs. -/
structure Inbound where
  frame : RxFrame
  at_ : Int
  extra : Nat := 0
  deriving DecidableEq, Repr

/-- The commons MAC (10). `inbox` holds the frames that have ended since slot 7 last ran, `ccaFold` is the fold of a failed CCA whose backoff slot 7 is to
draw, `lost` that REFC has raised LOS since then (01 R17, R18). -/
structure Commons where
  state : MacState := .off
  key : Option (List Byte) := none
  newKey : Option (List Byte) := none
  tracked : Option Nat := none
  heard : List Heard := []
  seq : BitVec 16 := 0
  dvals : List Fs := []
  offset : Fs := 0
  cnt : MacCounters := {}
  replay : List Replay := []
  queue : List TxFrame := []
  onAir : Option TxFrame := none
  requests : List Request := []
  reqFolds : List Nat := []
  reqPeriod : Option Nat := none
  owed : List Owed := []
  lastGrade : Nat := 15
  expect : Option (Nat × Nat) := none
  heldFrame : Option Inbound := none
  inbox : List Inbound := []
  ccaFold : Option Nat := none
  lost : Bool := false
  rssi : Option Int := none
  deriving DecidableEq, Repr

/-! ### Drove -/

/-- Drove states (11 R251). -/
inductive DrvState where
  | off
  | listen
  | member
  | claim
  | lead
  deriving DecidableEq, Repr

/-- What DRV_OUT± does (11 R245, R249–R251; 19 R438). -/
inductive DrvTx where
  | hiZ
  | forward
  | breakWords
  | own
  | prbs
  | raw
  deriving DecidableEq, Repr

/-- A broadcast command in repetition (11 R261). -/
structure Cast where
  cmd : Nat
  params : List Byte
  left : Nat
  deriving DecidableEq, Repr

/-- A received drove frame that waits for slot 9, or is held back by a reorder (01 R17, 19 R432): its words, whether their codes were right, the capture of
its marker, and whether it comes in its turn. -/
structure DrvRx where
  words : List Sym
  codesOk : Bool
  tc : Nat
  fresh : Bool := true
  deriving DecidableEq, Repr

/-- What slot 9 stages of the frame of the next fold (01 R17, 11 R247): its words 1–24, U in ns, and whether it carries a broadcast command. -/
structure DrvNext where
  fold : Nat
  head : List Byte
  unc : Nat
  cmd : Bool
  deriving DecidableEq, Repr

/-- A broadcast command that the lead applies to itself at the boundary of `fold` (11 R261). -/
structure SelfCmd where
  fold : Nat
  cmd : Nat
  seq : Nat
  params : List Byte
  deriving DecidableEq, Repr

/-- The drove link (11). `echo` is in fs, `acc` in ps; `inbox` holds the received frames that wait for slot 9; `next` is the frame staged for the next fold,
`sent` the first and the last fold of the present run of own frames; `frame` the own and `forwarded` the forwarded frame last sent, `sentAt` the instant at
which its marker left, `after` the words sent in the idle after it; `markIn` the instant of the last marker at DRV_IN±, `inWords` what the device last sent
there (R254); `retHop` and `trip` the HOP of the own frame that last returned, and the round trip of one of fold 0; `since` the instant of the last change
of state. -/
structure Drove where
  state : DrvState := .off
  since : Nat := 0
  tx : DrvTx := .hiZ
  lock : Bool := false
  ringBroken : Bool := false
  hop : Nat := 0
  grade : Nat := 15
  leadId : Nat := 0
  leadSeen : Bool := false
  acc : Nat := 0
  foldOfs : Int := 0
  echo : List Nat := []
  accepted : BitVec 32 := 0
  crcErrors : BitVec 32 := 0
  codeErrors : BitVec 32 := 0
  echoOk : BitVec 32 := 0
  echoBad : BitVec 32 := 0
  cmdSeq : BitVec 8 := 0
  cast : Option Cast := none
  lastCmd : Option (BitVec 8) := none
  quiet : Nat := 0
  returned : Nat := 0
  sinceReturn : Nat := 0
  gotFrame : Bool := false
  gotOwn : Bool := false
  sent : Option (Nat × Nat) := none
  yield : Bool := false
  freezes : List Nat := []
  selfCmd : Option SelfCmd := none
  gathers : List (BitVec 16 × Nat × Fs) := []
  crcRaised : Bool := false
  lastGrade : Nat := 15
  frame : List Sym := []
  forwarded : List Sym := []
  sentAt : Nat := 0
  after : List Sym := []
  inbox : List DrvRx := []
  next : Option DrvNext := none
  markIn : Nat := 0
  inWords : List Sym := []
  heldFrame : Option DrvRx := none
  retHop : Nat := 0
  trip : Option Int := none
  floor : Option Nat := none
  deriving DecidableEq, Repr

/-! ### Host interface -/

/-- A packet in its pen's queue (12 R278). -/
structure Packet where
  opcode : BitVec 16
  call : Call
  air : Bool := false
  order : Nat := 0
  waits : Bool := false
  deriving DecidableEq, Repr

/-- Data of a reply: bytes known already, or what the opcode reads when the reply is posted (13 R302, R305). -/
inductive Body where
  | bytes (l : List Byte)
  | read (opcode : BitVec 16) (params : List Byte)
  deriving DecidableEq, Repr

/-- A reply (12 R279); `blank` are the 8-byte words of it that scrub has rewritten as zero (16 R380). -/
structure Reply where
  pen : Pen
  cls : BitVec 2
  tag : Byte
  status : BitVec 16
  opcode : BitVec 16
  data : List Byte
  air : Bool := false
  blank : List Nat := []
  deriving DecidableEq, Repr

/-- What an interpreted command leaves for the boundary (01 R21, 12 R283): its reply, and whether its change is committed; `mark` is a
place in a queue that a paged read was taken at. -/
structure Staged where
  opcode : BitVec 16
  call : Call
  status : BitVec 16
  body : Body
  commit : Bool
  air : Bool := false
  mark : Nat := 0
  deriving DecidableEq, Repr

/-- Per-pen figures (12 R275, R286). -/
structure PenIo where
  free : Nat := 8
  queue : List Packet := []
  replies : List Reply := []
  accepted : BitVec 32 := 0
  read : BitVec 32 := 0
  abandoned : BitVec 32 := 0
  noCredit : BitVec 32 := 0
  resets : BitVec 32 := 0
  pinStep : Option (BitVec 32) := none
  deriving DecidableEq, Repr

/-- The host interface (12). `out` is what the device last drove onto a bus, `nack` whether it NACKed the last I2C transaction to it (R268; 18 R418). -/
structure HostIo where
  pens : Vec PenIo 4 := .replicate 4 {}
  reject : Option Reply := none
  rejectLost : BitVec 32 := 0
  badInstr : BitVec 32 := 0
  staged : List Staged := []
  order : Nat := 0
  robin : Nat := 0
  begun : Option Staged := none
  summary : BitVec 32 := 0x00000F00
  irqEvent : BitVec 4 := 0
  out : List Byte := []
  nack : Bool := false
  straps : BitVec 2 := 0
  patchLoaded : Option (BitVec 32) := none
  deriving DecidableEq, Repr

/-- Pen states (12 R291). -/
inductive PenState where
  | active
  | resetting
  | disabled
  deriving DecidableEq, Repr

/-- One pen's state (12 R291); `since` is the fold at whose boundary its reset was committed, `pinReset` counts the edges that ask for a reset at the next boundary,
`pinLate` those whose crossing ends past it (01 R29; 12 R292; 17 R397). -/
structure PenSt where
  state : PenState := .active
  toDisabled : Bool := false
  abandoned : Nat := 0
  pinReset : Nat := 0
  pinLate : Nat := 0
  since : BitVec 64 := 0
  deriving DecidableEq, Repr

/-! ### Events -/

/-- One event source (14 R330–R335), but for its settings. -/
structure Source where
  live : Bool := false
  sticky : Bool := false
  count : BitVec 32 := 0
  notify : BitVec 4 := 1
  raised : Bool := false
  deriving DecidableEq, Repr

/-- One occurrence, and one queue entry (14 R336); `blank` as in a reply. -/
structure Occ where
  id : Nat
  fold : BitVec 64
  ns : Nat
  detail : BitVec 32
  blank : List Nat := []
  deriving DecidableEq, Repr

/-- Events (14); `late` holds what other domains raised too late to have crossed into SYS by the boundary (01 R31). -/
structure Events where
  srcs : Vec Source 288 := .ofFn 288 fun i => { notify := if evReserved i then 0 else 1 }
  late : List Occ := []
  occs : List Occ := []
  queue : List Occ := []
  dropped : Nat := 0
  taken : Nat := 0
  deriving DecidableEq, Repr

/-- One pen's crook loads and status (12 R277, 14 R348). -/
structure CrookPen where
  step : Option (BitVec 32) := none
  gather : Option (BitVec 16 × Fs) := none
  refused : Bool := false
  last : Nat := 0
  busyTo : Nat := 0
  deriving DecidableEq, Repr

/-! ### Store -/

/-- A record asked for: its TYPE, its payload, and where in it a generation number goes (15 R352, R356). -/
structure RecReq where
  type : Nat
  payload : List Byte
  genAt : Option Nat := none
  deriving DecidableEq, Repr

/-- Who waits for a job (12 R284). `credit`: its ACCEPTED has not been posted, so its credit is still OUTSTANDING; `stop`: a pen reset stops it at
its atomic end (12 R294); `reply`: that end posts its reply. -/
structure JobOwner where
  pen : Pen
  tag : Byte
  cls : BitVec 2
  opcode : BitVec 16
  params : List Byte := []
  air : Bool := false
  credit : Bool := true
  stop : Bool := false
  reply : Bool := false
  deriving DecidableEq, Repr

/-- What a store job does. -/
inductive JobKind where
  | records (recs : List RecReq)
  | pageWrite (page off : Nat) (data : List Byte)
  | pageErase (page : Nat)
  | compaction (refresh : Bool)
  | bankErase (bank : Nat)
  | format
  deriving DecidableEq, Repr

/-- A store job (15 R357): `begun` once the engine has it in hand; `snap` is what a CONFIG_SAVE saves. -/
structure StoreJob where
  owner : Option JobOwner := none
  kind : JobKind
  begun : Bool := false
  snap : Option Settings := none
  deriving DecidableEq, Repr

/-- Words being programmed one after another from a word address (bank A 0–767, bank B 768–1535, user pages from 1536): word `idx` is next or in
flight; `kind` is that of STORE_VERIFY_FAIL (0 record, 1 compaction, 3 user page), 4 for the header of a fresh bank; `fault` is the injection armed for it (19 R436). -/
structure Writing where
  base : Nat
  words : List (List Byte)
  kind : Nat
  type : Nat
  idx : Nat := 0
  issued : Bool := false
  done : Bool := false
  fault : Option (Nat × Nat) := none
  deriving DecidableEq, Repr

/-- What the engine has in hand: words, or the erase of a user page or a bank. -/
inductive Phase where
  | idle
  | writing (w : Writing)
  | erasing (page : Bool) (n : Nat) (ended : Bool)
  deriving DecidableEq, Repr

/-- Steps of a compaction (15 R359); `copy` holds the words of the records still to copy, `undo` the erase after a failure (15 R361). -/
inductive CompStep where
  | intent
  | eraseTarget
  | copy (left : List (Nat × List (List Byte)))
  | header
  | switch
  | eraseSource
  | undo
  deriving DecidableEq, Repr

/-- Lifetime counters (15 R364). -/
structure LifeCounters where
  opSeconds : BitVec 48 := 0
  holdSeconds : BitVec 48 := 0
  switches : BitVec 32 := 0
  boots : BitVec 32 := 1
  saves : BitVec 32 := 0
  lost : BitVec 32 := 0
  deriving DecidableEq, Repr

/-- Wear of one user page (15 R356, R373). -/
structure Wear where
  erases : BitVec 32 := 0
  raw : BitVec 32 := 0
  deriving DecidableEq, Repr

/-- What the store reads at an address that no cell lists: erased flash (15, "Erased flash reads 0xFF"). -/
def flashErased : Byte := 0xFF

/-- The store (15). `flash` lists the bytes that differ from 0xFF; `append` is the next word of the active bank; `jobs` the engine's queue, the job in
hand first; `compAt` the words copied; `settling` the jobs that end at the next boundary, `ended` those whose CMD_DONE is due; `saving` the words of a
hot-set image being written; `wearWritten` the wear that the WEAR records hold. -/
structure Store where
  flash : List Host.Cell := []
  bankB : Bool := false
  append : Nat := 2
  maxSeq : BitVec 32 := 0
  bankErases : Nat × Nat := (1, 1)
  jobs : List StoreJob := []
  phase : Phase := .idle
  seqNow : Option (BitVec 32) := none
  gen : Option (BitVec 32) := none
  again : Bool := false
  restoring : Bool := false
  buffer : List Byte := []
  comp : Option CompStep := none
  compAt : Nat := 0
  compFailed : Bool := false
  failing : Bool := false
  journals : Nat := 0
  settling : List (JobOwner × BitVec 16) := []
  ended : List (JobOwner × BitVec 16) := []
  halted : Bool := false
  inject : Option (Nat × Nat) := none
  lostInterval : Bool := false
  life : LifeCounters := {}
  wear : Vec Wear 32 := .replicate 32 {}
  wearWritten : Vec Wear 32 := .replicate 32 {}
  patchNext : Option (Nat × Nat) := none
  patchGen : BitVec 32 := 0
  armed : Bool := true
  saving : Option (List (List Byte)) := none
  hourIn : Nat := 3600
  ageCheck : Bool := false
  retryDue : Bool := false
  timeSeen : Bool := false
  gens : List (BitVec 32 × Settings) := []
  deriving DecidableEq, Repr

/-! ### Background, pins, power, test -/

/-- A calibration job (16 R385): what it still runs, the first in hand (0 image, 1 filter, 2 synthesiser for CHAN, 3 DC, 16 + n synthesiser for entry
n), the steps left of it; `started` while that calibration runs, `entry` the channel entry it runs for, `begun` once any of the job has. -/
structure CalJob where
  owner : Option JobOwner := none
  which : List Nat
  left : Nat := 0
  entry : Nat := 0
  started : Bool := false
  begun : Bool := false
  deriving DecidableEq, Repr

/-- What the telemetry second has gathered (16 R386): sums and counts of the eleven analog quantities in turn (on-die, TSENSE, VDD18, VDDA18, VDDRF,
VDDIO, VDDO0–VDDO3, tuning-voltage margin), the DCO words, the squared errors, and the counters as the second began. -/
structure TelemAcc where
  sums : List Int := List.replicate 11 0
  counts : List Nat := List.replicate 11 0
  turn : Nat := 0
  dcoSum : Int := 0
  dcoN : Nat := 0
  errSq : Nat := 0
  errN : Nat := 0
  beacons : BitVec 32 := 0
  cca : BitVec 32 := 0
  rxDrop : BitVec 32 := 0
  txTime : BitVec 32 := 0
  scrub : BitVec 32 := 0
  vtuneLow : Bool := false
  tdcFail : Bool := false
  radioCal : Bool := false
  deriving DecidableEq, Repr

/-- A calibration that has finished and goes live at the next boundary (01 R24; 09 R219): its kind, its entry, whether it lies in its limits, and its result. -/
structure CalDone where
  kind : Nat
  entry : Nat
  ok : Bool
  cal : SynthCal
  trim : List Int
  deriving DecidableEq, Repr

/-- Background work (16). `flips` are the SRAM bits that soft errors have turned, as word and bit, `shadowForce` is the shadow of the committed force,
`restore` holds the shadowed settings to restore; `tdcMeas` the steps of the TDC recalibration in hand, `tdcScale` the scale of each channel; `ringBase` the entries dropped before the oldest, `readMark` one past the newest
entry read, `closing` the entry that the next telemetry slot appends. -/
structure Background where
  flips : List (Nat × Nat) := []
  shadowForce : Option Nat := none
  restore : List Nat := []
  calDone : List CalDone := []
  calQueue : List CalJob := [{ which := [0] }, { which := [1] }, { which := [3] }]
  tdcMeas : List Nat := []
  tdcScale : Vec Nat 8 := .replicate 8 0
  ring : List (List Byte) := []
  ringBase : Nat := 0
  lost : BitVec 32 := 0
  readMark : Nat := 0
  acc : TelemAcc := {}
  closing : Option (List Byte) := none
  deriving DecidableEq, Repr

/-- Running state of one pin (17). `stamped` edges of fold `stampFold` have a time (R395). -/
structure PinSt where
  latch : Bool := false
  pad : Bool := false
  locked : Bool := false
  edges : BitVec 32 := 0
  stamps : List (Bool × Nat) := []
  beyond : List Bool := []
  stamped : Nat := 0
  stampFold : BitVec 64 := 0
  hold : Option Bool := none
  deriving DecidableEq, Repr

/-- Power states (18 R422). -/
inductive PowerState where
  | run
  | quiet
  | sleep
  deriving DecidableEq, Repr

/-- Power, reset and start-up (18). `held` in reset; `opened` once the snapshot is committed; `booting` until the boundary that raises BOOT, `bootIn` boundaries away; `suspended`
by NPFAIL or a wake, until the boundary at which `resume` stands; `idle` once a hot-set save has ended with NPFAIL low (01 R32); `relock` while the dividers wait for the APLL after a wake; `sleepEntry` from the commit of SLEEP at `sleepFrom` until retention (18 R424); `pinsAsleep` from then until the schedule resumes (17 R405); `wdMissed` boundaries in a
row that did not feed the watchdog. -/
structure Power where
  state : PowerState := .run
  from_ : PowerState := .run
  held : Bool := false
  opened : Bool := true
  booting : Bool := true
  bootIn : Nat := 0
  bootEvents : List (Nat × Nat) := []
  cause : Nat := 0
  softReset : Option Nat := none
  npfail : Bool := false
  suspended : Bool := false
  resume : Bool := false
  idle : Bool := false
  pinWait : Bool := false
  wdMissed : Nat := 0
  slotDone : Bool := false
  sleepEntry : Bool := false
  sleepFrom : Nat := 0
  relock : Bool := false
  pinsAsleep : Bool := false
  deriving DecidableEq, Repr

/-- A frame injection (19 R431, R432). -/
structure Injection where
  kind : Nat := 0
  every : Nat := 0
  delay : Nat := 0
  seen : Nat := 0
  drop : BitVec 32 := 0
  corrupt : BitVec 32 := 0
  reorder : BitVec 32 := 0
  delayed : BitVec 32 := 0
  deriving DecidableEq, Repr

/-- TAP controller states (19 R441, IEEE 1149.1). -/
inductive TapState where
  | reset
  | idle
  | selDr
  | capDr
  | shDr
  | ex1Dr
  | paDr
  | ex2Dr
  | upDr
  | selIr
  | capIr
  | shIr
  | ex1Ir
  | paIr
  | ex2Ir
  | upIr
  deriving DecidableEq, Repr

/-- The test features (19). -/
structure Test where
  drove : Injection := {}
  commons : Injection := {}
  overrun : List (Nat × Nat) := []
  drvTest : Nat := 0
  prbsErrors : BitVec 32 := 0
  prbsBits : BitVec 64 := 0
  prbsLock : Bool := false
  tap : TapState := .reset
  ir : Nat := 1
  irShift : List Bool := []
  drShift : List Bool := []
  cells : List Bool := []
  tdo : Bool := false
  deriving DecidableEq, Repr

/-- The copies that the boundary's snapshot latches for BULK reads (13 R305). -/
structure Snap where
  tally : Tally := {}
  host : HostIo := {}
  pens : Vec PenSt 4 := .replicate 4 {}
  ev : Events := {}
  evCfg : Vec EvCfg 288 := ({} : Settings).ev
  ssct : Ssct := {}
  bg : Background := {}
  wear : Vec Wear 32 := .replicate 32 {}
  flash : List Host.Cell := []
  deriving DecidableEq, Repr

/-! ### The whole -/

structure State where
  /-- Commands waiting, first in, first out (the block's queue). -/
  pending : List Instr := []
  clk : Clock := {}
  cfg : Settings := {}
  shadow : Settings := {}
  cands : Vec Cand 8 := .replicate 8 {}
  tdc : Vec TdcSlot 4 := .replicate 4 {}
  sel : Selector := {}
  lp : LoopSt := {}
  mdl : Model := {}
  tally : Tally := {}
  outs : Vec Out 16 := .replicate 16 {}
  rel : Release := {}
  tod : Tod := {}
  ssct : Ssct := {}
  rf : Radio := {}
  com : Commons := {}
  drv : Drove := {}
  host : HostIo := {}
  pens : Vec PenSt 4 := .replicate 4 {}
  ownLock : Bool := false
  ev : Events := {}
  crook : Vec CrookPen 4 := .replicate 4 {}
  store : Store := {}
  bg : Background := {}
  pins : Vec PinSt 24 := .replicate 24 {}
  pow : Power := {}
  test : Test := {}
  snap : Snap := {}
  /-- How many free values the run has drawn (log 8). -/
  freeN : Nat := 0
  deriving DecidableEq, Repr

/-- Why a step stops with a fault. No rule of the spec stops the block: every event it describes leaves a next state, so no
meaning raises this (log 22). It stands so that the machine's interface is complete; raising it would be safe. -/
inductive Fault where
  /-- Raised by nothing: safe. -/
  | none
  deriving DecidableEq, Repr

/-- Why a step is refused. -/
inductive Refusal where
  /-- A row of the table that has no meaning yet, by its mnemonic; raised by an arm of exec only; safe. -/
  | notModelled (mnemonic : String)
  deriving DecidableEq, Repr

/-- Words 0 and 1 of bank A as 15 R363 writes them where neither bank is valid, up to their CRC: BANK_SEQ 1, ERASES 1 (log 18),
OP_SECONDS 0, BANK A, FORMAT 1, no TAI. -/
def resetHeader : List Host.Cell :=
  [(0, 1), (1, 0), (2, 0), (3, 0), (4, 1), (5, 0), (6, 0), (7, 0), (8, 0), (9, 0), (10, 0), (11, 0), (12, 0), (13, 0),
   (14, 0), (15, 1), (16, 0), (17, 0), (18, 0), (19, 0), (20, 0), (21, 0), (22, 0xFE), (23, 79), (24, 168), (25, 193),
   (26, 157), (31, 0x3C)]

/-- The machine after a power-on reset, at the boundary that opens its interfaces, with a store that held nothing (log 2): every
field at its default. -/
def State.reset : State :=
  { store := { flash := resetHeader }, snap := { flash := resetHeader } }

end Sys2Proof.Machine
end

