-- ==== Sys2Proof/Machine/Ops.lean ====
section
/-! DEFINITION. The named operations that every meaning uses: places in lists, instants, free values, events, references'
facts, the tally and the freeze. -/

namespace Sys2Proof.Machine

/-! ### Places in lists -/

/-- The list with place `i` changed by `f`. -/
def upd {α : Type} (l : List α) (i : Nat) (f : α → α) : List α := l.modify i f

/-- Candidate `i`. -/
def State.cand (s : State) (i : Nat) : Cand := s.cands.getD i {}

/-- Settings of candidate `i`. -/
def State.refCfg (s : State) (i : Nat) : RefCfg := s.cfg.refs.getD i {}

/-- Output `o`. -/
def State.out (s : State) (o : Nat) : Out := s.outs.getD o {}

/-- Settings of output `o`. -/
def State.outCfg (s : State) (o : Nat) : OutCfg := s.cfg.outs.getD o {}

/-- Pin `n`. -/
def State.pin (s : State) (n : Nat) : PinSt := s.pins.getD n {}

/-- Settings of pin `n`. -/
def State.pinCfg (s : State) (n : Nat) : PinCfg := s.cfg.pins.getD n {}

/-- Credits, queue and counters of a pen. -/
def State.io (s : State) (p : Pen) : PenIo := s.host.pens.getD p.val {}

/-- State of a pen. -/
def State.penSt (s : State) (p : Pen) : PenSt := s.pens.getD p.val {}

/-- Owner of a resource (12 R288). -/
def State.owner (s : State) (r : Nat) : Pen := s.cfg.owners.getD r 0

def State.updCand (s : State) (i : Nat) (f : Cand → Cand) : State := { s with cands := s.cands.upd i f }
def State.updOut (s : State) (o : Nat) (f : Out → Out) : State := { s with outs := s.outs.upd o f }
def State.updPin (s : State) (n : Nat) (f : PinSt → PinSt) : State := { s with pins := s.pins.upd n f }
def State.updIo (s : State) (p : Pen) (f : PenIo → PenIo) : State :=
  { s with host := { s.host with pens := s.host.pens.upd p.val f } }
def State.updPen (s : State) (p : Pen) (f : PenSt → PenSt) : State := { s with pens := s.pens.upd p.val f }
def State.updCrook (s : State) (p : Pen) (f : CrookPen → CrookPen) : State := { s with crook := s.crook.upd p.val f }
/-- The committed settings replaced. -/
def State.setCfg (s : State) (c : Settings) : State := { s with cfg := c }
def State.updRefCfg (s : State) (i : Nat) (f : RefCfg → RefCfg) : State :=
  { s with cfg := { s.cfg with refs := s.cfg.refs.upd i f } }
def State.updOutCfg (s : State) (o : Nat) (f : OutCfg → OutCfg) : State :=
  { s with cfg := { s.cfg with outs := s.cfg.outs.upd o f } }

/-- Apply `f` for each member of a list, left to right. -/
def forEach {α : Type} (l : List α) (f : α → State → State) (s : State) : State := l.foldl (fun a x => f x a) s

/-! ### Instants -/

/-- The instant, in fs since fold 0, of the boundary of an absolute fold (01 R11). -/
def foldAt (k : Nat) : Nat := k * foldFs

/-- The instant of the present fold's boundary. -/
def State.foldStart (s : State) : Nat := foldAt s.clk.absFold.toNat

/-- The present instant. -/
def State.instant (s : State) : Nat := s.foldStart + s.clk.now

/-- Device-time nanoseconds of an instant `t` fs into the present fold (01 R15). -/
def State.nsAt (s : State) (t : Nat) : Nat := s.clk.inSec * 125000 + t / 1000000

/-- Device-time nanoseconds of an instant given in fs since fold 0 (01 R15; a change of seconds leaves them alone). -/
def State.nsOf (s : State) (t : Nat) : Nat :=
  (((s.clk.inSec * 125000 : Nat) + ((t : Int) - s.foldStart) / 1000000) % 1000000000).toNat

/-- The step in hand happens `t` fs into the fold. -/
def State.setNow (s : State) (t : Nat) : State := { s with clk := { s.clk with now := t } }

/-- Whether the fold schedule runs: not held in reset, started, awake, and not suspended by NPFAIL (01 R17, R32; 18 R417, R424). -/
def State.schedule (s : State) : Bool := !s.pow.held && s.pow.opened && !s.pow.suspended && s.pow.state ≠ .sleep

/-- The host interfaces serve transactions and pin functions run: not held in reset, opened, not asleep (18 R418, R422, R425; 17 R405,
R406). -/
def State.ifaceOpen (s : State) : Bool := !s.pow.held && s.pow.opened && s.pow.state ≠ .sleep

/-- Pin functions run: from the snapshot on, but not from the entry to SLEEP until the schedule resumes (17 R405, R406). -/
def State.pinsRun (s : State) : Bool := s.ifaceOpen && !s.pow.pinsAsleep

/-- Work that the schedule carries, at `t` fs into the fold: it is done only where the schedule runs. -/
def State.whileScheduled (s : State) (t : Nat) (f : State → State) : State :=
  let s1 := s.setNow t
  if s1.schedule then f s1 else s1

/-- Offset and length of slot `n` in SYS cycles (01 R17). -/
def slotSpan (n : Nat) : Nat × Nat :=
  [(0, 1200), (1200, 400), (1600, 600), (2200, 800), (3000, 1600), (4600, 600), (5200, 1500), (6700, 1600), (8300, 1500), (9800, 800),
   (10600, 1000), (11600, 1500), (13100, 1200), (14300, 800), (15100, 1500), (16600, 400), (17000, 2210)].getD n (0, 0)

/-- `t` fs after the boundary can lie within slot `n`: a fold has 19,190 to 19,210 cycles and begins up to one cycle after its boundary (01 R13, R14,
R17). -/
def slotHolds (n t : Nat) : Bool :=
  let p := slotSpan n
  p.1 * foldFs ≤ 19210 * t && 19190 * t ≤ (p.1 + p.2 + 1) * foldFs

/-- The sequencer may begin slot `n` at `t`: the schedule runs, neither this slot nor a later one has begun in the fold, and `t` lies within it (01 R17). -/
def State.slotDue (s : State) (n t : Nat) : Bool := s.schedule && s.clk.slot ≤ n && slotHolds n t

/-- Slot `n` begins, or resumes the task that an earlier fold suspended in it (01 R17, R20). -/
def State.enterSlot (s : State) (n t : Nat) : State :=
  { s with clk := { s.clk with now := t, slot := n + 1, cut := s.clk.cut.filter (· ≠ n) } }

/-- The task of slot `n` at `t`: once in a fold, in the table's order, within its slot, and only where the schedule runs (01 R17, R18). -/
def State.inSlot (s : State) (n t : Nat) (f : State → State) : State := if s.slotDue n t then f (s.enterSlot n t) else s.setNow t

/-- A part of the task of slot `n` that the table lists as a row of its own: it happens while the sequencer stands in that slot (01 R18). -/
def State.inTask (s : State) (n : Nat) (f : State → State) : State := if s.schedule && s.clk.slot = n + 1 then f s else s

/-- Work that a task of the sequencer does at no slot of its own: it is done only where the schedule runs (01 R18, R32). -/
def State.ifScheduled (s : State) (f : State → State) : State := if s.schedule then f s else s

/-- The sequencer stands in the first SYS cycle of the fold, where every staged change is committed (01 R21). -/
def State.atBoundary (s : State) : Bool := s.schedule && s.clk.slot = 0 && s.clk.now = 0

/-- Latency of a crossing into SYS: two cycles, and a part of a third that the spec leaves open (01 R29). -/
def crossFs : Nat := 13020834 + Config.crossing % 6510417

/-- What arrives now reaches SYS after the boundary that ends the fold (01 R31). -/
def State.crossesLate (s : State) : Bool := foldFs < s.clk.now + crossFs

/-! ### Free values (log 8) -/

/-- The next free draw is `s.freeN`; this advances it. -/
def State.draw (s : State) : State := { s with freeN := s.freeN + 1 }

/-- APLL supervision chooses the VCO band for the F_VCO in force: at start-up, and at a commit of F_VCO (16 R384). -/
def State.chooseBand (s : State) : State := { s.draw with lp := { s.lp with vcoBand := Config.vcoBand s.freeN s.cfg.fvco } }

/-! ### Events (14) -/

namespace Ev
/-- IDs of 14 R328. -/
def dpllState := 0x080
def bellChange := 0x081
def forcedInvalid := 0x082
def dcoLimit := 0x083
def apllUnlock := 0x084
def bwLimited := 0x085
def tsenseFault := 0x086
def modelExtrap := 0x087
def uncLimit := 0x088
def tallyDone := 0x089
def tallyCancelled := 0x08A
def tallyRefused := 0x08B
def timeConflict := 0x098
def secondJump := 0x099
def todError := 0x09A
def ssctState := 0x09B
def ssctClamp := 0x09C
def rxSaturated := 0x0A8
def mismatch := 0x0A9
def synthUnlock := 0x0AA
def rcalDone := 0x0AB
def rcalFail := 0x0AC
def rxDropped := 0x0AD
def commonsState := 0x0AE
def beaconSkipped := 0x0AF
def beaconMissed := 0x0B0
def masterChange := 0x0B1
def forged := 0x0B2
def replay := 0x0B3
def mgmtReject := 0x0B4
def droveState := 0x0D0
def drvLeadChange := 0x0D1
def drvRingBroken := 0x0D2
def drvRingClosed := 0x0D3
def drvCrcError := 0x0D4
def drvEchoFault := 0x0D5
def drvDelayCheck := 0x0D6
def drvCmd := 0x0D7
def drvCmdLate := 0x0D8
def drvTooLong := 0x0D9
def drvIdClash := 0x0DA
def storeVerifyFail := 0x0E8
def lostInterval := 0x0E9
def recoveryRollback := 0x0EA
def recoveryComplete := 0x0EB
def compactDone := 0x0EC
def refreshDone := 0x0ED
def wearWarn := 0x0EE
def hotsetSaved := 0x0EF
def hotsetInvalid := 0x0F0
def patchLoaded := 0x0F1
def patchRejected := 0x0F2
def keyWritten := 0x0F3
def cmdReject := 0x110
def cmdDone := 0x111
def noCredit := 0x112
def ownerChange := 0x113
def penState := 0x114
def crookFired := 0x115
def crookRefused := 0x116
def foldOverrun := 0x118
def queueOverflow := 0x119
def scrubCorrected := 0x11A
def scrubUncorrectable := 0x11B
def shadowMismatch := 0x11C
def telemOverwrite := 0x11D
def npfail := 0x11E
def boot := 0x11F
end Ev

/-- A signed detail word. -/
def detailI (x : Int) : Nat := (x % 4294967296).toNat

/-- A signed detail word saturating at ±(2^31 − 1). -/
def detailSat (x : Int) : Nat := detailI (clampI (-2147483647) 2147483647 x)

/-- A source's occurrence: its counter and sticky bit, whatever the settings (14 R331, R332), and, where the source is enabled, an
occurrence for the queue with its fold and nanoseconds (14 R336, R337). -/
def State.raiseAt (s : State) (id detail fold ns : Nat) : State :=
  let srcs := s.ev.srcs.upd id fun e => { e with count := e.count + 1, sticky := true, raised := true }
  let occ : Occ := { id := id, fold := BitVec.ofNat 64 fold, ns := ns, detail := BitVec.ofNat 32 detail }
  let occs := if (s.cfg.ev.getD id {}).enable then s.ev.occs ++ [occ] else s.ev.occs
  { s with ev := { s.ev with srcs := srcs, occs := occs } }

/-- An occurrence at the present instant. -/
def State.raise (s : State) (id detail : Nat) : State := s.raiseAt id detail s.clk.absFold.toNat (s.nsAt s.clk.now)

/-- An occurrence in another domain: one whose count has not crossed by the boundary is left for the next snapshot (01 R29–R31). -/
def State.raiseFrom (s : State) (id detail : Nat) : State :=
  if s.crossesLate then
    { s with ev := { s.ev with late := s.ev.late ++ [{ id := id, fold := s.clk.absFold, ns := s.nsAt s.clk.now, detail := BitVec.ofNat 32 detail }] } }
  else s.raise id detail

/-- What crossed too late for the snapshot that has been latched, with its own instants. -/
def State.raiseLate (s : State) : State :=
  forEach s.ev.late (fun o s => s.raiseAt o.id o.detail.toNat o.fold.toNat o.ns) { s with ev := { s.ev with late := [] } }

/-- An occurrence if the condition holds. -/
def State.raiseIf (s : State) (c : Bool) (id detail : Nat) : State := if c then s.raise id detail else s

/-! ### References' facts (02) -/

/-- The beacon period in folds (10 R223: codes 0-5 for 0.25 s to 8 s). -/
def beaconFolds (code : Nat) : Nat := 2000 * 2 ^ code

/-- Divided period of a candidate as a fraction of fs: (numerator, denominator) (02 R35, R45). -/
def State.divPeriod (s : State) (i : Nat) : Nat × Nat :=
  let c := s.refCfg i
  if i < 6 then (c.div * c.nomDen * secondFs, c.nomNum)
  else if i = 6 then (foldFs, 1)
  else (beaconFolds s.cfg.com.period * foldFs, 1)

/-- `x` reduced by the candidate's divided period into (−P/2, P/2], to the fs (02 R35, 05 R119). -/
def State.modPeriod (s : State) (i : Nat) (x : Fs) : Fs :=
  let p := s.divPeriod i
  if p.2 = 0 then x else divNear (centred (x * p.2) p.1) p.2

/-- Effective grade (02 R52). -/
def State.egrade (s : State) (i : Nat) : Nat :=
  if i < 6 then (s.refCfg i).grade else max (s.cand i).advGrade (s.refCfg i).grade

/-- Eligibility (02 R51). -/
def State.eligible (s : State) (i : Nat) : Bool := (s.cand i).qualified && s.egrade i ≤ 14

/-- The TDC's capture of an instant, 1 ps LSB (02 R57). -/
def tdcCode (t : Nat) : Nat := t / 1000 * 1000

/-- An interval measurement meets a capture on channel `ch` (02 R58, R59). -/
def tdcMeet (ch t : Nat) (m : TdcSlot) : TdcSlot :=
  if !m.armed then m
  else
    let m1 : TdcSlot :=
      if m.start = m.stop then
        if ch ≠ m.start then m
        else if m.tStart.isNone then { m with tStart := some t } else { m with tStop := some t }
      else if ch = m.start && m.tStart.isNone then { m with tStart := some t }
      else if ch = m.stop && m.tStop.isNone then { m with tStop := some t }
      else m
    match m1.tStart, m1.tStop with
    | some a, some b => { m1 with armed := false, done := true, result := (b : Int) - a, subres := a = b }
    | _, _ => m1

/-- A capture on a channel: every pen's measurement sees it. -/
def State.capture (s : State) (ch t : Nat) : State := { s with tdc := s.tdc.map (tdcMeet ch (tdcCode t)) }

/-! ### Slew (05 R106) -/

/-- What one fold may pay out, in fs: SLEW × 125 µs. -/
def slewFold (slew : Fu) : Fs := slew / 8000

/-! ### The tally (05) -/

/-- Place of a source among the totals (05 R107's codes). -/
def TallySrc.code : TallySrc → Nat
  | .step => 0
  | .switch => 1
  | .gather => 2
  | .ssct => 3
  | .holdoverExit => 4

/-- An open entry (05 R108). -/
def Entry.isOpen (e : Entry) : Bool := e.status = .pending || e.status = .applying

/-- The part not yet applied (05 R111). -/
def Entry.remaining (e : Entry) : Fs := if e.isOpen then e.amount - e.applied else 0

/-- A device entry (05 R107). -/
def Entry.isDevice (e : Entry) : Bool := e.flock = 0

/-- The outputs a flock names. -/
def flockOuts (f : BitVec 16) : List Nat := (List.range 16).filter fun n => f.getLsbD n

/-- What output `o` has applied of a flock entry. -/
def Entry.outApplied (e : Entry) (o : Nat) : Fs :=
  match e.prog.find? (fun p => p.1 = o) with
  | some p => p.2
  | none => 0

/-- The least-advanced of a list of progresses towards `amount` (05 R111). -/
def leastProgress (amount : Fs) (l : List Fs) : Fs :=
  match l with
  | [] => 0
  | x :: r => r.foldl (fun a y => if 0 ≤ amount then min a y else max a y) x

/-- 64-bit total plus a signed amount, modulo 2^64 (05 R127). -/
def addT (b : BitVec 64) (x : Fs) : BitVec 64 := b + BitVec.ofInt 64 x

/-- A total with `x` entered. -/
def Totals.enter (x : Fs) (t : Totals) : Totals := { t with entered := addT t.entered x, opened := addT t.opened x }
/-- A total with `x` of what is open applied. -/
def Totals.pay (x : Fs) (t : Totals) : Totals := { t with applied := addT t.applied x, opened := addT t.opened (-x) }
/-- A total with `x` of what is open cancelled. -/
def Totals.cancel (x : Fs) (t : Totals) : Totals := { t with cancelled := addT t.cancelled x, opened := addT t.opened (-x) }

/-- The targets of an entry: 0 the device, n + 1 OUTn (05 R127). -/
def Entry.targets (e : Entry) : List Nat := if e.isDevice then [0] else (flockOuts e.flock).map (· + 1)

/-- Totals of the entry's source and of each of its targets changed by `f`. -/
def Tally.updTotals (t : Tally) (e : Entry) (f : Totals → Totals) : Tally :=
  { t with
    bySrc := t.bySrc.upd e.src.code f
    byTarget := e.targets.foldl (fun l k => l.upd k f) t.byTarget }

/-- Slots 2–31 that an open entry occupies (05 R108). -/
def Tally.usedSlots (t : Tally) : List Nat := (t.entries.filter fun e => e.isOpen && 2 ≤ e.slot && !e.wake).map (·.slot)

/-- The free ones of slots 2–31, in ascending order (05 R108). -/
def Tally.freeSlots (t : Tally) : List Nat := ((List.range 32).drop 2).filter fun n => !t.usedSlots.contains n

/-- A new entry, with the next sequence number (05 R110), its amount entered in the totals. -/
def Tally.add (t : Tally) (e : Entry) : Tally :=
  let e1 := { e with seq := t.nextSeq, prog := (flockOuts e.flock).map fun o => (o, (0 : Fs)) }
  { (t.updTotals e1 (Totals.enter e1.amount)) with entries := t.entries ++ [e1], nextSeq := t.nextSeq + 1 }

/-- The tally with the entry of a sequence number replaced by its image under `f`. -/
def Tally.updEntry (t : Tally) (seq : BitVec 32) (f : Entry → Entry) : Tally :=
  { t with entries := t.entries.map fun e => if e.seq = seq then f e else e }

/-- The entry of a sequence number. -/
def Tally.find (t : Tally) (seq : BitVec 32) : Option Entry := t.entries.find? fun e => e.seq = seq

/-- `x` fs of a device entry applied: its APPLIED, the totals, and the steer offset of 05 R118 for a STEP. -/
def Tally.payDevice (t : Tally) (e : Entry) (x : Fs) : Tally :=
  let t1 := (t.updTotals e (Totals.pay x)).updEntry e.seq fun e => { e with applied := e.applied + x }
  if e.src = .step then { t1 with steer := satFs (t1.steer + x) } else t1

/-- `x` fs of a flock entry applied by output `o`: that output's progress and totals; the entry's APPLIED is its least-advanced output's
(05 R111). -/
def Tally.payOut (t : Tally) (e : Entry) (o : Nat) (x : Fs) : Tally :=
  let prog := e.prog.map fun p => if p.1 = o then (p.1, p.2 + x) else p
  let a := leastProgress e.amount (prog.map (·.2))
  let d := a - e.applied
  let t1 := { t with
    byTarget := t.byTarget.upd (o + 1) (Totals.pay x)
    bySrc := t.bySrc.upd e.src.code (Totals.pay d) }
  t1.updEntry e.seq fun e => { e with prog := prog, applied := a }

/-- An entry cancelled with a cause (05 R125): CANCELLED takes what is left, each output's remainder is counted in its own totals, and a
SWITCH or HOLDOVER_EXIT cancelled by the host or kept joins the steer offset (05 R118). -/
def Tally.cancelEntry (t : Tally) (e : Entry) (cause : Nat) : Tally :=
  let rest := e.amount - e.applied
  let t1 : Tally := { t with bySrc := t.bySrc.upd e.src.code (Totals.cancel rest) }
  let t2 : Tally :=
    if e.isDevice then { t1 with byTarget := t1.byTarget.upd 0 (Totals.cancel rest) }
    else { t1 with byTarget := e.prog.foldl (fun l p => l.upd (p.1 + 1) (Totals.cancel (e.amount - p.2))) t1.byTarget }
  let t3 := t2.updEntry e.seq fun e => { e with status := .cancelled, cause := cause, cancelled := rest }
  if (e.src = .switch || e.src = .holdoverExit) && (cause = 1 || cause = 4) then { t3 with steer := satFs (t3.steer + rest) } else t3

/-- A retired entry joins the ring; a full ring drops its oldest (05 R128). -/
def Tally.retire (t : Tally) : Tally :=
  let gone := t.entries.filter fun e => !e.isOpen
  let all := t.ring ++ gone
  let extra := all.length - 64
  { t with
    entries := t.entries.filter (·.isOpen)
    ring := all.drop extra
    dropped := t.dropped + BitVec.ofNat 32 extra }

/-- An open entry cancelled, with its event (05 R125, R129). -/
def State.cancelEntry (s : State) (e : Entry) (cause : Nat) : State :=
  let s1 := { s with tally := s.tally.cancelEntry e cause }
  s1.raiseIf (e.src ≠ .ssct) Ev.tallyCancelled e.seq.toNat

/-- An entry that reaches DONE, with its event (05 R129). -/
def State.finishEntry (s : State) (e : Entry) : State :=
  let s1 := { s with tally := s.tally.updEntry e.seq fun e => { e with status := .done } }
  s1.raiseIf (e.src ≠ .ssct) Ev.tallyDone e.seq.toNat

/-- The open SWITCH or HOLDOVER_EXIT entries (05 R108: at most one). -/
def Tally.openSwitches (t : Tally) : List Entry :=
  t.entries.filter fun e => e.isOpen && (e.src = .switch || e.src = .holdoverExit)

/-- Any open SWITCH or HOLDOVER_EXIT entry cancelled with a cause (05 R121). -/
def State.cancelSwitches (s : State) (cause : Nat) : State :=
  forEach s.tally.openSwitches (fun e s => s.cancelEntry e cause) s

/-! ### The freeze (01 R26) -/

/-- A hold asked for inside a fold: HELD follows at the next boundary, over any HOLD opcode staged before it (01 R21, 04 R82). -/
def State.askHold (s : State) : State :=
  { s with
    lp := { s.lp with holdCmd := some true, crookHold := true }
    host := { s.host with staged := s.host.staged.map fun g => if g.opcode = 0x2032 then { g with commit := false } else g } }

/-- A freeze inside a fold: the staged word is discarded, the loop term is held at the committed word's, HOLDOVER follows at the next
boundary with the open SWITCH or HOLDOVER_EXIT entry cancelled there, and an unmeasured change is dropped (01 R26, 05 R121). -/
def State.freezeInFold (s : State) : State :=
  { s with lp := { s.lp with
    staged := none
    loop := s.lp.dcoLoop
    frozen := true
    nextState := none
    unmeasured := none } }

/-- A freeze committed at a boundary: the word committed there stands and the loop term is held from it; the open entry is cancelled there
(01 R26, 05 R121). -/
def State.freezeAtBoundary (s : State) : State :=
  let s1 := s.cancelSwitches 3
  { s1 with lp := { s1.lp with
    loop := s1.lp.dcoLoop
    nextState := none
    unmeasured := none } }

/-! ### Flocks -/

/-- Whether a pen owns every output of a flock, or is pen 0 (13 R304 code O). -/
def State.ownsFlock (s : State) (p : Pen) (f : BitVec 16) : Bool :=
  p = 0 || (flockOuts f).all fun o => s.owner o = p

/-- Whether a pen is pen 0 or owns a resource (13 R304 code O). -/
def State.owns (s : State) (p : Pen) (r : Nat) : Bool := p = 0 || s.owner r = p

end Sys2Proof.Machine
end

