-- ==== Sys2Proof/Machine/Flags.lean ====
section
/-! DEFINITION. Status words and conditions that the chapters lay out: each word is computed from the state. -/

namespace Sys2Proof.Machine

def optIdx (o : Option Nat) : Nat := o.getD 15

/-- STATE codes of the selector (03 R72). -/
def SelState.code : SelState → Nat
  | .none => 0
  | .auto => 1
  | .forced => 2
  | .forcedInvalid => 3

/-- STATE codes of the DPLL (04 R104). -/
def DpllState.code : DpllState → Nat
  | .freerun => 0
  | .acquire => 1
  | .locked => 2
  | .holdover => 3

/-- STATE codes of a pen (12 R291). -/
def PenState.code : PenState → Nat
  | .active => 0
  | .resetting => 1
  | .disabled => 2

/-- STATE codes of the drove (11 R263). -/
def DrvState.code : DrvState → Nat
  | .off => 0
  | .listen => 1
  | .member => 2
  | .claim => 3
  | .lead => 4

/-- STATE codes of the commons MAC (10 R225). -/
def MacState.code : MacState → Nat
  | .off => 0
  | .search => 1
  | .track => 2
  | .master => 3

/-- STATE codes of the front end (13 R316). -/
def RfState.code : RfState → Nat
  | .off => 0
  | .idle => 1
  | .rx => 2
  | .tx => 3
  | .cal => 4

/-- APPLY codes (08 R194). -/
def Apply.code : Apply → Nat
  | .idle => 0
  | .fadeIn => 1
  | .active => 2
  | .fadeOut => 3

/-- STATUS codes of an entry (05 R110). -/
def EStat.code : EStat → Nat
  | .pending => 0
  | .applying => 1
  | .done => 2
  | .cancelled => 3

/-- Qualification time in folds (02 R47). -/
def qualFolds (c : RefCfg) : Nat := c.qualT * 800

/-- QUAL_PROGRESS (02 R54); 100 while qualified, whatever QUAL_T is raised to afterwards (DESIGN CHOICE, log 76). -/
def qualProgress (c : RefCfg) (d : Cand) : Nat :=
  if d.qualified then 100 else if c.qualT = 0 then 0 else min 100 (d.timer * 100 / qualFolds c)

/-- Candidate status word (02 R54). -/
def State.refWord (s : State) (i : Nat) : Nat :=
  let d := s.cand i
  let e := s.egrade i
  e * 2 ^ 28 + (s.refCfg i).prio * 2 ^ 24 + (if i < 6 then e else d.advGrade) * 2 ^ 20 +
    b2n (s.eligible i) * 2 ^ 19 + b2n d.qualified * 2 ^ 18 + b2n d.active * 2 ^ 17 + b2n (s.sel.bell = some i) * 2 ^ 16 +
    (if d.qualified then 0 else d.dqCause.toNat) * 2 ^ 8 + qualProgress (s.refCfg i) d

/-- Selector status word (03 R72). -/
def State.selWord (s : State) : Nat :=
  s.sel.lastCause * 2 ^ 16 + s.sel.state.code * 2 ^ 12 + optIdx s.sel.usedForce * 2 ^ 8 + optIdx s.sel.shadow * 2 ^ 4 +
    optIdx s.sel.bell

/-- SLEWING: a device tally entry is APPLYING (04 R80). SSCT entries are no device entries of R80. -/
def State.slewing (s : State) : Bool :=
  s.tally.entries.any fun e =>
    e.status = .applying && e.isDevice && (e.src = .switch || e.src = .holdoverExit || e.src = .step)

/-- Halvings still to reach `track` from `bw`, a fraction's numerators over one denominator (04 R87, R104). -/
def halvingsGo (bw track : Nat) : Nat → Nat
  | 0 => 0
  | k + 1 => if bw ≤ track then 0 else 1 + halvingsGo bw (2 * track) k

/-- AUTO_STAGE (04 R104). -/
def State.autoStage (s : State) : Nat :=
  if s.cfg.lp.auto && s.lp.state = .acquire then min 15 (halvingsGo s.lp.stageBw (s.cfg.lp.trackBw * 2 ^ s.lp.stageK) 24) else 0

/-- Loop status word (04 R104). -/
def State.loopWord (s : State) : Nat :=
  s.autoStage * 2 ^ 12 + b2n s.lp.held * 2 ^ 11 + b2n s.lp.tfallback * 2 ^ 10 + b2n s.lp.extrap * 2 ^ 9 +
    b2n s.lp.bwLimit.isSome * 2 ^ 8 + b2n s.mdl.valid * 2 ^ 7 + b2n s.lp.aplLock * 2 ^ 6 + b2n s.slewing * 2 ^ 5 +
    b2n s.lp.everLocked * 2 ^ 4 + s.lp.state.code

/-- Entry header word (05 R110). -/
def Entry.header (e : Entry) : Nat :=
  e.flock.toNat * 2 ^ 16 + e.pen.val * 2 ^ 14 + e.cause * 2 ^ 11 + b2n e.crook * 2 ^ 10 + b2n e.delay * 2 ^ 9 +
    b2n e.immediate * 2 ^ 8 + e.status.code * 2 ^ 6 + b2n e.wake * 2 ^ 5 + e.slot

/-- The 48-byte record of an entry (05 R110). -/
def Entry.record (e : Entry) : List Byte :=
  blankWords e.blank (le 4 e.src.code ++ le 4 e.header ++ le 4 e.seq.toNat ++ leI 8 e.amount ++ leI 8 e.applied ++ leI 8 e.cancelled ++
    le 8 e.created.toNat ++ le 4 e.startFold.toNat)

/-- Active time-of-day source: 0 HOST, 1 UART, 2 DROVE, 3 COMMONS (07 R168, R169). -/
def State.todActive (s : State) : Nat :=
  if s.cfg.tod.src ≠ 4 then s.cfg.tod.src
  else match s.sel.bell with
    | some 6 => 2
    | some 7 => 3
    | some _ => 1
    | none => s.tod.last

/-- TOD_SEEN: an accepted label of the active source within the last two device seconds (07 R176). -/
def State.todLabel (s : State) : Option Label :=
  match s.todActive with
  | 1 => s.tod.uart
  | 2 => s.tod.drove
  | 3 => s.tod.commons
  | _ => none

def State.todSeen (s : State) : Bool :=
  match s.todLabel with
  | some l => s.instant ≤ l.time + 2 * secondFs
  | none => false

/-- Time status word (07 R176). -/
def State.timeWord (s : State) : Nat :=
  s.todActive * 2 ^ 16 + b2n s.tod.subsec * 2 ^ 7 + b2n s.tod.conflict * 2 ^ 6 + b2n s.tod.jump.isSome * 2 ^ 5 +
    b2n s.todSeen * 2 ^ 4 + b2n (s.lp.state = .freerun) * 2 ^ 2 + b2n (s.lp.state = .holdover) * 2 + b2n s.tod.valid

/-- Bins at their bound (08 R194). -/
def Ssct.clamped (t : Ssct) : Nat := min 255 (t.bins.countP fun c => c = 200000 || c = -200000)

/-- PAUSE (08 R194). -/
def State.pause (s : State) : Nat :=
  b2n s.ssct.pauseSpeed + 2 * b2n (s.lp.state ≠ .locked || s.lp.held) * b2n (s.cfg.ssct.mode ≠ 0) + 4 * b2n s.ssct.pauseIdx +
    8 * b2n (s.cfg.ssct.mode ≠ 2)

/-- LEARNING: the current revolution is being gathered (08 R194). -/
def State.learning (s : State) : Bool :=
  s.cfg.ssct.mode ≠ 0 && s.ssct.apply = .active && s.lp.state = .locked && !s.lp.held && s.ssct.gatherOk && s.ssct.lastIdx.isSome

/-- Shaft status word (08 R194). -/
def State.shaftWord (s : State) : Nat :=
  s.ssct.clamped * 2 ^ 20 + s.pause * 2 ^ 16 + s.ssct.scale * 2 ^ 8 + s.ssct.apply.code * 2 ^ 6 + b2n s.learning * 2 ^ 5 +
    b2n s.cfg.ssct.ref5 * 2 ^ 4 + s.cfg.ssct.mode

/-- Drove status word (11 R263). -/
def State.droveWord (s : State) : Nat :=
  s.drv.hop * 2 ^ 24 + b2n s.drv.lock * 2 ^ 15 + b2n s.drv.ringBroken * 2 ^ 14 + b2n s.cfg.drv.ring * 2 ^ 13 +
    s.drv.state.code * 2 ^ 8 + s.drv.grade * 2 ^ 4

/-- IN_BAND (09 R199, R201). -/
def Chan.inBand (c : Chan) : Bool :=
  (863000000 ≤ c.freq && c.freq ≤ 870000000) || (902000000 ≤ c.freq && c.freq ≤ 928000000)

/-- Channel entry status word (09 R201). -/
def Chan.word (c : Chan) : Nat :=
  b2n c.calValid * 2 ^ 31 + b2n c.inBand * 2 ^ 30 + c.band.toNat * 2 ^ 24 + c.amp.toNat * 2 ^ 20 +
    (c.calTemp % 256).toNat * 2 ^ 12 + c.tuneB.toNat * 2 ^ 5 + c.tuneA.toNat

/-- RSSI record (09 R208). -/
def rssiRecord (valid rfb : Bool) (gain : Nat) (sat : Bool) (chan : Nat) (rssi : Int) : Nat :=
  b2n valid * 2 ^ 31 + b2n rfb * 2 ^ 30 + gain * 2 ^ 27 + b2n sat * 2 ^ 26 + chan * 2 ^ 20 + (rssi % 65536).toNat

/-- Standing conditions of 14 R332; every other source is live only in the fold in which it was raised. An activity window that has never run has not
expired (log 57). -/
def State.standing (s : State) (id : Nat) : Option Bool :=
  if id < 0x40 then
    let c := s.cand (id / 8)
    match id % 8 with
    | 0 => some (!(c.wasActive.getD c.active) && c.lastEdge.isSome)
    | 1 => some (0 < c.fastDir || 0 < c.precDir)
    | 2 => some (c.fastDir < 0 || c.precDir < 0)
    | 4 => some c.qualified
    | 5 => some (!c.qualified)
    | _ => none
  else if id < 0x80 then
    if id % 4 = 0 then some (1 < (s.out ((id - 0x40) / 4)).diff.natAbs) else none
  else if id = Ev.apllUnlock then some s.lp.apllUnlock
  else if id = Ev.forcedInvalid then some (s.sel.state = .forcedInvalid)
  else if id = Ev.bwLimited then some s.lp.bwLimit.isSome
  else if id = Ev.modelExtrap then some s.lp.extrap
  else if id = Ev.tsenseFault then some (s.lp.tsFault ≠ .none)
  else if id = Ev.timeConflict then some (s.tod.conflict || s.tod.subsec)
  else if id = Ev.ssctClamp then some (0 < s.ssct.clamped)
  else if id = Ev.rxSaturated then some s.rf.satStands
  else if id = Ev.drvRingBroken then some s.drv.ringBroken
  else none

/-- Live status of a source in the snapshot a boundary latches: its condition stands, or it was raised in the fold that ends (14 R332, R333;
log 57). One raised too late to have crossed shows as before (01 R31). -/
def State.liveNow (s : State) (id : Nat) (e : Source) : Bool :=
  if s.ev.late.any fun o => o.id = id then e.live else (s.standing id).getD false || e.raised

/-- NALARM's rule (14 R340): an enabled URGENT source has its sticky bit set; asserted while a reset is held and until the snapshot is
committed (18 R411). -/
def State.nalarm (s : State) : Bool :=
  s.pow.held || !s.pow.opened ||
    ((s.ev.srcs.zip s.cfg.ev).toList.any fun p => p.1.sticky && p.2.enable && p.2.cls = 2)

/-- The event condition of bit 4 + n of IRQ_PENDING (14 R342). -/
def State.eventPending (s : State) (n : Nat) : Bool :=
  (s.ev.srcs.zip s.cfg.ev).toList.any fun p => p.1.sticky && p.2.enable && p.2.cls ≠ 0 && p.1.notify.getLsbD n

/-- IRQ_PENDING (12 R276). -/
def State.irqPending (s : State) : Nat :=
  (if s.host.reject.isSome then 2 ^ 8 else 0) + s.host.irqEvent.toNat * 2 ^ 4 +
    ((List.range 4).foldl (fun a n => a + (if (s.host.pens.getD n {}).replies.isEmpty then 0 else 2 ^ n)) 0)

/-- NIRQ (12 R276, 18 R411). -/
def State.nirq (s : State) : Bool := !s.pow.held && s.pow.opened && s.irqPending ≠ 0

/-- URGENT sources that are live (12 R274). -/
def State.urgentLive (s : State) : Nat :=
  min 255 ((s.ev.srcs.zip s.cfg.ev).toList.countP fun p => p.1.live && p.2.cls = 2)

/-- SUMMARY as a boundary forms it (12 R274). -/
def State.summaryNow (s : State) : Nat :=
  b2n s.nalarm * 2 ^ 27 + b2n s.nirq * 2 ^ 26 + b2n s.tod.valid * 2 ^ 24 + s.urgentLive * 2 ^ 16 + s.sel.state.code * 2 ^ 12 +
    optIdx s.sel.bell * 2 ^ 8 + b2n s.lp.held * 2 ^ 7 + b2n s.slewing * 2 ^ 6 + b2n s.lp.aplLock * 2 ^ 5 + s.lp.state.code

/-- GRANTED and OUTSTANDING of a pen (12 R275). -/
def PenIo.granted (p : PenIo) : Nat := p.replies.length
def PenIo.outstanding (p : PenIo) : Nat := 8 - p.free - p.granted

/-- CREDITS (12 R275). -/
def State.creditsWord (s : State) : Nat :=
  (List.range 4).foldl (fun a n =>
    let p := s.host.pens.getD n {}
    a + (p.granted * 16 + p.free) * 256 ^ n) 0

/-- One pen's byte of CROOK_STATUS (12 R277). -/
def State.crookByte (s : State) (n : Nat) : Nat :=
  let c := s.crook.getD n {}
  b2n (s.instant < c.busyTo) * 128 + b2n c.step.isSome * 64 + b2n c.gather.isSome * 32 + b2n c.refused * 16 + c.last

/-- CROOK_STATUS (12 R277). -/
def State.crookWord (s : State) : Nat := (List.range 4).foldl (fun a n => a + s.crookByte n * 256 ^ n) 0

/-- REVISION of the image that runs (12 R272, 15 R370). -/
def State.revision (s : State) : BitVec 32 := s.host.patchLoaded.getD Config.romRevision

/-! ### Pins (17) -/

/-- Whether a pin's function drives an output (17 R390). -/
def PinCfg.drives (c : PinCfg) : Bool :=
  match c.func with
  | 0 => c.sub.getLsbD 0
  | 1 => true
  | 2 => true
  | 5 => true
  | 6 => c.sub.toNat % 4 = 0
  | 7 => true
  | _ => false

/-- Length of a bit at a RATE, in fs (09 R203). -/
def bitFs (rate : Nat) : Nat := if rate = 0 then 20000000000 else if rate = 1 then 10000000000 else 5000000000

/-- The antenna switch of an open diversity window, after 8 bits (09 R212). -/
def Radio.switchAt (r : Radio) (w : DivWin) : Nat := w.openAt + 8 * bitFs r.act.rate

/-- The receiving antenna from instant `x` on: the kept one, and the other in the second half of an open diversity window; RFA without DIVERSITY (09
R212). -/
def Radio.rfbAt (r : Radio) (x : Nat) : Bool :=
  r.act.diversity &&
    (match r.win with
     | some w => if r.switchAt w ≤ x then !r.kept else r.kept
     | none => r.kept)

/-- The antenna in use: a transmission leaves from RFA (09 R214, R220). -/
def State.rfb (s : State) : Bool := s.rf.state ≠ .tx && s.rf.rfbAt s.instant

/-- The function signal of a driving pin (17 R391, R399). The test markers of FUNC 7 are waveforms of time: the fold marker and the second
marker are given at the present instant, SYS ÷ 256 by the SYS count of it (log 20). -/
def State.funcSignal (s : State) (c : PinCfg) : Bool :=
  let sub := c.sub.toNat
  match c.func with
  | 1 =>
    if sub = 0 then s.nalarm
    else if sub = 1 then s.nirq
    else if sub ≤ 5 then s.host.irqEvent.getLsbD (sub - 2)
    else (s.ev.srcs.getD (sub - 0x20) {}).sticky
  | 2 =>
    match sub with
    | 0 => s.lp.state = .locked
    | 1 => s.lp.state = .holdover
    | 2 => s.lp.state = .freerun
    | 3 => s.slewing
    | 4 => s.lp.shown.1
    | 5 => s.tod.valid
    | 6 => s.sel.bell.isSome
    | 7 => s.lp.held
    | _ => s.lp.shown.2
  | 5 =>
    let v := match sub % 4 with
      | 0 => s.rf.state = .tx
      | 1 => s.rf.state = .rx
      | _ => s.rfb
    if c.sub.getLsbD 7 then !v else v
  | 6 => s.pow.npfail
  | 7 =>
    match sub with
    | 0 => s.clk.now < 250000000
    | 1 => s.clk.inSec * foldFs + s.clk.now < 1000000000000
    | _ => (s.clk.now * 1536 / 10000000000) / 128 % 2 = 0
  | _ => false

/-- The level a pin drives: its function's (17 R398), in SLEEP its SLEEP behaviour's (R405), none until the snapshot is committed (R406). -/
def State.pinLevel (s : State) (n : Nat) : Option Bool :=
  let c := s.pinCfg n
  if s.pow.held || !s.pow.opened then none
  else if s.pow.pinsAsleep then
    match c.sleep with
    | 0 => some false
    | 1 => some true
    | 4 => (s.pin n).hold
    | _ => none
  else if c.drives then some ((s.pin n).latch || (c.func ≠ 0 && s.funcSignal c))
  else none

/-- The pull of a pin (17 R390, R405, R406): 0 none, else as PULL codes it; pull-down until the snapshot is committed. -/
def State.pinPull (s : State) (n : Nat) : Nat :=
  let c := s.pinCfg n
  if s.pow.held || !s.pow.opened then 2
  else if s.pow.pinsAsleep && c.sleep = 2 then 0
  else c.pull

/-- What readback returns for a pin (17 R402): the latch of a driving pin, the synchronised pad of an input. -/
def State.pinRead (s : State) (n : Nat) : Bool := if (s.pinCfg n).drives then (s.pin n).latch else (s.pin n).pad

/-- A word of one bit per pin. -/
def pinWord (f : Nat → Bool) : Nat := (List.range 24).foldl (fun a n => a + b2n (f n) * 2 ^ n) 0

/-- The store write-protect (17 R396). -/
def State.writeProtect (s : State) : Bool :=
  (List.range 24).any fun n =>
    let c := s.pinCfg n
    c.func = 6 && c.sub.toNat % 4 = 1 && ((s.pin n).pad != c.sub.getLsbD 4)

/-! ### The direct window (12 R270) -/

/-- A byte of the direct-register window. -/
def State.window (s : State) (a : Nat) : Byte :=
  let r (base v : Nat) : Byte := BitVec.ofNat 8 (v / 256 ^ (a - base))
  if a < 0x02 then r 0 0x1640
  else if 0x04 ≤ a && a < 0x08 then r 0x04 s.revision.toNat
  else if 0x08 ≤ a && a < 0x0C then r 0x08 s.host.summary.toNat
  else if 0x0C ≤ a && a < 0x10 then r 0x0C s.creditsWord
  else if 0x10 ≤ a && a < 0x12 then r 0x10 s.irqPending
  else if 0x20 ≤ a && a < 0x24 then r 0x20 (pinWord s.pinRead)
  else if 0x24 ≤ a && a < 0x28 then r 0x24 s.crookWord
  else 0

/-- `n` bytes of the window from address `addr`, which wraps (12 R271). -/
def State.windowRead (s : State) (addr n : Nat) : List Byte := (List.range n).map fun i => s.window ((addr + i) % 256)

/-- The part's I2C address, of the straps sampled at reset release (12 R268). -/
def State.i2cAddress (s : State) : Nat := 0x58 + s.host.straps.toNat

end Sys2Proof.Machine
end

