-- ==== Sys2Proof/Machine/Operands.lean ====
section
/-! DEFINITION. What every opcode shares: status codes, the outcome of the interpreter's checks, packets and replies as bytes, the hardware
check of a packet, and flock operands. -/

namespace Sys2Proof.Machine

/-! ### Status codes (13 R307) -/

namespace St
def ok : BitVec 16 := 0x0000
def accepted : BitVec 16 := 0x0001
def badCrc : BitVec 16 := 0x0100
def badLength : BitVec 16 := 0x0101
def badOpcode : BitVec 16 := 0x0102
def badParam : BitVec 16 := 0x0103
def badWindow : BitVec 16 := 0x0104
def denied : BitVec 16 := 0x0200
def locked : BitVec 16 := 0x0201
def noCredit : BitVec 16 := 0x0202
def tallyFull : BitVec 16 := 0x0300
def storeBusy : BitVec 16 := 0x0301
def storeFault : BitVec 16 := 0x0302
def abandoned : BitVec 16 := 0x0400
def forcedInvalid : BitVec 16 := 0x0500
end St

/-! ### The outcome of the interpreter's checks -/

/-- What the interpreter decides of a command (13 R303): its status, its reply, whether a change is staged for the boundary, what happens as it
is interpreted, and whether it stays queued (`wait`) or replies only when a unit finishes it (`later`). -/
structure Serve where
  status : BitVec 16 := St.ok
  body : Body := .bytes []
  commit : Bool := false
  mark : Nat := 0
  act : State → State := id
  wait : Bool := false
  later : Bool := false

/-- A refusal: nothing changes (13 R303, R306). -/
def Serve.refuse (st : BitVec 16) : Serve := { status := st }

/-- A plain reply with bytes known now. -/
def Serve.data (l : List Byte) : Serve := { body := .bytes l }

/-- A reply that reads state at the boundary at which the command takes effect (13 R305). -/
def Serve.read (op : BitVec 16) (p : List Byte) : Serve := { body := .read op p }

/-- A staged change with no reply data. -/
def Serve.stage : Serve := { commit := true }

/-- A staged group write, whose reply reads the group back (13 R302) with the read opcode `op` and its index bytes. -/
def Serve.group (op : BitVec 16) (idx : List Byte) : Serve := { commit := true, body := .read op idx }

/-- A command that stays queued with its credit (12 R284, R297). -/
def Serve.stay : Serve := { wait := true }

/-- The first check that fails decides (12 R282, 13 R303). -/
def checks (l : List (Bool × BitVec 16)) (sv : Serve) : Serve :=
  match l with
  | [] => sv
  | (c, st) :: r => if c then checks r sv else .refuse st

/-! ### Packets and replies as bytes (12 R278, R279) -/

/-- Parameters of a packet. -/
def Packet.params (k : Packet) : List Byte := k.call.params

/-- Bytes of a reply. -/
def Reply.bytes (r : Reply) (reject : Bool) : List Byte :=
  let h := r.pen.val * 64 + r.cls.toNat * 16 + 8 + b2n reject * 4
  let body := le 1 h ++ [r.tag] ++ le 2 r.status.toNat ++ le 2 r.data.length ++ le 2 r.opcode.toNat ++ r.data
  blankWords r.blank (body ++ le 2 (crc16 body))

/-- The empty reply (12 R267). -/
def emptyReply : List Byte := List.replicate 8 0

/-- A packet read from bytes whose length and CRC have been checked. -/
def parsePacket (b : List Byte) : Packet :=
  let h := fld b 0 1
  { opcode := BitVec.ofNat 16 (fld b 2 2)
    call :=
      { pen := Fin.ofNat 4 (h / 64)
        cls := BitVec.ofNat 2 (h / 16)
        flags := BitVec.ofNat 4 h
        tag := BitVec.ofNat 8 (fld b 1 1)
        rsv := BitVec.ofNat 16 (fld b 6 2)
        params := (b.drop 8).take (fld b 4 2) } }

/-- A reject (12 R282): the reject slot, REJECT_LOST, CMD_REJECT. -/
def reject (k : Packet) (st : BitVec 16) (s : State) : State :=
  let r : Reply := { pen := k.call.pen, cls := k.call.cls, tag := k.call.tag, status := st, opcode := k.opcode, data := [] }
  let lost := if s.host.reject.isSome then s.host.rejectLost + 1 else s.host.rejectLost
  let s1 := { s with host := { s.host with reject := some r, rejectLost := lost } }
  s1.raise Ev.cmdReject (st.toNat * 2 ^ 16 + k.call.tag.toNat * 2 ^ 8 + k.call.pen.val)

/-- A packet queued with one credit of its pen (12 R282, R285). -/
def enqueue (k : Packet) (s : State) : State :=
  let k1 := { k with order := s.host.order }
  let s1 := s.updIo k.call.pen fun p => { p with free := p.free - 1, accepted := p.accepted + 1, queue := p.queue ++ [k1] }
  { s1 with host := { s1.host with order := s1.host.order + 1 } }

/-- The hardware's checks of a packet whose length and CRC are right (12 R282). -/
def admitPacket (k : Packet) (s : State) : State :=
  let p := k.call.pen
  if p = 3 && s.cfg.com.mgmtEn then reject k St.denied s
  else if (s.penSt p).state = .disabled then reject k St.denied s
  else if (s.penSt p).state = .resetting then reject k St.abandoned s
  else if (s.io p).free = 0 then
    (reject k St.noCredit s).updIo p (fun c => { c with noCredit := c.noCredit + 1 }) |>.raise Ev.noCredit p.val
  else enqueue k s

/-! ### Flock operands -/

/-- Whether every output of a flock belongs to the pen, or the pen is 0, or the flock is empty and the pen 0 (13 R304, R311). -/
def flockOwner (q : Call) (f : BitVec 16) (s : State) : Bool :=
  if f = 0 then decide (q.pen = 0) else s.ownsFlock q.pen f

/-- Rounds an amount to the flock granularity of 2,500 fs (00 R8, 05 R122). -/
def flockAmount (x : Fs) : Fs := roundStep x 2500

/-- A byte equals zero. -/
def zeros (p : List Byte) (o n : Nat) : Bool := ((p.drop o).take n).all fun b => b = 0

/-- A code below `n`. -/
def inRange (v lo hi : Nat) : Bool := lo ≤ v && v ≤ hi

/-- A signed value within bounds. -/
def inRangeI (v lo hi : Int) : Bool := lo ≤ v && v ≤ hi

end Sys2Proof.Machine
end

