-- ==== Sys2Proof/Machine/Refs.lean ====
section
/-! DEFINITION. References, their monitors and the selector (02, 03): samples, trips, qualification, the pass, and their opcodes. -/

namespace Sys2Proof.Machine

/-! ### Periods and samples -/

/-- The nominal undivided period as a fraction of fs (02 R34, R39). -/
def State.nomPeriod (s : State) (i : Nat) : Nat × Nat :=
  let c := s.refCfg i
  if i < 6 then (c.nomDen * secondFs, c.nomNum)
  else if i = 6 then (32000000, 1)
  else (beaconFolds s.cfg.com.period * foldFs, 1)

/-- Whether 1.5 nominal periods have passed at instant `t` since `last` (02 R39). An edge at the very expiry arrives first, as its row does. -/
def State.windowOver (s : State) (i last t : Nat) : Bool :=
  let p := s.nomPeriod i
  3 * p.1 ≤ 2 * p.2 * (t - last)

/-- What the monitors gather of a candidate, in the snapshot of the fold in hand, or in the next where it crosses too late (01 R31). -/
def State.gather (s : State) (i : Nat) (f : Meas → Meas) : State :=
  if s.crossesLate then s.updCand i fun c => { c with late := f c.late } else s.updCand i fun c => { c with meas := f c.meas }

/-- A candidate's activity, which the next snapshot shows as it was where the change crosses too late (01 R31). -/
def State.setActive (s : State) (i : Nat) (b : Bool) : State :=
  let late := s.crossesLate
  s.updCand i fun c => { c with active := b, wasActive := if late then c.wasActive.orElse fun _ => some c.active else c.wasActive }

/-- An edge restarts the activity window (02 R39). -/
def State.touch (s : State) (i t : Nat) : State := (s.setActive i true).updCand i fun c => { c with lastEdge := some t }

/-- The prediction of a sample at instant `t` (02 R44): the last accepted sample plus elapsed time by the latest rate. -/
def Cand.predict (c : Cand) (t : Nat) : Option Fs :=
  c.accepted.map fun a =>
    match c.rate with
    | some (d, dt) => a.2 + divNear (d * ((t : Int) - a.1)) dt
    | none => a.2

/-- A trip that the snapshot is to show. -/
def State.trip (s : State) (i k : Nat) : State := s.gather i fun m => { m with trips := m.trips ||| BitVec.ofNat 6 (2 ^ k) }

/-- An event of the candidate within its open gate: the precise monitor's first and last (02 R43). -/
def State.gateEvent (s : State) (i t : Nat) (v : Fs) : State :=
  s.updCand i fun c => { c with gate := c.gate.map fun g =>
    { g with first := g.first.orElse fun _ => some (t, v), last := some (t, v), periods := if g.first.isSome then g.periods + 1 else 0 } }

/-- An accepted sample becomes the newest unflagged one and the prediction's base; the rate is the change between the last two (02 R35, R44).
The change is taken modulo the divided period (log 26). -/
def State.acceptSample (s : State) (i t : Nat) (v : Fs) : State :=
  let c := s.cand i
  let rate := match c.accepted with
    | some (t0, v0) => if t0 < t then some (s.modPeriod i (v - v0), t - t0) else c.rate
    | none => none
  s.updCand i fun c => { c with accepted := some (t, v), rate := rate, sample := some (t, v), newSample := true }

/-- A phase sample is compared with the prediction as it is captured: beyond PJ_THR it is flagged and raises PHASE_JUMP, else it is
accepted (02 R44). The detail is the difference to the nearest ps (log 76). A jump spoils the second's observation (04 R97). -/
def State.sampleAt (s : State) (i t : Nat) (v : Fs) : State :=
  let c := s.cand i
  let g := s.refCfg i
  match (if g.en.getLsbD 2 then c.predict t else none) with
  | some p =>
    let d := s.modPeriod i (v - p)
    if g.pjThr < d.natAbs then ({ s.trip i 3 with mdl := { s.mdl with spoiled := true } }).raiseFrom (8 * i + 3) (detailSat (divNear d 1000))
    else s.acceptSample i t v
  | none => s.acceptSample i t v

/-! ### LOS and the freeze -/

/-- Whether the DPLL follows the bellwether: it steers unless it is free, in holdover or held (04 R80, R82). -/
def State.steering (s : State) : Bool := (s.lp.state = .acquire || s.lp.state = .locked) && !s.lp.held && !s.lp.frozen

/-- A freeze inside the fold, where the DPLL steers (01 R26). -/
def State.freezeIfSteering (s : State) : State := if s.steering then s.freezeInFold else s

/-- The activity window of candidate `i` expires: LOS with the nanoseconds of the last edge, a trip in the snapshot, and the freeze of a
bellwether (02 R39, R40, R55); the commons MAC learns of REFC's in its slot (10 R225). -/
def State.loseActivity (s : State) (i : Nat) : State :=
  let ns := ((s.cand i).lastEdge.map s.nsOf).getD 0
  let s1 := ((s.setActive i false).trip i 0).raiseFrom (8 * i) ns
  let s2 := if i = 7 then { s1 with com := { s1.com with lost := true } } else s1
  if s.sel.bell = some i then s2.freezeIfSteering else s2

/-! ### Qualification (02 R47) -/

/-- Device seconds of a precise gate (02 R43). -/
def State.gateSeconds (s : State) (i : Nat) : Nat :=
  let p := s.divPeriod i
  max 1 (ceilDiv (2 * p.1) (p.2 * secondFs))

/-- A candidate in MODE OFF, which never qualifies (02 R36). -/
def State.refOff (s : State) (i : Nat) : Bool := i < 6 && (s.refCfg i).mode = 3

/-- Whether the qualification conditions hold. -/
def State.qualifies (s : State) (i : Nat) : Bool :=
  let c := s.cand i
  let g := s.refCfg i
  !s.refOff i && c.timing && !c.qualified && qualFolds g ≤ c.timer && (!(g.en.getLsbD 1 && g.dq.getLsbD 1) || c.precClean)

/-- Qualification, where its conditions hold (02 R47). -/
def State.qualify (s : State) (i : Nat) : State :=
  if s.qualifies i then
    (s.updCand i fun c => { c with qualified := true, dqCause := 0 }).raise (8 * i + 4) (s.refCfg i).qualT
  else s

/-! ### The reference-monitor slot -/

/-- The offset against XO, as the model corrects it, of what took `dev` fs of device time where its nominal is the fraction `ref` of fs (02 R41): device
time runs the word in force above XO, and the loop term that the model gives cancels XO's own offset (log 75). -/
def State.xoOffset (s : State) (ref : Int × Nat) (dev : Nat) (word model : Fu) : Fu :=
  let known : Fu := if s.mdl.valid then model else 0
  if dev = 0 then 0
  else satFu (divNear (ref.1 * 1000000000000000 * (1000000000000000 + word)) (ref.2 * dev * (1000000000000000 + known).toNat) - 1000000000000000)

/-- The offset that two divided edges of the latched fold, `n` periods apart, show (02 R42). -/
def State.edgeOffset (s : State) (i a b n : Nat) (model : Fu) : Fu :=
  let p := s.divPeriod i
  s.xoOffset ((n * p.1 : Nat), p.2) (b - a) s.lp.dcoWas model

/-- The offset that a gate's first and last events show (02 R43): divided edges by their number, markers and beacons by the change of their phase samples;
the word is the mean of the words in force in the gate. -/
def State.gateOffset (s : State) (i : Nat) (g : Gate) (model : Fu) : Option Fu :=
  match g.first, g.last with
  | some a, some b =>
    if b.1 ≤ a.1 then none
    else
      let p := s.divPeriod i
      let ref : Int × Nat := if i < 6 then ((g.periods * p.1 : Nat), p.2) else ((b.1 : Int) - a.1 - s.modPeriod i (b.2 - a.2), 1)
      some (s.xoOffset ref (b.1 - a.1) (divNear (s.lp.wordSum - g.words) (8000 * g.seconds)) model)
  | _, _ => none

/-- A gate that begins at the present boundary (02 R43). -/
def State.newGate (s : State) (i : Nat) : Gate := { start := s.foldStart, seconds := s.gateSeconds i, words := s.lp.wordSum }

/-- A device-second boundary (02 R43): a gate whose length has run ends with what it measured and the next begins; a candidate without one begins one. -/
def State.gateBoundary (s : State) (model : Fu) : State :=
  if s.clk.inSec ≠ 0 then s
  else forEach (List.range 8) (fun i s =>
    match (s.cand i).gate with
    | none => s.updCand i fun c => { c with gate := some (s.newGate i) }
    | some g =>
      if s.foldStart < g.start + g.seconds * secondFs then s
      else s.updCand i fun c => { c with gate := some (s.newGate i), gateEnd := some { start := g.start, offset := s.gateOffset i g model } }) s

/-- Direction of an offset beyond a threshold. -/
def beyond (x thr : Fu) : Int := if thr < x then 1 else if thr < -x then -1 else 0

/-- FREQ_HI or FREQ_LO (02 R43, R55): `mon` 0 fast, 1 precise; the magnitude to the nearest ppb (DESIGN CHOICE, log 76). -/
def State.freqEvent (s : State) (i mon : Nat) (x : Fu) (dir : Int) : State :=
  if dir = 0 then s
  else s.raise (8 * i + (if 0 < dir then 1 else 2)) (mon * 2 ^ 31 + min (2 ^ 31 - 1) (divNear x.natAbs 1000000).toNat)

/-- Whether the fast monitor of a candidate runs: enabled, and at least 16 kHz divided (02 R42). -/
def State.fastRuns (s : State) (i : Nat) : Bool :=
  let g := s.refCfg i
  i < 6 && g.en.getLsbD 0 && g.mode ≠ 3 && decide (16000 * (g.nomDen * g.div) ≤ g.nomNum)

/-- The fast monitor over the latched fold (02 R42). -/
def State.fastMonitor (s : State) (i : Nat) (model : Fu) : State :=
  let c := s.cand i
  if !s.fastRuns i then s.updCand i fun c => { c with fastDir := 0 }
  else match c.latched.first, c.latched.last with
    | some a, some b =>
      if c.latched.edges < 2 then s
      else
        let x := s.edgeOffset i a b (c.latched.edges - 1) model
        let dir := beyond x (s.refCfg i).fastThr
        let s1 := s.updCand i fun c =>
          { c with fastDir := dir, latched := { c.latched with trips := if dir = 0 then c.latched.trips else c.latched.trips ||| 2 } }
        s1.freqEvent i 0 x dir
    | _, _ => s

/-- RUNT once for a fold whose snapshot shows one (02 R46, R55), its width cut down to whole ps (DESIGN CHOICE, log 76). -/
def State.runtMonitor (s : State) (i : Nat) : State :=
  let c := s.cand i
  if 6 < i || c.latched.runts = 0 || !(s.refCfg i).en.getLsbD 3 then s
  else
    let d := if i = 6 then c.latched.runts else (c.latched.narrowest.getD 0) / 1000
    (s.updCand i fun c => { c with latched := { c.latched with trips := c.latched.trips ||| 16 } }).raise (8 * i + 7) (min (2 ^ 32 - 1) d)

/-- The causes that disqualify: LOS, the trips whose DQ bit is set, and CONFIG (02 R48, R50). -/
def State.dqTrips (s : State) (i : Nat) : BitVec 6 :=
  let c := s.cand i
  let dq := BitVec.ofNat 6 (1 + 2 * (s.refCfg i).dq.toNat)
  (c.latched.trips &&& dq) ||| (if c.configDq then 0x20 else 0)

/-- A disqualification: no grace, the timer at zero, the prediction restarted, one event with every cause (02 R44, R48, R56), and the freeze of a
bellwether that a FAST, PREC, PJ or RUNT trip disqualifies (02 R49). -/
def State.disqualify (s : State) (i : Nat) (causes : BitVec 6) : State :=
  let s1 := s.updCand i fun c =>
    { c with
      qualified := false
      dqCause := (if c.qualified then 0 else c.dqCause) ||| causes
      timer := 0
      timing := false
      precClean := false
      accepted := none
      rate := none
      configDq := false }
  let s2 := s1.raise (8 * i + 5) causes.toNat
  if s.sel.bell = some i && (causes &&& 0x1E) ≠ 0 then s2.freezeIfSteering else s2

/-- The qualification timer starts at the first fold whose snapshot shows activity (02 R47). -/
def State.qualTimer (s : State) (i : Nat) : State :=
  let c := s.cand i
  if !s.refOff i && !c.timing && c.latched.activity then
    s.updCand i fun c => { c with timing := true, timer := 0, timerFrom := s.clk.absFold.toNat, precClean := false }
  else s

/-- One candidate in the reference-monitor slot. -/
def State.judge (s : State) (model : Fu) (i : Nat) : State :=
  let s1 := (s.fastMonitor i model).runtMonitor i
  let causes := s1.dqTrips i
  let s2 := if causes ≠ 0 then s1.disqualify i causes else (s1.qualTimer i).qualify i
  s2.updCand i fun c => { c with latched := { c.latched with trips := 0, runts := 0, edges := 0 } }

/-! ### The selector (03) -/

/-- The better of a candidate and the best so far, by strict comparison (03 R61). -/
def State.better (s : State) (best : Option Nat) (i : Nat) : Option Nat :=
  if !s.eligible i then best
  else match best with
    | none => some i
    | some b =>
      if s.egrade i < s.egrade b then some i
      else if s.egrade i = s.egrade b && (s.refCfg i).prio < (s.refCfg b).prio then some i
      else best

/-- What R61 chooses. -/
def State.rank (s : State) : Option Nat :=
  let best := (List.range 8).foldl s.better none
  match s.sel.bell, best with
  | some b, some x =>
    if s.eligible b && s.egrade b = s.egrade x && (s.refCfg b).prio = (s.refCfg x).prio then some b else best
  | _, _ => best

/-- Why an automatic pass changed (03 R72). Where two causes hold at once the first of force cleared, bellwether disqualified, grade 15, better candidate is
shown (DESIGN CHOICE, log 77). -/
def State.autoCause (s : State) : Nat :=
  match s.sel.state with
  | .forced => 5
  | .forcedInvalid => 5
  | .none => 6
  | .auto =>
    match s.sel.bell with
    | some b => if !(s.cand b).qualified then 1 else if s.egrade b = 15 then 2 else 3
    | none => 6

/-- One pass (03 R60–R66). A FORCE sent again for the candidate that stands forced in FORCED_INVALID is not told from the standing one: its cause, once the
candidate is eligible, is 8 (DESIGN CHOICE, log 77). -/
def State.pass (s : State) : PassResult :=
  let best := s.rank
  match s.sel.force with
  | none =>
    { bell := best, state := if best.isSome then .auto else .none, force := none, shadow := best, cause := s.autoCause }
  | some f =>
    if s.eligible f then
      { bell := some f, state := .forced, force := some f, shadow := best
        cause := if s.sel.state = .forcedInvalid && s.sel.usedForce = some f then 8 else 4 }
    else { bell := none, state := .forcedInvalid, force := some f, shadow := best, cause := 7 }

/-! ### Events of the references -/

/-- A gate of the precise monitor has ended with the offset it measured (02 R43): reported in steps of 0.01 ppm, and a trip beyond PREC_THR; a gate without
one that began within the running timer counts for R47. A gate that ends while the candidate is inactive, or saw fewer than two events, reports nothing and
keeps what the last one reported (DESIGN CHOICE, log 76). While the schedule is suspended the report waits (01 R32). -/
def execPreciseGateEnd (i : Fin 8) (_ : Computed) (t : Nat) (s : State) : Host.Outcome State Fault Refusal :=
  let s0 := s.setNow t
  let s1 := s0.updCand i fun c => { c with gateEnd := none }
  .next (s0.ifScheduled fun s0 => match (s0.cand i).gateEnd with
    | some { start := start, offset := some offset } =>
      let g := s0.refCfg i
      if !g.en.getLsbD 1 || !(s0.cand i).active then s1
      else
        let x := satFu (roundStep offset 10000000)
        let dir := beyond x g.precThr
        let s2 := s1.updCand i fun c =>
          { c with
            precOffset := x
            precDir := dir
            precClean := c.precClean || (decide (dir = 0) && c.timing && foldAt c.timerFrom ≤ start) }
        (if dir = 0 then s2 else s2.trip i 2).freqEvent i 1 x dir
    | _ => s1)

/-- No result within 1 s of the arming boundary (02 R59). -/
def execTdcIntervalTimeout (p : Pen) (s : State) : Host.Outcome State Fault Refusal :=
  .next { s with tdc := s.tdc.upd p fun m =>
    if m.armed && m.armFold + 8000 ≤ s.clk.absFold.toNat then
      { m with armed := false, done := true, timeout := true, result := 0 }
    else m }

/-! ### Opcodes of 13 R310 and R311 -/

/-- REF_INPUT group (13 R310). -/
def State.refInputGroup (s : State) (i : Nat) : List Byte :=
  let c := s.refCfg i
  le 1 i ++ le 1 c.mode ++ le 1 (b2n c.term + 2 * b2n c.falling) ++ le 1 0 ++ le 4 c.nomNum ++ le 4 c.nomDen ++ le 4 c.div ++
    le 2 c.deglitch ++ le 2 0

/-- REF_MON group (13 R310). -/
def State.refMonGroup (s : State) (i : Nat) : List Byte :=
  let c := s.refCfg i
  le 1 i ++ le 1 c.en.toNat ++ le 1 c.dq.toNat ++ le 1 0 ++ leI 8 c.pjThr ++ leI 8 c.runtMin ++ leI 6 c.fastThr ++
    leI 6 c.precThr ++ le 2 c.qualT ++ le 2 0

/-- REF_RANK group (13 R310). -/
def State.refRankGroup (s : State) (i : Nat) : List Byte :=
  let c := s.refCfg i
  le 1 i ++ le 1 c.prio ++ (if i < 6 then le 1 c.grade ++ le 1 255 else le 1 255 ++ le 1 c.grade)

/-- PJ_THR below half the divided period `num / den` (02 R45). -/
def pjFits (pj : Fs) (num den : Nat) : Bool := decide (2 * pj * den < num)

/-- The settings that a REF_INPUT packet writes. -/
def setRefInput (p : List Byte) (c : Settings) : Settings :=
  { c with refs := c.refs.upd (fld p 0 1) fun r =>
      { r with
        mode := fld p 1 1
        term := bit (fld p 2 1) 0
        falling := bit (fld p 2 1) 1
        nomNum := fld p 4 4
        nomDen := fld p 8 4
        div := fld p 12 4
        deglitch := fld p 16 2 } }

/-- The settings that a REF_MON packet writes, in the steps of R38 (00 R8). -/
def setRefMon (p : List Byte) (c : Settings) : Settings :=
  { c with refs := c.refs.upd (fld p 0 1) fun r =>
      { r with
        en := BitVec.ofNat 4 (fld p 1 1)
        dq := BitVec.ofNat 4 (fld p 2 1)
        pjThr := roundStep (fldI p 4 8) 1000
        runtMin := roundStep (fldI p 12 8) 1000
        fastThr := roundStep (fldI p 20 6) 1000000000
        precThr := roundStep (fldI p 26 6) 10000000
        qualT := fld p 32 2 } }

/-- The settings as they stand when a command is interpreted: the committed ones with the reference writes staged earlier in the fold. -/
def State.stagedRefs (s : State) : State :=
  { s with cfg := s.host.staged.foldl (fun c g =>
      if !g.commit then c
      else if g.opcode = 0x1010 then setRefInput g.call.params c
      else if g.opcode = 0x1012 then setRefMon g.call.params c
      else c) s.cfg }

/-- The checks of REF_INPUT (02 R34–R37, R45; 13 R310). -/
def checkRefInput (q : Call) (s : State) : Serve :=
  let p := q.params
  let i := fld p 0 1
  let mode := fld p 1 1
  let fl := fld p 2 1
  let num := fld p 4 4
  let den := fld p 8 4
  let div := fld p 12 4
  let dg := fld p 16 2
  checks [
    (p.length = 20, St.badLength),
    (i < 6, St.badParam),
    (s.owns q.pen (0x10 + i), St.denied),
    (if i < 4 then mode ≤ 3 else mode = 3 || mode = 4, St.badParam),
    (fl < 4 && (fl % 2 = 0 || mode ≤ 1), St.badParam),
    (zeros p 3 1 && zeros p 18 2, St.badParam),
    (1 ≤ den && (if i < 4 then den ≤ num && num ≤ 800000000 * den else den ≤ 10 * num && num ≤ 50000000 * den), St.badParam),
    (1 ≤ div && num ≤ 2000000 * den * div, St.badParam),
    (if i < 4 then dg = 0 else dg ≤ 1000, St.badParam),
    (pjFits (s.stagedRefs.refCfg i).pjThr (div * den * secondFs) num, St.badParam)]
    (Serve.group 0x1011 (p.take 1))

/-- A snapshot without its edges, which the old settings divided. -/
def Meas.noEdges (m : Meas) : Meas := { m with first := none, last := none, edges := 0 }

/-- A CONFIG disqualification at a boundary (02 R50): qualification lost at once, the event in the fold's reference-monitor slot. -/
def State.configChange (s : State) (i : Nat) : State :=
  s.updCand i fun c =>
    { c with
      qualified := false
      dqCause := (if c.qualified then 0 else c.dqCause) ||| 0x20
      configDq := true
      configNext := false
      latched := c.latched.noEdges
      late := c.late.noEdges
      inGlitch := false
      gate := none
      gateEnd := none
      timer := 0
      timing := false
      precClean := false
      accepted := none
      rate := none }

/-- The CONFIG disqualifications of REFD and REFC that frames of the elapsed fold brought (10 R236, 11 R259). -/
def State.configFrames (s : State) : State :=
  forEach [6, 7] (fun i s => if (s.cand i).configNext then s.configChange i else s) s

/-- REF_INPUT committed; the boundary then judges what its commits changed (02 R50). The divider's count goes on over a change of DIV or MODE (DESIGN
CHOICE, log 4). -/
def commitRefInput (q : Call) (s : State) : State := { s with cfg := setRefInput q.params s.cfg }

/-- What R50 names of a candidate's settings. A nominal frequency is compared as the two numbers that write it, so the same ratio in other numbers is a change
(DESIGN CHOICE, log 99). -/
def RefCfg.input (c : RefCfg) : Nat × Bool × Bool × Nat × Nat × Nat × Nat := (c.mode, c.term, c.falling, c.nomNum, c.nomDen, c.div, c.deglitch)

/-- The net change that a boundary's commits made to what R50 names disqualifies with cause CONFIG (02 R50, 01 R21): REFC's nominal is the beacon period
(02 R34). -/
def State.inputChanges (s : State) (old : Settings) : State :=
  let s1 := forEach (List.range 6) (fun i s => if (s.refCfg i).input = (old.refs.getD i {}).input then s else s.configChange i) s
  if s1.cfg.com.period = old.com.period then s1 else s1.configChange 7

/-- The checks of REF_MON (02 R38, R45; 13 R310). -/
def checkRefMon (q : Call) (s : State) : Serve :=
  let p := q.params
  let i := fld p 0 1
  let pj := fldI p 4 8
  let rm := fldI p 12 8
  let d := s.stagedRefs.divPeriod i
  checks [
    (p.length = 36, St.badLength),
    (i < 8, St.badParam),
    (s.owns q.pen (0x10 + i), St.denied),
    (fld p 1 1 < 16 && fld p 2 1 < 16 && zeros p 3 1 && zeros p 34 2, St.badParam),
    (inRangeI pj 100000 1000000000000 && pjFits (roundStep pj 1000) d.1 d.2, St.badParam),
    (rm = 0 || (i < 6 && inRangeI rm 100000 1000000000000000), St.badParam),
    (inRangeI (fldI p 20 6) 50000000000 10000000000000, St.badParam),
    (inRangeI (fldI p 26 6) 10000000 50000000000, St.badParam),
    (inRange (fld p 32 2) 1 10000, St.badParam)]
    (Serve.group 0x1013 (p.take 1))

/-- REF_MON committed. -/
def commitRefMon (q : Call) (s : State) : State := { s with cfg := setRefMon q.params s.cfg }

/-- The checks of REF_RANK (02 R52; 13 R310). -/
def checkRefRank (q : Call) (s : State) : Serve :=
  let p := q.params
  let i := fld p 0 1
  checks [
    (p.length = 4, St.badLength),
    (i < 8, St.badParam),
    (s.owns q.pen (0x10 + i), St.denied),
    (fld p 1 1 < 16, St.badParam),
    (if i < 6 then fld p 2 1 < 16 && fld p 3 1 = 255 else fld p 2 1 = 255 && fld p 3 1 < 16, St.badParam)]
    (Serve.group 0x1015 (p.take 1))

/-- REF_RANK committed; the boundary then raises GRADE_CHANGE where the effective grade has changed (02 R53). -/
def commitRefRank (q : Call) (s : State) : State :=
  let p := q.params
  let i := fld p 0 1
  s.updRefCfg i fun c => { c with prio := fld p 1 1, grade := fld p (if i < 6 then 2 else 3) 1 }

/-- A group read with one index byte (13 R302): length, range, then the group. -/
def checkIndexRead (op : BitVec 16) (n : Nat) (q : Call) : Serve :=
  checks [(q.params.length = 1, St.badLength), (fld q.params 0 1 < n, St.badParam)] (Serve.read op q.params)

/-- A read with no parameters. -/
def checkPlainRead (op : BitVec 16) (q : Call) : Serve :=
  checks [(q.params.length = 0, St.badLength)] (Serve.read op [])

/-- REF_STATUS (02 R54; 13 R310). -/
def State.refStatusBytes (s : State) : List Byte :=
  ((List.range 8).map fun i => le 4 (s.refWord i)).flatten ++ ((List.range 8).map fun i => leI 6 (s.cand i).precOffset).flatten ++
    le 4 (s.cand 4).deglitched.toNat ++ le 4 (s.cand 5).deglitched.toNat

/-- The checks of TDC_ARM (13 R310). -/
def checkTdcArm (q : Call) (_s : State) : Serve :=
  checks [(q.params.length = 2, St.badLength), (fld q.params 0 1 < 8 && fld q.params 1 1 < 8, St.badParam)] Serve.stage

/-- Arming at a boundary replaces the pen's measurement (02 R58, R59). -/
def commitTdcArm (q : Call) (s : State) : State :=
  { s with tdc := s.tdc.upd q.pen fun _ =>
      { start := fld q.params 0 1, stop := fld q.params 1 1, armed := true, armFold := s.clk.absFold.toNat } }

/-- TDC_RESULT (13 R310). -/
def State.tdcBytes (s : State) (p : Nat) : List Byte :=
  let m := s.tdc.getD p {}
  le 1 (b2n m.done + 2 * b2n m.subres + 4 * b2n m.timeout + 8 * b2n m.armed) ++ le 7 0 ++ leI 8 m.result

/-- TDC_RESULT reads the slot of the pen that asks. -/
def checkTdcResult (q : Call) (_s : State) : Serve :=
  checks [(q.params.length = 0, St.badLength)] (Serve.read 0x1032 (le 1 q.pen.val))

/-- The force as it stands when a FORCE is interpreted (03 R68): the committed one as replaced by those staged earlier in the fold. -/
def State.standingForce (s : State) : Option Nat :=
  s.host.staged.foldl (fun f g =>
    if g.opcode = 0x2010 && g.commit then (if fld g.call.params 0 1 = 255 then none else some (fld g.call.params 0 1)) else f) s.sel.force

/-- The checks of FORCE (03 R68; 13 R311). -/
def checkForce (q : Call) (s : State) : Serve :=
  let p := q.params
  let i := fld p 0 1
  let may := if i = 255 then (match s.standingForce with | some f => s.owns q.pen (0x10 + f) | none => true) else s.owns q.pen (0x10 + i)
  checks [(p.length = 1, St.badLength), (i < 8 || i = 255, St.badParam), (may, St.denied)] Serve.stage

/-- A force or its clearing committed (03 R69). -/
def commitForce (q : Call) (s : State) : State :=
  let i := fld q.params 0 1
  { s with sel := { s.sel with force := if i = 255 then none else some i } }

/-- The status of a FORCE at its boundary (03 R69), judged after that boundary's commits (DESIGN CHOICE, log 77). -/
def State.forceStatus (s : State) (q : Call) : BitVec 16 :=
  let i := fld q.params 0 1
  if i = 255 || s.eligible i then St.ok else St.forcedInvalid

/-- SEL_STATUS (03 R72, R73; 13 R311). -/
def State.selStatusBytes (s : State) : List Byte := le 4 s.selWord ++ le 4 s.sel.switches.toNat

end Sys2Proof.Machine
end

