-- ==== Sys2Proof/Machine/Loops.lean ====
section
/-! DEFINITION. The DPLL, temperature, the holdover model and uncertainty (04): the update slot, the boundary's change of state, the APLL and the
loop opcodes. -/

namespace Sys2Proof.Machine

/-! ### Temperature (04 R92, R93) -/

/-- Open above 98 % of the reference and short below 2 % (20 R456), of a 16-bit conversion. -/
def tsJudge (code : Nat) : TsFault :=
  if 98 * 65536 < code * 100 then .openFault else if code * 100 < 2 * 65536 then .short else .none

def TsFault.code : TsFault → Nat
  | .none => 0
  | .openFault => 1
  | .short => 2

/-- ln(a / b) in units of 2^-48, of either sign. -/
def lnRatio (a b : Nat) : Int := if b ≤ a then (lnFix a b : Int) else -(lnFix b a : Int)

/-- Temperature in 0.01 °C of a thermistor reading (04 R92, 20 R456): the code is the thermistor's share of the reference with 10.0 kΩ above it, and NTC_RES25
and NTC_BETA give 1/T = 1/298.15 K + ln(R / RES25) / BETA (log 78). Settings that put the reading beyond ±327 °C give that bound. -/
def ntcTemp (res25 beta code : Nat) : Int :=
  let l := lnRatio (10000 * code) (res25 * (65536 - code))
  let den := beta * 100 * 2 ^ 48 + 29815 * l
  if den ≤ 0 then 32767 else clampI (-32768) 32767 (divNear (29815 * beta * 100 * 2 ^ 48) den.toNat - 27315)

/-- The TSENSE conversion of a fold, made only while TSRC uses TSENSE: a fault raises TSENSE_FAULT as it begins or changes (04 R92). -/
def State.convertTsense (s : State) (code : Nat) : State :=
  if s.cfg.lp.tsrc = 0 then { s with lp := { s.lp with tsense := none, tsFault := .none } }
  else
    let f := tsJudge code
    if f = .none then
      let x := ntcTemp s.cfg.lp.ntcRes s.cfg.lp.ntcBeta code
      let o := s.lp.tsOffset.getD (0, 0)
      { s with lp := { s.lp with tsense := some x, tsLast := some x, tsFault := .none, tsOffset := some (o.1 + x - s.lp.onDie, o.2 + 1) } }
    else
      let s1 := { s with lp := { s.lp with tsense := none, tsFault := f } }
      s1.raiseIf (s.lp.tsFault ≠ f) Ev.tsenseFault f.code

/-- The learned mean TSENSE-minus-on-die offset, in 0.01 °C (04 R92). -/
def LoopSt.meanOffset (l : LoopSt) : Option Int := l.tsOffset.map fun o => divNear o.1 o.2

/-- The temperature in use, whether it is valid, and TFALLBACK (04 R92). -/
def State.tempInUse (s : State) : Int × Bool × Bool :=
  match s.cfg.lp.tsrc, s.lp.tsense with
  | 0, _ => (s.lp.onDie, true, false)
  | _, some x => (x, true, false)
  | 1, none =>
    match s.lp.tsLast with
    | some x => (x, false, false)
    | none => (s.lp.onDie, false, true)
  | _, none => (s.lp.onDie + s.lp.meanOffset.getD 0, s.lp.meanOffset.isSome, true)

/-- T_eff in units of 0.01 °C. -/
def LoopSt.teffCenti (l : LoopSt) : Int := divNear l.teff 10000000000

/-- Temperature of the fold and T_eff (04 R92, R93): the first fold after a reset takes the temperature directly. -/
def State.takeTemp (s : State) (onDie : Int) (code : Nat) : State :=
  let s1 := ({ s with lp := { s.lp with onDie := onDie } }).convertTsense code
  let u := s1.tempInUse
  let t := u.1 * 10000000000
  let lag := s1.cfg.lp.thermLag * 800
  let teff := if !s1.lp.teffSet || lag = 0 then t else s1.lp.teff + divNear (t - s1.lp.teff) lag
  { s1 with lp := { s1.lp with teff := teff, teffSet := true, tempValid := u.2.1, tfallback := u.2.2 } }

/-! ### The holdover model (04 R94–R96) -/

/-- The learned span reaches `n` hundredths of a kelvin (04 R95). -/
def Model.spans (m : Model) (n : Int) : Bool := match m.span with
  | some p => n ≤ p.2 - p.1
  | none => false

/-- The model's prediction (04 R94), a coefficient contributing once its threshold is reached (04 R95). -/
def Model.predict (m : Model) (teff : Int) : Fu :=
  let d := teff - 25000000000000
  let age := m.oscAge.toNat
  let t1 := if m.spans 200 then divNear (m.c1 * d) (10 ^ 12) else 0
  let t2 := if m.spans 500 then divNear (m.c2 * d * d) (10 ^ 24) else 0
  let t3 := if m.spans 1000 then divNear (m.c3 * d * d * d) (10 ^ 36) else 0
  let al := if 604800 ≤ age then divNear (m.aLog * lnFix (86400 + age) 86400) (2 ^ 48) else 0
  let ai := if 7776000 ≤ age then divNear (m.aLin * age) 31536000 else 0
  satFu (m.f0 + t1 + t2 + t3 + al + ai)

/-- The model's present prediction. -/
def State.model (s : State) : Fu := s.mdl.predict s.lp.teff

/-- A span that has been emptied shows no EXTRAP (04 R101). -/
def State.trimExtrap (s : State) : State := if s.mdl.span.isNone then { s with lp := { s.lp with extrap := false } } else s

/-- Mean of a list, rounded. -/
def meanI (l : List Int) : Int := if l.isEmpty then 0 else divNear l.sum l.length

/-- The loop term's target in HOLDOVER (04 R80, R96). -/
def State.holdTarget (s : State) : Fu :=
  if s.mdl.valid then s.model else if s.lp.lockedLoops.isEmpty then s.lp.heldLoop else meanI s.lp.lockedLoops

/-- EXTRAP (04 R101): T_eff more than 2 K outside a learned span that is not empty. -/
def State.outsideSpan (s : State) : Bool := match s.mdl.span with
  | some p => s.lp.teff < (p.1 - 200) * 10000000000 || (p.2 + 200) * 10000000000 < s.lp.teff
  | none => false

/-- EXTRAP and MODEL_EXTRAP (04 R101). -/
def State.judgeSpan (s : State) : State :=
  let x := s.outsideSpan
  ({ s with lp := { s.lp with extrap := x } }).raiseIf (x && !s.lp.extrap) Ev.modelExtrap (detailI s.lp.teffCenti)

/-! ### Bandwidth (04 R85–R90) -/

/-- Folds of 5 τ at a stage bandwidth of `b / 2 ^ k` in 0.1 mHz, rounded up (04 R87; 2π to 22 figures). -/
def stageFolds (b k : Nat) : Nat := ceilDiv (400000000 * 2 ^ k * 10 ^ 21) (b * 6283185307179586476925)

/-- The auto bandwidth has reached TRACK_BW. -/
def State.atTrack (s : State) : Bool := s.lp.stageBw ≤ s.cfg.lp.trackBw * 2 ^ s.lp.stageK

/-- A stage begins at a bandwidth. -/
def LoopSt.stage (l : LoopSt) (b k : Nat) : LoopSt := { l with stageBw := b, stageK := k, stageLeft := stageFolds b k }

/-- The end of a stage, where its folds have run out: the bandwidth halves, the last stage ending at TRACK_BW exactly (04 R87). -/
def State.endStage (s : State) : State :=
  if s.lp.stageLeft ≠ 0 || s.atTrack then s
  else if s.lp.stageBw ≤ s.cfg.lp.trackBw * 2 ^ (s.lp.stageK + 1) then
    { s with lp := { s.lp with stageBw := s.cfg.lp.trackBw, stageK := 0, stageLeft := 0, cleanFolds := if s.cfg.lp.auto then 0 else s.lp.cleanFolds } }
  else { s with lp := s.lp.stage s.lp.stageBw (s.lp.stageK + 1) }

/-- The bandwidth asked for, as a fraction of 0.1 mHz: the host's or the auto loop's (04 R86, R87). -/
def State.bwAsked (s : State) : Nat × Nat :=
  if s.cfg.lp.auto then (s.lp.stageBw, 2 ^ s.lp.stageK) else (s.cfg.lp.bw, 1)

/-- The bounds of R85 with their codes: 400 Hz, a twentieth of the divided rate, 10 mHz for REFC. -/
def State.bwBounds (s : State) : List (Nat × Nat × Nat) :=
  match s.sel.bell with
  | none => [(4000000, 1, 0)]
  | some b =>
    let p := s.divPeriod b
    [(4000000, 1, 0), (500 * secondFs * p.2, p.1, 1)] ++ (if b = 7 then [(100, 1, 2)] else [])

/-- The effective bandwidth and the bound that decides it, if one does (04 R85). -/
def State.bwDecide (s : State) : (Nat × Nat) × Option Nat :=
  s.bwBounds.foldl (fun a b => if b.1 * a.1.2 < a.1.1 * b.2.1 then ((b.1, b.2.1), some b.2.2) else a) (s.bwAsked, none)

/-- A fraction of 0.1 mHz as the replies carry it. -/
def bwUnits (f : Nat × Nat) : Nat := (divNear f.1 f.2).toNat

/-- LOCKED is entered once the bandwidth is narrow and LOCK_T is clean (04 R88). -/
def State.checkLock (s : State) : State :=
  if s.lp.state = .acquire && !s.lp.frozen && (!s.cfg.lp.auto || s.atTrack) && s.cfg.lp.lockT * 800 ≤ s.lp.cleanFolds then
    { s with lp := { s.lp with nextState := some .locked } }
  else s

/-- 64 samples outside ±4 × LOCK_THR in a row return LOCKED to ACQUIRE (04 R89). -/
def State.checkLoss (s : State) : State :=
  if s.lp.state = .locked && !s.lp.frozen && 64 ≤ s.lp.outside then { s with lp := { s.lp with nextState := some .acquire } } else s

/-! ### The DPLL update slot (04 R84) -/

/-- Remainders of the open SWITCH and HOLDOVER_EXIT entries (04 R84). -/
def Tally.openRemainders (t : Tally) : Fs := (t.openSwitches.map (·.remaining)).sum

/-- The lead of R84 at a sample, less the open remainders, modulo the divided period (02 R35). -/
def State.phaseError (s : State) (b : Nat) (v : Fs) : Fs :=
  s.modPeriod b (satFs (s.tally.steer - v - s.tally.openRemainders))

/-- The bellwether's sample that may steer in this slot: its instant and value (04 R84). -/
def State.steerSample (s : State) : Option (Nat × Fs) :=
  if s.lp.held || s.lp.unmeasured.isSome then none
  else match s.sel.bell with
    | none => none
    | some b =>
      let c := s.cand b
      if !c.newSample then none
      else match c.sample with
        | some p => if s.lp.steerFrom ≤ p.1 then some p else none
        | none => none

/-- Device entries in the order of R113: slot 0, slot 1, then by sequence number. -/
def Tally.deviceQueue (t : Tally) : List Entry :=
  let d := t.entries.filter fun e => e.isOpen && e.isDevice
  d.filter (·.slot = 0) ++ d.filter (·.slot = 1) ++ d.filter fun e => 2 ≤ e.slot

/-- The device entry that pays in this fold: the first of its order that is APPLYING or ready (05 R113); one created in this fold waits. -/
def Tally.payingDevice (t : Tally) : Option Entry := t.deviceQueue.find? fun e => e.status = .applying

/-- What the head pays in one fold (05 R106, R113). -/
def State.devicePayout (s : State) : Option (Entry × Fs) :=
  s.tally.payingDevice.map fun e =>
    let m := slewFold s.cfg.stile.slew
    (e, clampI (-m) m e.remaining)

/-- The DCO word of three terms (04 R76): saturated at ±500 ppm, the cut taken from the payout in whole fs (05 R114), then the SSCT term, then
the loop term. -/
def makeDco (loop : Fu) (pay : Option (Entry × Fs)) (ssct : Fu) : Dco :=
  let p := (pay.map fun x => 8000 * x.2).getD 0
  let raw := loop + p + ssct
  let total := clampI (-500000000000) 500000000000 raw
  let cut := raw - total
  let cp := clampI (min 0 p) (max 0 p) cut
  let cs := clampI (min 0 ssct) (max 0 ssct) (cut - cp)
  { total := total
    loop := loop - (cut - cp - cs)
    payout := (p - cp).tdiv 8000 * 8000
    ssct := ssct - cs
    paySeq := pay.map (·.1.seq) }

/-- The word staged, with DCO_LIMIT where it saturates (04 R76). -/
def State.stageWord (s : State) : State :=
  let pay := s.devicePayout
  let raw := s.lp.loop + (pay.map fun x => 8000 * x.2).getD 0 + s.lp.ssctTerm
  let d := makeDco s.lp.loop pay s.lp.ssctTerm
  let s1 := { s with lp := { s.lp with staged := some d } }
  if raw = d.total then s1
  else ({ s1 with mdl := { s1.mdl with spoiled := true } }).raise Ev.dcoLimit (if raw < 0 then 2 ^ 31 else 0)

/-- The loop term moves towards a target at the rate limit (04 R78, R84). -/
def State.moveLoop (s : State) (target : Fu) : Fu :=
  let m := s.cfg.lp.freqRate / 8000
  satFu (s.lp.loop + clampI (-m) m (target - s.lp.loop))

/-- For each DAMP code, twice the damping factor in tenths, and 2π / r in units of 10^-20, where r is the ratio of the −3 dB bandwidth of the second-order
closed loop to its natural frequency, r² = 1 + 2ζ² + √((1 + 2ζ²)² + 1) (04 R85; log 79). -/
def dampOf (damp : Nat) : Nat × Nat :=
  [(14, 306653861076995964886), (20, 253109961004802808904), (40, 147868780087750669162), (100, 62209815592207491141)].getD damp (20, 253109961004802808904)

/-- What R85's bandwidth loses to sampling, in tenths for each DAMP code: per bandwidth times the interval of samples, and per bandwidth times the fold that
passes before a word acts. With the working bandwidth so divided, the −3 dB point of the sampled loop lies within a few percent of the set value (20 R455; log 79). -/
def samplingOf (damp : Nat) : Nat × Nat := [(26, 44), (30, 54), (33, 66), (34, 71)].getD damp (30, 54)

/-- The interval between candidate `b`'s samples: its divided period, and at least a fold. -/
def State.sampleFs (s : State) (b : Nat) : Nat := let p := s.divPeriod b; max foldFs (if p.2 = 0 then 0 else p.1 / p.2)

/-- The bandwidth that the gains are formed from (20 R455), as a fraction of 0.1 mHz. -/
def State.workBw (s : State) (b : Nat) : Nat × Nat :=
  let bw := s.bwDecide.1
  let k := samplingOf s.cfg.lp.damp
  (bw.1 * 10 ^ 20, bw.2 * 10 ^ 20 + bw.1 * (k.1 * s.sampleFs b + k.2 * foldFs))

/-- The proportional part kp × e, in f-units (04 R84): kp = 2ζω of the natural frequency ω that the bandwidth `bw`, a fraction of 0.1 mHz, gives. -/
def loopP (bw : Nat × Nat) (damp : Nat) (e : Fs) : Fu :=
  let d := dampOf damp
  divNear (bw.1 * d.1 * d.2 * e) (bw.2 * 10 ^ 25)

/-- The integral part ki × e × dt, in units of 2^-40 f-units, with ki = ω² and dt in fs (04 R84). -/
def loopI (bw : Nat × Nat) (damp : Nat) (e : Fs) (dt : Nat) : Int :=
  let g := (dampOf damp).2
  divNear (bw.1 ^ 2 * g ^ 2 * e * dt * 2 ^ 40) (bw.2 ^ 2 * 10 ^ 63)

/-- The integrator with `i` added, in units of 2^-40 f-units. -/
def LoopSt.integSum (l : LoopSt) (i : Int) : Int := l.integ * 2 ^ 40 + l.integR + i

/-- One loop-filter step on a sample of candidate `b` at instant `t` with error `e` (04 R84): the integrator is held while the rate limit bites. -/
def State.filterStep (s : State) (b t : Nat) (e : Fs) : State :=
  let bw := s.workBw b
  let dt := t - s.lp.lastSteer.getD t
  let i := s.lp.integSum (loopI bw s.cfg.lp.damp e dt)
  let target := satFu (i / 2 ^ 40 + loopP bw s.cfg.lp.damp e)
  let l := s.moveLoop target
  let x := if l = target then { s.lp with integ := satFu (i / 2 ^ 40), integR := (i % 2 ^ 40).toNat } else s.lp
  { s with lp := { x with loop := l, lastSteer := some t, err := some e } }

/-- RMS of the errors of the last second. -/
def rmsErr (l : List (Nat × Fs)) : Fs := if l.isEmpty then 0 else isqrt ((l.map fun p => p.2.natAbs * p.2.natAbs).sum / l.length)

/-- The counts that a fold's phase error moves: the window of a second, clean folds, the folds left of the stage, folds outside the lock (04 R87–R89). A
fold without a sample is clean, also before the stile has measured a new bellwether (DESIGN CHOICE, log 80). -/
def State.trackCounts (s : State) (e : Option Fs) (win : List (Nat × Fs)) : State :=
  let thr := s.cfg.lp.lockThr
  let big : Bool := match e with
    | some x => thr ≤ x.natAbs
    | none => false
  let clean : Bool := match e with
    | some x => (x.natAbs : Int) ≤ thr
    | none => true
  let counts := !s.cfg.lp.auto || s.atTrack
  let left := if s.atTrack then 0 else if big then stageFolds s.lp.stageBw s.lp.stageK else s.lp.stageLeft - 1
  let outside : Nat := match e with
    | some x => if 4 * thr < x.natAbs then s.lp.outside + 1 else 0
    | none => s.lp.outside
  { s with lp := { s.lp with
    errWindow := win
    cleanFolds := if clean && counts then s.lp.cleanFolds + 1 else 0
    stageLeft := left
    outside := if s.lp.state = DpllState.locked then outside else 0 } }

/-- What a fold of LOCKED keeps: the loop terms of a second, and U (04 R90, R100). -/
def State.trackLocked (s : State) (win : List (Nat × Fs)) : State :=
  let base := match s.sel.bell with
    | some b => if b < 6 then s.cfg.lp.uncRef else (s.cand b).advUnc
    | none => s.cfg.lp.uncRef
  { s with lp := { s.lp with
    lockedLoops := (s.lp.loop :: s.lp.lockedLoops).take 8000
    lockedFolds := s.lp.lockedFolds + 1
    unc := satFs (base + 3 * rmsErr win) } }

/-- Bookkeeping of a fold that steers: the error window, the stage, lock and its loss, and U in LOCKED (04 R87–R90, R96, R100). -/
def State.track (s : State) (e : Option Fs) : State :=
  let f := s.clk.absFold.toNat
  let win := ((e.map fun x => (f, x)).toList ++ s.lp.errWindow).filter fun p => f < p.1 + 8000
  let s1 := (s.trackCounts e win).endStage.checkLock.checkLoss
  if s.lp.state ≠ .locked then s1 else s1.trackLocked win

/-- Growth of U over the folds `g + 1` to `n` of an episode (04 R100, R101), in units of 1 fs / (64 × 10^12). -/
def State.uncGrowth (s : State) (g n : Nat) : Int :=
  let sy := if s.mdl.valid then s.mdl.sigmaY else s.cfg.lp.sigmaNoModel
  let sd : Nat := if s.mdl.valid then s.mdl.sigmaD else 0
  3 * ((if s.lp.extrap then 2 * sy else sy) * 8000000000 * (n - g : Nat) + sd * (n * (n + 1) / 2 - g * (g + 1) / 2 : Nat))

/-- U in HOLDOVER, by every fold of the episode that has passed, those that NPFAIL suspended among them, and UNC_LIMIT once in the episode (04 R100,
R101). -/
def State.growUnc (s : State) : State :=
  let n := s.lp.episode
  let acc := s.lp.uncFrac + s.uncGrowth s.lp.grown n
  let u := satFs (s.lp.unc + acc / 64000000000000)
  let s1 := { s with lp := { s.lp with unc := u, uncFrac := acc % 64000000000000, grown := n } }
  if s.cfg.lp.uncAlarm < u && !s.lp.uncRaised then
    ({ s1 with lp := { s1.lp with uncRaised := true } }).raise Ev.uncLimit (min (2 ^ 32 - 1) (ceilDiv u.toNat 1000000))
  else s1

/-- What one fold adds to the second's observation (04 R97). -/
def State.observe (s : State) : State :=
  let good := s.lp.state = .locked && !s.slewing && !s.lp.held && 480000 < s.lp.lockedFolds && s.lp.aplLock && s.lp.tempValid &&
    (match s.sel.bell with | some b => s.egrade b ≤ s.cfg.lp.learnGrade | none => false)
  let m := s.mdl
  { s with mdl := { m with
    sumLoop := m.sumLoop + s.lp.loop
    sumD := m.sumD + s.lp.teff
    obsFolds := m.obsFolds + 1
    spoiled := m.spoiled || !good } }

/-- The end of a device second: its sums stand for one observation where all its folds were taken and nothing spoiled it; a second that begins with the APLL
out of lock is spoiled from the start (04 R97). -/
def State.closeSecond (s : State) : State :=
  if s.clk.inSec ≠ 0 then s
  else
    let m := s.mdl
    { s with mdl := { m with
      closed := if m.obsFolds = 8000 && !m.spoiled then some (m.sumLoop, m.sumD) else none
      sumLoop := 0
      sumD := 0
      obsFolds := 0
      spoiled := !s.lp.aplLock } }

/-- The loop term of the fold (04 R84), where nothing has frozen it. -/
def State.loopStep (s : State) : State :=
  match s.lp.state with
  | .freerun => { s with lp := { s.lp with loop := s.moveLoop 0 } }
  | .holdover => ({ s with lp := { s.lp with loop := s.moveLoop s.holdTarget } }).growUnc
  | _ =>
    match s.steerSample, s.sel.bell with
    | some p, some b =>
      let e := s.phaseError b p.2
      (s.filterStep b p.1 e).track (some e)
    | _, _ => s.track none

/-- Samples of the fold are consumed. -/
def State.consumeSamples (s : State) : State := { s with cands := s.cands.map fun c => { c with newSample := false } }

/-- Slot 0 (04 R84): temperature, model, filter, rate limit, the word. After a freeze in the fold nothing is staged (01 R26). -/
def State.dpllSlot (s : State) (onDie : Int) (tsense : Nat) : State :=
  let s0 := { s with lp := { s.lp with err := none }, pow := { s.pow with slotDone := true } }
  let s1 := (s0.takeTemp onDie tsense).judgeSpan
  if s1.lp.frozen then (if s1.lp.state = .holdover then s1.growUnc else s1).consumeSamples.observe
  else s1.loopStep.observe.consumeSamples.stageWord

/-- The row. -/
def execDpllUpdateSlot (onDie : Int) (tsense : Nat) (t : Nat) (s : State) : Host.Outcome State Fault Refusal := .next (s.inSlot 0 t fun s => s.dpllSlot onDie tsense)

/-- A stage of the auto bandwidth ends, where its folds have run out (04 R87). -/
def execBwStageEnd (s : State) : Host.Outcome State Fault Refusal := .next (s.inTask 0 State.endStage)

/-- The lock criterion is met (04 R88). -/
def execLockAchieved (s : State) : Host.Outcome State Fault Refusal := .next (s.inTask 0 State.checkLock)

/-- Lock is lost (04 R89). -/
def execLossOfLock (s : State) : Host.Outcome State Fault Refusal := .next (s.inTask 0 State.checkLoss)

/-! ### Learning (04 R95–R98) -/

/-- The learned span widened to a temperature in 0.01 °C. -/
def widen (p : Option (Int × Int)) (x : Int) : Option (Int × Int) := match p with
  | some q => some (min q.1 x, max q.2 x)
  | none => some (x, x)

/-! The fit (04 R98) is a recursive least squares of unit noise over the six regressors; `Model.cov` holds its covariance. -/

/-- Place of entry (i, j) in the upper triangle of a 6 × 6 matrix. -/
def covIdx (i j : Nat) : Nat := let a := min i j; let b := max i j; 6 * a - a * (a - 1) / 2 + (b - a)

/-- Entry (i, j) of the covariance as the fit goes on from it: a coefficient of which nothing is known yet begins with a free variance. -/
def Model.covAt (m : Model) (i j : Nat) : Int :=
  let x := ((m.cov.getD (covIdx i j) 0).toInt : Int)
  if i = j && x = 0 then Config.fitStart i + 1 else x

/-- Forgetting, which concerns c1, c2 and c3 alone: their part of the covariance grows by 1 / (1 − 1 / n) (04 R98; log 81). -/
def forget (n : Nat) (i j : Nat) (x : Int) : Int := if 1 ≤ i && i ≤ 3 && 1 ≤ j && j ≤ 3 then divNear (x * n) (n - 1) else x

/-- Whether coefficient `k` is learned (04 R95). -/
def Model.learns (m : Model) (k : Nat) : Bool :=
  match k with
  | 0 => true
  | 1 => m.spans 200
  | 2 => m.spans 500
  | 3 => m.spans 1000
  | 4 => 604800 ≤ m.oscAge.toNat
  | _ => 7776000 ≤ m.oscAge.toNat

/-- What coefficient `k` is multiplied by in the prediction at `teff` (04 R94), in units of 2^-32; 0 until it is learned. -/
def Model.regressor (m : Model) (teff : Int) (k : Nat) : Int :=
  let d := teff - 25000000000000
  let age := m.oscAge.toNat
  if !m.learns k then 0
  else match k with
    | 0 => 2 ^ 32
    | 1 => divNear (d * 2 ^ 32) (10 ^ 12)
    | 2 => divNear (d ^ 2 * 2 ^ 32) (10 ^ 24)
    | 3 => divNear (d ^ 3 * 2 ^ 32) (10 ^ 36)
    | 4 => divNear (lnFix (86400 + age) 86400) (2 ^ 16)
    | _ => divNear (age * 2 ^ 32) 31536000

/-- Coefficient `k`. -/
def Model.coeff (m : Model) (k : Nat) : Fu := [m.f0, m.c1, m.c2, m.c3, m.aLog, m.aLin].getD k 0

/-- Sum over the six coefficients. -/
def sum6 (f : Nat → Int) : Int := ((List.range 6).map f).sum

/-- The upper triangle of a 6 × 6 matrix, row by row. -/
def triangle (f : Nat → Nat → Int) : List (BitVec 64) :=
  (List.range 6).flatMap fun i => ((List.range 6).drop i).map fun j => BitVec.ofInt 64 (satFs (f i j))

/-- One update with the observation `y` at `teff`: with x the regressors and P the covariance after forgetting over `n` observations, the gain is
K = P x / (1 + xᵀ P x), the coefficients move by K times the error of their prediction, and P loses K xᵀ P (04 R98; log 81). -/
def Model.fit (m : Model) (n : Nat) (teff : Int) (y : Fu) : Model :=
  let x := m.regressor teff
  let p (i j : Nat) : Int := forget n i j (m.covAt i j)
  let px (i : Nat) : Int := sum6 fun j => p i j * x j
  let s := (2 ^ (Config.covBits + 64) + sum6 fun i => x i * px i).toNat
  let err := y - divNear (sum6 fun i => m.coeff i * x i) (2 ^ 32)
  let c (k : Nat) : Fu := if m.learns k then satFu (m.coeff k + divNear (px k * 2 ^ 32 * err) s) else m.coeff k
  { m with
    f0 := c 0
    c1 := c 1
    c2 := c 2
    c3 := c 3
    aLog := c 4
    aLin := c 5
    cov := triangle fun i j => p i j - divNear (px i * px j) s }

/-- σ_d (04 R100): the standard error of the drift rate a_log / (86,400 + s) + a_lin / 31,536,000 that the covariance and the residuals' RMS give, over the
ageing coefficients that are learned, in 10^-6 f-units per second (log 81). -/
def Model.driftError (m : Model) : Nat :=
  let g (k : Nat) : Int := if !m.learns k then 0 else if k = 4 then 10 ^ 18 / (86400 + m.oscAge.toNat : Nat) else 10 ^ 18 / 31536000
  let v := m.covAt 4 4 * g 4 * g 4 + 2 * m.covAt 4 5 * g 4 * g 5 + m.covAt 5 5 * g 5 * g 5
  min (2 ^ 48 - 1) (isqrt ((v * m.sigmaY * m.sigmaY).toNat / (2 ^ Config.covBits * 10 ^ 24)))

/-- The residual of an accepted observation, against the model after its update (DESIGN CHOICE, log 80), with σ_y over the last 3,600 and σ_d (04 R100). A
restored model brings SIGMA_Y and no residuals, so the first observation after a start-up forms it anew from its own alone (DESIGN CHOICE, log 98). -/
def Model.noteResidual (m : Model) (r : Fu) : Model :=
  let l : List Fu := (r :: m.residuals).take 3600
  let m1 := { m with residuals := l, sigmaY := satFu (isqrt ((l.map fun (x : Fu) => x.natAbs * x.natAbs).sum / l.length)) }
  { m1 with sigmaD := m1.driftError }

/-- An accepted observation (04 R95–R98); its residual is taken after the update (DESIGN CHOICE, log 80). -/
def State.learn (s : State) (sumLoop sumD : Int) : State :=
  let m := s.mdl
  let y := divNear sumLoop 8000
  let te := divNear sumD 8000
  let m1 := { m with span := widen m.span (divNear te 10000000000), nObs := if m.nObs.toNat = 2 ^ 32 - 1 then m.nObs else m.nObs + 1 }
  let m2 := m1.fit (s.cfg.lp.tempHorizon * 86400) te y
  let m3 := m2.noteResidual (y - m2.predict te)
  { s with mdl := { m3 with closed := none, valid := m.valid || 3600 ≤ m3.nObs.toNat } }

/-- The observation of the whole second that has ended, in the DPLL update slot (04 R97, R98). -/
def execLearningObservation (s : State) : Host.Outcome State Fault Refusal :=
  .next (s.inTask 0 fun s => match s.mdl.closed with
    | some (a, b) => s.learn a b
    | none => s)

/-- The fit state without what concerns F0, a_log and a_lin, and c1 to c3 where `all`: zero (04 R103). -/
def Model.clearedCov (m : Model) (all : Bool) : List (BitVec 64) :=
  triangle fun i j => if !all && 1 ≤ i && i ≤ 3 && 1 ≤ j && j ≤ 3 then ((m.cov.getD (covIdx i j) 0).toInt : Int) else 0

/-- A new oscillator (04 R103): the observation that has closed, and that of the second in hand, are the old one's. -/
def State.newOscillator (s : State) (resetTemp : Bool) : State :=
  let m := s.mdl
  ({ s with mdl := { m with
    f0 := 0
    aLog := 0
    aLin := 0
    oscAge := 0
    c1 := if resetTemp then 0 else m.c1
    c2 := if resetTemp then 0 else m.c2
    c3 := if resetTemp then 0 else m.c3
    span := if resetTemp then none else m.span
    nObs := 0
    sigmaY := 0
    sigmaD := 0
    residuals := []
    valid := false
    closed := none
    sumLoop := 0
    sumD := 0
    obsFolds := 0
    cov := m.clearedCov resetTemp
    newOsc := none } } : State).trimExtrap

/-! ### The APLL (04 R79) -/

/-- The APLL locks, from the boundary on that commits the snapshot, where its band is selected, and awake (18 R417, R424): APLL_LOCK 1, and the live status of
APLL_UNLOCK ends. -/
def execApllLockAcquired (s : State) : Host.Outcome State Fault Refusal :=
  .next (if s.ifaceOpen then { s with lp := { s.lp with aplLock := true, apllUnlock := false, lockBy := none } } else s)

/-- A loss of lock, which also spoils the second's observation (04 R97). -/
def State.loseLock (s : State) : State := { s with lp := { s.lp with aplLock := false, apllUnlock := true }, mdl := { s.mdl with spoiled := true } }

/-- The APLL is to lock within 20 ms of the instant `t` (04 R79), which spoils the second's observation (04 R97). -/
def State.awaitLock (s : State) (t : Nat) : State :=
  { s with lp := { s.lp with aplLock := false, lockBy := some (t + 20000000000000) }, mdl := { s.mdl with spoiled := true } }

/-- Each boundary sees whether the APLL is locked, and since when (18 R419). -/
def State.lockBoundary (s : State) : State :=
  { s with lp := { s.lp with lockFold := if s.lp.aplLock then s.lp.lockFold.orElse fun _ => some s.clk.absFold.toNat else none } }

/-- The APLL loses a lock that it held. -/
def execApllLossOfLock (t : Nat) (s : State) : Host.Outcome State Fault Refusal :=
  let s0 := s.setNow t
  if s0.lp.aplLock then .next (s0.loseLock.raiseFrom Ev.apllUnlock 0) else .next s0

/-- No lock within 20 ms of a reset release, an F_VCO change or a wake: once. -/
def execApllLockTimeout (t : Nat) (s : State) : Host.Outcome State Fault Refusal :=
  let s0 := s.setNow t
  .next (match s0.lp.lockBy with
    | some d =>
      if s0.lp.aplLock || s0.instant < d then s0
      else ({ s0 with lp := { s0.lp with apllUnlock := true, lockBy := none } }).raise Ev.apllUnlock 0
    | none => s0)

/-! ### The boundary's change of DPLL state (04 R80–R83) -/

/-- ACQUIRE is entered at a stage bandwidth. -/
def State.enterAcquire (s : State) (bw : Nat) : State :=
  { s with lp := { (s.lp.stage bw 0) with state := .acquire, cleanFolds := 0, outside := 0, lockedFolds := 0 } }

/-- A committed change that the stile is to measure (05 R119), with ACQUIRE at the bandwidth of R87; open entries are cancelled with a cause. -/
def State.acquireNew (s : State) (src : TallySrc) (cause : Nat) : State :=
  let bw := if s.lp.state = .freerun then s.cfg.lp.acqBw else min s.cfg.lp.acqBw (16 * s.cfg.lp.trackBw)
  let s1 := (s.cancelSwitches cause).enterAcquire bw
  { s1 with lp := { s1.lp with unmeasured := some (src, s.clk.absFold) } }

/-- HOLDOVER is entered: an episode begins (04 R96, R100, R101). -/
def State.enterHoldover (s : State) : State :=
  if s.lp.state = .holdover then s
  else { s with lp := { s.lp with state := .holdover, episode := 0, grown := 0, uncRaised := false, uncFrac := 0, heldLoop := s.lp.dcoLoop, nextState := none } }

/-- An episode's record as it ends (04 R102); the amount follows when the stile measures it. -/
def State.endEpisode (s : State) (old : DpllState) : State :=
  if old = .holdover && s.lp.state ≠ .holdover then
    { s with lp := { s.lp with lastEpisode := (s.lp.episode, s.lp.unc, 0), amountDue := s.lp.state = .acquire } }
  else s

/-- Whether the bellwether that the pass saw stayed qualified with an effective grade of 15 (03 R64): with the grades in force before the boundary's
commits. -/
def State.gradedOut (s : State) : Bool := match s.sel.bell with
  | some b => (s.cand b).qualified && s.egrade b = 15
  | none => false

/-- The DPLL with no bellwether: a freeze in the fold is followed by the cancellation it owes; a bellwether whose grade became 15 with no replacement, or
whose settings change at this boundary, freezes at it (01 R26, 02 R50, 03 R64). -/
def State.resolveNone (s : State) (frozen graded : Bool) (oldBell : Option Nat) : State :=
  let gradeOut : Bool := graded || (match oldBell with
    | some b => (s.cand b).configDq
    | none => false)
  let s1 := if frozen then s.cancelSwitches 3 else if gradeOut then s.freezeAtBoundary else s
  let s2 := { s1 with lp := { s1.lp with unmeasured := none } }
  if s.sel.state = .none && !s.lp.everLocked then { s2 with lp := { s2.lp with state := .freerun, unc := fsMax } } else s2.enterHoldover

/-- A change that the loop filter decided: LOCKED, or ACQUIRE again (04 R88, R89). -/
def State.resolveNext (s : State) (old : DpllState) (next : Option DpllState) : State :=
  match old, next with
  | .acquire, some .locked => { s with lp := { s.lp with state := .locked, everLocked := true, lockedFolds := 0, outside := 0 } }
  | .locked, some .acquire => s.enterAcquire s.cfg.lp.trackBw
  | _, _ => s

/-- The DPLL with bellwether `b` (04 R80–R82, 02 R50, 03 R63–R65). A freeze in the fold before a release cancels as a freeze does. -/
def State.resolveBell (s : State) (b : Nat) (released frozen : Bool) (next : Option DpllState) (oldBell : Option Nat) (oldSel : SelState) : State :=
  if released then (if s.eligible b then s.acquireNew .holdoverExit (if frozen then 3 else 2) else (if frozen then s.cancelSwitches 3 else s).enterHoldover)
  else if (s.cand b).configDq then (if frozen then s.cancelSwitches 3 else s.freezeAtBoundary).enterHoldover
  else if s.sel.bell ≠ oldBell then
    s.acquireNew (if oldSel = .none || oldSel = .forcedInvalid then .holdoverExit else .switch) (if frozen then 3 else 2)
  else if frozen then (s.cancelSwitches 3).enterHoldover
  else s.resolveNext s.lp.state next

/-- The DPLL state that a boundary commits, after the selector's commit (04 R80–R82, 01 R26, 02 R50, 03 R63–R65); `oldBell` and `oldSel` are what the selector
showed before, `graded` that the pass found the bellwether's grade to be 15. A hold that the crook lane asked for in the fold is released as one that stands.
The entry to SLEEP freezes it (18 R424), at each of its boundaries anew, so that a bellwether committed meanwhile does not steer (DESIGN CHOICE, log 96). -/
def State.resolveDpll (s : State) (oldBell : Option Nat) (oldSel : SelState) (graded : Bool) : State :=
  let frozen := s.lp.frozen
  let next := s.lp.nextState
  let released := (s.lp.held || s.lp.crookHold) && s.lp.holdCmd = some false
  let held : Bool := match s.lp.holdCmd with
    | some b => b
    | none => s.lp.held
  let s0 := { s with lp := { s.lp with held := held, holdCmd := none, crookHold := false, frozen := false, nextState := none } }
  let s1 :=
    if held || s.pow.sleepEntry then (if s.lp.held then s0 else s0.freezeAtBoundary).enterHoldover
    else match s0.sel.bell with
      | none => s0.resolveNone frozen graded oldBell
      | some b => s0.resolveBell b released frozen next oldBell oldSel
  s1.endEpisode s.lp.state

/-- BW_LIMITED (04 R85): which bound decides the effective bandwidth, and the event where one begins to. -/
def State.judgeBandwidth (s : State) : State :=
  let b := s.bwDecide.2
  ({ s with lp := { s.lp with bwLimit := b } }).raiseIf (b.isSome && s.lp.bwLimit.isNone) Ev.bwLimited (b.getD 0)

/-- The staged word is committed (04 R76, R77; 05 R114): the realised value's difference is carried, the payout's entry is paid. -/
def State.commitWord (s : State) : State :=
  match s.lp.staged with
  | none => s
  | some d =>
    let real := roundStep (d.total + s.lp.carry) Config.dcoStep
    let s1 := { s with lp := { s.lp with
      staged := none
      dco := d.total
      dcoLoop := d.loop
      dcoPay := d.payout
      dcoSsct := d.ssct
      dcoSeq := d.paySeq
      carry := d.total + s.lp.carry - real } }
    match d.paySeq.bind s1.tally.find with
    | some e => if e.isOpen then { s1 with tally := s1.tally.payDevice e (d.payout / 8000) } else s1
    | none => s1

/-! ### Opcodes of 13 R311, R312 -/

/-- The LOOP group (13 R312). -/
def State.loopGroup (s : State) : List Byte :=
  let c := s.cfg.lp
  le 1 (b2n c.auto) ++ le 1 c.damp ++ le 1 c.tsrc ++ le 1 c.learnGrade ++ le 4 c.bw ++ le 4 c.acqBw ++ le 4 c.trackBw ++
    leI 8 c.lockThr ++ leI 6 c.freqRate ++ leI 6 c.sigmaNoModel ++ le 4 c.ntcRes ++ le 2 c.ntcBeta ++ le 2 c.lockT ++
    le 2 c.thermLag ++ le 2 c.tempHorizon ++ le 1 c.modelSave ++ le 1 0 ++ leI 8 c.uncRef ++ leI 8 c.uncAlarm

/-- The settings that a LOOP packet spells, in the steps of R91 (00 R8). -/
def loopCfgOf (p : List Byte) : LoopCfg :=
  { auto := fld p 0 1 = 1
    damp := fld p 1 1
    tsrc := fld p 2 1
    learnGrade := fld p 3 1
    bw := fld p 4 4
    acqBw := fld p 8 4
    trackBw := fld p 12 4
    lockThr := roundStep (fldI p 16 8) 1000
    freqRate := roundStep (fldI p 24 6) 1000000
    sigmaNoModel := roundStep (fldI p 30 6) 100000
    ntcRes := fld p 36 4
    ntcBeta := fld p 40 2
    lockT := fld p 42 2
    thermLag := fld p 44 2
    tempHorizon := fld p 46 2
    modelSave := fld p 48 1
    uncRef := roundStep (fldI p 50 8) 1000
    uncAlarm := roundStep (fldI p 58 8) 1000000 }

/-- The checks of LOOP (04 R91; 13 R312). -/
def checkLoop (q : Call) (_s : State) : Serve :=
  let p := q.params
  let bwOk (v : Nat) : Bool := inRange v 1 4000000
  checks [
    (p.length = 66, St.badLength),
    (q.pen = 0, St.denied),
    (fld p 0 1 ≤ 1 && fld p 1 1 ≤ 3 && fld p 2 1 ≤ 2 && fld p 3 1 ≤ 14, St.badParam),
    (bwOk (fld p 4 4) && bwOk (fld p 8 4) && bwOk (fld p 12 4) && fld p 12 4 ≤ fld p 8 4, St.badParam),
    (inRangeI (fldI p 16 8) 10000 1000000000000, St.badParam),
    (inRangeI (fldI p 24 6) 1000000 10000000000 && inRangeI (fldI p 30 6) 100000 10000000000, St.badParam),
    (inRange (fld p 36 4) 1000 1000000 && inRange (fld p 40 2) 1000 10000, St.badParam),
    (inRange (fld p 42 2) 1 1000 && fld p 44 2 ≤ 36000 && inRange (fld p 46 2) 1 365, St.badParam),
    (inRange (fld p 48 1) 1 168 && zeros p 49 1, St.badParam),
    (inRangeI (fldI p 50 8) 0 1000000000000 && inRangeI (fldI p 58 8) 1000000 1000000000000000, St.badParam)]
    (Serve.group 0x2021 [])

/-- The auto bandwidth follows a new ACQ_BW or TRACK_BW while the DPLL steers (04 R87). -/
def State.limitStage (s : State) : State :=
  let c := s.cfg.lp
  match s.lp.state with
  | .locked => { s with lp := { s.lp with stageBw := c.trackBw, stageK := 0, stageLeft := 0 } }
  | .acquire =>
    let d := 2 ^ s.lp.stageK
    if s.lp.stageBw < c.trackBw * d then { s with lp := { s.lp with stageBw := c.trackBw, stageK := 0, stageLeft := 0, cleanFolds := if c.auto then 0 else s.lp.cleanFolds } }
    else if c.acqBw * d < s.lp.stageBw then { s with lp := s.lp.stage c.acqBw 0 }
    else if s.lp.stageLeft = 0 && !s.atTrack then { s with lp := s.lp.stage s.lp.stageBw s.lp.stageK }
    else s
  | _ => s

/-- LOOP committed; the boundary then moves the bandwidth, once it has settled the DPLL's state. -/
def commitLoop (q : Call) (s : State) : State :=
  let c := loopCfgOf q.params
  let old := s.cfg.lp
  let new := c.acqBw ≠ old.acqBw || c.trackBw ≠ old.trackBw || (c.auto && !old.auto)
  { s with cfg := { s.cfg with lp := c }, lp := { s.lp with bwNew := s.lp.bwNew || new } }

/-- A new ACQ_BW or TRACK_BW, or AUTO after FIXED, acts on the state that the boundary has committed: LOCKED steers at TRACK_BW (04 R80, R87). -/
def State.limitNew (s : State) : State :=
  if s.lp.bwNew then ({ s with lp := { s.lp with bwNew := false } }).limitStage else s

/-- LOOP_STATUS (04 R104; 13 R312). -/
def State.loopStatusBytes (s : State) : List Byte :=
  le 4 s.loopWord ++ le 4 (bwUnits s.bwDecide.1) ++ le 4 (bwUnits (s.lp.stageBw, 2 ^ s.lp.stageK)) ++ leI 8 s.lp.unc ++ leI 6 s.lp.dco ++
    leI 6 s.model ++ leI 2 s.lp.teffCenti ++ le 2 0 ++ le 8 s.lp.lastEpisode.1 ++ leI 8 s.lp.lastEpisode.2.1 ++ leI 8 s.lp.lastEpisode.2.2 ++
    le 6 s.mdl.oscAge.toNat

/-- The checks of HOLD (04 R82; 13 R311). -/
def checkHold (q : Call) (_s : State) : Serve :=
  checks [(q.params.length = 1, St.badLength), (q.pen = 0, St.denied), (fld q.params 0 1 ≤ 1, St.badParam)] Serve.stage

/-- HOLD committed: the boundary then resolves the state. -/
def commitHold (q : Call) (s : State) : State := { s with lp := { s.lp with holdCmd := some (fld q.params 0 1 = 1) } }

/-- The checks of NEW_OSC (04 R103; 13 R311). -/
def checkNewOsc (q : Call) (_s : State) : Serve :=
  checks [(q.params.length = 1, St.badLength), (q.pen = 0, St.denied), (fld q.params 0 1 ≤ 1, St.badParam)] Serve.stage

/-- NEW_OSC committed: it waits for the first boundary outside HOLDOVER (04 R103). A second one while the first waits keeps the
first's RESET_TEMP. -/
def commitNewOsc (q : Call) (s : State) : State :=
  { s with mdl := { s.mdl with newOsc := some (fld q.params 0 1 = 1 || s.mdl.newOsc = some true) } }

/-- The model block (13 R312). -/
def Model.block (m : Model) : List Byte :=
  leI 6 m.f0 ++ leI 6 m.c1 ++ leI 6 m.c2 ++ leI 6 m.c3 ++ leI 6 m.aLog ++ leI 6 m.aLin ++ le 6 m.oscAge.toNat ++
    leI 2 (m.span.getD (0, 0)).1 ++ leI 2 (m.span.getD (0, 0)).2 ++ le 1 (b2n m.valid + 2 * b2n m.span.isSome) ++ le 1 0 ++
    le 4 m.nObs.toNat ++ leI 6 m.sigmaY ++ le 6 m.sigmaD

/-- The model after a MODEL_WRITE of bytes 0-47 (04 R95, R96; 13 R311): the fit restarts from the written coefficients. -/
def Model.written (m : Model) (p : List Byte) : Model :=
  let f := fld p 46 1
  { m with
    f0 := fldI p 0 6
    c1 := fldI p 6 6
    c2 := fldI p 12 6
    c3 := fldI p 18 6
    aLog := fldI p 24 6
    aLin := fldI p 30 6
    oscAge := BitVec.ofNat 48 (fld p 36 6)
    span := if bit f 1 then some (fldI p 42 2, fldI p 44 2) else none
    valid := bit f 0
    nObs := 0
    cov := List.replicate 21 0 }

end Sys2Proof.Machine
end

