-- ==== Sys2Proof/Machine/Outputs.lean ====
section
/-! DEFINITION. Paddocks, outputs, gates, delays and MON (06): edges by arithmetic, pulse conservation, starting and stopping, and the output
opcodes. -/

namespace Sys2Proof.Machine

/-! ### The frequency plan -/

/-- PREDIV of an output's paddock (06 R131). -/
def Settings.prediv (c : Settings) (o : Nat) : Nat := (c.pads.getD (o / 4) {}).prediv

/-- Base period of an output as a fraction of fs (06 R132). -/
def State.basePeriod (s : State) (o : Nat) : Nat × Nat := (s.cfg.prediv o * (s.outCfg o).div * secondFs, s.cfg.fvco)

/-- FORMAT, MODE and the other fields of a configuration word (06 R134). -/
def OutCfg.format (c : OutCfg) : Nat := c.config.toNat % 8
def OutCfg.mode (c : OutCfg) : Nat := c.config.toNat / 2 ^ 5 % 4
def OutCfg.prst (c : OutCfg) : Nat := c.config.toNat / 2 ^ 8 % 4
def OutCfg.duty (c : OutCfg) : Bool := c.config.getLsbD 12
def OutCfg.onCommand (c : OutCfg) : Bool := c.config.toNat / 2 ^ 13 % 4 = 1
def OutCfg.alignSrc (c : OutCfg) : Nat := if c.config.getLsbD 15 then 5 else 4
def OutCfg.quietOff (c : OutCfg) : Bool := c.config.getLsbD 16

/-- PERIOD in base cycles, 0 meaning 2^32 (06 R137). -/
def OutCfg.periodCycles (c : OutCfg) : Nat := if c.period = 0 then 2 ^ 32 else c.period

/-- Pulse period of an output as a fraction of fs. -/
def State.pulsePeriod (s : State) (o : Nat) : Nat × Nat :=
  let b := s.basePeriod o
  ((s.outCfg o).periodCycles * b.1, b.2)

/-- First rising edge of an output's divider (log 12). -/
def State.originOf (s : State) (o : Nat) : Nat := (s.out o).origin.getD (Config.dividerOrigin o)

/-! ### Grids: points `g + n * num / den`, n from 0, each at the whole femtosecond at or after it -/

/-- How many points of a grid lie before `t`. -/
def gridBefore (g : Nat) (p : Nat × Nat) (t : Nat) : Nat := if t ≤ g then 0 else (t - g - 1) * p.2 / p.1 + 1

/-- Point `n` of a grid, in whole fs. -/
def gridPoint (g : Nat) (p : Nat × Nat) (n : Nat) : Nat := g + ceilDiv (n * p.1) p.2

/-- Divider edges in [a, b). -/
def State.edgesIn (s : State) (o a b : Nat) : Nat :=
  gridBefore (s.originOf o) (s.basePeriod o) b - gridBefore (s.originOf o) (s.basePeriod o) a

/-- The first divider edge at or after `t`. -/
def State.edgeFrom (s : State) (o t : Nat) : Nat :=
  let g := s.originOf o
  let p := s.basePeriod o
  gridPoint g p (gridBefore g p t)

/-! ### Pulse trains (06 R137, 07 R156) -/

/-- The train's first start. Before any alignment the period counter runs with the divider (log 27). -/
def State.frameOf (s : State) (o : Nat) : Nat := (s.out o).frame.getD (s.originOf o)

/-- Pulses left of a counted train, none without limit; an output that waits for its first index edge with a count has none to give. -/
def State.trainLeft (s : State) (o : Nat) : Option Nat :=
  match (s.out o).pulsesLeft with
  | some n => some n
  | none => if !(s.outCfg o).onCommand && (s.outCfg o).alignCount ≠ 0 && (s.out o).frame.isNone then some 0 else none

/-- Starts of the present train in [a, b), within its count. -/
def State.startsIn (s : State) (o a b : Nat) : Nat :=
  let g := s.frameOf o
  let p := s.pulsePeriod o
  let n := gridBefore g p b - gridBefore g p a
  match s.trainLeft o with
  | some l => min n l
  | none => n

/-- The last start of the present train in [a, b), or the one before. -/
def State.lastStartBefore (s : State) (o a b : Nat) : Option Nat :=
  let n := s.startsIn o a b
  if n = 0 then (s.out o).lastStart
  else some (gridPoint (s.frameOf o) (s.pulsePeriod o) (gridBefore (s.frameOf o) (s.pulsePeriod o) a + n - 1))

/-- The place among the divider's edges of the one at which the pulse that began at `l` falls: WIDTH base cycles on, but for a pulse that was in progress
when the settings changed (06 R137). A start, at a whole femtosecond of its own grid, can lie one past its base edge. -/
def State.fallIndex (s : State) (o l : Nat) : Nat :=
  let n (x : Nat) : Nat := gridBefore (s.originOf o) (s.basePeriod o) (x - 1)
  match (s.out o).oldPulse with
  | some p => if p.1 = l then n p.2 else n l + (s.outCfg o).width
  | none => n l + (s.outCfg o).width

/-- The falling edge of the pulse that began at `l`. -/
def State.fallOf (s : State) (o l : Nat) : Nat :=
  match (s.out o).oldPulse with
  | some p => if p.1 = l then p.2 else gridPoint (s.originOf o) (s.basePeriod o) (s.fallIndex o l)
  | none => gridPoint (s.originOf o) (s.basePeriod o) (s.fallIndex o l)

/-- The base edge one cycle after the pulse that began at `l` falls (07 R157, R161). -/
def State.clearOf (s : State) (o l : Nat) : Nat := gridPoint (s.originOf o) (s.basePeriod o) (s.fallIndex o l + 1)

/-! ### Settling the counters up to an instant (06 R140, R142) -/

/-- Divider edges before `t`, the last one before the divider's last change included (06 R135). -/
def State.edgesBefore (s : State) (o t : Nat) : Nat :=
  gridBefore (s.originOf o) (s.basePeriod o) t + (match (s.out o).prevEdge with | some e => b2n (e < t) | none => 0)

/-- Whole divider periods inside [a, b]. -/
def State.wholePeriods (s : State) (o a b : Nat) : Nat := s.edgesBefore o (b + 1) - 1 - s.edgesBefore o a

/-- Divider periods that overlap (a, b). -/
def State.overlapPeriods (s : State) (o a b : Nat) : Nat := s.edgesBefore o b - (s.edgesBefore o (a + 1) - 1)

/-- Where the open window's own periods begin: at its opening, or at the first edge of an output that started within it (06 R149). -/
def State.windowFrom (s : State) (o : Nat) : Nat :=
  let x := s.out o
  if x.openAt < x.runFrom then s.edgeFrom o x.runFrom else x.openAt

/-- The counters of a running output settled from `upTo` to `t`, with no start of a new train between. A GATED period counts once it has ended within the open
window, a period of another mode as its edge comes (DESIGN CHOICE, log 100). -/
def State.settleTo (s : State) (o t : Nat) : State :=
  let x := s.out o
  if !x.running || t ≤ x.upTo then s.updOut o fun x => { x with upTo := max x.upTo t }
  else
    let a := max x.upTo x.runFrom
    match (s.outCfg o).mode with
    | 1 =>
      let n := s.startsIn o a t
      let ls := s.lastStartBefore o a t
      s.updOut o fun x => { x with
        upTo := t
        emitted := x.emitted + BitVec.ofNat 64 n
        lastStart := ls
        pulsesLeft := x.pulsesLeft.map (· - n) }
    | 2 =>
      if x.gate then
        let w := s.wholePeriods o (s.windowFrom o) t
        s.updOut o fun x => { x with upTo := t, emitted := x.emitted + BitVec.ofNat 64 (w - x.counted), counted := max w x.counted }
      else s.updOut o fun x => { x with upTo := t }
    | _ =>
      let n := s.edgesIn o a t
      s.updOut o fun x => { x with upTo := t, emitted := x.emitted + BitVec.ofNat 64 n }

/-- The last instant up to `t` whose counts have crossed into SYS by the boundary that follows it (01 R31). -/
def crossMark (t : Nat) : Nat := foldAt ((t + crossFs) / foldFs) - crossFs

/-- The counters settled to `t`, what a snapshot shows of them being noted on the way (01 R30, R31). -/
def State.settleSeg (s : State) (o t : Nat) : State :=
  let m := crossMark t
  if (s.out o).upTo < m then ((s.settleTo o m).updOut o fun x => { x with shown := (x.emitted, x.swallowed) }).settleTo o t else s.settleTo o t

/-- VALUE of an index alignment in ps, saturating (07 R166). -/
def alignValue (p : Plan) (delay : Fs) : Nat := min (2 ^ 29 - 1) (divNear ((p.start : Int) + delay - p.target) 1000).toNat

/-- ALIGN_DONE's detail word (07 R166). -/
def Plan.detail (p : Plan) (delay : Fs) (missed : Bool) : BitVec 32 :=
  BitVec.ofNat 32 (match p.seq with
    | none => b2n p.deferred * 2 ^ 30 + b2n missed * 2 ^ 29 + alignValue p delay
    | some q => 2 ^ 31 + b2n p.deferred * 2 ^ 30 + b2n p.late * 2 ^ 29 + q.toNat % 2 ^ 29)

/-- A planned start is reached: the new train begins at it (07 R156, R161), and ALIGN_DONE follows at the next boundary. -/
def State.startTrain (s : State) (o : Nat) (p : Plan) : State :=
  let d := (s.outCfg o).delay
  (s.settleSeg o p.start).updOut o fun x => { x with
    frame := some p.start
    pulsesLeft := p.count
    plans := x.plans.filter (· ≠ p)
    begun := x.begun ++ (p.seq.map fun q => (q, p.shift)).toList
    aligns := x.aligns ++ [(p.crook, p.detail d false)] }

/-- The counters settled to `t`, through the planned starts that fall before it. -/
def State.settle (s : State) (o t : Nat) : State :=
  (forEach ((s.out o).plans.filter fun p => p.start < t) (fun p s => s.startTrain o p) s).settleSeg o t

/-! ### The gate (06 R138–R141) -/

/-- The gate opens at `t`. -/
def State.openGate (s : State) (o t : Nat) : State :=
  if (s.outCfg o).mode ≠ 2 || (s.out o).gate then s
  else (s.settle o t).updOut o fun x => { x with gate := true, openAt := t, counted := 0, before := (0, 0), ran := x.running }

/-- Periods that the open window has swallowed by `t`, since the output or its divider last changed: an output that does not run emits none of those that
overlap the window (06 R140, R141), one that has stopped in it loses them uncounted (06 R149). -/
def State.windowLost (s : State) (o t : Nat) : Nat :=
  let x := s.out o
  if x.running then s.overlapPeriods o (s.windowFrom o) t - x.counted
  else if x.ran then 0
  else s.overlapPeriods o x.openAt t

/-- The gate closes at `t`: whole periods are emitted, the others that overlap the window swallowed, and a window that emitted nothing raises GATE_EMPTY,
with bit 8 for a crook GATE_OFF (06 R140, R141, R153); more than 255 periods show as 255 there (DESIGN CHOICE, log 100). -/
def State.closeGate (s : State) (o t : Nat) (crook : Bool) : State :=
  if (s.outCfg o).mode ≠ 2 || !(s.out o).gate then s
  else
    let s1 := s.settle o t
    let x := s1.out o
    let swallowed := x.before.2 + s1.windowLost o t
    let s2 := s1.updOut o fun x => { x with gate := false, swallowed := x.swallowed + BitVec.ofNat 64 swallowed }
    if x.before.1 + x.counted = 0 then s2.raiseFrom (0x40 + 4 * o + 2) (min 255 swallowed + b2n crook * 256) else s2

/-- What the open window has emitted and swallowed up to the divider edge `edge` is put by: the output or its divider changes (06 R135, R140, R149). -/
def State.putBy (s : State) (o edge : Nat) : State :=
  let x := s.out o
  if !x.gate || (s.outCfg o).mode ≠ 2 then s
  else
    let from_ := if x.running then s.windowFrom o else x.openAt
    let lost := if from_ < edge then s.windowLost o edge else 0
    s.updOut o fun x => { x with before := (x.before.1 + x.counted, x.before.2 + lost), openAt := max from_ edge, counted := 0 }

/-- The divider's last edge before `t`, if any: of the present count, or the one that was its last before it changed. -/
def State.lastEdgeBefore (s : State) (o t : Nat) : Option Nat :=
  let n := gridBefore (s.originOf o) (s.basePeriod o) t
  if n = 0 then (s.out o).prevEdge.filter (· < t) else some (gridPoint (s.originOf o) (s.basePeriod o) (n - 1))

/-- Start and stop instants of a window (06 R139). -/
def Window.from_ (w : Window) : Nat := foldAt w.fold.toNat + w.start * 1000000
def Window.to (w : Window) : Nat := foldAt w.fold.toNat + w.stop * 1000000

/-- A queued window's START: the gate opens (06 R138). -/
def execGateWindowStart (o : Fin 16) (t : Nat) (s : State) : Host.Outcome State Fault Refusal :=
  let s0 := s.setNow t
  match (s0.out o).windows.find? fun w => !w.begun && w.from_ ≤ s0.instant with
  | some w =>
    .next ((s0.openGate o w.from_).updOut o fun x => { x with windows := x.windows.map fun v => if v = w then { v with begun := true } else v })
  | none => .next s0

/-- A window's STOP: the gate closes (06 R140). -/
def execGateWindowStop (o : Fin 16) (t : Nat) (s : State) : Host.Outcome State Fault Refusal :=
  let s0 := s.setNow t
  match (s0.out o).windows.find? fun w => w.begun && w.to ≤ s0.instant with
  | some w => .next ((s0.closeGate o w.to false).updOut o fun x => { x with windows := x.windows.filter (· ≠ w) })
  | none => .next s0

/-! ### Starting and stopping (06 R149, R150) -/

/-- Whether an output is to run. -/
def State.shouldRun (s : State) (o : Nat) : Bool :=
  (s.outCfg o).format ≠ 0 && s.rel.released && !s.rel.stopping && (s.out o).prst = .none && !(s.out o).quietOff

/-- High time of a divider period, in fs, rounded up (06 R136). -/
def State.highFs (s : State) (o : Nat) : Nat :=
  let c := s.outCfg o
  let pd := s.cfg.prediv o
  if c.div = 1 || c.duty || c.div % 2 = 0 then ceilDiv (pd * c.div * secondFs) (2 * s.cfg.fvco)
  else ceilDiv (pd * (c.div + 1) / 2 * secondFs) s.cfg.fvco

/-- Half of the nominal low phase, in fs (06 R147). -/
def State.halfLow (s : State) (o : Nat) : Nat :=
  let c := s.outCfg o
  let b := s.basePeriod o
  if c.mode = 1 then (c.periodCycles - c.width) * b.1 / b.2 / 2 else (b.1 / b.2 - s.highFs o) / 2

/-- The falling edge of the divider period that began at the edge `e`: one before the divider's last change keeps its own (06 R135). -/
def State.fallFrom (s : State) (o e : Nat) : Nat := if (s.out o).prevEdge = some e then (s.out o).prevFall else e + s.highFs o

/-- The instant at which an output that is to stop at `t` goes low: the end of a high phase in progress, an edge at `t` itself having begun one (06 R149). -/
def State.nextLow (s : State) (o t : Nat) : Nat :=
  if (s.outCfg o).mode = 1 then
    match ((s.settle o (t + 1)).out o).lastStart with
    | some l => max t (s.fallOf o l)
    | none => t
  else match s.lastEdgeBefore o (t + 1) with
    | some e => max t (s.fallFrom o e)
    | none => t

/-- RUNNING follows `shouldRun` at instant `t`: a start is at the first divider edge after `t`, a stop at the next low, which is `low`, and `again` restarts after
at least 1 µs off from there. An open window is put by: what the change loses is neither emitted nor swallowed (06 R149). -/
def State.setRunningAt (s : State) (o t low : Nat) (again : Bool) : State :=
  let r := s.shouldRun o
  let x := s.out o
  if r && !x.running then
    (s.settle o t).updOut o fun x => { x with running := true, runFrom := t + 1, diff := 0, ran := true }
  else if !r && !x.running then s
  else if r && !again then s
  else
    let s1 := s.settle o (t + 1)
    (s1.putBy o ((s1.lastEdgeBefore o (t + 1)).getD t)).updOut o fun x =>
      if r then { x with runFrom := low + 1000000000, lowAt := low, diff := 0 } else { x with running := false, lowAt := low }

/-- RUNNING follows `shouldRun` with the settings in force. -/
def State.setRunning (s : State) (o t : Nat) (again : Bool) : State := s.setRunningAt o t (s.nextLow o t) again

/-- What an output's pads do (06 R134, R149, R150). -/
inductive Pads where
  | signal
  | low
  | pulledLow
  | hiZ
  deriving DecidableEq, Repr

/-- The pads of an output at the present instant: its signal while it runs or completes its last high phase; then the format's low level under HOLD_LOW, or
while a change of format keeps it off; else OFF_STATE. -/
def State.pads (s : State) (o : Nat) : Pads :=
  let x := s.out o
  let c := s.outCfg o
  let off : Pads := if c.config.getLsbD 7 then .pulledLow else .hiZ
  if s.pow.held then .hiZ
  else if s.instant < x.lowAt then .signal
  else if x.running then (if s.instant < x.runFrom then off else .signal)
  else if x.prst = .holdLow && c.format ≠ 0 then .low
  else off

/-- Every output has gone low (18 R415, R424). -/
def State.allLow (s : State) : Bool := (List.range 16).all fun o => !(s.out o).running && (s.out o).lowAt ≤ s.instant

/-- Every output's RUNNING brought up to date at instant `t`. -/
def State.runAll (s : State) (t : Nat) : State := forEach (List.range 16) (fun o s => s.setRunning o t false) s

/-- A pen reset's action on an output (06 R150): 1 HOLD_LOW, 2 OFF. -/
def State.prstOutput (s : State) (o t : Nat) : State :=
  match (s.outCfg o).prst with
  | 1 => (s.updOut o fun x => { x with prst := .holdLow }).setRunning o t false
  | 2 => (s.updOut o fun x => { x with prst := .off }).setRunning o t false
  | _ => s

/-! ### Delay (06 R143–R148) -/

/-- DELAY_MAX at an F_VCO (06 R143). -/
def delayMax (fvco : Nat) : Nat := 65535 * secondFs / (2 * fvco) / 2500 * 2500

/-- COARSE, FINE and RESIDUAL of a delay (06 R144). -/
def delayParts (fvco : Nat) (d : Fs) : Nat × Nat × Int :=
  let dn := d.toNat
  let coarse := dn * 2 * fvco / secondFs
  -- what is left, as a numerator over 2 * fvco
  let rest := dn * (2 * fvco) - coarse * secondFs
  let fine := (2 * rest + 2500 * (2 * fvco)) / (2 * 2500 * (2 * fvco))
  (coarse, fine, divNear ((coarse * secondFs + fine * 2500 * (2 * fvco) : Nat) - (dn * (2 * fvco) : Nat) : Int) (2 * fvco))

/-- An output's rising edges in [a, b): its pulse starts in PULSE mode, else its divider's (log 28). -/
def State.risingEdges (s : State) (o a b : Nat) : Nat :=
  if (s.outCfg o).mode = 1 then s.startsIn o (max a (s.out o).upTo) b else s.edgesIn o a b

/-- The output moves by `x` fs for a flock entry: its programmed DELAY, for a STEP, and the entry's progress (05 R111, 06 R146). -/
def State.moveOut (s : State) (e : Entry) (o : Nat) (x : Fs) : State :=
  let s1 := { s with tally := s.tally.payOut e o x }
  if e.src = .step then s1.updOutCfg o fun c => { c with delay := c.delay + x } else s1

/-- What an immediate change may move at `n` edges: a positive one whole, a negative one by half the low phase per edge (06 R147). -/
def immediateMove (rest : Fs) (n half : Nat) : Fs :=
  if n = 0 then 0 else if 0 ≤ rest then rest else max rest (-((n * half : Nat) : Int))

/-- An immediate change of an entry moves one output at its edges in [a, b) (06 R147); an output that does not run is moved whole (06 R148). -/
def State.moveImmediate (s : State) (seq : BitVec 32) (o a b : Nat) : State :=
  match s.tally.find seq with
  | none => s
  | some e =>
    let rest := e.amount - e.outApplied o
    let x := if (s.out o).running then immediateMove rest (s.risingEdges o a b) (s.halfLow o) else rest
    if x = 0 then s else s.moveOut e o x

/-! ### Output opcodes: settings -/

/-- The settings that VCO, PADDOCK and OUT packets write. -/
def setVco (p : List Byte) (c : Settings) : Settings := { c with fvco := fld p 0 8 }
def setPaddock (p : List Byte) (c : Settings) : Settings :=
  { c with pads := c.pads.upd (fld p 0 1) fun _ => { prediv := fld p 1 1, vddo := fld p 2 1 } }
def setOut (p : List Byte) (c : Settings) : Settings :=
  { c with outs := c.outs.upd (fld p 0 1) fun o =>
      { o with config := BitVec.ofNat 32 (fld p 4 4), div := fld p 8 4, period := fld p 12 4, width := fld p 16 4 } }

/-- The settings as they stand when a command is interpreted: the committed ones with the output writes staged earlier in the fold. -/
def State.stagedOuts (s : State) : Settings :=
  s.host.staged.foldl (fun c g =>
    if !g.commit then c
    else if g.opcode = 0x3010 then setVco g.call.params c
    else if g.opcode = 0x3012 then setPaddock g.call.params c
    else if g.opcode = 0x3014 then setOut g.call.params c
    else c) s.cfg

/-- FORMAT of an output among settings. -/
def Settings.formatOf (c : Settings) (o : Nat) : Nat := (c.outs.getD o {}).format

/-- Whether VDDO_LEVEL allows a format (06 R133). -/
def vddoAllows (fmt level : Nat) : Bool := fmt ≠ 2 || 1 ≤ level

/-- Highest frequency of a format, in Hz; 0 for none (06 R133). -/
def formatLimit : Nat → Nat
  | 1 => 1600000000
  | 2 => 700000000
  | 3 => 3200000000
  | 4 => 250000000
  | 5 => 250000000
  | _ => 0

/-- DRIVE as its format allows it (06 R133). -/
def driveOk (fmt drive : Nat) : Bool :=
  match fmt with
  | 3 => drive ≤ 2
  | 4 => true
  | 5 => true
  | _ => drive = 0

/-- Delay of an output after all its open STEP entries (05 R122, R123). -/
def State.delayAfter (s : State) (o : Nat) : Fs :=
  (s.outCfg o).delay +
    ((s.tally.entries.filter fun e => e.isOpen && e.src = .step && e.flock.getLsbD o).map fun e => e.amount - e.outApplied o).sum

/-- Base period of an output under settings to come. -/
def Settings.baseOf (c : Settings) (o : Nat) : Nat × Nat := (c.prediv o * (c.outs.getD o {}).div * secondFs, c.fvco)

/-- An instant of the old count carried over to a new base period: what lies beyond its edge `e` runs on in base cycles of the new (06 R137, log 29). -/
def runOn (e x : Nat) (old new : Nat × Nat) : Nat :=
  if e < x then gridPoint e new (divNear ((x - e) * old.2 : Nat) old.1).toNat else x

/-- An output's divider under settings to come: the new count starts from the first edge of the old after `t`, one at `t` itself being the old count's
own. A pulse in progress keeps the width and the period it began with; outside PULSE the period counter runs with the new count (06 R135, R137, log 29). -/
def State.rebase (s : State) (o t : Nat) (c : Settings) : State :=
  let s1 := s.settle o (t + 1)
  let e := s1.edgeFrom o (t + 1)
  let b := s1.basePeriod o
  let nb := c.baseOf o
  let last := s1.lastEdgeBefore o (t + 1)
  let s2 := match last with
    | some p => s1.putBy o p
    | none => s1
  let fall := match last with
    | some p => s1.fallFrom o p
    | none => 0
  let pulse := (s1.outCfg o).mode = 1
  let next := gridPoint (s1.frameOf o) (s1.pulsePeriod o) (gridBefore (s1.frameOf o) (s1.pulsePeriod o) (t + 1))
  s2.updOut o fun x => { x with
    origin := some e
    prevEdge := last
    prevFall := fall
    frame := if pulse then some (runOn e next b nb) else if b = nb then x.frame else none
    oldPulse := if pulse then x.lastStart.map fun l => (l, runOn e (s1.fallOf o l) b nb) else none }

/-- Outputs whose dividers take new settings at this boundary. -/
def State.rebaseOuts (s : State) (l : List Nat) (c : Settings) : State := forEach l (fun o s => s.rebase o s.foldStart c) s

/-- VCO committed: the APLL is to lock again (04 R79). -/
def commitVco (q : Call) (s : State) : State :=
  if fld q.params 0 8 = s.cfg.fvco then s
  else
    let s1 := s.rebaseOuts (List.range 16) (setVco q.params s.cfg)
    ((s1.setCfg (setVco q.params s1.cfg)).chooseBand).awaitLock s.foldStart

/-- The frequency of an output under settings to come is within the limits of its paddock, its mode and its format (06 R132, R133). -/
def Settings.freqOk (c : Settings) (o : Nat) : Bool :=
  let x := c.outs.getD o {}
  let d := c.prediv o * x.div
  c.fvco ≤ (if o < 4 then 3200000000 else 1250000000) * d && (x.mode = 1 || d ≤ c.fvco) && (x.format = 0 || c.fvco ≤ formatLimit x.format * d)

/-- The checks of PADDOCK (06 R131–R133). -/
def checkPaddock (q : Call) (s : State) : Serve :=
  let p := q.params
  let k := fld p 0 1
  let pre := fld p 1 1
  let c := s.stagedOuts
  let outs := (List.range 4).map fun i => 4 * k + i
  checks [
    (p.length = 4, St.badLength),
    (q.pen = 0, St.denied),
    (k < 4, St.badParam),
    (if k = 0 then inRange pre 2 16 else inRange pre 4 64, St.badParam),
    (fld p 2 1 ≤ 2 && zeros p 3 1, St.badParam),
    (pre = (c.pads.getD k {}).prediv || outs.all fun o => c.formatOf o = 0, St.badParam),
    (outs.all fun o => vddoAllows (c.formatOf o) (fld p 2 1) && (setPaddock p c).freqOk o, St.badParam)]
    (Serve.group 0x3013 (p.take 1))

/-- PADDOCK committed. -/
def commitPaddock (q : Call) (s : State) : State :=
  let k := fld q.params 0 1
  let s1 := if fld q.params 1 1 = (s.cfg.pads.getD k {}).prediv then s
    else s.rebaseOuts ((List.range 4).map fun i => 4 * k + i) (setPaddock q.params s.cfg)
  s1.setCfg (setPaddock q.params s1.cfg)

/-- The checks of OUT (06 R132–R137; 13 R313). -/
def checkOut (q : Call) (s : State) : Serve :=
  let p := q.params
  let o := fld p 0 1
  let w := fld p 4 4
  let c : OutCfg := { config := BitVec.ofNat 32 w, div := fld p 8 4, period := fld p 12 4, width := fld p 16 4 }
  let g := s.stagedOuts
  checks [
    (p.length = 20, St.badLength),
    (o < 16, St.badParam),
    (s.owns q.pen o, St.denied),
    (zeros p 1 3 && w < 2 ^ 17 && w / 8 % 4 = 0, St.badParam),
    (w / 2 ^ 13 % 4 ≤ 1 && c.prst ≤ 2 && c.mode ≤ 2 && c.format ≤ 5, St.badParam),
    (driveOk c.format (w / 2 ^ 10 % 4) && vddoAllows c.format (g.pads.getD (o / 4) {}).vddo, St.badParam),
    (1 ≤ c.div && (!c.duty || c.div ≠ 1), St.badParam),
    ((setOut p g).freqOk o, St.badParam),
    (c.mode ≠ 1 || (1 ≤ c.width && c.width < c.periodCycles), St.badParam)]
    (Serve.group 0x3015 (p.take 1))

/-- A new WIDTH acts from the next pulse start: the pulse in progress keeps its own (06 R137). -/
def State.keepWidth (s : State) (o : Nat) : State :=
  s.updOut o fun x => { x with oldPulse := x.lastStart.map fun l => (l, s.fallOf o l) }

/-- The pulse train as the configuration word changes: a change of mode or of alignment drops what is planned; an output that now follows an index with a
count stays low until its first aligned start, and one that does not runs its frame without limit (07 R156, R158). -/
def Out.retrain (x : Out) (old new : OutCfg) : Out :=
  if new.mode = 1 && old.mode = 1 && new.onCommand = old.onCommand then x
  else { x with plans := [], index := none, pulsesLeft := if new.mode = 1 && !new.onCommand && new.alignCount ≠ 0 then some 0 else none }

/-- The gate's open window begins afresh as the output becomes GATED. -/
def Out.regate (x : Out) (old new : OutCfg) (t : Nat) : Out :=
  if x.gate && old.mode ≠ 2 && new.mode = 2 then { x with openAt := t, counted := 0, before := (0, 0), ran := x.running } else x

/-- OUT committed (06 R134–R137, R149, R150): the configuration word written ends a pen-reset action; QUIET_OFF acts at once in QUIET (18 R422); a high phase in
progress ends as the settings before had it. -/
def commitOut (q : Call) (s : State) : State :=
  let p := q.params
  let o := fld p 0 1
  let t := s.foldStart
  let old := s.outCfg o
  let new := (setOut p s.cfg).outs.getD o {}
  let low := s.nextLow o t
  let s1 :=
    if new.div ≠ old.div || new.period ≠ old.period || new.mode ≠ old.mode then s.rebase o t (setOut p s.cfg)
    else if new.width ≠ old.width then (s.settle o (t + 1)).keepWidth o
    else s.settle o t
  let s2 := ({ s1 with cfg := setOut p s1.cfg }).updOut o fun x =>
    ({ (x.retrain old new) with prst := .none, quietOff := s.pow.state = PowerState.quiet && new.quietOff }).regate old new t
  s2.setRunningAt o t low (old.format ≠ 0 && new.format ≠ 0 && old.format ≠ new.format)

/-- The OUT group (13 R313). -/
def State.outGroup (s : State) (o : Nat) : List Byte :=
  let c := s.outCfg o
  le 1 o ++ le 3 0 ++ le 4 c.config.toNat ++ le 4 c.div ++ le 4 c.period ++ le 4 c.width

/-- The VCO, PADDOCK and MON groups (13 R313). -/
def State.vcoGroup (s : State) : List Byte := le 8 s.cfg.fvco
def State.paddockGroup (s : State) (k : Nat) : List Byte :=
  le 1 k ++ le 1 (s.cfg.pads.getD k {}).prediv ++ le 1 (s.cfg.pads.getD k {}).vddo ++ le 1 0
def State.monGroup (s : State) : List Byte := leI 6 s.cfg.monFtol

/-- The checks of MON (06 R152). -/
def checkMon (q : Call) (_s : State) : Serve :=
  checks [(q.params.length = 6, St.badLength), (q.pen = 0, St.denied), (inRangeI (fldI q.params 0 6) 1000000000 1000000000000, St.badParam)]
    (Serve.group 0x3023 [])

/-- MON committed. -/
def commitMon (q : Call) (s : State) : State := { s with cfg := { s.cfg with monFtol := fldI q.params 0 6 } }

/-- The frequency error of `n` emitted periods that took `aux` fs by the AUXPLL timebase (06 R152): the measurement corrected by the second's mean DCO word
and the output's plan. -/
def State.freqError (s : State) (o n aux : Nat) : Fu :=
  let p := s.basePeriod o
  if aux = 0 then 0
  else satFu (divNear (n * p.1 * 1000000000000000 * 1000000000000000 : Nat) (p.2 * aux * (1000000000000000 + s.lp.meanWord).toNat) - 1000000000000000)

/-- A device second of MON ends, its first fold after it being in hand: for each output, how many emitted periods the pad gave and how long they took by the
AUXPLL timebase (06 R152), where the schedule runs (01 R32). FREQ_ERR gives the nearest whole ppb (DESIGN CHOICE, log 100). -/
def execMonSecondEnd (meas : List (Nat × Nat × Nat)) (s : State) : Host.Outcome State Fault Refusal :=
  .next (if s.clk.inSec ≠ 0 || !s.schedule then s
    else forEach meas (fun m s =>
      let e := s.freqError m.1 m.2.1 m.2.2
      s.raiseIf (m.1 < 16 && m.2.1 ≠ 0 && (s.out m.1).running && (s.outCfg m.1).mode ≠ 1 && s.cfg.monFtol < e.natAbs) (0x40 + 4 * m.1 + 1)
        (detailSat (divNear e 1000000))) s)

/-- Windows staged for an output earlier in the fold. -/
def windowOf (p : List Byte) : Window := { fold := BitVec.ofNat 64 (fld p 8 8), start := fld p 16 4, stop := fld p 20 4 }

def State.stagedWindows (s : State) (o : Nat) : List Window :=
  s.host.staged.foldl (fun l g =>
    if g.commit && g.opcode = 0x3018 && fld g.call.params 0 1 = o then l ++ [windowOf g.call.params]
    else if g.commit && g.opcode = 0x301A && fld g.call.params 0 1 = o then []
    else l) ((s.out o).windows.filter fun w => !w.begun)

/-- Two windows overlap. -/
def Window.overlaps (a b : Window) : Bool := a.from_ < b.to && b.from_ < a.to

/-- The checks of GATE_WINDOW (06 R138, R139). -/
def checkGateWindow (q : Call) (s : State) : Serve :=
  let p := q.params
  let o := fld p 0 1
  let w := windowOf p
  checks [
    (p.length = 24, St.badLength),
    (o < 16, St.badParam),
    (s.owns q.pen o, St.denied),
    (zeros p 1 7 && (s.stagedOuts.outs.getD o {}).mode = 2, St.badParam),
    (w.start < w.stop && s.clk.absFold.toNat + 1 < w.fold.toNat, St.badWindow),
    ((s.stagedWindows o).length < 4 && (s.stagedWindows o).all fun v => !v.overlaps w, St.badWindow)]
    Serve.stage

/-- A window queued, in time order. -/
def commitGateWindow (q : Call) (s : State) : State :=
  let w := windowOf q.params
  s.updOut (fld q.params 0 1) fun x => { x with
    windows := x.windows.filter (fun v => v.from_ ≤ w.from_) ++ [w] ++ x.windows.filter (fun v => w.from_ < v.from_) }

/-- The checks of GATE_FLUSH. -/
def checkGateFlush (q : Call) (s : State) : Serve :=
  checks [(q.params.length = 1, St.badLength), (fld q.params 0 1 < 16, St.badParam), (s.owns q.pen (fld q.params 0 1), St.denied)] Serve.stage

/-- GATE_FLUSH committed: queued windows go, one already open runs on (13 R313); the reply counts them. -/
def commitGateFlush (q : Call) (s : State) : State × List Byte :=
  let o := fld q.params 0 1
  let n := ((s.out o).windows.filter fun w => !w.begun).length
  (s.updOut o fun x => { x with windows := x.windows.filter (·.begun) }, le 1 n)

/-- The output status block (13 R313). -/
def State.outStatusBytes (s : State) (o : Nat) : List Byte :=
  let x := s.out o
  let c := s.outCfg o
  let d := delayParts s.cfg.fvco c.delay
  le 1 (b2n x.running + 2 * b2n x.gate + 4 * b2n (x.prst ≠ .none) + 8 * b2n x.quietOff) ++
    le 1 (x.windows.filter fun w => !w.begun).length ++ le 2 d.1 ++ le 1 d.2.1 ++ le 3 0 ++ leI 8 c.delay ++ leI 4 d.2.2 ++
    leI 4 x.carry ++ leI 4 (clampI (-2147483648) 2147483647 x.diff) ++ le 4 0 ++ le 8 x.shown.1.toNat ++ le 8 x.shown.2.toNat

end Sys2Proof.Machine
end

