-- ==== Sys2Proof/Machine/Stile.lean ====
section
/-! DEFINITION. The stile and the tally (05): measuring a new bellwether, queues and activation, payout on outputs, steps, cancellation and
their opcodes. -/

namespace Sys2Proof.Machine

/-! ### The stile (05 R119, R120) -/

/-- An entry of the stile in slot 0; under STILE_KEEP_PHASE a SWITCH entry is created CANCELLED with cause KEEP (05 R120). -/
def State.enterStile (s : State) (src : TallySrc) (amount : Fs) : State :=
  let e : Entry := { src := src, flock := 0, pen := 0, slot := 0, seq := 0, amount := amount, created := s.clk.absFold }
  let seq := s.tally.nextSeq
  let s1 := { s with tally := s.tally.add e }
  if src = .switch && s.cfg.stile.keep then
    match s1.tally.find seq with
    | some e1 => s1.cancelEntry e1 4
    | none => s1
  else s1

/-- The stile measures a committed change at the newest unflagged sample captured at or after the committing boundary (05 R119), and the episode
record of an episode that has ended takes its HOLDOVER_EXIT's amount (04 R102). No sample captured before the entry, or in the fold of the commit, steers (04 R84). -/
def State.measureStile (s : State) : State :=
  match s.lp.unmeasured, s.sel.bell with
  | some (src, fold), some b =>
    match (s.cand b).sample with
    | some (t, v) =>
      if s.lp.frozen || s.lp.held || t < foldAt fold.toNat then s
      else
        let a := s.modPeriod b (satFs (s.tally.steer - v))
        let s1 := s.enterStile src a
        let ep := s1.lp.lastEpisode
        { s1 with lp := { s1.lp with
          unmeasured := none
          steerFrom := max s.instant (foldAt (fold.toNat + 1))
          amountDue := false
          lastEpisode := if src = .holdoverExit && s1.lp.amountDue then (ep.1, ep.2.1, a) else ep } }
    | none => s
  | _, _ => s

/-! ### Queues (05 R112, R113) -/

/-- Whether an entry may become the head at the boundary that begins the present fold: not created by it, and its start fold reached. -/
def State.ready (s : State) (e : Entry) : Bool :=
  e.created.toNat < s.clk.absFold.toNat && (e.startFold = 0 || e.startFold.toNat ≤ s.clk.absFold.toNat)

/-- An output's queue: open flock entries that name it, pre-loaded crook steps apart; one that the output has paid in full holds the head until its other
outputs have paid too (05 R113). -/
def Tally.outQueue (t : Tally) (o : Nat) : List Entry := t.entries.filter fun e => e.isOpen && !e.isDevice && e.flock.getLsbD o && !e.crook

/-- An output's head. -/
def State.outHead (s : State) (o : Nat) : Option Entry := (s.tally.outQueue o).find? fun e => e.status = .applying || s.ready e

/-- An entry becomes APPLYING; an immediate one is paid from the first edge after the boundary on (06 R147). -/
def State.makeApplying (s : State) (e : Entry) : State :=
  { s with tally := s.tally.updEntry e.seq fun e => if e.status = .pending then { e with status := .applying, movedTo := s.foldStart + 1 } else e }

/-- A grazed flock entry (05 R115). -/
def Entry.grazed (e : Entry) : Bool := e.src = .step && !e.immediate && !e.crook

/-- Activation at a boundary: the head of every queue; a grazed flock entry waits while a device entry pays (05 R112, R113, R115, log 30). -/
def State.activateTally (s : State) : State :=
  let s1 := match s.tally.deviceQueue.find? (fun e => e.status = .applying || s.ready e) with
    | some e => s.makeApplying e
    | none => s
  let busy := s1.tally.deviceQueue.any fun e => e.status = .applying && e.remaining ≠ 0
  let heads := (List.range 16).filterMap fun o => s1.outHead o
  forEach heads (fun e s => if e.grazed && busy && e.status = .pending then s else s.makeApplying e) s1

/-- The row's form of activation (01 R21, 05 R112): at a boundary, of one entry, where it is a head that may start. -/
def execTallyEntryActivation (seq : BitVec 32) (s : State) : Host.Outcome State Fault Refusal :=
  .next (match (if s.atBoundary then s.tally.find seq else none) with
    | none => s
    | some e =>
      let busy := s.tally.deviceQueue.any fun e => e.status = .applying && e.remaining ≠ 0
      let headDev := (s.tally.deviceQueue.find? fun e => e.status = .applying || s.ready e).map (·.seq) = some seq
      let headOut := (List.range 16).any fun o => (s.outHead o).map (·.seq) = some seq
      if e.status = .pending && ((e.isDevice && headDev) || (headOut && !(e.grazed && busy))) then s.makeApplying e else s)

/-- What a grazed head moves its output by in a fold with `rises` rising edges, and the carry left (06 R146): the fold releases `slew` fs beside the carry, each
rising edge takes one whole 2,500 fs step of it, and no more than `slew` moves in a fold (05 R106), but one step where `slew` is less than a step, since the
rest that is carried forward would else never be applied (DESIGN CHOICE, log 82). -/
def grazedMove (rest carry slew : Fs) (rises : Nat) : Fs × Fs :=
  let due := ((carry + slew) / 2500).toNat
  let k := min (min (min due rises) (max 1 (slew / 2500).toNat)) (rest.natAbs / 2500)
  let m : Fs := (k : Int) * 2500
  (if rest < 0 then -m else m, carry + slew - m)

/-- One output's grazed payout of the fold (06 R146); an output that does not run is moved whole (06 R148). -/
def State.payGrazed (s : State) (o : Nat) : State :=
  match s.outHead o with
  | some e =>
    if e.status ≠ .applying || !e.grazed then s
    else
      let rest := e.amount - e.outApplied o
      if !(s.out o).running then if rest = 0 then s else s.moveOut e o rest
      else
        let m := grazedMove rest (s.out o).grazed (slewFold s.cfg.stile.slew) (s.risingEdges o s.foldStart (s.foldStart + foldFs))
        let s1 := s.updOut o fun x => { x with grazed := if m.1 = rest then 0 else m.2 }
        if m.1 = 0 then s1 else s1.moveOut e o m.1
  | none => s

/-- The staged device payout term is zero (05 R115). -/
def State.noDevicePayout (s : State) : Bool := match s.lp.staged with
  | some d => d.payout = 0
  | none => s.lp.dcoPay = 0

/-- Slot 1 (05 R113, R119): the stile's measurement and one fold of grazed payout; the head's payout stands in the word that slot 0 staged (05 R114). -/
def State.tallySlot (s : State) : State :=
  let s1 := s.measureStile
  if s1.noDevicePayout then forEach (List.range 16) (fun o s => s.payGrazed o) s1 else s1

/-- The row. -/
def execStileAndTallySlot (t : Nat) (s : State) : Host.Outcome State Fault Refusal := .next (s.inSlot 1 t fun s => s.tallySlot)

/-- An entry that has applied all of AMOUNT is DONE at the boundary (05 R112); a GATHER is once its new frame has begun. -/
def State.finished (s : State) (e : Entry) : Bool :=
  e.status = .applying &&
    (if e.isDevice then e.applied = e.amount
     else if e.src = .gather then e.fixed && (flockOuts e.flock).all fun o => (s.out o).plans.all fun p => p.seq ≠ some e.seq
     else e.prog.all fun p => p.2 = e.amount)

/-- What a GATHER entry still owes its outputs, paid as it finishes (07 R161). -/
def State.settleGather (s : State) (e : Entry) : State :=
  if e.src = .gather then
    forEach (flockOuts e.flock) (fun o s => if e.outApplied o = e.amount then s else { s with tally := s.tally.payOut e o (e.amount - e.outApplied o) }) s
  else s

/-- DONE transitions of a boundary, with their events (05 R112, R129). -/
def State.finishAll (s : State) : State :=
  forEach (s.tally.entries.filter s.finished) (fun e s => (s.settleGather e).finishEntry e) s

/-! ### Slots asked for by what is staged (05 R108, R109) -/

/-- The entry of a pen's pre-loaded crook step. -/
def State.crookEntry (s : State) (p : Pen) : Option Entry :=
  ((s.crook.getD p {}).step.bind s.tally.find).filter fun e => e.isOpen && e.crook && e.status = .pending

/-- Slots of 2–31 that commands staged in this fold will take. -/
def State.stagedSlots (s : State) : Nat :=
  s.tally.crookNew.length + (s.host.staged.map fun g =>
    if !g.commit then 0
    else if g.opcode = 0x2040 || g.opcode = 0x3016 || g.opcode = 0x4016 || g.opcode = 0xF010 then g.mark
    else if g.opcode = 0x4012 then (flockOuts (BitVec.ofNat 16 (fld g.call.params 0 2))).length
    else 0).sum

/-- Free slots of 2–31 for a new command. -/
def State.slotsLeft (s : State) : Nat := s.tally.freeSlots.length - s.stagedSlots

/-- A refusal with TALLY_FULL raises TALLY_REFUSED for the host (05 R109). -/
def Serve.tallyFull (flock : Nat) : Serve := { status := St.tallyFull, act := fun s => s.raise Ev.tallyRefused (flock * 2 ^ 16) }

/-- The serve of a command that takes `n` slots. -/
def withSlots (s : State) (n flock : Nat) (sv : Serve) : Serve := if n ≤ s.slotsLeft then { sv with mark := n } else .tallyFull flock

/-- What the pre-loaded crook step of a pen adds to an output. -/
def State.loadOf (s : State) (o : Nat) (p : Pen) : Fs := match s.crookEntry p with
  | some e => if e.flock.getLsbD o then e.amount else 0
  | none => 0

/-- What one staged command makes of the delay that the staged ones add to an output, and of what the pens' crook steps add to it: a CROOK_STEP replaces its
pen's (05 R124). -/
def State.stagedBy (s : State) (o : Nat) (d : Fs × Vec Fs 4) (g : Staged) : Fs × Vec Fs 4 :=
  let p := g.call.params
  let names : Bool := (BitVec.ofNat 16 (fld p 0 2)).getLsbD o
  if !g.commit then d
  else if g.opcode = 0x2040 && names then (d.1 + flockAmount (fldI p 16 8), d.2)
  else if g.opcode = 0xF010 then
    let a : Fs := if names then flockAmount (fldI p 8 8) else 0
    (d.1 - d.2.getD g.call.pen.val 0 + a, d.2.upd g.call.pen.val fun _ => a)
  else if g.opcode = 0x3016 && fld p 0 1 = o then (roundStep (fldI p 8 8) 2500 - s.delayAfter o, d.2)
  else d

/-- What the commands staged in this fold will add to an output's open STEP entries, and what of all that is each pen's crook step. -/
def State.stagedDelays (s : State) (o : Nat) : Fs × Vec Fs 4 :=
  s.host.staged.foldl (s.stagedBy o) (0, .ofFn 4 fun p => s.loadOf o (Fin.ofNat 4 p))

/-- Amounts that STEP, OUT_DELAY and CROOK_STEP commands staged in this fold will add to an output's open STEP entries. -/
def State.stagedDelay (s : State) (o : Nat) : Fs := (s.stagedDelays o).1

/-- Whether every output of a flock stays within 0 to DELAY_MAX after `x` more (05 R122). -/
def State.delayFits (s : State) (f : BitVec 16) (x : Fs) : Bool :=
  (flockOuts f).all fun o =>
    let d := s.delayAfter o + s.stagedDelay o + x
    0 ≤ d && d ≤ delayMax s.stagedOuts.fvco

/-! ### Opcodes -/

/-- The checks of VCO (06 R130, R132, R143): neither the delay of an output now, nor that after its open STEP entries and those staged, may pass the new
DELAY_MAX. -/
def checkVco (q : Call) (s : State) : Serve :=
  let p := q.params
  let f := fld p 0 8
  let c := s.stagedOuts
  checks [
    (p.length = 8, St.badLength),
    (q.pen = 0, St.denied),
    (inRange f 5600000000 6400000000, St.badParam),
    (f = c.fvco || (List.range 16).all fun o => c.formatOf o = 0, St.badParam),
    ((List.range 16).all fun o =>
      max (s.outCfg o).delay (s.delayAfter o + s.stagedDelay o) ≤ delayMax f && (setVco p c).freqOk o, St.badParam)]
    (Serve.group 0x3011 [])

/-- The STILE group (13 R311). -/
def State.stileGroup (s : State) : List Byte := leI 6 s.cfg.stile.slew ++ le 1 (b2n s.cfg.stile.keep) ++ le 1 0

/-- The checks of STILE (05 R105). -/
def checkStile (q : Call) (_s : State) : Serve :=
  let p := q.params
  checks [
    (p.length = 8, St.badLength),
    (q.pen = 0, St.denied),
    (inRangeI (fldI p 0 6) 10000000 100000000000 && fld p 6 1 ≤ 1 && zeros p 7 1, St.badParam)]
    (Serve.group 0x2023 [])

/-- STILE committed, SLEW in steps of 0.01 ppm (00 R8). -/
def commitStile (q : Call) (s : State) : State :=
  { s with cfg := { s.cfg with stile := { slew := roundStep (fldI q.params 0 6) 10000000, keep := fld q.params 6 1 = 1 } } }

/-- A STEP entry of a pen, in the first free slot (05 R108, R110), with the sequence number it takes. A crook step that was to replace one that fired before the
boundary can find all of 2–31 taken: it then shows slot 31, beside the entry that holds it (DESIGN CHOICE, log 101). -/
def State.addStep (s : State) (e : Entry) : State × BitVec 32 :=
  ({ s with tally := s.tally.add { e with slot := s.tally.freeSlots.headD 31, created := s.clk.absFold } }, s.tally.nextSeq)

/-- SEQ and AMOUNT as entered (13 R311). -/
def seqReply (seq : BitVec 32) (a : Fs) : List Byte := le 4 seq.toNat ++ leI 8 a

/-- The amount that a STEP enters: rounded for a flock (05 R115). -/
def stepAmount (p : List Byte) : Fs := if fld p 0 2 = 0 then fldI p 16 8 else flockAmount (fldI p 16 8)

/-- The checks of STEP (05 R116, R122; 13 R311). -/
def checkStep (q : Call) (s : State) : Serve :=
  let p := q.params
  let f := BitVec.ofNat 16 (fld p 0 2)
  let a := stepAmount p
  let start := fld p 8 8
  checks [
    (p.length = 24, St.badLength),
    (flockOwner q f s, St.denied),
    (fld p 2 1 ≤ 1 && zeros p 3 5, St.badParam),
    (a ≠ 0 && (start = 0 || s.clk.absFold.toNat + 1 < start), St.badParam),
    (if f = 0 then inRangeI a (-500000000000000) 500000000000000 && fld p 2 1 = 0 else s.delayFits f a, St.badParam)]
    (withSlots s 1 f.toNat Serve.stage)

/-- STEP committed (05 R110, R122). -/
def commitStep (q : Call) (s : State) : State × List Byte :=
  let p := q.params
  let a := stepAmount p
  let f := BitVec.ofNat 16 (fld p 0 2)
  let st := BitVec.ofNat 64 (fld p 8 8)
  let r := s.addStep { src := .step, flock := f, pen := q.pen, slot := 0, seq := 0, amount := a, created := 0, immediate := fld p 2 1 = 1, startFold := st }
  (r.1, seqReply r.2 a)

/-- The checks of OUT_DELAY (05 R123, 06 R143; 13 R313). -/
def checkOutDelay (q : Call) (s : State) : Serve :=
  let p := q.params
  let o := fld p 0 1
  let d := roundStep (fldI p 8 8) 2500
  checks [
    (p.length = 16, St.badLength),
    (o < 16, St.badParam),
    (s.owns q.pen o, St.denied),
    (fld p 1 1 ≤ 1 && zeros p 2 6 && 0 ≤ fldI p 8 8 && d ≤ delayMax s.stagedOuts.fvco, St.badParam)]
    (withSlots s (if d = s.delayAfter o + s.stagedDelay o then 0 else 1) (2 ^ o) Serve.stage)

/-- OUT_DELAY committed: a STEP entry with DELAY set for what the delay named differs from the programmed one after the open steps (05 R123). -/
def commitOutDelay (q : Call) (s : State) : State × List Byte :=
  let p := q.params
  let o := fld p 0 1
  let a := roundStep (fldI p 8 8) 2500 - s.delayAfter o
  if a = 0 then (s, seqReply 0 0)
  else
    let r := s.addStep { src := .step, flock := BitVec.ofNat 16 (2 ^ o), pen := q.pen, slot := 0, seq := 0, amount := a, created := 0, delay := true, immediate := fld p 1 1 = 1 }
    (r.1, seqReply r.2 a)

/-- The checks of TALLY_CANCEL (05 R125). -/
def checkTallyCancel (q : Call) (s : State) : Serve :=
  let e := s.tally.find (BitVec.ofNat 32 (fld q.params 0 4))
  let may := match e with
    | some e => if e.src = .ssct then false else if e.src = .switch || e.src = .holdoverExit then q.pen = 0 else q.pen = 0 || q.pen = e.pen
    | none => true
  checks [
    (q.params.length = 4, St.badLength),
    (e.isSome, St.badParam),
    (may, St.denied),
    ((e.map (·.isOpen)).getD false, St.badParam)]
    Serve.stage

/-- A cancelled entry's traces outside the tally: a planned gathered start and a pre-loaded crook step. -/
def State.dropTraces (s : State) (e : Entry) : State :=
  let s1 := forEach (flockOuts e.flock) (fun o s => s.updOut o fun x => { x with plans := x.plans.filter fun p => p.seq ≠ some e.seq }) s
  { s1 with crook := s1.crook.map fun c => if c.step = some e.seq then { c with step := none } else c }

/-- An open entry cancelled whole, wherever it is known. -/
def State.cancelOpen (s : State) (seq : BitVec 32) (cause : Nat) : State :=
  match s.tally.find seq with
  | some e => if e.isOpen then (s.cancelEntry e cause).dropTraces e else s
  | none => s

/-- TALLY_CANCEL committed: an entry that has reached DONE stays so (05 R125). -/
def commitTallyCancel (q : Call) (s : State) : State := s.cancelOpen (BitVec.ofNat 32 (fld q.params 0 4)) 1

/-- One page of a list: TOTAL, COUNT, then at most `most` items from FIRST (13 R312). -/
def tallyPage (l : List Entry) (first : Nat) : List Byte :=
  let items := (l.drop first).take 20
  le 1 l.length ++ le 1 items.length ++ le 2 0 ++ (items.map (·.record)).flatten

/-- TALLY_READ from the snapshot (05 R110, R128; 13 R305, R312). -/
def checkTallyRead (q : Call) (s : State) : Serve :=
  let p := q.params
  let t := s.snap.tally
  checks [(p.length = 4, St.badLength), (fld p 0 1 ≤ 1 && zeros p 2 2, St.badParam)]
    (Serve.data (tallyPage (if fld p 0 1 = 0 then t.entries else t.ring) (fld p 1 1)))

/-- The checks of CROOK_STEP (05 R124; 13 R326): the slot of a step it replaces counts as free. -/
def checkCrookStep (q : Call) (s : State) : Serve :=
  let p := q.params
  let f := BitVec.ofNat 16 (fld p 0 2)
  let a := flockAmount (fldI p 8 8)
  let old := s.crookEntry q.pen
  let loaded := old.isSome || s.host.staged.any fun g => g.commit && g.opcode = 0xF010 && g.call.pen = q.pen
  checks [
    (p.length = 16, St.badLength),
    (f ≠ 0, St.badParam),
    (flockOwner q f s, St.denied),
    (zeros p 2 6 && a ≠ 0, St.badParam),
    ((flockOuts f).all fun o =>
      let d := s.delayAfter o + s.stagedDelay o - (s.stagedDelays o).2.getD q.pen.val 0 + a
      0 ≤ d && d ≤ delayMax s.stagedOuts.fvco, St.badParam)]
    (withSlots s (if loaded then 0 else 1) f.toNat Serve.stage)

/-- CROOK_STEP committed: the replaced step is cancelled with cause HOST, then the new one takes its slot (05 R124). -/
def commitCrookStep (q : Call) (s : State) : State × List Byte :=
  let p := q.params
  let a := flockAmount (fldI p 8 8)
  let s1 := match s.crookEntry q.pen with
    | some e => s.cancelOpen e.seq 1
    | none => s
  let r := s1.addStep { src := .step, flock := BitVec.ofNat 16 (fld p 0 2), pen := q.pen, slot := 0, seq := 0, amount := a, created := 0, crook := true }
  (r.1.updCrook q.pen fun c => { c with step := some r.2 }, seqReply r.2 a)

/-- The checks of CROOK_CLEAR (13 R326). -/
def checkCrookClear (q : Call) (_s : State) : Serve :=
  checks [(q.params.length = 1, St.badLength), (fld q.params 0 1 ≤ 3, St.badParam)] Serve.stage

/-- CROOK_CLEAR committed: a cleared step is cancelled with cause HOST (13 R326). -/
def commitCrookClear (q : Call) (s : State) : State :=
  let w := fld q.params 0 1
  let s1 := if bit w 0 then (match (s.crook.getD q.pen {}).step with | some n => s.cancelOpen n 1 | none => s) else s
  s1.updCrook q.pen fun c => { c with
    step := if bit w 0 then none else c.step
    gather := if bit w 1 then none else c.gather }

/-- Pen reset of the tally (05 R126): entries waiting for a start fold or a crook action go whole, the rest run on. -/
def State.penResetTally (s : State) (p : Pen) : State :=
  let gone := s.tally.entries.filter fun e =>
    e.pen = p && e.status = .pending && (e.crook || s.clk.absFold.toNat < e.startFold.toNat) &&
      (e.src = .step || e.src = .gather)
  forEach gone (fun e s => s.cancelOpen e.seq 5) s

end Sys2Proof.Machine
end

