-- ==== Sys2Proof/Machine/Pulses.lean ====
section
/-! DEFINITION. Pulse frames, shaft alignment, GATHER and time of day (07), with the reference edges that feed them (02 R37, R46, R57). -/

namespace Sys2Proof.Machine

/-! ### Planning starts (07 R156–R163) -/

/-- The last start of the present train before `t`; an output that does not run has none to come. -/
def State.lastStartBy (s : State) (o t : Nat) : Option Nat :=
  if (s.out o).running then s.lastStartBefore o (max (s.out o).upTo (s.out o).runFrom) t else none

/-- The first instant at the pads at which a start does not cut the pulse that the present train has in progress at `t`, if one is: its falling edge plus one
base cycle, delayed as the pads are (07 R161). The new grid has the old frame's period, so it is the pulse in progress at the earliest allowed instant that
counts (log 83). -/
def State.pulseLimit (s : State) (o t : Nat) : Nat :=
  match s.lastStartBy o (t + 1) with
  | some l => if t < s.fallOf o l then s.clearOf o l + (s.outCfg o).delay.toNat else 0
  | none => 0

/-- The first base edge `e` with e + DELAY no earlier than `t` (07 R156, R161). -/
def State.edgeFor (s : State) (o t : Nat) : Nat := s.edgeFrom o (t - (s.outCfg o).delay.toNat)

/-- The aligned start of an index edge at `ti` (07 R156, R157): one before the falling edge of the pulse in progress plus one base cycle moves to the first
base edge after that point. -/
def State.indexPlan (s : State) (o ti : Nat) : Plan :=
  let c := s.outCfg o
  let target := ti + c.alignOffset.toNat
  let e := s.edgeFor o target
  let lim := match s.lastStartBy o e with
    | some l => s.clearOf o l
    | none => 0
  { start := if e < lim then s.edgeFrom o (lim + 1) else e
    target := target
    deferred := e < lim
    count := if c.alignCount = 0 then none else some c.alignCount }

/-- A start still to come is dropped: ALIGN_DONE with MISSED (07 R158). -/
def State.missPlan (s : State) (o : Nat) (p : Plan) : State :=
  let d := (s.outCfg o).delay
  s.updOut o fun x => { x with plans := x.plans.filter (· ≠ p), index := none, aligns := x.aligns ++ [(p.crook, p.detail d true)] }

/-- What an older index edge has planned for an output and has not begun by `t` is missed (07 R157). -/
def State.missOld (s : State) (o t : Nat) : State :=
  match (s.out o).index with
  | some ti => s.missPlan o (s.indexPlan o ti)
  | none => forEach ((s.out o).plans.filter fun (p : Plan) => p.seq.isNone && t < p.start) (fun p s => s.missPlan o p) s

/-- An index edge at `t` comes to an output that follows it (07 R155, R158): the start of the index edge before, planned or not, is dropped if it is still to
come; the scheduler plans the new one in the next fold. -/
def State.takeIndex (s : State) (o t : Nat) : State := ((s.settle o t).missOld o t).updOut o fun x => { x with index := some t }

/-- A planned start takes its place in time. -/
def Out.addPlan (x : Out) (p : Plan) : Out :=
  { x with plans := x.plans.filter (fun q => q.start ≤ p.start) ++ [p] ++ x.plans.filter (fun q => p.start < q.start) }

/-- The frame that runs as a start at `e` replaces it. -/
def State.frameBefore (s : State) (o e : Nat) : Nat := ((((s.out o).plans.filter fun p => p.start ≤ e).getLast?).map (·.start)).getD (s.frameOf o)

/-- The gathered start for a target `T` (07 R161): the earliest grid point no earlier than `low` and the pulse in progress, the base edge for it, and the
shift from the nearest start of the old frame. The grid's points before `T` are not taken (DESIGN CHOICE, log 83). -/
def State.planGather (s : State) (o target low : Nat) (seq : BitVec 32) : Plan :=
  let per := s.pulsePeriod o
  let at_ (x : Nat) : Nat := gridPoint target per (gridBefore target per x)
  let lim := if (s.out o).running then s.pulseLimit o low else 0
  let g0 := at_ low
  let g := at_ (max low lim)
  let e := s.edgeFor o g
  let shift := satFs (divNear (centred (((e : Int) - s.frameBefore o e) * per.2) per.1) per.2)
  { start := e, target := target, deferred := g ≠ g0, late := target < g, count := none, seq := some seq, shift := shift }

/-- A GATHER that its output pays, not fixed and not planned. -/
def State.gatherHead (s : State) (o : Nat) : Option Entry :=
  (s.outHead o).filter fun e => e.src = .gather && e.status = .applying && !e.fixed && (s.out o).plans.all fun p => p.seq ≠ some e.seq

/-- The scheduler plans an output's gathered start in the first fold in which its entry is APPLYING (07 R161). -/
def State.scheduleGather (s : State) (o : Nat) : State :=
  match s.gatherHead o with
  | some e => s.updOut o fun x => x.addPlan (s.planGather o (e.target.getD 0) (s.foldStart + foldFs) e.seq)
  | none => s

/-- AMOUNT fixed from a shift with the carry (07 R162): rounded, IMMEDIATE set, the totals entered. -/
def State.fixGather (s : State) (e : Entry) (o : Nat) (shift : Fs) : State :=
  let sum := satFs (shift + (s.out o).carry)
  let a := flockAmount sum
  let t1 := s.tally.updTotals e (Totals.enter a)
  { s with tally := t1.updEntry e.seq fun e => { e with amount := a, fixed := true, immediate := true } }.updOut o fun x =>
    { x with carry := sum - a }

/-- The amount of the GATHER entry `q` is fixed from the shift planned for output `o`, where it is not yet. -/
def State.fixPlanned (s : State) (o : Nat) (q : BitVec 32) (shift : Fs) : State :=
  match s.tally.find q with
  | some e => if e.isOpen && !e.fixed then s.fixGather e o shift else s
  | none => s

/-- At a boundary: the amounts of planned GATHER entries are fixed, whichever entry heads the queue by then, and whether or not the start has come already
(07 R161). -/
def State.fixGathers (s : State) : State :=
  forEach (List.range 16) (fun o s =>
    let l := (s.out o).begun ++ (s.out o).plans.filterMap fun p => p.seq.map fun q => (q, p.shift)
    forEach l (fun x s => s.fixPlanned o x.1 x.2) (s.updOut o fun x => { x with begun := [] })) s

/-- An output that does not run takes the frame of a gather at once (07 R163). -/
def State.takeFrame (s : State) (o : Nat) (p : Plan) : State :=
  let d := (s.outCfg o).delay
  s.updOut o fun x => { x with
    frame := some p.start
    pulsesLeft := none
    plans := x.plans.filter (· ≠ p)
    aligns := x.aligns ++ [(p.crook, p.detail d false)] }

/-- At the activating boundary an output that does not run takes its new frame: of the GATHER at its head, and of the crook gathers created there (07 R163,
R165). -/
def State.gatherStill (s : State) (o : Nat) : State :=
  if (s.out o).running then s
  else
    let s1 := match s.gatherHead o with
      | some e =>
        let p := s.planGather o (e.target.getD 0) (s.foldStart + foldFs) e.seq
        (s.fixGather e o p.shift).updOut o fun x => x.addPlan p
      | none => s
    forEach ((s1.out o).plans.filter (·.seq.isSome)) (fun p s => s.takeFrame o p) s1

/-- Immediate STEP entries and fired crook steps of an output move it over [a, b) (06 R147). -/
def State.payImmediate (s : State) (o a b : Nat) : State :=
  let heads := (s.outHead o).toList.filter fun e => e.src = .step && e.immediate && e.status = .applying
  let fired := s.tally.entries.filter fun e => e.crook && e.status = .applying && e.flock.getLsbD o
  forEach (heads ++ fired) (fun e s => s.moveImmediate e.seq o (max a e.movedTo) b) s

/-- The index edge of the fold before is planned, and no longer kept (07 R154, R156). -/
def State.planIndex (s : State) (o : Nat) : State :=
  match (s.out o).index with
  | some ti =>
    if s.foldStart ≤ ti then s
    else
      let s1 := s.settle o s.instant
      s1.updOut o fun x => { (x.addPlan (s1.indexPlan o ti)) with index := none }
  | none => s

/-- Slot 3 (07 R156, R161; 06 R147): starts for the index edges of the fold before, gathered starts, immediate changes. -/
def State.schedulerSlot (s : State) : State :=
  forEach (List.range 16) (fun o s => ((s.planIndex o).scheduleGather o).payImmediate o s.foldStart (s.foldStart + foldFs)) s

/-- The row. -/
def execOutputSchedulerSlot (t : Nat) (s : State) : Host.Outcome State Fault Refusal := .next (s.inSlot 3 t fun s => s.schedulerSlot)

/-- A planned start is reached (07 R156). -/
def execAlignedStart (o : Fin 16) (s : State) : Host.Outcome State Fault Refusal :=
  .next (match (s.out o).plans with
    | p :: _ => s.startTrain o p
    | [] => s)

/-- ALIGN_DONE for what the elapsed fold brought (07 R166). -/
def State.raiseAligns (s : State) : State :=
  forEach (List.range 16) (fun o s =>
    forEach (s.out o).aligns (fun d s => s.raise (0x40 + 4 * o + 3) d.2.toNat) (s.updOut o fun x => { x with aligns := [] })) s

/-- Outputs of a flock that a broadcast or crook gather takes: PULSE with ALIGN_ON_COMMAND (07 R164). -/
def State.gatherable (s : State) (f : BitVec 16) : List Nat :=
  (flockOuts f).filter fun o => (s.outCfg o).mode = 1 && (s.outCfg o).onCommand

/-- One GATHER entry per output, in ascending order, with a start fold (07 R160). -/
def State.addGathers (s : State) (outs : List Nat) (pen : Pen) (fold target : Nat) : State :=
  forEach outs (fun o s =>
    (s.addStep { src := .gather, flock := BitVec.ofNat 16 (2 ^ o), pen := pen, slot := 0, seq := 0, amount := 0, created := 0,
                 startFold := BitVec.ofNat 64 fold, target := some target, fixed := false }).1) s

/-- A broadcast gather (07 R164): entries with PEN 0, or TALLY_REFUSED with source 1. -/
def State.broadcastGather (s : State) (f : BitVec 16) (fold : Nat) (offset : Fs) : State :=
  let outs := s.gatherable (f &&& s.cfg.tod.gatherMask)
  if outs.length ≤ s.slotsLeft then s.addGathers outs 0 fold (foldAt fold + offset.toNat)
  else s.raise Ev.tallyRefused (f.toNat * 2 ^ 16 + 1)

/-- An entry of a fired crook gather waits for the boundary that creates it. -/
def State.keepCrookNew (s : State) (e : Entry) : State := { s with tally := { s.tally with crookNew := s.tally.crookNew ++ [e] } }

/-- A crook gather fires at the present instant (07 R165): starts planned from it, entries kept for the next boundary; too few slots raise TALLY_REFUSED with
source 2. -/
def State.crookGatherNow (s : State) (pen : Pen) (f : BitVec 16) (offset : Fs) : State :=
  let outs := s.gatherable f
  let target := s.instant + offset.toNat
  if s.slotsLeft < outs.length then s.raiseFrom Ev.tallyRefused (f.toNat * 2 ^ 16 + 2)
  else
    forEach outs (fun o s =>
      let s1 := s.settle o s.instant
      let p := s1.planGather o target s.instant 0
      let e : Entry := { src := .gather, flock := BitVec.ofNat 16 (2 ^ o), pen := pen, slot := 0, seq := 0, amount := p.shift, created := 0,
                         target := some target, fixed := false, status := .applying }
      (s1.updOut o fun x => x.addPlan { p with crook := some s.tally.crookNew.length }).keepCrookNew e) s

/-- The boundary creates the entries of a fired crook gather, APPLYING, with AMOUNT fixed (07 R165). -/
def State.createCrookGathers (s : State) : State :=
  let new := s.tally.crookNew.mapIdx fun k e => (k, e)
  forEach new (fun x s =>
    let e := x.2
    let r := s.addStep { e with amount := 0 }
    let o := (flockOuts e.flock).headD 0
    let s1 := r.1.updOut o fun y => { y with
      aligns := y.aligns.map fun d => if d.1 = some x.1 then (none, BitVec.ofNat 32 (d.2.toNat + r.2.toNat % 2 ^ 29)) else d
      plans := y.plans.map fun p => if p.crook = some x.1 then { p with seq := some r.2, crook := none } else p }
    match s1.tally.find r.2 with
    | some e1 => s1.fixGather e1 o e.amount
    | none => s1) { s with tally := { s.tally with crookNew := [] } }

/-! ### Opcodes of 13 R314: pulses -/

/-- The ALIGN group (13 R314). -/
def State.alignGroup (s : State) (o : Nat) : List Byte :=
  le 1 o ++ le 1 0 ++ le 2 (s.outCfg o).alignCount ++ leI 8 (s.outCfg o).alignOffset

/-- The checks of ALIGN (07 R154). -/
def checkAlign (q : Call) (s : State) : Serve :=
  let p := q.params
  checks [
    (p.length = 12, St.badLength),
    (fld p 0 1 < 16, St.badParam),
    (s.owns q.pen (fld p 0 1), St.denied),
    (zeros p 1 1 && inRangeI (fldI p 4 8) 250000000000 10000000000000000, St.badParam)]
    (Serve.group 0x4011 (p.take 1))

/-- ALIGN committed. -/
def commitAlign (q : Call) (s : State) : State :=
  let p := q.params
  s.updOutCfg (fld p 0 1) fun c => { c with alignCount := fld p 2 2, alignOffset := fldI p 4 8 }

/-- The checks of GATHER (07 R159). -/
def checkGather (q : Call) (s : State) : Serve :=
  let p := q.params
  let f := BitVec.ofNat 16 (fld p 0 2)
  let g := s.stagedOuts
  checks [
    (p.length = 24, St.badLength),
    (s.ownsFlock q.pen f, St.denied),
    (zeros p 2 6, St.badParam),
    ((flockOuts f).all fun o => (g.outs.getD o {}).mode = 1 && (g.outs.getD o {}).onCommand, St.badParam),
    (s.clk.absFold.toNat + 1 < fld p 8 8 && inRangeI (fldI p 16 8) 125000000000 1000000000000000, St.badParam)]
    (withSlots s (flockOuts f).length f.toNat Serve.stage)

/-- GATHER committed (07 R160): FIRST_SEQ and COUNT. -/
def commitGather (q : Call) (s : State) : State × List Byte :=
  let p := q.params
  let f := BitVec.ofNat 16 (fld p 0 2)
  let outs := flockOuts f
  (s.addGathers outs q.pen (fld p 8 8) (foldAt (fld p 8 8) + (fldI p 16 8).toNat),
    le 4 (if outs.isEmpty then 0 else s.tally.nextSeq.toNat) ++ le 1 outs.length ++ le 3 0)

/-- The checks of CROOK_GATHER (07 R165; 13 R326). -/
def checkCrookGather (q : Call) (s : State) : Serve :=
  let p := q.params
  checks [
    (p.length = 16, St.badLength),
    (s.ownsFlock q.pen (BitVec.ofNat 16 (fld p 0 2)), St.denied),
    (zeros p 2 6 && inRangeI (fldI p 8 8) 0 1000000000000000, St.badParam)]
    Serve.stage

/-- CROOK_GATHER committed. -/
def commitCrookGather (q : Call) (s : State) : State :=
  s.updCrook q.pen fun c => { c with gather := some (BitVec.ofNat 16 (fld q.params 0 2), fldI q.params 8 8) }

/-! ### Time of day (07 R167–R177) -/

/-- The TIME group (13 R314). -/
def State.timeGroup (s : State) : List Byte :=
  let c := s.cfg.tod
  le 1 c.src ++ le 1 c.pps ++ le 1 c.taiUtc ++ le 1 (b2n c.accept) ++ le 4 c.baud ++ le 2 c.gatherMask.toNat ++ le 2 0

/-- The checks of TIME (07 R168). -/
def checkTime (q : Call) (_s : State) : Serve :=
  let p := q.params
  checks [
    (p.length = 12, St.badLength),
    (q.pen = 0, St.denied),
    (fld p 0 1 ≤ 4 && fld p 1 1 ≤ 2 && fld p 3 1 ≤ 1 && zeros p 10 2, St.badParam),
    ([4800, 9600, 19200, 38400, 57600, 115200].contains (fld p 4 4), St.badParam)]
    (Serve.group 0x4015 [])

/-- TIME committed. -/
def commitTime (q : Call) (s : State) : State :=
  let p := q.params
  { s with cfg := { s.cfg with tod :=
    { src := fld p 0 1, pps := fld p 1 1, taiUtc := fld p 2 1, accept := fld p 3 1 = 1, baud := fld p 4 4, gatherMask := BitVec.ofNat 16 (fld p 8 2) } } }

/-- What a TIME_WRITE asks for at a boundary whose device time is `sec` s and `ns` ns: whole seconds and a remainder in (−0.5 s, 0.5 s] (07 R175). -/
def timeSplit (p : List Byte) (sec ns : Nat) : Int × Fs :=
  let want : Int := (fld p 0 6 : Int) * secondFs + fld p 8 4 * 1000000 + fld p 12 4
  let d := want - ((sec : Int) * secondFs + ns * 1000000)
  let r := centred d secondFs
  ((d - r) / secondFs, r)

/-- The checks of TIME_WRITE (07 R175; 13 R314). -/
def checkTimeWrite (q : Call) (s : State) : Serve :=
  let p := q.params
  let r := (timeSplit p 0 ((s.clk.inSec + 1) % 8000 * 125000)).2
  checks [
    (p.length = 16, St.badLength),
    (q.pen = 0, St.denied),
    (zeros p 6 2 && fld p 8 4 < 1000000000 && fld p 12 4 < 1000000, St.badParam)]
    (withSlots s (if r = 0 then 0 else 1) 0 Serve.stage)

/-- Device seconds moved by `k`: every label's differences move with them (07 R173). -/
def State.moveSeconds (s : State) (k : Int) : State :=
  let sh (l : Option Label) : Option Label := l.map fun l => { l with diffSec := l.diffSec - k, prev := l.prev.map (· - k) }
  { s with
    clk := { s.clk with seconds := s.clk.seconds + BitVec.ofInt 48 k }
    tod := { s.tod with uart := sh s.tod.uart, drove := sh s.tod.drove, commons := sh s.tod.commons } }

/-- A written time is valid and ends a jump in hand. -/
def State.validTime (s : State) : State := { s with tod := { s.tod with valid := true, jump := none } }

/-- TIME_WRITE committed (07 R175): whole seconds at once, the remainder as a device STEP entry. -/
def commitTimeWrite (q : Call) (s : State) : State × List Byte :=
  let x := timeSplit q.params s.clk.seconds.toNat (s.clk.inSec * 125000)
  let s2 := (s.moveSeconds x.1).validTime
  if x.2 = 0 then (s2, leI 8 x.1 ++ seqReply 0 0)
  else
    let r := s2.addStep { src := .step, flock := 0, pen := q.pen, slot := 0, seq := 0, amount := x.2, created := 0 }
    (r.1, leI 8 x.1 ++ seqReply r.2 x.2)

/-- TIME_READ at a boundary (07 R176). -/
def State.timeBytes (s : State) : List Byte :=
  le 4 s.timeWord ++ le 6 s.clk.seconds.toNat ++ le 2 0 ++ le 4 (s.clk.inSec * 125000) ++ le 4 0 ++ leI 8 s.lp.unc

/-- The start of the present device second, in fs since fold 0 (an integer: it may lie before fold 0). -/
def State.secondStart (s : State) : Int := (s.foldStart : Int) - s.clk.inSec * foldFs

/-- A new label after the one before it from the same source, with what that source reported in the device second before (07 R173). -/
def Label.after (l : Label) (old : Option Label) : Label :=
  match old with
  | some o => { l with prev := if o.at_ = l.at_ then o.prev else if o.at_ + 1 = l.at_ then some o.diffSec else none }
  | none => { l with prev := none }

/-- A label arrives for a source: 1 UART, 2 DROVE, 3 COMMONS. -/
def State.setLabel (s : State) (src : Nat) (l0 : Label) : State :=
  let l := { l0 with time := s.instant }
  { s with tod := match src with
    | 1 => { s.tod with uart := some (l.after s.tod.uart) }
    | 2 => { s.tod with drove := some (l.after s.tod.drove) }
    | _ => { s.tod with commons := some (l.after s.tod.commons) } }

/-- TIME_CONFLICT's detail word (07 R177). -/
def conflictDetail (cause : Nat) (d : Int) : Nat :=
  cause * 2 ^ 31 + (clampI (-(2 ^ 30 - 1)) (2 ^ 30 - 1) d % 2 ^ 31).toNat

/-- The comparison of the in-second fold on DROVE and COMMONS (07 R174). -/
def State.compareFold (s : State) (l : Label) : State :=
  if s.todActive ≠ 2 && s.todActive ≠ 3 then { s with tod := { s.tod with subsec := false, raisedFold := none } }
  else if l.diffFold = 0 then { s with tod := { s.tod with subsec := false, raisedFold := none } }
  else
    ({ s with tod := { s.tod with subsec := true, raisedFold := some l.diffFold } }).raiseIf (s.tod.raisedFold ≠ some l.diffFold) Ev.timeConflict
      (conflictDetail 1 l.diffFold)

/-- What a standing difference does (07 R173). -/
def State.actOnDiff (s : State) (d : Int) : State :=
  if !s.tod.valid then { s with tod := { s.tod with jump := some d } }
  else if d = 0 then s
  else if s.cfg.tod.accept then { s with tod := { s.tod with jump := some d } }
  else
    ({ s with tod := { s.tod with conflict := true, raisedSec := some d } }).raiseIf (s.tod.raisedSec ≠ some d) Ev.timeConflict (conflictDetail 0 d)

/-- The newest label of the active source against the device's own seconds; a difference that the source has reported in two consecutive device seconds
stands (07 R173). -/
def State.judgeLabel (s : State) (l : Label) : State :=
  let s1 := s.compareFold l
  let s2 := if l.diffSec = 0 then { s1 with tod := { s1.tod with conflict := false, raisedSec := none } } else s1
  if l.prev = some l.diffSec then s2.actOnDiff l.diffSec else s2

/-- The comparison, once per device second. -/
def State.compareSeconds (s : State) : State :=
  if s.tod.compared = some s.clk.secIdx then s
  else
    let s1 := { s with tod := { s.tod with compared := some s.clk.secIdx } }
    match s.todLabel with
    | some l => if s.clk.secIdx ≤ l.at_ + 1 then s1.judgeLabel l else s1
    | none => s1

/-- The comparison of a device second, in the reference-monitor slot (07 R173, R174). -/
def execSecondsComparison (t : Nat) (s : State) : Host.Outcome State Fault Refusal :=
  .next (s.whileScheduled t fun s => if slotHolds 4 t then s.compareSeconds else s)

/-- At a device-second boundary, a staged change of seconds is taken (07 R173): SECOND_JUMP where the seconds were valid. -/
def State.takeJump (s : State) : State :=
  match s.tod.jump with
  | some d =>
    if s.clk.inSec ≠ 0 then s
    else
      let s1 := s.moveSeconds d
      ({ s1 with tod := { s1.tod with valid := true, jump := none, conflict := false, raisedSec := none } }).raiseIf s.tod.valid Ev.secondJump (detailSat d)
  | none => s

/-! ### NMEA sentences (07 R170–R172) -/

/-- The value of a decimal digit. -/
def digit (b : Byte) : Option Nat := let n := b.toNat; if 48 ≤ n && n ≤ 57 then some (n - 48) else none

/-- The value of a hexadecimal digit in either case. -/
def hexDigit (b : Byte) : Option Nat :=
  let n := b.toNat
  if 48 ≤ n && n ≤ 57 then some (n - 48) else if 65 ≤ n && n ≤ 70 then some (n - 55) else if 97 ≤ n && n ≤ 102 then some (n - 87) else none

/-- The number that digits spell; none if empty or not all digits. -/
def number : List Byte → Option Nat
  | [] => none
  | l => l.foldl (fun a b => match a, digit b with | some x, some d => some (10 * x + d) | _, _ => none) (some 0)

/-- A list cut at every comma. -/
def splitComma : List Byte → List (List Byte)
  | [] => [[]]
  | b :: r =>
    let l := splitComma r
    if b = 44 then [] :: l else (b :: l.headD []) :: l.drop 1

/-- The exclusive OR of every character (07 R171). -/
def xorAll (l : List Byte) : Byte := l.foldl (· ^^^ ·) 0

/-- Time of day in seconds, and whether its fraction is zero; 60 in ss is cause 5, a fault of format cause 2 (07 R171). -/
def readTime (f : List Byte) : Except Nat (Nat × Bool) :=
  let fr := f.drop 6
  let fracOk := fr.isEmpty || (fr.headD 0 = 46 && 2 ≤ fr.length && fr.length ≤ 4 && (number (fr.drop 1)).isSome)
  match number (f.take 2), number ((f.drop 2).take 2), number ((f.drop 4).take 2) with
  | some h, some m, some c =>
    if f.length < 6 || !fracOk || 24 ≤ h || 60 ≤ m || 60 < c then .error 2
    else if c = 60 then .error 5
    else .ok (h * 3600 + m * 60 + c, (number (fr.drop 1)).getD 0 = 0)
  | _, _, _ => .error 2

/-- Days of a month (1970–2099: every fourth year is leap). -/
def monthDays (y m : Nat) : Nat := if m = 2 then (if y % 4 = 0 then 29 else 28) else if m = 4 || m = 6 || m = 9 || m = 11 then 30 else 31

/-- Days from 1970-01-01 to a date. -/
def dayNumber (y m d : Nat) : Nat :=
  (y - 1970) * 365 + (y - 1969) / 4 + ((List.range (m - 1)).map fun k => monthDays y (k + 1)).sum + (d - 1)

/-- A date in range, as its day number (07 R171). -/
def readDate (y m d : Option Nat) : Option Nat :=
  match y, m, d with
  | some y, some m, some d => if 1 ≤ m && m ≤ 12 && 1 ≤ d && d ≤ monthDays y m && 1970 ≤ y && y ≤ 2099 then some (dayNumber y m d) else none
  | _, _, _ => none

/-- The UTC seconds of the fields of a sentence, or the cause of its rejection (07 R170, R171). -/
def readFields (rmc : Bool) (fs : List (List Byte)) : Except Nat Nat :=
  let at_ (k : Nat) : List Byte := fs.getD k []
  let two (k : Nat) : Option Nat := if (at_ k).length = 2 then number (at_ k) else none
  let status := at_ 2
  let date := at_ 9
  let day : Option Nat :=
    if rmc then
      (if date.length = 6 then
        readDate ((number (date.drop 4)).map (· + 2000)) (number ((date.drop 2).take 2)) (number (date.take 2)) else none)
    else readDate (if (at_ 4).length = 4 then number (at_ 4) else none) (two 3) (two 2)
  match readTime (at_ 1), day with
  | .error c, _ => .error c
  | .ok _, none => .error 2
  | .ok (sec, zero), some d =>
    if rmc && status ≠ [65] && status ≠ [86] then .error 2
    else if !zero then .error 3
    else if rmc && status = [86] then .error 4
    else .ok (d * 86400 + sec)

/-- A sentence as received, from $ to LF: the UTC seconds it gives or the cause of TOD_ERROR. -/
def readSentence (b : List Byte) : Except Nat Nat :=
  let body := (b.drop 1).takeWhile (· ≠ 42)
  let rest := (b.drop 1).dropWhile (· ≠ 42)
  let kind := (body.drop 2).take 4
  if 82 < b.length || b.headD 0 ≠ 36 || rest.length ≠ 5 || rest.drop 3 ≠ [13, 10] || body.contains 36 || body.contains 13 || body.contains 10 then .error 2
  else match hexDigit (rest.getD 1 0), hexDigit (rest.getD 2 0) with
    | some h, some l =>
      if (xorAll body).toNat ≠ 16 * h + l then .error 1
      else if kind = [90, 68, 65, 44] then readFields false (splitComma body)
      else if kind = [82, 77, 67, 44] then readFields true (splitComma body)
      else .error 2
    | _, _ => .error 2

/-- Whether the receiver listens to the pin that a sentence came on: GPIO20 before GPIO21 (07 R170). -/
def State.uartListens (s : State) (pin21 : Bool) : Bool :=
  let f (n : Nat) : Bool := (s.pinCfg n).func = 4
  if pin21 then f 21 && !f 20 else f 20

/-- The latest edge of the input that TOD_PPS names: 1 REF4, 2 REF5 (07 R172). -/
def Tod.ppsEdge (d : Tod) (pps : Nat) : Option Nat := if pps = 1 then d.ppsEdges.1 else d.ppsEdges.2

/-- An edge of candidate `i`, kept for the sentences that either TOD_PPS input labels. -/
def Tod.notePps (d : Tod) (i t : Nat) : Tod :=
  { d with ppsEdges := (if i = 4 then some t else d.ppsEdges.1, if i = 5 then some t else d.ppsEdges.2) }

/-- A sentence whose last byte arrives at `t` and first byte `span` fs earlier (07 R170–R172, R177). -/
def execUartSentence (pin21 : Bool) (bytes : List Byte) (span : Nat) (t : Nat) (s : State) : Host.Outcome State Fault Refusal :=
  let s0 := s.setNow t
  if !s0.uartListens pin21 || !s0.pinsRun then .next s0
  else match readSentence bytes with
    | .error c => .next (s0.raiseFrom Ev.todError c)
    | .ok utc =>
      let sec : Int := utc + s0.cfg.tod.taiUtc
      let put (n : Int) : State :=
        s0.setLabel 1 { diffSec := sec - (s0.clk.seconds.toNat + n), diffFold := 0, at_ := s0.clk.secIdx }
      if s0.cfg.tod.pps = 0 then .next (put (((s0.instant : Int) - span - s0.secondStart) / secondFs))
      else match s0.tod.ppsEdge s0.cfg.tod.pps with
        | some e =>
          let d := s0.instant - e
          if 10000000000000 ≤ d && d ≤ 990000000000000 then .next (put (divNear ((e : Int) - s0.secondStart) secondFs))
          else .next (s0.raiseFrom Ev.todError 6)
        | none => .next (s0.raiseFrom Ev.todError 6)

/-! ### Reference edges (02 R35, R37, R46, R57) -/

/-- A divided edge: TDC capture, the edge's place in the fold's measurement, a phase sample, and an index edge for the outputs aligned to it (02 R57, 07 R155). -/
def State.dividedEdge (s : State) (i t : Nat) : State :=
  let s1 := s.capture i t
  let c := tdcCode t
  let s2 := (s1.gather i fun m => { m with first := m.first.orElse fun _ => some c, last := some c, edges := m.edges + 1 }).gateEvent i c 0
  let s3 := s2.sampleAt i t (s2.modPeriod i c)
  forEach (List.range 16) (fun o s =>
    let g := s.outCfg o
    if g.mode = 1 && !g.onCommand && g.alignSrc = i then s.takeIndex o t else s) s3

/-- The deglitch filter passes an edge (02 R37): its own phase is wide enough, and it does not end a removed one, which brings the input back to the level that
the filter still shows. -/
def Cand.passes (c : Cand) (narrow : Bool) : Bool := !narrow && !c.inGlitch

/-- The deglitch filter takes an edge of candidate `i`: a narrow phase is removed and counted. -/
def State.deglitch (s : State) (i : Nat) (narrow : Bool) : State :=
  (if narrow then s.gather i fun m => { m with removed := m.removed + 1 } else s).updCand i fun c => { c with inGlitch := narrow && !c.inGlitch }

/-- An edge of the raw input at `t`, rising or falling, with the phase that it begins (log 31): deglitched, and, where nothing kills the input behind the filter
(19 R435), counted as activity, judged as a runt by the phase that the filter leaves, divided. The active edge is the one that the select names (02 R36). A
runt's edge reaches neither the divider nor what follows it, the TDC and the precise gate among them (DESIGN CHOICE, log 31). -/
def execRefEdge (i : Fin 6) (rising : Bool) (phase : EdgePhase) (t : Nat) (s : State) : Host.Outcome State Fault Refusal :=
  let s9 := s.setNow t
  let g := s9.refCfg i
  let active := rising != g.falling
  let tt := s9.instant
  let narrow : Bool := phase.raw < g.deglitch * 10000000
  let width := max phase.raw phase.kept
  let s0 := s9.deglitch i narrow
  if g.mode = 3 || s9.pow.held || s9.pow.state = .sleep then .next s9
  else if !(s9.cand i).passes narrow || (s9.cand i).killed then .next s0
  else
    let runt := width < g.runtMin
    let s1 := if active then s0.touch i tt else s0
    if runt then .next (s1.gather i fun m => { m with runts := m.runts + 1, narrowest := some (min width (m.narrowest.getD width)) })
    else if !active then .next s1
    else
      let s2 := { s1 with tod := s1.tod.notePps i tt }
      if g.div ≤ (s2.cand i).divCount + 1 then .next ((s2.updCand i fun c => { c with divCount := 0 }).dividedEdge i tt)
      else .next (s2.updCand i fun c => { c with divCount := c.divCount + 1 })

end Sys2Proof.Machine
end

