-- ==== Sys2Proof/Machine/Shaft.lean ====
section
/-! DEFINITION. Shaft-synchronous correction (08): angle, application, learning, settlement, and the shaft-table opcodes. -/

namespace Sys2Proof.Machine

/-- P is valid from 20 ms to 600 ms (08 R182). -/
def periodValid (p : Nat) : Bool := 20000000000000 ≤ p && p ≤ 600000000000000

/-- The angle at instant `t` from an index edge and the P formed at it, 65,536 to the revolution; it holds at 65,535 until the next edge (08 R183). -/
def angleFrom (r : Option (Nat × Nat)) (t : Nat) : Nat :=
  match r with
  | some (i, p) => if p = 0 || p ≤ t - i then 65535 else 65536 * (t - i) / p
  | none => 0

/-- The angle at instant `t`, from the last index edge up to it (08 R183). -/
def Ssct.angle (x : Ssct) (t : Nat) : Nat :=
  match x.ang with
  | some (i, _) => if t < i then angleFrom x.prevAng t else angleFrom x.ang t
  | none => 0

/-- Bin `b`, bin 255 followed by bin 0. -/
def Ssct.binAt (x : Ssct) (b : Nat) : Fs := x.bins.getD (b % 256) 0

/-- c(θ) times 256 (08 R184). -/
def Ssct.corr256 (x : Ssct) (th : Nat) : Fs :=
  let b := th / 256
  let f : Int := (th % 256 : Nat)
  (256 - f) * x.binAt b + f * x.binAt (b + 1)

/-- The scale `k` folds on in a state of application (08 R185). -/
def scaleFrom (a : Apply) (scale k : Nat) : Nat :=
  match a with
  | .idle => 0
  | .fadeIn => min 64 (scale + k)
  | .active => 64
  | .fadeOut => scale - k

/-- The scale `k` folds on; the next boundary enters a state that waits for it (08 R185). -/
def Ssct.scaleAfter (x : Ssct) (k : Nat) : Nat :=
  match x.turn with
  | some a => scaleFrom a x.scale (k - 1)
  | none => scaleFrom x.apply x.scale k

/-- The applied correction at instant `t` with a scale, in fs (08 R185). -/
def Ssct.applyAt (x : Ssct) (t scale : Nat) : Fs := divNear (x.corr256 (x.angle t) * scale) (64 * 256)

/-- The correction that will have been delivered when the fold N + 2 opens: all that was, and what the word for fold N + 1 brings, the standing one where none is
staged. -/
def State.ssctOpening (s : State) : Fs :=
  let next : Fu := match s.lp.staged with
    | some d => d.ssct
    | none => s.lp.dcoSsct
  s.ssct.sum + next.tdiv 8000

/-- The SSCT term of the next word: the applied correction at its fold's closing boundary less that delivered by its opening one, within the bound of R186 (08
R185, R186). Slot 2 of fold N stages it, slot 0 of fold N + 1 takes it up, and it acts in fold N + 2, which closes at boundary N + 3; the closing angle is the
one that the last index edge gives, and the terms so chain whatever edges come between (log 32). -/
def State.nextSsctTerm (s : State) : Fu :=
  let x := s.ssct
  8000 * clampI (-643125) 643125 (x.applyAt (s.foldStart + 3 * foldFs) (x.scaleAfter 3) - s.ssctOpening)

/-- The learning conditions of R188, with the mode as R191 widens it; the fold's error. -/
def State.gatherError (s : State) : Option Fs :=
  if s.cfg.ssct.mode ≠ 0 && s.ssct.apply = .active && s.lp.state = .locked && !s.lp.held then s.lp.err else none

/-- One fold's error into the accumulators, in 1/256 weights (08 R188). -/
def Ssct.gather (x : Ssct) (th : Nat) (e : Fs) : Ssct :=
  let b := th / 256
  let f := th % 256
  let b1 := (b + 1) % 256
  { x with
    acc := upd (upd x.acc b (· + e * (256 - f : Nat))) b1 (· + e * (f : Nat))
    wgt := upd (upd x.wgt b (· + (256 - f))) b1 (· + f) }

/-- Root mean square of a list. -/
def rmsI (l : List Int) : Int := if l.isEmpty then 0 else isqrt ((l.map fun r => r.natAbs * r.natAbs).sum / l.length)

/-- One bin of the update pass (08 R189, R191). -/
def State.passBin (s : State) : State :=
  match s.ssct.pass with
  | none => s
  | some p =>
    if p.fold = s.clk.absFold.toNat then s
    else
      let x := s.ssct
      let b := p.bin
      let s1 := match p.ebar.getD b none with
        | none => s
        | some e =>
          let r := e - p.mean
          let old := x.binAt b
          let c := clampI (-200000) 200000 (old + divNear r (2 ^ s.cfg.ssct.shift))
          let x1 := { x with resid := upd x.resid b fun _ => r }
          if s.cfg.ssct.mode = 2 && p.learn then
            ({ s with ssct := { x1 with bins := upd x.bins b fun _ => c } }).raiseIf (c.natAbs = 200000 && old.natAbs ≠ 200000) Ev.ssctClamp
              (b + (if c < 0 then 2 ^ 31 else 0))
          else { s with ssct := x1 }
      if b = 255 then
        let rs := (p.ebar.filterMap id).map (· - p.mean)
        { s1 with ssct := { s1.ssct with pass := none, rms := rmsI rs } }
      else { s1 with ssct := { s1.ssct with pass := some { p with bin := b + 1 } } }

/-- The term for the next fold's word is staged. -/
def State.stageTerm (s : State) : State := { s with lp := { s.lp with ssctTerm := s.nextSsctTerm } }

/-- A fold outside LEARN leaves its revolution nothing to learn from (08 R188, R189). -/
def State.noteMode (s : State) : State := if s.cfg.ssct.mode = 2 then s else { s with ssct := { s.ssct with learnOk := false } }

/-- Slot 2 (08 R185, R188, R189): the error is binned, one bin updated, the term staged. -/
def State.shaftSlot (s : State) : State :=
  (match s.gatherError with
    | some e => { s with ssct := s.ssct.gather (s.ssct.angle s.foldStart) e }
    | none => { s with ssct := { s.ssct with gatherOk := false } }).noteMode.passBin.stageTerm

/-- The row. -/
def execShaftTableSlot (t : Nat) (s : State) : Host.Outcome State Fault Refusal := .next (s.inSlot 2 t fun s => s.shaftSlot)

/-- Application is to fade out from the next boundary (08 R185). -/
def Ssct.fadeOut (x : Ssct) : Ssct :=
  match x.apply with
  | .idle => { x with turn := none }
  | .fadeOut => { x with turn := none }
  | _ => { x with turn := some .fadeOut }

/-- The revolution's accumulators are discarded. -/
def Ssct.discard (x : Ssct) : Ssct := { x with acc := List.replicate 256 0, wgt := List.replicate 256 0, gatherOk := false, learnOk := false }

/-- The latch of a revolution (08 R189): mean errors of the bins that were visited, the overall mean. -/
def Ssct.latch (x : Ssct) (fold : Nat) : Pass :=
  let pairs := x.acc.zip x.wgt
  { ebar := pairs.map fun p => if p.2 = 0 then none else some (divNear p.1 p.2)
    mean := divNear (pairs.map (·.1)).sum (pairs.map (·.2)).sum
    bin := 0
    fold := fold
    learn := x.learnOk }

/-- Two revolution periods differ by more than 2 % (08 R189). -/
def differs2 (p q : Nat) : Bool := q < 50 * (p - q) || q < 50 * (q - p)

/-- The index edge at instant `ti` (08 R182, R185, R187, R189). -/
def State.shaftIndex (s : State) (ti : Nat) : State :=
  let x := s.ssct
  match x.lastIdx with
  | none => { s with ssct := { x.discard with lastIdx := some ti, net := 0, settle := some (x.settle.getD 0 + x.net), gatherOk := true, learnOk := true } }
  | some l =>
    if ti ≤ l then s
    else
      let p := ti - l
      let valid := periodValid p
      let slow := match x.period with
        | some q => differs2 p q
        | none => false
      let fit := !slow && !x.slowNext && x.gatherOk && (s.cfg.ssct.mode ≠ 2 || x.learnOk) && !x.missing
      let latch := fit && x.pass.isNone
      let x1 := { x with
        lastIdx := some ti
        period := some p
        prevPeriod := x.period
        ang := some (ti, p)
        prevAng := x.ang
        slowNext := slow
        pauseSpeed := slow || x.slowNext
        pauseIdx := !valid
        missing := false
        net := 0
        settle := some (x.settle.getD 0 + x.net)
        skipped := if fit && !latch then x.skipped + 1 else x.skipped
        learned := if latch && s.cfg.ssct.mode = 2 then x.learned + 1 else x.learned
        meanP := if latch then p else x.meanP
        pass := if latch then some (x.latch s.clk.absFold.toNat) else x.pass }
      let x2 := { x1.discard with gatherOk := true, learnOk := true }
      let x3 := if valid then (if x2.apply = .idle && s.cfg.ssct.mode ≠ 0 then { x2 with turn := some .fadeIn } else x2) else x2.fadeOut
      { s with ssct := x3 }

/-- A divided edge of SSCT_SRC; one of the other input, or of an input that REF_KILL blocks (19 R435), is no index edge. -/
def execShaftIndexEdge (ref5 : Bool) (t : Nat) (s : State) : Host.Outcome State Fault Refusal :=
  let s0 := s.setNow t
  if ref5 = s0.cfg.ssct.ref5 && !(s0.cand (if ref5 then 5 else 4)).killed then .next (s0.shaftIndex s0.instant) else .next s0

/-- No index edge within 1.5 × P of the last one (08 R185, R189). -/
def execShaftIndexTimeout (t : Nat) (s : State) : Host.Outcome State Fault Refusal :=
  let s0 := s.setNow t
  match s0.ssct.lastIdx, s0.ssct.period with
  | some l, some p =>
    if 3 * p ≤ 2 * (s0.instant - l) then .next { s0 with ssct := { s0.ssct.discard.fadeOut with missing := true, pauseIdx := true } } else .next s0
  | _, _ => .next s0

/-- A settlement's entry: AMOUNT and APPLIED both the net delivered, committed as DONE (05 R117, 08 R187). -/
def State.settleSsct (s : State) (x : Fs) : State :=
  if x = 0 then s
  else
    let e : Entry := { src := .ssct, flock := 0, pen := 0, slot := 1, seq := 0, amount := x, created := s.clk.absFold }
    let seq := s.tally.nextSeq
    let t1 := s.tally.add e
    match t1.find seq with
    | some e1 => { s with tally := (t1.payDevice e1 x).updEntry seq fun e => { e with status := .done } }
    | none => { s with tally := t1 }

/-- What a boundary makes of the state of application (08 R185): it enters one that waits for it, or the fade goes on by one. -/
def Ssct.fade (x : Ssct) : Ssct :=
  match x.turn with
  | some a => { x with apply := a, turn := none }
  | none =>
    match x.apply with
    | .fadeIn => if x.scale + 1 < 64 then { x with scale := x.scale + 1 } else { x with scale := 64, apply := .active }
    | .fadeOut => if 1 < x.scale then { x with scale := x.scale - 1 } else { x with scale := 0, apply := .idle }
    | _ => x

/-- A boundary's part: the fade and the settlements (08 R185, R187). -/
def State.shaftBoundary (s : State) : State :=
  let x := s.ssct
  let due := x.settle.getD 0
  let x1 := { x with settle := none }
  let x2 := x1.fade
  let ended := x1.apply = .fadeOut && x2.apply = .idle
  let x3 := if ended then { x2 with net := 0 } else x2
  ({ s with ssct := x3 }).settleSsct (if ended then due + x2.net else due)

/-- SSCT_STATE where APPLY, PAUSE or MODE has changed (08 R195). -/
def State.shaftEvent (s : State) : State :=
  let w := s.pause * 2 ^ 16 + s.ssct.apply.code * 2 ^ 6 + s.cfg.ssct.mode
  if w = s.ssct.shown then s
  else ({ s with ssct := { s.ssct with shown := w } }).raise Ev.ssctState s.shaftWord

/-! ### Opcodes of 13 R315 -/

/-- The SSCT group. -/
def State.ssctGroup (s : State) : List Byte := le 1 s.cfg.ssct.mode ++ le 1 (b2n s.cfg.ssct.ref5) ++ le 1 s.cfg.ssct.shift ++ le 1 0

/-- The checks of SSCT (08 R181). -/
def checkSsct (q : Call) (_s : State) : Serve :=
  let p := q.params
  checks [
    (p.length = 4, St.badLength),
    (q.pen = 0, St.denied),
    (fld p 0 1 ≤ 2 && fld p 1 1 ≤ 1 && inRange (fld p 2 1) 4 16 && zeros p 3 1, St.badParam)]
    (Serve.group 0x5011 [])

/-- SSCT committed: mode OFF or another source fades application out (08 R185); P is formed afresh from another source's edges, and the angle follows
those of the one before until then (08 R182; log 54). -/
def commitSsct (q : Call) (s : State) : State :=
  let p := q.params
  let src := fld p 1 1 = 1
  let s1 := { s with cfg := { s.cfg with ssct := { mode := fld p 0 1, ref5 := src, shift := fld p 2 1 } } }
  if src ≠ s.cfg.ssct.ref5 then
    { s1 with ssct := { s1.ssct.discard.fadeOut with lastIdx := none, period := none, prevPeriod := none, slowNext := false, missing := false } }
  else if fld p 0 1 = 0 then { s1 with ssct := s1.ssct.fadeOut }
  else s1

/-- A load of the table is allowed (08 R192), with the modes staged earlier in the fold. -/
def State.ssctLoadable (s : State) : Bool :=
  let mode := s.host.staged.foldl (fun m g => if g.commit && g.opcode = 0x5010 then fld g.call.params 0 1 else m) s.cfg.ssct.mode
  mode = 0 && s.ssct.apply = .idle

/-- The checks of SSCT_LOAD (08 R192). -/
def checkSsctLoad (q : Call) (s : State) : Serve :=
  let p := q.params
  checks [
    (p.length = 512, St.badLength),
    (q.pen = 0, St.denied),
    ((List.range 256).all fun b => inRangeI (fldI p (2 * b) 2) (-20000) 20000, St.badParam),
    (s.ssctLoadable, St.locked)]
    Serve.stage

/-- SSCT_LOAD committed, where nothing of the table is applied (08 R192): SSCT_CLAMP for each bin that reaches its bound with it (08 R195). -/
def commitSsctLoad (q : Call) (s : State) : State :=
  if s.cfg.ssct.mode ≠ 0 || s.ssct.apply ≠ .idle then s
  else
    forEach (List.range 256) (fun b s =>
      let c := 10 * fldI q.params (2 * b) 2
      let old := s.ssct.binAt b
      ({ s with ssct := { s.ssct with bins := upd s.ssct.bins b fun _ => c } }).raiseIf (c.natAbs = 200000 && old.natAbs ≠ 200000) Ev.ssctClamp
        (b + (if c < 0 then 2 ^ 31 else 0))) s

/-- Bins or residuals in units of 10 fs (08 R192), saturating at 16 bits. -/
def tens (l : List Fs) : List Byte := (l.map fun x => leI 2 (clampI (-32768) 32767 (divNear x 10))).flatten

/-- SSCT_READ from the snapshot. -/
def checkSsctRead (q : Call) (s : State) : Serve :=
  checks [(q.params.length = 0, St.badLength)] (Serve.data (tens s.snap.ssct.bins ++ tens s.snap.ssct.resid))

/-- SSCT_STATUS (08 R194). -/
def State.ssctStatusBytes (s : State) : List Byte :=
  le 4 s.shaftWord ++ leI 8 (satFs (s.ssct.period.getD 0 : Nat)) ++ leI 8 s.ssct.rms ++ le 4 s.ssct.learned.toNat ++ le 4 s.ssct.skipped.toNat

end Sys2Proof.Machine
end

