-- ==== Sys2Proof/Machine/Radio.lean ====
section
/-! DEFINITION. The front end (09): settings in use, hops, blocks, gain, diversity, frames and their ends, the tuner, and the front-end opcodes.
RSSI is in 0.5 dB units of dBm, block peaks and return loss in 0.1 dB. -/

namespace Sys2Proof.Machine

/-! ### States -/

/-- The commons MAC is enabled (09 R197, 10 R224). -/
def State.macOn (s : State) : Bool := s.cfg.com.role ≠ 0

/-- The channel the front end is to be on. -/
def State.wantChan (s : State) : Nat := if s.macOn then s.cfg.com.beaconChan else s.cfg.rf.chan

/-- A frame is in progress: from carrier detection, or from the CCA that fixes the time of its ramp up, to its end (09 R221, 10 R230). -/
def State.rfBusy (s : State) : Bool := s.rf.inFrame || s.rf.state = .tx || s.com.onAir.isSome

/-- A radio calibration is running (09 R218). -/
def State.calRunning (s : State) : Bool := match s.bg.calQueue with
  | j :: _ => j.started
  | [] => false

/-- The state between frames (09, 10 R227, 18 R423). -/
def State.rfRest (s : State) : RfState :=
  if s.pow.state ≠ .run || s.pow.sleepEntry then .off
  else if s.rf.hopCal || s.calRunning then .cal
  else if s.macOn || s.rf.wantRx then .rx
  else .idle

/-- The tuner's codes for the settings `c` (09 R216). -/
def Radio.codes (r : Radio) (c : RfCfg) : Nat × Nat := if c.fixedTuner then (c.tuneA, c.tuneB) else (r.shadowA, r.shadowB)

/-- The banks take their codes, which change only in IDLE and at the start of a ramp up (09 R216). -/
def Radio.tune (r : Radio) : Radio := { r with tuneA := (r.codes r.act).1, tuneB := (r.codes r.act).2 }

/-- The front end takes the state in which it rests; the blocks of a reception that begins here are counted from here (09 R207). -/
def State.rest (s : State) : State :=
  let r : Radio := { s.rf with state := s.rfRest, rxFrom := if s.rfRest = .rx && s.rf.state ≠ .rx then s.instant else s.rf.rxFrom }
  { s with rf := if r.state = .idle then r.tune else r }

/-- On-die temperature in whole degrees (09 R202, 13 R316). -/
def State.dieDegrees (s : State) : Int := divNear s.lp.onDie 100

/-- Entry of a channel. -/
def State.chan (s : State) (c : Nat) : Chan := s.cfg.chans.getD c {}

/-- `n` samples at 1.2 MS/s, in fs (09 R205). -/
def basebandFs (n : Nat) : Nat := ceilDiv (n * 2500000000) 3

/-- `n` baseband samples from the present instant are invalid, or as many as already are (09 R206). -/
def State.invalidate (s : State) (n : Nat) : State :=
  { s with rf := { s.rf with invalid := max s.rf.invalid (s.instant + basebandFs n) } }

/-- An entry has a calibration made within 10 K of the present on-die temperature, which counts 0.01 °C (09 R202). -/
def State.calNear (s : State) (c : Nat) : Bool := (s.chan c).calValid && ((s.chan c).calTemp * 100 - s.lp.onDie).natAbs ≤ 1000

/-- A hop begins (09 R202, R205): an entry without a calibration near the present temperature is calibrated first, and settles then. -/
def State.startHop (s : State) (c : Nat) : State :=
  let near := s.calNear c
  let b := { s.bg with acc := { s.bg.acc with radioCal := s.bg.acc.radioCal || !near } }
  let s1 := ({ s with rf := { s.rf with hop := some c, hopCal := !near }, bg := b }).rest
  if near then s1.invalidate 48 else s1

/-- The last antenna switch before instant `x`: that of an open window, or the one kept (09 R207, R212). -/
def Radio.lastSwitch (r : Radio) (x : Nat) : Nat :=
  match r.win with
  | some w => if r.rfbAt x ≠ r.kept then r.switchAt w else r.switched
  | none => r.switched

/-- The front end becomes `r`; where that moves the receiver to the other antenna, it switches here (09 R207). -/
def State.withAnt (s : State) (r : Radio) : State :=
  { s with rf := { r with switched := if r.rfbAt s.instant = s.rf.rfbAt s.instant then s.rf.lastSwitch s.instant else s.instant } }

/-- The next hop in request order, outside frames, calibrations and hops (09 R202, R218, R221). -/
def State.nextHop (s : State) : State :=
  match s.rf.hops with
  | c :: r =>
    if s.rfBusy || s.rf.hop.isSome || s.calRunning || s.rfRest = .off then s
    else ({ s with rf := { s.rf with hops := r } }).startHop c
  | [] => s

/-- The channel on which the radio stands once every hop asked for has been made. -/
def Radio.lastHop (r : Radio) : Nat := r.hops.getLast?.getD (r.hop.getD r.chan)

/-- One request taken up: gain, filter, tuner, and its channel as a hop (09 R204, R205, R210, R213, R216, R221). -/
def State.takeRequest (s : State) (q : RfCfg × Nat) : State :=
  let r := s.rf
  let c := q.1
  let g := if c.fixedGain then c.gain else r.gain
  let r1 : Radio := { r with act := c, gain := g, shadowGain := if c.fixedGain then r.shadowGain else g }
  let s1 := s.withAnt (if r1.state = .idle then r1.tune else r1)
  let s2 := if g = r.gain then s1 else s1.invalidate 8
  let s3 := if c.rate = r.act.rate then s2 else s2.invalidate 24
  if q.2 = s3.rf.lastHop || (s3.chan q.2).freq = 0 then s3 else { s3 with rf := { s3.rf with hops := s3.rf.hops ++ [q.2] } }

/-- Outside a frame the requests are taken up in their order (09 R221). -/
def State.takeDeferred (s : State) : State :=
  if s.rfBusy then s
  else (forEach s.rf.deferred (fun q s => s.takeRequest q) { s with rf := { s.rf with deferred := [] } }).nextHop

/-- The committed settings and channel are asked for (09 R221). -/
def State.takeRf (s : State) : State :=
  ({ s with rf := { s.rf with deferred := s.rf.deferred ++ [(s.cfg.rf, s.wantChan)] } }).takeDeferred

/-- A frame leaves the front end. -/
def Radio.clearFrame (r : Radio) : Radio := { r with inFrame := false, win := none, frozen := false, air := none, cut := false }

/-- The end of a frame: the front end returns to rest and takes what was deferred (09 R221). -/
def State.endFrame (s : State) : State := ((s.withAnt s.rf.clearFrame).rest).takeDeferred

/-- A reception dropped with a cause (09 R222). -/
def State.dropRx (s : State) (cause : Nat) : State :=
  ({ s with rf := { s.rf with dropped := s.rf.dropped + 1 } }).raise Ev.rxDropped (cause + 16 * s.rf.chan)

/-! ### Frequencies (09 R204) -/

/-- The LO stands 300 kHz below the channel, or above it with LO_SIDE 1. -/
def State.loHz (s : State) : Nat :=
  let f := (s.chan s.rf.chan).freq
  if s.rf.act.loSide = 0 then f - 300000 else f + 300000

/-- The image lies as far beyond the LO as the channel is before it. -/
def State.imageHz (s : State) : Nat := 2 * s.loHz - (s.chan s.rf.chan).freq

/-- Bandwidth of the channel filter at a RATE (09 R203). -/
def filterHz (rate : Nat) : Nat := if rate = 0 then 150000 else if rate = 1 then 250000 else 400000

/-! ### Transmission (09 R203, R213) -/

/-- PA_RAMP in µs. -/
def RfCfg.rampUs (c : RfCfg) : Nat := 2 ^ (c.ramp + 1)

/-- Octets of the FCS sent. -/
def RfCfg.fcsLen (c : RfCfg) : Nat := if c.fcs2 = 1 then 2 else 4

/-- Time on the air of a PSDU of `n` octets before its FCS, with both ramps, in µs. -/
def RfCfg.airtime (c : RfCfg) (n : Nat) : Nat := (64 + 8 * (n + c.fcsLen)) * (bitFs c.rate / 1000000000) + 2 * c.rampUs

/-- The SFD end of a frame that ramps up `k` boundaries after the present one, as device seconds and nanoseconds (09 R220, 10 R230). -/
def State.sfdStamp (s : State) (k : Nat) : Nat × Nat :=
  let c := s.rf.act
  let ns := (s.clk.inSec + k) * 125000 + c.rampUs * 1000 + 48 * (bitFs c.rate / 1000000)
  (s.clk.seconds.toNat + ns / 1000000000, ns % 1000000000)

/-- That of a frame that ramps up at the next boundary. -/
def State.nextStamp (s : State) : Nat × Nat := s.sfdStamp 1

/-- One bit and the whole of a least-significant-first CRC with the reflected polynomial `poly`. -/
def crcLsbBit (poly c : Nat) : Nat := if c % 2 = 1 then (c / 2) ^^^ poly else c / 2
def crcLsb (poly init : Nat) (b : List Byte) : Nat :=
  b.foldl (fun c x => (List.range 8).foldl (fun a _ => crcLsbBit poly a) (c ^^^ x.toNat)) init

/-- The FCS of a PSDU as IEEE 802.15.4 forms it (09 R203, log 84): ITU-T CRC-16 in 2 octets, or CRC-32 over at least 4 octets. -/
def RfCfg.fcs (c : RfCfg) (b : List Byte) : List Byte :=
  if c.fcs2 = 1 then le 2 (crcLsb 0x8408 0 b)
  else le 4 (crcLsb 0xEDB88320 0xFFFFFFFF (b ++ List.replicate (4 - b.length) 0) ^^^ 0xFFFFFFFF)

/-- The frame of a PSDU without its FCS (09 R203): the SFD that SFD_SEL picks of the two uncoded ones, and a PHR with mode switch 0, the FCS type, the
whitening bit and the length with the FCS. Bit 15 goes first (log 84). -/
def RfCfg.airFrame (c : RfCfg) (b : List Byte) : AirFrame :=
  { sfd := if c.sfd = 0 then 0x904E else 0x7A0E
    phr := BitVec.ofNat 16 (c.fcs2 * 2 ^ 12 + c.whiten * 2 ^ 11 + (b.length + c.fcsLen) % 2 ^ 11)
    octets := b ++ c.fcs b }

/-- The ramp up of a frame, or of a tone: a reception in progress gives way (log 34). -/
def State.rampUp (s : State) (f : Option (List Byte)) : State :=
  let r := s.rf.clearFrame.tune
  s.withAnt { r with
    state := .tx
    air := f.map r.act.airFrame
    airUs := r.act.airtime (f.getD []).length
    txFrom := s.instant }

/-- The tuner's move after a frame whose return loss was `rl` (09 R216): one bank by one code, back where the last move made it worse. -/
def State.tunerMove (s : State) (rl : Nat) : State :=
  let up := match s.rf.lastRl with
    | some p => if rl < p then !s.rf.tuneUp else s.rf.tuneUp
    | none => s.rf.tuneUp
  let b := Config.tunerBank s.freeN
  let mv (x : Nat) : Nat := if up then min 31 (x + 1) else x - 1
  let r := s.rf
  let a1 := if b then r.shadowA else mv r.shadowA
  let b1 := if b then mv r.shadowB else r.shadowB
  let s1 := { s.draw with rf := { r with tuneUp := up, lastRl := some rl, shadowA := a1, shadowB := b1 } }
  if s.cfg.rf.fixedTuner then s1
  else { s1 with cfg := { s1.cfg with chans := s1.cfg.chans.upd r.chan fun e => { e with tuneA := BitVec.ofNat 5 a1, tuneB := BitVec.ofNat 5 b1 } } }

/-- MISMATCH (09 R217, R222). -/
def State.judgeMatch (s : State) (rl : Nat) : State :=
  s.raiseIf (rl < 10 * s.cfg.rf.rlThr) Ev.mismatch (min 255 rl + 256 * s.rf.tuneA + 2 ^ 13 * s.rf.tuneB + 2 ^ 18 * s.rf.chan)

/-- Reply data of RF_TX. -/
def HostTx.stamp (h : HostTx) : List Byte := le 6 h.stampSec ++ le 2 0 ++ le 4 h.stampNs

/-- A host transmission replies at the next boundary with a status, and its stamp with OK. -/
def State.endHostTx (s : State) (status : BitVec 16) : State :=
  match s.rf.hostTx with
  | some h =>
    let g : Staged := { opcode := 0x6018, call := { pen := h.pen, cls := h.cls, flags := 0, tag := h.tag, rsv := 0, params := h.psdu },
                        status := status, body := .bytes h.stamp, commit := false, air := h.air }
    { s with rf := { s.rf with hostTx := none }, host := { s.host with staged := s.host.staged ++ [g] } }
  | none => s

/-- A transmission of the host may ramp up: the MAC is off, and the front end neither sends nor calibrates nor hops (09 R197, R202, R218). -/
def State.mayRamp (s : State) : Bool := !s.macOn && s.com.onAir.isNone && s.rf.hop.isNone && (s.rf.state = .rx || s.rf.state = .idle)

/-- The boundary's part: a host PSDU ramps up (13 R316). -/
def State.hostTxBoundary (s : State) : State :=
  match s.rf.hostTx with
  | some h =>
    if h.started || !s.mayRamp then s
    else
      let st := s.sfdStamp 0
      let s1 := s.rampUp (some h.psdu)
      { s1 with rf := { s1.rf with hostTx := some { h with started := true, stampSec := st.1, stampNs := st.2 } } }
  | none => s

/-- The boundary's part: a tone that waited ramps up (19 R440). -/
def State.toneBoundary (s : State) : State :=
  match s.rf.toneNext with
  | some m =>
    if !s.mayRamp then s
    else
      let s1 := s.rampUp none
      { s1 with rf := { s1.rf with tone := m, toneNext := none } }
  | none => s

/-- The MAC takes the front end over (09 R197, 10 R224): what the host asked for and has not begun is refused, and a tone ramps down. -/
def State.hostYields (s : State) : State :=
  let s1 := { s with rf := { s.rf with wantRx := false, tone := 0, toneNext := none } }
  match s1.rf.hostTx with
  | some h => if h.started then s1 else s1.endHostTx St.locked
  | none => s1

/-! ### Receiving -/

/-- Length of a 24-sample block, in fs (09 R207). -/
def blockFs : Nat := 20000000000

/-- The instant from which the blocks that end now are counted: the last of RX's begin, the end of the last invalid span and the antenna switch (09 R207). -/
def State.blockFrom (s : State) : Nat :=
  let a := max s.rf.rxFrom (max s.rf.invalid s.rf.switched)
  match s.rf.win with
  | some w => if s.rf.switchAt w < s.instant then max a (s.rf.switchAt w) else a
  | none => a

/-- The end of the last block formed. -/
def Radio.lastBlock (r : Radio) : Nat := (r.run.getLast?.map (·.1)).getD 0

/-- A block ends now (09 R206, R207): 24 samples, aligned to the last invalid span or switch within a sample, that no earlier block holds (log 85). -/
def State.blockForms (s : State) : Bool :=
  let t := s.instant
  s.rf.state = .rx && s.rf.hop.isNone && s.blockFrom + blockFs ≤ t && (t - s.blockFrom) % blockFs < basebandFs 1 && s.rf.lastBlock + blockFs ≤ t

/-- The block that ends now joins the last six, and its antenna's half of an open window (09 R212, 10 R230). -/
def State.noteBlock (s : State) (rssi : Int) : State :=
  let r := s.rf
  let t := s.instant
  let b := t - blockFs
  let add (w : DivWin) : DivWin :=
    if w.openAt ≤ b && t ≤ r.switchAt w then { w with heard := w.heard ++ [rssi] }
    else if r.switchAt w ≤ b && t ≤ w.openAt + 16 * bitFs r.act.rate then { w with other := w.other ++ [rssi] }
    else w
  { s with rf := { r with run := (r.run ++ [(t, rssi)]).drop (r.run.length - 5), win := r.win.map add } }

/-- The AGC's step on a block (09 R209). -/
def agcNext (g : Nat) (sat : Bool) (peak : Int) : Nat :=
  if sat || -30 < peak then g - 1 else if peak < -250 && g < 5 then g + 1 else g

/-- A sample record (09 R208). -/
def iqRecord (rfb : Bool) (gain : Nat) (p : Int × Int) : Nat :=
  let full (x : Int) : Bool := 2047 ≤ x || x ≤ -2048
  2 ^ 31 + b2n rfb * 2 ^ 30 + gain * 2 ^ 27 + b2n (full p.1 || full p.2) * 2 ^ 26 + (p.1 % 4096).toNat * 2 ^ 12 + (p.2 % 4096).toNat

/-- A capture whose command has begun starts at the boundary (13 R316). -/
def State.captureBoundary (s : State) : State :=
  { s with rf := { s.rf with capture := s.rf.capture.map fun c => { c with start := c.start.orElse fun _ => some s.foldStart } } }

/-- Records taken by a capture that has started before their block did; one that is full replies at the next boundary (13 R316). -/
def State.captureRecords (s : State) (rssi : Nat) (iq : List Nat) : State :=
  match s.rf.capture with
  | none => s
  | some c =>
    if !c.start.any (· + blockFs ≤ s.instant) then s else
    let c1 := { c with got := c.got ++ ((if c.iq then iq else [rssi]).flatMap fun w => le 4 w) }
    if c1.got.length < 4 * c.want then { s with rf := { s.rf with capture := some c1 } }
    else
      let g : Staged := { opcode := 0x601A, call := { pen := c.pen, cls := c.cls, flags := 0, tag := c.tag, rsv := 0, params := [] },
                          status := St.ok, body := .bytes (c1.got.take (4 * c.want)), commit := false, air := c1.air }
      { s with rf := { s.rf with capture := none }, host := { s.host with staged := s.host.staged ++ [g] } }

/-- Saturation at a fixed gain (09 R211): once, and again only after 64 clean blocks. -/
def State.judgeSat (s : State) (sat : Bool) (record : Nat) : State :=
  let r := s.rf
  if sat then
    let s1 := { s with rf := { r with satBlocks := r.satBlocks + 1, cleanBlocks := 0, satStands := r.satStands || r.act.fixedGain } }
    if r.act.fixedGain && !r.satStands then s1.raiseFrom Ev.rxSaturated record else s1
  else { s with rf := { r with cleanBlocks := r.cleanBlocks + 1, satStands := r.satStands && r.cleanBlocks + 1 < 64 } }

/-- The SFD of the frame in progress has been detected: the AGC freezes until it ends (09 R209). -/
def State.seeSfd (s : State) (sfd : Bool) : State := { s with rf := { s.rf with frozen := s.rf.frozen || (sfd && s.rf.inFrame) } }

/-- The AGC's step on a block, or in FIXED mode the shadow's (09 R209, R210). -/
def State.agcStep (s : State) (sat : Bool) (peak : Int) : State :=
  let r := s.rf
  if r.frozen then s
  else if r.act.fixedGain then { s with rf := { r with shadowGain := agcNext r.shadowGain sat peak } }
  else
    let g := agcNext r.gain sat peak
    let s1 := { s with rf := { r with gain := g, shadowGain := g } }
    if g = r.gain then s1 else s1.invalidate 8

/-- A formed block (09 R207–R211). `sfd`: the frame's SFD has been detected by its end; `iq`: the block's samples. -/
def execRxBlock (rssi : Int) (sat : Bool) (peak : Int) (sfd : Bool) (iq : List (Int × Int)) (t : Nat) (s : State) : Host.Outcome State Fault Refusal :=
  let s0 := (s.setNow t).seeSfd sfd
  if !s0.blockForms then .next s0
  else
    let ant := s0.rf.rfbAt (s0.instant - blockFs)
    let rec0 := rssiRecord true ant s0.rf.gain sat s0.rf.chan rssi
    let s1 := (s0.captureRecords rec0 (iq.map (iqRecord ant s0.rf.gain))).judgeSat sat rec0
    .next ((s1.noteBlock rssi).agcStep sat peak)

/-- Carrier detection: a valid block above CCA_THR, outside a frame, opens the diversity window at its end (09 R212). -/
def State.hasCarrier (s : State) : Bool :=
  s.rf.state = .rx && !s.rf.inFrame && s.rf.hop.isNone &&
    (match s.rf.run.getLast? with
     | some b => b.1 = s.instant && decide (2 * s.cfg.com.ccaThr < b.2)
     | none => false)

/-- The CARRIER_DETECT row. -/
def execCarrierDetect (_ : Computed) (t : Nat) (s : State) : Host.Outcome State Fault Refusal :=
  let s0 := s.setNow t
  .next (if s0.hasCarrier then
      { s0 with rf := { s0.rf with inFrame := true, divShort := false, win := if s0.rf.act.diversity then some { openAt := s0.instant } else none } }
    else s0)

/-- The other antenna has the higher mean RSSI; one that has no block has no mean (09 R212, log 86). -/
def DivWin.otherWins (w : DivWin) : Bool :=
  !w.other.isEmpty && (w.heard.isEmpty || decide (w.heard.foldl (· + ·) (0 : Int) * w.other.length < w.other.foldl (· + ·) (0 : Int) * w.heard.length))

/-- The window closes after 16 bits, or early at SFD detection: the antenna with the higher mean is kept, a tie keeps the listening one (09 R212). -/
def execDiversityWindowEnd (_ : Computed) (sfd : Bool) (t : Nat) (s : State) : Host.Outcome State Fault Refusal :=
  let s0 := (s.setNow t).seeSfd sfd
  match s0.rf.win with
  | some w =>
    if !sfd && s0.instant < w.openAt + 16 * bitFs s0.rf.act.rate then .next s0
    else
      .next (s0.withAnt { s0.rf with win := none, divShort := sfd, kept := if w.otherWins then !s0.rf.kept else s0.rf.kept })
  | none => .next s0

/-- A synthesiser calibration kept in an entry of the channel table, with the on-die temperature (09 R201). -/
def State.keepCal (s : State) (c : Nat) (cal : SynthCal) : State :=
  { s with cfg := { s.cfg with chans := s.cfg.chans.upd c fun e => { e with calValid := true, band := cal.band, amp := cal.amp, calTemp := s.dieDegrees } } }

/-- Results of a calibration beside the synthesiser's: image 2, filter 3, DC 12 (09 R218). -/
def trimLen (k : Nat) : Nat := [2, 3, 0, 12].getD k 0

/-- A finished calibration of kind `k`, for entry `c` where it is the synthesiser's (09 R201, R219): kept within its limits, discarded outside. -/
def State.calResult (s : State) (k c : Nat) (ok : Bool) (cal : SynthCal) (trim : List Int) : State :=
  let d := k + (if k = 2 then 256 * c else 0)
  let s1 := { s with rf := { s.rf with lastCal := s.rf.lastCal.upd k fun _ => some (s.lp.onDie, s.clk.secIdx) } }
  let s2 :=
    if !ok then s1
    else if k = 2 then s1.keepCal c cal
    else { s1 with rf := { s1.rf with trims := s1.rf.trims.upd k fun _ => (List.range (trimLen k)).map fun i => trim.getD i 0 } }
  (s2.raise Ev.rcalDone d).raiseIf (!ok) Ev.rcalFail d

/-- The synthesiser stands on a channel. -/
def State.tuned (s : State) (c : Nat) : State := { s with rf := { s.rf with chan := c, hop := none, hopCal := false, lock := true } }

/-- A front end that is not busy takes the state it rests in. -/
def State.restRf (s : State) : State := if s.rfBusy then s else s.rest

/-- A hop's calibration has ended: its result is stored, and the hop's settling follows, at whose end the row comes again (09 R202, R205; DESIGN CHOICE, log
102). -/
def State.hopCalibrated (s : State) (c : Nat) (e : HopEnd) : State :=
  let s1 := s.calResult 2 c e.inLimits e.cal []
  (({ s1 with rf := { s1.rf with hopCal := false } }).restRf).invalidate 48

/-- A hop's calibration has ended, where the schedule runs to store its result (01 R32), or the hop has settled (09 R202). -/
def execHopSettleComplete (e : HopEnd) (t : Nat) (s : State) : Host.Outcome State Fault Refusal :=
  let s0 := s.setNow t
  match s0.rf.hop with
  | none => .next s0
  | some c =>
    .next (if s0.rf.hopCal then s0.ifScheduled fun s => s.hopCalibrated c e else (s0.tuned c).restRf.nextHop)

/-- The synthesiser loses lock: a transmission is abandoned and ramps down, a reception is dropped (09 R215, R222). -/
def execSynthUnlock (t : Nat) (s : State) : Host.Outcome State Fault Refusal :=
  let s0 := s.setNow t
  let tx := s0.rf.state = .tx
  let s1 := ({ s0 with rf := { s0.rf with lock := false } }).raiseFrom Ev.synthUnlock (s0.rf.chan + 256 * b2n tx)
  if tx then .next { s1 with rf := { s1.rf with cut := true, tone := 0 } }
  else if s1.rf.inFrame then .next (s1.dropRx 3).endFrame
  else .next s1

/-! ### Opcodes of 13 R316 -/

/-- The RF group. -/
def State.rfGroup (s : State) : List Byte :=
  let c := s.cfg.rf
  le 1 c.chan ++ le 1 c.rate ++ le 1 c.loSide ++ le 1 (b2n c.fixedGain) ++ le 1 c.gain ++ le 1 (b2n c.diversity) ++ leI 1 c.power ++ le 1 c.ramp ++
    le 1 (b2n c.fixedTuner) ++ le 1 c.tuneA ++ le 1 c.tuneB ++ le 1 c.rlThr ++ le 1 c.sfd ++ le 1 c.whiten ++ le 1 c.fcs2 ++ le 1 0

/-- The settings that an RF packet spells. -/
def rfCfgOf (p : List Byte) : RfCfg :=
  { chan := fld p 0 1, rate := fld p 1 1, loSide := fld p 2 1, fixedGain := fld p 3 1 = 1, gain := fld p 4 1, diversity := fld p 5 1 = 1
    power := fldI p 6 1, ramp := fld p 7 1, fixedTuner := fld p 8 1 = 1, tuneA := fld p 9 1, tuneB := fld p 10 1, rlThr := fld p 11 1
    sfd := fld p 12 1, whiten := fld p 13 1, fcs2 := fld p 14 1 }

/-- The settings with what a COMMONS packet spells (13 R317). -/
def setCommons (p : List Byte) (c : ComCfg) : ComCfg :=
  { c with
    role := fld p 0 1
    beaconChan := fld p 1 1
    period := fld p 2 1
    hopAdd := fld p 3 1
    holdGrade := fld p 4 1
    ccaThr := fldI p 5 1
    maxCca := fld p 6 1
    netId := fld p 8 2
    delayInterval := fld p 10 2
    beaconFold := fld p 12 2
    reqWindow := fld p 14 2
    devId := fld p 16 4
    delayFixed := fldI p 20 8 }

/-- The commons settings, the RF settings and an entry's frequency as the commands staged earlier in the fold leave them (log 64). -/
def State.stagedCom (s : State) : ComCfg :=
  s.host.staged.foldl (fun c g => if g.commit && g.opcode = 0x7010 then setCommons g.call.params c else c) s.cfg.com
def State.stagedRf (s : State) : RfCfg :=
  s.host.staged.foldl (fun c g => if g.commit && g.opcode = 0x6010 then rfCfgOf g.call.params else c) s.cfg.rf
def State.stagedFreq (s : State) (c : Nat) : Nat :=
  s.host.staged.foldl (fun f g => if g.commit && g.opcode = 0x6012 && fld g.call.params 0 1 = c then fld g.call.params 4 4 else f) (s.chan c).freq

/-- The role, and the channel the front end is to be on, as those commands leave them. -/
def State.stagedRole (s : State) : Nat := s.stagedCom.role
def State.stagedWant (s : State) : Nat := if s.stagedRole ≠ 0 then s.stagedCom.beaconChan else s.stagedRf.chan

/-- The checks of RF (09 R197, R198). -/
def checkRf (q : Call) (s : State) : Serve :=
  let p := q.params
  let f (i hi : Nat) : Bool := fld p i 1 ≤ hi
  checks [
    (p.length = 16, St.badLength),
    (s.owns q.pen 0x30, St.denied),
    (f 0 63 && f 1 2 && f 2 1 && f 3 1 && f 4 5 && f 5 1 && inRangeI (fldI p 6 1) (-10) 14 && f 7 3 && f 8 1 && f 9 31 && f 10 31, St.badParam),
    (inRange (fld p 11 1) 3 15 && f 12 1 && f 13 1 && f 14 1 && zeros p 15 1, St.badParam),
    (fld p 0 1 = s.stagedRf.chan || s.stagedFreq (fld p 0 1) ≠ 0, St.badParam),
    (s.stagedRole = 0 || fld p 0 1 = s.stagedWant, St.locked)]
    (Serve.group 0x6011 [])

/-- RF committed; the front end takes it up outside a frame. -/
def commitRf (q : Call) (s : State) : State := ({ s with cfg := { s.cfg with rf := rfCfgOf q.params } }).takeRf

/-- The frequency that a written one is applied as: the nearest synthesiser step, in whole hertz (09 R198). -/
def appliedHz (f : Nat) : Nat := (divNear (((divNear ((f * 2 ^ 22 : Nat)) 38400000).toNat * 38400000 : Nat)) (2 ^ 22)).toNat

/-- The checks of CHAN_WRITE (09 R198, R200). -/
def checkChanWrite (q : Call) (s : State) : Serve :=
  let p := q.params
  let f := fld p 4 4
  checks [
    (p.length = 8, St.badLength),
    (s.owns q.pen 0x30, St.denied),
    (fld p 0 1 ≤ 63 && zeros p 1 3 && (f = 0 || inRange f 770000000 960000000), St.badParam),
    ((fld p 0 1 ≠ s.rf.chan && s.rf.hop ≠ some (fld p 0 1)) || s.rf.state = .idle || s.rf.state = .off, St.locked)]
    (Serve.group 0x6014 (p.take 1))

/-- CHAN_WRITE committed: the entry's calibration is cleared; the active channel is tuned anew. -/
def commitChanWrite (q : Call) (s : State) : State :=
  let c := fld q.params 0 1
  let f := fld q.params 4 4
  let s1 := { s with cfg := { s.cfg with chans := s.cfg.chans.upd c fun e => { e with freq := if f = 0 then 0 else appliedHz f, calValid := false, band := 0, amp := 0, calTemp := 0 } } }
  if c = s1.rf.lastHop && f ≠ 0 then ({ s1 with rf := { s1.rf with hop := none, hopCal := false, hops := s1.rf.hops ++ [c] } }).nextHop else s1

/-- A channel entry (09 R201). -/
def State.chanBytes (s : State) (c : Nat) : List Byte := le 4 (s.chan c).freq ++ le 4 (s.chan c).word

/-- The checks of RF_RX (09 R197, R198). -/
def checkRfRx (q : Call) (s : State) : Serve :=
  let p := q.params
  checks [
    (p.length = 1, St.badLength),
    (s.owns q.pen 0x30, St.denied),
    (fld p 0 1 ≤ 1 && (fld p 0 1 = 0 || s.stagedFreq s.stagedRf.chan ≠ 0), St.badParam),
    (s.stagedRole = 0, St.locked)]
    Serve.stage

/-- RF_RX committed. -/
def commitRfRx (q : Call) (s : State) : State :=
  let s1 := { s with rf := { s.rf with wantRx := fld q.params 0 1 = 1 } }
  if s1.rfBusy then s1 else s1.rest.takeRf

/-- The checks of RF_TX: it begins at once, and replies when its frame has ended (13 R316, log 34). -/
def checkRfTx (q : Call) (s : State) : Serve :=
  let p := q.params
  checks [
    (inRange p.length 1 253, St.badLength),
    (s.owns q.pen 0x30, St.denied),
    (p.length + s.stagedRf.fcsLen ≤ 255 && s.stagedFreq s.stagedRf.chan ≠ 0, St.badParam),
    (s.stagedRole = 0 && s.pow.state = .run, St.locked)]
    (if s.rf.hostTx.isSome || s.rf.tone ≠ 0 || s.rf.toneNext.isSome then .stay
     else { later := true, act := fun s => { s with rf := { s.rf with hostTx := some { pen := q.pen, tag := q.tag, cls := q.cls, psdu := p } } } })

/-- The checks of RF_CAPTURE. -/
def checkRfCapture (q : Call) (s : State) : Serve :=
  let p := q.params
  checks [
    (p.length = 4, St.badLength),
    (s.owns q.pen 0x30, St.denied),
    (fld p 0 1 ≤ 1 && zeros p 1 1 && inRange (fld p 2 2) 1 255, St.badParam)]
    (if s.rf.capture.isSome then .stay
     else { later := true, act := fun s => { s with rf := { s.rf with
              capture := some { pen := q.pen, tag := q.tag, cls := q.cls, iq := fld p 0 1 = 1, want := fld p 2 2, got := [] } } } })

/-- The radio status block. -/
def State.rfStatusBytes (s : State) : List Byte :=
  let r := s.rf
  le 1 r.state.code ++ le 1 r.gain ++ le 1 r.shadowGain ++ le 1 (b2n s.rfb) ++ le 1 r.tuneA ++ le 1 r.tuneB ++ le 1 r.shadowA ++ le 1 r.shadowB ++
    leI 1 s.dieDegrees ++ le 1 (b2n r.lock) ++ le 2 0 ++ le 4 r.satBlocks.toNat ++ le 4 r.received.toNat ++ le 4 r.dropped.toNat ++
    le 4 r.sent.toNat ++ le 4 r.txTime.toNat

/-- The checks of RF_TONE (19 R440). -/
def checkRfTone (q : Call) (s : State) : Serve :=
  let p := q.params
  checks [
    (p.length = 1, St.badLength),
    (s.owns q.pen 0x30, St.denied),
    (fld p 0 1 ≤ 2 && (fld p 0 1 = 0 || s.stagedFreq s.stagedRf.chan ≠ 0), St.badParam),
    (s.stagedRole = 0 && (fld p 0 1 = 0 || s.pow.state = .run), St.locked)]
    Serve.stage

/-- A tone starts at the next boundary that finds the front end free, changes its mode, or ramps down (19 R440): it counts as one frame. -/
def State.setTone (s : State) (m : Nat) : State :=
  if m = 0 then { s with rf := { s.rf with tone := 0, toneNext := none } }
  else if s.rf.tone = 0 then { s with rf := { s.rf with toneNext := some m } }
  else { s with rf := { s.rf with tone := m } }

/-- RF_TONE committed. -/
def commitRfTone (q : Call) (s : State) : State := s.setTone (fld q.params 0 1)

/-! ### Power states (18 R423) -/

/-- Entering QUIET or SLEEP: a transmission in progress finishes with its ramp down, a tone ramps down, and a reception is dropped (09 R221). -/
def State.radioQuiet (s : State) : State :=
  let s1 := { s with rf := { s.rf with tone := 0, toneNext := none } }
  if s1.rf.state = .tx || s1.com.onAir.isSome then s1
  else
    let s2 := if s1.rf.inFrame then s1.dropRx 4 else s1
    { s2 with rf := { s2.rf.clearFrame with state := .off } }

/-- Leaving them. -/
def State.radioWake (s : State) : State := if s.rf.state = .off then s.rest.takeRf else s

end Sys2Proof.Machine
end

