-- ==== Sys2Proof/Machine/Commons.lean ====
section
/-! DEFINITION. The commons MAC (10): beacons, channel access, exchanges, the checks of received frames, tracking, management over the air, with
frame injection (19), and the commons opcodes. -/

namespace Sys2Proof.Machine

/-! ### Places in time -/

/-- Folds since device second 0. -/
def State.deviceFold (s : State) : Nat := s.clk.seconds.toNat * 8000 + s.clk.inSec

/-- Folds of a beacon period. -/
def State.periodFolds (s : State) : Nat := beaconFolds s.cfg.com.period

/-- Device-time nanoseconds since device second 0 of the present instant. -/
def State.deviceNs (s : State) : Nat := s.clk.seconds.toNat * 1000000000 + s.nsAt s.clk.now

/-- The instant, in fs since fold 0, of a device time in nanoseconds since device second 0. -/
def State.instantOf (s : State) (ns : Int) : Int := (s.foldStart : Int) + (ns - s.deviceFold * 125000) * 1000000

/-- A label that names fold `fold` of second `sec` for the device's own boundary nearest instant `x` (07 R172; 11 R260). -/
def State.labelAt (s : State) (sec fold : Nat) (x : Int) (rank : Nat) : Label :=
  let k := divNear x foldFs
  let d := (s.clk.inSec : Int) + (k - s.clk.absFold.toNat)
  { diffSec := (sec : Int) - (s.clk.seconds.toNat + d / 8000), diffFold := (fold : Int) - d % 8000, at_ := s.clk.secIdx, rank := rank }

/-! ### State and grade -/

/-- A change of MAC state raises COMMONS_STATE (10 R225). -/
def State.setMac (s : State) (m : MacState) : State :=
  ({ s with com := { s.com with state := m } }).raiseIf (s.com.state ≠ m) Ev.commonsState m.code

/-- The advertised grade (10 R231; 11 R253) with HOP_ADD, HOLD_GRADE and the LOCKED value at the last bellwether. -/
def State.advertise (s : State) (hop hold last : Nat) : Nat :=
  match s.lp.state, s.sel.bell with
  | .freerun, _ => 15
  | .locked, some b => min 14 (s.egrade b + hop)
  | _, _ => max hold last

/-- The LOCKED value that a bellwether gives. -/
def State.lockedGrade (s : State) (hop last : Nat) : Nat := match s.sel.bell with
  | some b => min 14 (s.egrade b + hop)
  | none => last

/-- U in nanoseconds, rounded up and saturating (10 R228, 11 R247). -/
def State.uncNs (s : State) : Nat := min (2 ^ 32 - 1) (ceilDiv s.lp.unc.toNat 1000000)

/-! ### Frames (10 R228, R229) -/

/-- The common header of a frame of a TYPE. -/
def State.comHeader (s : State) (kind flags seq : Nat) : List Byte :=
  le 1 (16 * kind + 1) ++ le 1 flags ++ le 2 s.cfg.com.netId ++ le 4 s.cfg.com.devId ++ le 2 seq

/-- A frame with its tag. -/
def State.tagged (s : State) (b : List Byte) : List Byte := b ++ (cmac (s.com.key.getD []) b).take 4

/-- The PSDU of a queued frame that goes out at the next boundary (10 R228–R231). -/
def State.buildFrame (s : State) (f : TxFrame) : List Byte :=
  let st := s.nextStamp
  match f.kind with
  | 1 =>
    let fl := 16 * s.advertise s.cfg.com.hopAdd s.cfg.com.holdGrade s.com.lastGrade + 8 * b2n (s.lp.state = .holdover) + 4 * b2n s.tod.valid
    s.tagged (s.comHeader 1 fl f.seq ++ le 6 st.1 ++ le 4 st.2 ++ le 4 s.uncNs)
  | 2 => s.tagged (s.comHeader 2 0 f.seq ++ le 4 f.dst)
  | 3 => s.tagged (s.comHeader 3 0 f.seq ++ le 4 f.dst ++ le 2 f.reqSeq ++ le 6 (f.t2 / 1000000000) ++ le 4 (f.t2 % 1000000000) ++
      le 4 (st.1 * 1000000000 + st.2 - f.t2))
  | _ => s.tagged (s.comHeader 5 0 f.seq ++ le 4 f.dst ++ f.body)

/-- A frame joins the queue with the next SEQ (10 R228, R230). -/
def State.queueFrame (s : State) (f : TxFrame) : State :=
  { s with com := { s.com with queue := s.com.queue ++ [{ f with seq := s.com.seq.toNat, attempt := 1, fold := s.clk.absFold.toNat, due := s.clk.absFold.toNat }], seq := s.com.seq + 1 } }

/-! ### Due frames -/

/-- Whether the MAC runs: a task of the sequencer, stopped in QUIET and SLEEP (10 R227; 01 R18; 18 R423). -/
def State.macRuns (s : State) : Bool := s.com.state ≠ .off && s.schedule && s.pow.state = .run && !s.pow.sleepEntry

/-- A frame of a TYPE that the role may send (10 R226): beacons and responses a MASTER, requests and management replies a FOLLOWER too. -/
def maySend (role kind : Nat) : Bool := if kind = 1 || kind = 3 then role = 1 else role = 1 || role = 2

/-- A beacon falls due in the MASTER's beacon fold (10 R230), once. -/
def State.beaconDue (s : State) : State :=
  let due := s.com.state = .master && s.deviceFold % s.periodFolds = s.cfg.com.beaconFold
  let had := (s.com.queue ++ s.com.onAir.toList).any fun f => f.kind = 1 && f.due = s.clk.absFold.toNat
  if due && !had then s.queueFrame { kind := 1, body := [], attempt := 1, fold := 0, seq := 0 } else s

/-- Requests fall due at their random folds (10 R232). -/
def State.delayReqDue (s : State) : State :=
  match s.com.tracked with
  | some m =>
    if s.com.state = .track || s.com.state = .master then
      let n := s.clk.absFold.toNat
      forEach (s.com.reqFolds.filter (· ≤ n)) (fun _ s => s.queueFrame { kind := 2, body := [], attempt := 1, fold := 0, seq := 0, dst := m })
        { s with com := { s.com with reqFolds := s.com.reqFolds.filter (n < ·) } }
    else s
  | none => s

/-- Responses due join the queue (10 R232). -/
def State.delayRespDue (s : State) : State :=
  let due := s.com.owed.filter fun o => o.dueFold ≤ s.clk.absFold.toNat
  let s1 := { s with com := { s.com with owed := s.com.owed.filter fun o => s.clk.absFold.toNat < o.dueFold } }
  forEach due (fun o s => s.queueFrame { kind := 3, body := [], attempt := 1, fold := 0, seq := 0, dst := o.dst, reqSeq := o.reqSeq, t2 := o.t2Sec * 1000000000 + o.t2Ns }) s1

/-- Each exchange without a response within 400 folds of its t1 is rejected and counted (10 R233). -/
def State.exchangeTimeout (s : State) : State :=
  let late (r : Request) : Bool := r.fold + 400 ≤ s.clk.absFold.toNat
  { s with com := { s.com with
    requests := s.com.requests.filter fun r => !late r
    cnt := { s.com.cnt with exRejected := s.com.cnt.exRejected + BitVec.ofNat 32 (s.com.requests.countP late) } } }

/-- What slot 7 does where the MAC runs: what the table lists as a row of its own happens while the sequencer stands in that slot (10 R225, log 27). -/
def State.inMac (s : State) (f : State → State) : State := s.inTask 7 fun s => if s.macRuns then f s else s

/-- The BEACON_DUE row. -/
def execBeaconDue (s : State) : Host.Outcome State Fault Refusal := .next (s.inMac fun s => s.beaconDue)

/-- The DELAY_REQ_DUE row. -/
def execDelayReqDue (s : State) : Host.Outcome State Fault Refusal := .next (s.inMac fun s => s.delayReqDue)

/-- The DELAY_RESP_DUE row. -/
def execDelayRespDue (s : State) : Host.Outcome State Fault Refusal := .next (s.inMac fun s => s.delayRespDue)

/-- The EXCHANGE_TIMEOUT row. -/
def execExchangeTimeout (s : State) : Host.Outcome State Fault Refusal := .next (s.inMac fun s => s.exchangeTimeout)

/-! ### Channel access (10 R230) -/

/-- The oldest reply that goes back over the air has gone out, or is given up: its credit is free (10 R240, 12 R285). -/
def PenIo.dropAir (p : PenIo) : PenIo :=
  match p.replies.find? (·.air) with
  | some r => { p with free := p.free + 1, replies := p.replies.erase r, read := p.read + 1 }
  | none => p

/-- A frame that never found the channel free: a beacon is skipped with its event; a management reply frees its credit. -/
def State.skipFrame (s : State) (f : TxFrame) : State :=
  if f.kind = 1 then
    ({ s with com := { s.com with cnt := { s.com.cnt with skipped := s.com.cnt.skipped + 1 } } }).raise Ev.beaconSkipped f.seq
  else if f.kind = 5 then s.updIo 3 PenIo.dropAir
  else s

/-- The RSSI of six consecutive valid blocks of the present fold, where it has had six (10 R230). -/
def State.ccaBlocks (s : State) : Option Int :=
  let l := s.rf.run.filter fun b => s.foldStart + blockFs ≤ b.1
  if l.length = 6 then some ((l.map (·.2)).foldl (· + ·) 0) else none

/-- A CCA of a frame may be made: the MAC runs and may send it, its fold has come, and the front end receives (10 R226, R230). -/
def State.mayCca (s : State) (f : TxFrame) : Bool :=
  s.macRuns && maySend s.cfg.com.role f.kind && f.fold ≤ s.clk.absFold.toNat && s.com.onAir.isNone && s.rf.hop.isNone && s.rf.state = .rx

/-- The CCA passes: the timestamp is fixed and written into the frame, and a request's exchange opens (10 R230, R232). -/
def State.ccaPass (s : State) (f : TxFrame) (rest : List TxFrame) : State :=
  let st := s.nextStamp
  let t1 := st.1 * 1000000000 + st.2
  let k1 := s.clk.absFold.toNat + (t1 / 125000 - s.deviceFold)
  let c := { s.com with queue := rest, onAir := some { f with body := s.buildFrame f } }
  { s with com := if f.kind = 2 then { c with requests := c.requests ++ [{ seq := f.seq, t1 := t1, master := f.dst, fold := k1 }] } else c }

/-- The CCA fails: it is counted, and slot 7 of the next fold draws the backoff (10 R230; 01 R17, R18). -/
def State.ccaFail (s : State) : State :=
  { s with com := { s.com with ccaFold := some s.clk.absFold.toNat, cnt := { s.com.cnt with ccaFail := s.com.cnt.ccaFail + 1 } } }

/-- Slot 7's part of a failed CCA: the frame backs off or is skipped (10 R230). -/
def State.backoff (s : State) : State :=
  match s.com.ccaFold, s.com.queue with
  | some k, f :: rest =>
    let s1 := { s.draw with com := { s.com with ccaFold := none } }
    if s.cfg.com.maxCca ≤ f.attempt then ({ s1 with com := { s1.com with queue := rest } }).skipFrame f
    else { s1 with com := { s1.com with queue := { f with attempt := f.attempt + 1, fold := k + 2 * (Config.random s.freeN % 16) + 1 } :: rest } }
  | _, _ => { s with com := { s.com with ccaFold := none } }

/-- The CCA of the head of the queue, which the front end makes over blocks of the fold: it passes where the mean of six is below CCA_THR. -/
def execCcaAttempt (_ : Computed) (t : Nat) (s : State) : Host.Outcome State Fault Refusal :=
  let s0 := s.setNow t
  .next (match s0.com.queue, s0.ccaBlocks with
    | f :: rest, some sum =>
      if !s0.mayCca f || s0.com.ccaFold.isSome then s0
      else if sum < 12 * s0.cfg.com.ccaThr then s0.ccaPass f rest
      else s0.ccaFail
    | _, _ => s0)

/-- A frame whose CCA passed ramps up at the boundary, whatever commits there or does not (10 R230, log 87). -/
def State.commonsRamp (s : State) : State :=
  match s.com.onAir with
  | some f => if s.rf.state = .tx then s else s.rampUp (some f.body)
  | none => s

/-- The boundary's part: the ramp up, the grade of the last bellwether, and a new key (10 R229–R231, R239). -/
def State.commonsBoundary (s : State) : State :=
  let s1 := s.commonsRamp
  let s2 := { s1 with com := { s1.com with lastGrade := s1.lockedGrade s1.cfg.com.hopAdd s1.com.lastGrade } }
  match s2.com.newKey with
  | some k => ({ s2 with com := { s2.com with key := some k, newKey := none, replay := [] } }).raise Ev.keyWritten 0
  | none => s2

/-- What a commons frame leaves as it ends, whole or abandoned: the counters of R241, and a management reply's credit. -/
def State.endOnAir (s : State) (whole : Bool) : State :=
  match s.com.onAir with
  | some f =>
    let c := { s.com with onAir := none }
    if f.kind = 1 then { s with com := { c with cnt := { c.cnt with sent := if whole then c.cnt.sent + 1 else c.cnt.sent } } }
    else if f.kind = 5 then ({ s with com := c }).updIo 3 PenIo.dropAir
    else { s with com := c }
  | none => s

/-- A transmission has been sent whole: its figures, its match and the tuner's move (09 R216, R217). -/
def State.sentWhole (s : State) (returnLoss : Nat) : State :=
  let s1 := (s.judgeMatch returnLoss).tunerMove returnLoss
  { s1 with rf := { s1.rf with sent := s1.rf.sent + 1, txTime := s1.rf.txTime + BitVec.ofNat 32 s1.rf.airUs } }

/-- Time on the air of what has not been sent as a whole frame: an abandoned frame, or a tone (13 R316). -/
def State.countAir (s : State) : State :=
  { s with rf := { s.rf with txTime := s.rf.txTime + BitVec.ofNat 32 ((s.instant - s.rf.txFrom) / 1000000000) } }

/-- A transmission has ramped down (09 R213–R217, R221). While a tone stands, the row gives the return loss of its first 32 bits (19 R440). -/
def execTxFrameEnd (returnLoss : Nat) (t : Nat) (s : State) : Host.Outcome State Fault Refusal :=
  let s0 := s.setNow t
  if s0.rf.state ≠ .tx then .next s0
  else if s0.rf.tone ≠ 0 then .next (s0.judgeMatch returnLoss)
  else
    let whole := s0.rf.air.isSome && !s0.rf.cut
    let s1 := ((if whole then s0.sentWhole returnLoss else s0.countAir).endOnAir whole).endHostTx St.ok
    .next ({ s1 with rf := { s1.rf with state := .idle } }).endFrame

/-! ### Replay (10 R239) -/

/-- Replay state of a sender. -/
def Commons.replayOf (c : Commons) (id : Nat) : Option Replay := c.replay.find? fun r => r.id = id

/-- Fresh: a SEQ ahead by 1 to 32,767, and a beacon's seconds not lower. -/
def Commons.fresh (c : Commons) (id seq : Nat) (secs : Option Nat) : Bool :=
  match c.replayOf id with
  | none => true
  | some r =>
    let d := (seq + 65536 - r.seq % 65536) % 65536
    1 ≤ d && d ≤ 32767 &&
      (match secs, r.secs with
       | some x, some y => decide (y ≤ x)
       | _, _ => true)

/-- Whether a beacon's sender can have a place: eight senders, and MGMT_PEER beside them. -/
def State.replayRoom (s : State) (id : Nat) : Bool :=
  (s.com.replayOf id).isSome || id = s.cfg.com.mgmtPeer || (s.com.replay.filter fun r => r.id ≠ s.cfg.com.mgmtPeer).length < 8

/-- Replay state after an accepted frame: only a beacon, or MGMT_PEER, makes a place. -/
def State.noteReplay (s : State) (id seq : Nat) (secs : Option Nat) : State :=
  match s.com.replayOf id with
  | some _ =>
    { s with com := { s.com with replay := s.com.replay.map fun r =>
        if r.id = id then { r with seq := seq, secs := secs.orElse fun _ => r.secs } else r } }
  | none =>
    if secs.isSome || id = s.cfg.com.mgmtPeer then { s with com := { s.com with replay := s.com.replay ++ [{ id := id, seq := seq, secs := secs }] } }
    else s

/-! ### Delay (10 R233) -/

/-- D: DELAY_FIXED on a LISTENER and before the first exchange, else the mean of the last accepted values (10 R233). -/
def State.delayD (s : State) : Fs :=
  if s.cfg.com.role = 3 || s.com.dvals.isEmpty then s.cfg.com.delayFixed else meanI s.com.dvals

/-- Half the spread of the values that make up D (10 R235). -/
def State.halfSpread (s : State) : Fs :=
  if s.cfg.com.role = 3 then 0
  else match s.com.dvals with
    | [] => 0
    | x :: r => divNear (r.foldl max x - r.foldl min x) 2

/-- A response is judged (10 R232, R233): t4 in fs since device second 0, the stamps it carries in ns. -/
def State.judgeExchange (s : State) (r : Request) (t2 dt t4 : Nat) : State :=
  let d : Fs := satFs (((t4 : Int) - ((r.t1 + dt) * 1000000 : Nat)) / 2)
  let o : Fs := satFs ((t4 : Int) - ((t2 + dt) * 1000000 : Nat) - d)
  let c := { s.com with requests := s.com.requests.erase r }
  let bad := d < 0 || 10000000 < d || (s.com.dvals.length = 8 && 50000 < (d - meanI s.com.dvals).natAbs)
  if bad then { s with com := { c with cnt := { c.cnt with exRejected := c.cnt.exRejected + 1 } } }
  else
    { s with com := { c with
      dvals := (c.dvals ++ [d]).drop (c.dvals.length - 7)
      offset := o
      cnt := { c.cnt with exAccepted := c.cnt.exAccepted + 1 } } }

/-! ### Tracking (10 R236, R237) -/

/-- Whether the device may track a master. -/
def State.mayTrack (s : State) (id : Nat) : Bool := s.cfg.com.role ≠ 1 || id < s.cfg.com.devId

/-- A master still heard: within one beacon period (10 R225). -/
def State.stillHeard (s : State) (h : Heard) : Bool := s.clk.absFold.toNat ≤ h.fold + s.periodFolds

/-- The better of two heard masters: the lower GRADE, then the lower SRC_ID. -/
def betterHeard (a : Option Heard) (h : Heard) : Option Heard :=
  match a with
  | none => some h
  | some b => if h.grade < b.grade || (h.grade = b.grade && h.id < b.id) then some h else some b

/-- The master to track after a beacon of `id` (10 R236). -/
def State.chooseMaster (s : State) (id : Nat) : Option Nat :=
  if (s.cand 7).qualified then
    match s.com.heard.find? (fun h => h.id = id) with
    | some h => if s.com.tracked ≠ some id && s.mayTrack id && 2 ≤ h.better then some id else s.com.tracked
    | none => s.com.tracked
  else
    let l := s.com.heard.filter fun h => s.mayTrack h.id && s.stillHeard h
    ((l.foldl betterHeard none).map (·.id)).orElse fun _ => s.com.tracked

/-- A change of tracked master (10 R236, R237, R241): REFC is disqualified with cause CONFIG and takes what the new master's newest beacon advertised, no
beacon is expected of it yet, and MASTER_CHANGE is raised. -/
def State.trackMaster (s : State) (m : Option Nat) : State :=
  match m with
  | none => s
  | some id =>
    if s.com.tracked = some id then s
    else
      let h : Option Heard := s.com.heard.find? fun h => h.id = id
      let u : Fs := ((h.map Heard.unc).getD 0 : Nat) * 1000000 + s.halfSpread
      let g := h.map Heard.grade
      let s1 := ({ s with com := { s.com with tracked := some id, expect := none } }).updCand 7 fun c =>
        { c with configNext := true, advNew := g.orElse fun _ => c.advNew, advUnc := u }
      let s2 := if s1.com.state = .search then s1.setMac .track else s1
      s2.raise Ev.masterChange id

/-- A master's beacon is recorded; `better` counts its consecutive beacons with a lower GRADE than the tracked master's. -/
def State.hear (s : State) (id grade unc : Nat) : State :=
  let tg := match s.com.tracked.bind (fun m => s.com.heard.find? fun h => h.id = m) with
    | some h => h.grade
    | none => 15
  let old := s.com.heard.find? fun h => h.id = id
  let b := if grade < tg && s.com.tracked ≠ some id then ((old.map (·.better)).getD 0) + 1 else 0
  let h : Heard := { id := id, grade := grade, better := b, fold := s.clk.absFold.toNat, unc := unc }
  { s with com := { s.com with heard := (s.com.heard.filter fun x => x.id ≠ id) ++ [h] } }

/-! ### Accepted frames -/

/-- The receive timestamp of a frame in fs since device second 0, with what an injection adds to it (09 R220; 19 R432). -/
def Inbound.rxFs (f : Inbound) : Nat := (f.frame.seconds * 1000000000 + f.frame.ns) * 1000000 + f.extra

/-- A beacon with TIME_VALID gives the commons label, whatever master sent it (07 R172; 10 R237). -/
def State.beaconLabel (s : State) (b : List Byte) (at_ : Int) : State :=
  let ns := fld b 16 4 % 2 ^ 30
  if bit (fld b 1 1) 2 then
    s.setLabel 3 (s.labelAt (fld b 10 6) (ns / 125000) (at_ - s.delayD - ((ns % 125000 : Nat) : Int) * 1000000) 0)
  else s

/-- The request that the tracked master's first beacon of a period asks for (10 R232). -/
def State.askDelay (s : State) : State :=
  let p := s.deviceFold / s.periodFolds
  if s.com.reqPeriod = some p || !(s.cfg.com.role = 1 || s.cfg.com.role = 2) then s
  else
    let s1 := { s with com := { s.com with reqPeriod := some p } }
    let n := s1.cfg.com.delayInterval
    if p % n = s1.cfg.com.devId % n then
      { s1.draw with com := { s1.com with reqFolds := s1.com.reqFolds ++ [s1.clk.absFold.toNat + 64 + Config.random s1.freeN % s1.cfg.com.reqWindow] } }
    else s1

/-- A beacon of the tracked master: REFC's sample, activity, grade and uncertainty, the next expected beacon, the request (10 R232–R237, R241). -/
def State.trackedBeacon (s : State) (f : Inbound) : State :=
  let b := f.frame.psdu
  let tx := fld b 10 6 * 1000000000 + fld b 16 4 % 2 ^ 30
  let v : Fs := (f.rxFs : Int) - (tx * 1000000 : Nat) - s.delayD
  let killed := (s.cand 7).killed
  let t := f.at_.toNat
  let s1 := if killed then s else ((s.touch 7 t).gateEvent 7 t (s.modPeriod 7 v)).sampleAt 7 t (s.modPeriod 7 v)
  let u : Fs := (fld b 20 4 : Nat) * 1000000 + s1.halfSpread
  let s2 := s1.updCand 7 fun c => { c with advNew := some (fld b 1 1 / 16), advUnc := u }
  ({ s2 with com := { s2.com with expect := some (t + s2.periodFolds * foldFs, fld b 8 2 + 1) } }).askDelay

/-- An accepted beacon (10 R236). -/
def State.acceptBeacon (s : State) (f : Inbound) (src : Nat) : State :=
  let b := f.frame.psdu
  let s1 := { s with com := { s.com with rssi := some (divNear f.frame.rssi 2), cnt := { s.com.cnt with accepted := s.com.cnt.accepted + 1 } } }
  let s2 := (s1.hear src (fld b 1 1 / 16) (fld b 20 4)).beaconLabel b f.at_
  let s3 := s2.trackMaster (s2.chooseMaster src)
  if s3.com.tracked = some src then s3.trackedBeacon f else s3

/-- A management command (10 R240): it is checked and queued as a packet of pen 3. -/
def State.acceptMgmt (s : State) (src : Nat) (pkt : List Byte) : State :=
  let drop (s : State) : State := { s with com := { s.com with cnt := { s.com.cnt with mgmtDropped := s.com.cnt.mgmtDropped + 1 } } }
  if !s.cfg.com.mgmtEn || s.cfg.com.role = 3 || src ≠ s.cfg.com.mgmtPeer then drop s
  else
    let k := parsePacket pkt
    let k1 : Packet := { k with call := { k.call with pen := 3 }, air := true }
    if pkt.length ≠ 10 + fld pkt 4 2 then reject k1 St.badLength (drop s)
    else if crc16 (pkt.take (pkt.length - 2)) ≠ fld pkt (pkt.length - 2) 2 then reject k1 St.badCrc (drop s)
    else if (s.penSt 3).state = .disabled then reject k1 St.denied (drop s)
    else if (s.penSt 3).state = .resetting then reject k1 St.abandoned (drop s)
    else if (s.io 3).free = 0 then (drop s).raise Ev.mgmtReject 0
    else enqueue k1 { s with com := { s.com with cnt := { s.com.cnt with mgmtServed := s.com.cnt.mgmtServed + 1 } } }

/-- A request for this master (10 R232): at most four responses are owed; t2 is what the frame's timestamp says in ns. -/
def State.acceptRequest (s : State) (f : Inbound) (src reqSeq : Nat) : State :=
  if s.cfg.com.role ≠ 1 then s
  else
    let n := s.com.owed.length + ((s.com.queue ++ s.com.onAir.toList).filter fun f => f.kind = 3).length
    if 4 ≤ n then { s with com := { s.com with cnt := { s.com.cnt with reqDropped := s.com.cnt.reqDropped + 1 } } }
    else
      let rx := f.rxFs / 1000000
      let o : Owed := { dst := src, reqSeq := reqSeq, t2Sec := rx / 1000000000, t2Ns := rx % 1000000000, dueFold := f.at_.toNat / foldFs + 8 }
      { s with com := { s.com with owed := s.com.owed ++ [o] } }

/-- What an accepted frame does, by TYPE. -/
def State.acceptFrame (s : State) (f : Inbound) (src : Nat) : State :=
  let b := f.frame.psdu
  match fld b 0 1 / 16 with
  | 1 => s.acceptBeacon f src
  | 2 => s.acceptRequest f src (fld b 8 2)
  | 3 =>
    match s.com.requests.find? fun r => r.seq = fld b 14 2 && r.master = src with
    | some r => s.judgeExchange r (fld b 16 6 * 1000000000 + fld b 22 4) (fld b 26 4) f.rxFs
    | none => s
  | 4 => s.acceptMgmt src ((b.drop 14).take (b.length - 18))
  | _ => s

/-- Least length of a frame of a TYPE with its tag. -/
def frameMin : Nat → Nat
  | 1 => 28
  | 2 => 18
  | 3 => 34
  | _ => 28

/-- The checks of R238, in their order. A PSDU too short for its type has no tag where the tag stands, so it fails there. -/
def State.checkFrame (s : State) (f : Inbound) : State :=
  let b := f.frame.psdu
  let kind := fld b 0 1 / 16
  let src := fld b 4 4
  let seq := fld b 8 2
  let secs := if kind = 1 then some (fld b 10 6) else none
  let c := s.com
  if fld b 0 1 % 16 ≠ 1 || kind = 0 || 5 < kind then { s with com := { c with cnt := { c.cnt with badFrame := c.cnt.badFrame + 1 } } }
  else if fld b 2 2 ≠ s.cfg.com.netId then { s with com := { c with cnt := { c.cnt with stranger := c.cnt.stranger + 1 } } }
  else if b.length < frameMin kind || c.key.isNone || (cmac (c.key.getD []) (b.take (b.length - 4))).take 4 ≠ b.drop (b.length - 4) then
    ({ s with com := { c with cnt := { c.cnt with forged := c.cnt.forged + 1 } } }).raise Ev.forged src
  else if !c.fresh src seq secs then ({ s with com := { c with cnt := { c.cnt with replay := c.cnt.replay + 1 } } }).raise Ev.replay src
  else if kind ≠ 1 && fld b 10 4 ≠ s.cfg.com.devId then s
  else if kind = 1 && !s.replayRoom src then { s with com := { c with cnt := { c.cnt with overflow := c.cnt.overflow + 1 } } }
  else (s.noteReplay src seq secs).acceptFrame f src

/-! ### Injection on received frames (19 R431, R432) -/

/-- Whether an injection acts on the frame that has now been seen, and the injection after it: EVERY 0 acts once. -/
def Injection.hit (j : Injection) : Bool × Injection :=
  let n := j.seen + 1
  if j.kind = 0 then (false, j)
  else if j.every = 0 then
    (true, { j with kind := 0, seen := 0 })
  else (n % j.every = 0, { j with seen := n })

/-- The counter of a KIND advanced. -/
def Injection.count (j : Injection) (kind : Nat) : Injection :=
  match kind with
  | 1 => { j with drop := j.drop + 1 }
  | 2 => { j with corrupt := j.corrupt + 1 }
  | 3 => { j with reorder := j.reorder + 1 }
  | _ => { j with delayed := j.delayed + 1 }

/-- Bit 0 of byte `k` inverted. -/
def flipBit0 (b : List Byte) (k : Nat) : List Byte := b.modify k (· ^^^ 1)

/-- A frame with its receive timestamp: the detection of its SFD less the path's latency at the RATE in use (09 R220). -/
def State.rxStamped (s : State) (f : RxFrame) : RxFrame :=
  let n := f.seconds * 1000000000 + f.ns - Config.rxLatency s.rf.act.rate
  { f with seconds := n / 1000000000, ns := n % 1000000000 }

/-- A stamped frame with the instant of its SFD end. -/
def State.inbound (s : State) (f : RxFrame) : Inbound := { frame := f, at_ := s.instantOf (f.seconds * 1000000000 + f.ns : Nat) }

/-- The MAC runs or is suspended: what arrives waits for its slot (01 R32; 10 R227). -/
def State.macListens (s : State) : Bool := s.com.state ≠ .off && s.pow.state = .run && !s.pow.sleepEntry

/-- A frame counts as received (13 R316) and waits for slot 7, where the MAC listens. -/
def State.takeIn (s : State) (f : Inbound) : State :=
  let s1 := { s with rf := { s.rf with received := s.rf.received + 1 } }
  if s.macListens then { s1 with com := { s1.com with inbox := s1.com.inbox ++ [f] } } else s1

/-- A frame held back by a reorder follows the present one. -/
def State.releaseHeld (s : State) : State :=
  match s.com.heldFrame with
  | some h => ({ s with com := { s.com with heldFrame := none } }).takeIn h
  | none => s

/-- A frame taken as `d` fs later (19 R432). -/
def Inbound.late (f : Inbound) (d : Nat) : Inbound := { f with at_ := f.at_ + d, extra := d }

/-- A frame with a good FCS meets the injection of its link, whether the MAC runs or not (19 R431, R432). -/
def State.receiveFrame (s : State) (f : Inbound) : State :=
  let j := s.test.commons
  let h := j.hit
  let s1 := { s with test := { s.test with commons := if h.1 then h.2.count j.kind else h.2 } }
  if !h.1 then (s1.takeIn f).releaseHeld
  else match j.kind with
    | 1 => s1.releaseHeld
    | 2 => (s1.takeIn { f with frame := { f.frame with psdu := flipBit0 f.frame.psdu (f.frame.psdu.length - 4) } }).releaseHeld
    | 3 =>
      let s2 := s1.releaseHeld
      { s2 with com := { s2.com with heldFrame := some f } }
    | _ => (s1.takeIn (f.late j.delay)).releaseHeld

/-- A received frame has ended (09 R203, R220; 10 R238): PHR faults drop it; a good FCS is met by the injection, and the frame goes to the MAC. -/
def execRadioFrameReceived (f : RxFrame) (t : Nat) (s : State) : Host.Outcome State Fault Refusal :=
  let s0 := s.setNow t
  if s0.rf.state ≠ .rx then .next s0
  else if f.modeSwitch then .next (s0.dropRx 1).endFrame
  else if 255 < f.length then .next (s0.dropRx 2).endFrame
  else if !f.fcsOk then .next s0.endFrame
  else .next (s0.endFrame.receiveFrame (s0.inbound (s0.rxStamped f)))

/-- The tracked master's beacon was not accepted within 4 ms of the expected SFD end (10 R241). -/
def State.beaconMissed (s : State) : State :=
  match s.com.expect with
  | some (e, q) =>
    if e + 4000000000000 ≤ s.instant then
      ({ s with com := { s.com with
        expect := some (e + s.periodFolds * foldFs, (q + 1) % 65536)
        cnt := { s.com.cnt with missed := s.com.cnt.missed + 1 } } }).raise Ev.beaconMissed (q % 65536)
    else s
  | none => s

/-- The BEACON_MISSED row. -/
def execBeaconMissed (t : Nat) (s : State) : Host.Outcome State Fault Refusal := .next ((s.setNow t).inMac fun s => s.beaconMissed)

/-- REFC has raised LOS in TRACK (10 R225): SEARCH, if no other master was heard within one period. -/
def State.commonsLos (s : State) : State :=
  let other := s.com.heard.any fun h => s.com.tracked ≠ some h.id && s.stillHeard h
  let s1 := { s with com := { s.com with lost := false } }
  if s.com.lost && s.com.state = .track && !other then
    (({ s1 with com := { s1.com with tracked := none, expect := none, reqFolds := [] } }).setMac .search).updCand 7 fun c => { c with advNew := some 15 }
  else s1

/-! ### Slot 7 (01 R17; 10 R225) -/

/-- The frames received since the slot last ran are checked in the order of their ends (10 R238). -/
def State.readInbox (s : State) : State := forEach s.com.inbox (fun f s => s.checkFrame f) { s with com := { s.com with inbox := [] } }

/-- Slot 7 (10 R225, R230): a loss of REFC, the frames received, backoff, and the frames that have fallen due. -/
def State.macSlot (s : State) : State :=
  if s.macRuns then s.commonsLos.readInbox.beaconMissed.backoff.exchangeTimeout.beaconDue.delayReqDue.delayRespDue else s

/-- The row. -/
def execCommonsMacSlot (t : Nat) (s : State) : Host.Outcome State Fault Refusal := .next (s.inSlot 7 t fun s => s.macSlot)

/-! ### Opcodes of 13 R317 -/

/-- The COMMONS group. -/
def State.commonsGroup (s : State) : List Byte :=
  let c := s.cfg.com
  le 1 c.role ++ le 1 c.beaconChan ++ le 1 c.period ++ le 1 c.hopAdd ++ le 1 c.holdGrade ++ leI 1 c.ccaThr ++ le 1 c.maxCca ++ le 1 0 ++
    le 2 c.netId ++ le 2 c.delayInterval ++ le 2 c.beaconFold ++ le 2 c.reqWindow ++ le 4 c.devId ++ leI 8 c.delayFixed

/-- The checks of COMMONS (10 R223, R224): a change of ROLE, NET_ID, DEV_ID or BEACON_CHAN while ROLE is not OFF is LOCKED, but ROLE to OFF is the way
out of a role (10 R225). -/
def checkCommons (q : Call) (s : State) : Serve :=
  let p := q.params
  let c := s.stagedCom
  let n := setCommons p c
  checks [
    (p.length = 28, St.badLength),
    (s.owns q.pen 0x30, St.denied),
    (n.role ≤ 3 && n.beaconChan ≤ 63 && n.period ≤ 5 && n.hopAdd ≤ 14 && n.holdGrade ≤ 14, St.badParam),
    (inRangeI n.ccaThr (-100) (-60) && inRange n.maxCca 1 8 && zeros p 7 1, St.badParam),
    (inRange n.netId 1 0xFFFE && inRange n.delayInterval 1 1024 && inRange n.reqWindow 80 4000 && inRange n.devId 1 0xFFFFFFFE, St.badParam),
    (inRangeI n.delayFixed 0 10000000 && n.beaconFold < beaconFolds n.period, St.badParam),
    (c.role ≠ 0 || n.role = 0 || (s.com.key.isSome && s.stagedFreq n.beaconChan ≠ 0), St.badParam),
    (c.role = 0 || ((n.role = c.role || n.role = 0) && n.netId = c.netId && n.devId = c.devId && n.beaconChan = c.beaconChan), St.locked)]
    (Serve.group 0x7011 [])

/-- Management replies that no frame will carry free their credits and are counted (10 R240, R241). -/
def State.dropReplies (s : State) (n : Nat) : State :=
  forEach (List.range n) (fun _ s => s.updIo 3 PenIo.dropAir)
    { s with com := { s.com with cnt := { s.com.cnt with mgmtDropped := s.com.cnt.mgmtDropped + BitVec.ofNat 32 n } } }

/-- Exchanges that the MAC drops with their request get no response, so they are rejected and counted (10 R233). -/
def Commons.dropRequests (c : Commons) : Commons :=
  { c with requests := [], cnt := { c.cnt with exRejected := c.cnt.exRejected + BitVec.ofNat 32 c.requests.length } }

/-- The MAC forgets its network and every frame that has not begun to be sent; a transmission in progress goes on (09 R221, 10 R225). -/
def State.macForget (s : State) : State :=
  let stays := s.rf.state = .tx
  let gone : List TxFrame := s.com.queue ++ (if stays then [] else s.com.onAir.toList)
  let n := gone.countP fun f => f.kind = 5
  ({ s with com := { s.com.dropRequests with
    tracked := none, heard := [], queue := [], onAir := if stays then s.com.onAir else none, reqFolds := [], reqPeriod := none
    owed := [], expect := none, inbox := [], ccaFold := none, lost := false } }).dropReplies n

/-- COMMONS committed: the MAC starts or stops with the role and takes the front end over; a new NET_ID clears replay state (09 R197; 10 R224, R225,
R239). -/
def commitCommons (q : Call) (s : State) : State :=
  let n := setCommons q.params s.cfg.com
  let old := s.cfg.com
  let s1 := { s with cfg := { s.cfg with com := n } }
  let s2 := if n.netId = old.netId then s1 else { s1 with com := { s1.com with replay := [] } }
  if n.role = old.role then s2
  else
    let s3 := if n.role = 0 then s2.macForget else s2.macForget.hostYields
    let m := if n.role = 0 then MacState.off else if n.role = 1 then .master else .search
    let s4 := (s3.setMac m).updCand 7 fun c => { c with advNew := some 15 }
    s4.restRf.takeRf

/-- The MGMT group, its checks and its commit (10 R223). -/
def State.mgmtGroup (s : State) : List Byte := le 1 (b2n s.cfg.com.mgmtEn) ++ le 3 0 ++ le 4 s.cfg.com.mgmtPeer

def checkMgmt (q : Call) (_s : State) : Serve :=
  let p := q.params
  checks [
    (p.length = 8, St.badLength),
    (q.pen = 0, St.denied),
    (fld p 0 1 ≤ 1 && zeros p 1 3 && inRange (fld p 4 4) 1 0xFFFFFFFE, St.badParam)]
    (Serve.group 0x7013 [])

/-- A new peer's place beside the eight: where the old peer is one too many of the others, its replay state goes (10 R239, log 88). -/
def State.movePeer (s : State) (old new : Nat) : State :=
  let others := s.com.replay.filter fun r => r.id ≠ new
  if others.length ≤ 8 then s else { s with com := { s.com with replay := s.com.replay.filter fun r => r.id ≠ old } }

def commitMgmt (q : Call) (s : State) : State :=
  let n := fld q.params 4 4
  { (s.movePeer s.cfg.com.mgmtPeer n) with cfg := { s.cfg with com := { s.cfg.com with mgmtEn := fld q.params 0 1 = 1, mgmtPeer := n } } }

/-- The fifteen counters of R241. -/
def MacCounters.bytes (c : MacCounters) : List Byte :=
  ([c.sent, c.skipped, c.accepted, c.missed, c.ccaFail, c.stranger, c.badFrame, c.forged, c.replay, c.overflow, c.exAccepted, c.exRejected,
    c.reqDropped, c.mgmtServed, c.mgmtDropped].map fun x => le 4 x.toNat).flatten

/-- COMMONS_STATUS. -/
def State.commonsStatusBytes (s : State) : List Byte :=
  le 1 s.com.state.code ++ le 3 0 ++ le 4 (s.com.tracked.getD 0) ++ leI 8 s.delayD ++ leI 8 s.com.offset ++ s.com.cnt.bytes

/-- A reply of pen 3 goes back over the air (10 R240); one that no frame can carry frees its credit. -/
def State.airReply (s : State) (r : Reply) : State :=
  let b := r.bytes false
  if 200 < b.length || !maySend s.cfg.com.role 5 then
    { (s.updIo 3 fun p => { p with free := p.free + 1, replies := p.replies.erase r, read := p.read + 1 }) with
      com := { s.com with cnt := { s.com.cnt with mgmtDropped := s.com.cnt.mgmtDropped + 1 } } }
  else s.queueFrame { kind := 5, body := b, attempt := 1, fold := 0, seq := 0, dst := s.cfg.com.mgmtPeer }

/-- Entering QUIET or SLEEP the MAC stops, and a frame whose CCA has passed still goes out (log 87); leaving, it returns to SEARCH or MASTER (10 R227). -/
def State.commonsQuiet (s : State) : State :=
  { s with com := { s.com.dropRequests with
    tracked := none, heard := [], queue := s.com.queue.filter (·.kind = 5), reqFolds := [], reqPeriod := none, owed := [], expect := none
    inbox := [], ccaFold := none, lost := false } }

def State.commonsWake (s : State) : State :=
  if s.com.state = .off then s
  else (s.setMac (if s.cfg.com.role = 1 then .master else .search)).updCand 7 fun c => { c with advNew := some 15 }

end Sys2Proof.Machine
end

