-- ==== Sys2Proof/Machine/Drove.lean ====
section
/-! DEFINITION. The drove link (11): frames sent, received and forwarded, states and the lead, echo, REFD, broadcast commands, with frame injection
(19), and the drove opcodes. Round trips are in fs. -/

namespace Sys2Proof.Machine

/-! ### Words (11 R244) -/

/-- A data word, and the control characters: the marker K28.1, K28.3 BREAK, K28.5 of idle, and K28.7 of the echo. -/
def Sym.data (b : Byte) : Sym := { control := false, byte := b }
def Sym.marker : Sym := { control := true, byte := 0x3C }
def Sym.brk : Sym := { control := true, byte := 0x7C }
def Sym.k28_5 : Sym := { control := true, byte := 0xBC }
def Sym.echo : Sym := { control := true, byte := 0xFC }

/-- `n` words of idle: K28.5 followed by D16.2, over and over. -/
def idleWords (n : Nat) : List Sym := (List.range n).map fun i => if i % 2 = 0 then Sym.k28_5 else Sym.data 0x50

/-- The bytes of a run of words. -/
def symBytes (w : List Sym) : List Byte := w.map fun x => x.byte

/-- A frame's first word is the marker, and its next 54 are data (11 R248). -/
def framed (w : List Sym) : Bool := w.head? = some Sym.marker && ((w.drop 1).take 54).all fun x => !x.control

/-! ### Figures -/

/-- MARK_LAG (11 R246), in fs. -/
def markLag (n : Nat) : Nat := 8000000 * ((4 - n % 4) % 4)

/-- C: the mean of the last accepted echo values (11 R255), in fs. -/
def Drove.c (d : Drove) : Fs := if d.echo.isEmpty then 0 else divNear (d.echo.sum : Nat) d.echo.length

/-- L in ps: fixed, and at most 120 ns (11 R249). -/
def droveL : Nat := Config.droveLatency % 120001

/-- C + L in ps, as a member adds it to ACC (11 R249). -/
def Drove.hopPs (d : Drove) : Nat := (divNear d.c 1000).toNat + droveL

/-- One of the two drives own frames and the other forwards: four BREAK words go out first, in the idle after a frame (11 R250). -/
def swaps (a b : DrvTx) : Bool := (a = .own && b = .forward) || (a = .forward && b = .own)

/-- A change of drove state raises DROVE_STATE with the new word (11 R251). A device in CLAIM or LEAD has REFD at grade 15 and HOP 0 (11 R253, R254), and a
claimant's ring is not known to be broken (R252, R263). -/
def State.setDrove (s : State) (x : DrvState) (tx : DrvTx) : State :=
  let ch := s.drv.state ≠ x
  let s1 := { s with drv := { s.drv with
    state := x
    since := if ch then s.instant else s.drv.since
    tx := tx
    after := if swaps s.drv.tx tx then List.replicate 4 Sym.brk else s.drv.after
    quiet := if ch && (x = DrvState.listen || x = DrvState.claim) then 0 else s.drv.quiet
    ringBroken := s.drv.ringBroken && !(ch && x = DrvState.claim) } }
  let s2 := if ch && (x = DrvState.claim || x = DrvState.lead) then
      ({ s1 with drv := { s1.drv with hop := 0 } }).updCand 6 fun c => { c with advNew := some 15 }
    else s1
  s2.raiseIf ch Ev.droveState s2.droveWord

/-- Word lock goes: REFD's window runs from here (02 R39, 11 R250). -/
def State.unlockDrove (s : State) : State :=
  if s.drv.lock then ({ s with drv := { s.drv with lock := false } }).updCand 6 fun c => { c with lastEdge := some s.instant } else s

/-- What a test mode drives on DRV_OUT± (19 R438). -/
def testTx (mode : Nat) : DrvTx :=
  match mode with
  | 1 => .prbs
  | 2 => .prbs
  | 4 => .raw
  | _ => .hiZ

/-- The drove goes OFF: DRV_OUT± to what a test or nothing drives, word lock lost (11 R245, R251; 18 R424; 19 R438). -/
def State.droveOff (s : State) (tx : DrvTx) : State :=
  ({ s.unlockDrove with drv := { s.unlockDrove.drv with ringBroken := false, cast := none, yield := false, returned := 0, sinceReturn := 0, sent := none, trip := none, inbox := [], next := none, heldFrame := none } }).setDrove .off tx

/-- The drove starts to listen. -/
def State.droveOn (s : State) : State := s.setDrove .listen .forward

/-- What the drove does after a SLEEP: a test mode that stands drives again, else it listens where it is enabled (18 R424; 19 R438). -/
def State.droveWake (s : State) : State :=
  if s.test.drvTest ≠ 0 then s.setDrove .off (testTx s.test.drvTest) else if s.cfg.drv.en then s.droveOn else s

/-! ### Sending (11 R246, R247, R253) -/

/-- The grade a lead advertises. -/
def State.leadGrade (s : State) : Nat := s.advertise s.cfg.drv.hopAdd s.cfg.drv.holdGrade s.drv.lastGrade

/-- Words 1–24 of a frame as the state has them: type and status, grade, priority, identity, and a broadcast command that is in repetition. -/
def State.frameHead (s : State) : List Byte :=
  let d := s.drv
  let kind := if d.state = .lead then 1 else 2
  let fl := 16 * kind + 8 * b2n (s.lp.state = .holdover) + 4 * b2n s.tod.valid + 2 * b2n d.ringBroken
  let cast := match d.cast with
    | some c => le 1 c.cmd ++ c.params ++ [0]
    | none => List.replicate 16 0
  le 1 fl ++ le 1 (16 * s.leadGrade) ++ le 1 s.cfg.drv.prio ++ le 4 s.cfg.drv.id ++ le 1 d.cmdSeq.toNat ++ cast

/-- Slot 9 stages the frame that a claimant or lead sends in the next fold (01 R17). -/
def State.stageFrame (s : State) : State :=
  if (s.drv.state ≠ .claim && s.drv.state ≠ .lead) || s.drv.yield then s
  else { s with drv := { s.drv with
    next := some { fold := s.clk.absFold.toNat + 1, head := s.frameHead, unc := s.uncNs, cmd := s.drv.cast.isSome } } }

/-- A staged frame as it leaves, with the fold's own numbers (11 R247). -/
def State.ownFrame (s : State) (x : DrvNext) : List Sym :=
  let b := x.head ++ le 2 s.clk.inSec ++ le 6 s.clk.seconds.toNat ++ le 8 s.clk.absFold.toNat ++ le 4 x.unc
  let tail : List Byte := le 1 0 ++ le 4 0
  [Sym.marker] ++ (b ++ le 4 (crc32c b) ++ tail ++ le 1 (crc8 tail)).map Sym.data ++ idleWords 5

/-- One of the eight frames of a broadcast command has gone out (11 R261). -/
def Cast.spend (c : Cast) : Option Cast := if 1 < c.left then some { c with left := c.left - 1 } else none

/-- A lead's or claimant's marker leaves at boundary(n) + MARK_LAG(n): the frame that slot 9 staged for the fold is sent (11 R246, R261). -/
def execLeadFrameTransmit (t : Nat) (s : State) : Host.Outcome State Fault Refusal :=
  let s0 := s.setNow t
  let d := s0.drv
  let k := s0.clk.absFold.toNat
  match d.next with
  | none => .next s0
  | some x =>
    if (d.state ≠ .claim && d.state ≠ .lead) || t ≠ markLag s0.clk.inSec || x.fold ≠ k then .next s0
    else
      let run := match d.sent with
        | some (a, b) => if k ≤ b + 1 then (a, k) else (k, k)
        | none => (k, k)
      .next { s0 with drv := { d with
        frame := s0.ownFrame x
        next := none
        sentAt := s0.instant
        after := []
        sent := some run
        cast := if x.cmd then d.cast.bind Cast.spend else d.cast
        tx := .own } }

/-! ### Forwarding (11 R249) -/

/-- The bytes of a frame as a member sends them on: HOP, ACC and CRC-8 rewritten, a CRC-8 that arrived wrong leaving wrong. -/
def forwardBytes (w : List Byte) (add : Nat) : List Byte :=
  let hop := min 255 (fld w 49 1 + 1)
  let acc := (fld w 50 4 + add) % 2 ^ 32
  let old := (w.drop 49).take 5
  let new : List Byte := le 1 hop ++ le 4 acc
  let c := crc8 new ^^^ (crc8 old ^^^ fld w 54 1)
  w.take 49 ++ new ++ le 1 c ++ w.drop 55

/-- Every received word is sent on, of a frame or of idle; only words 49–54 of a frame are rewritten. -/
def forwardWords (w : List Sym) (add : Nat) : List Sym :=
  if w.head? = some Sym.marker then (w.zip (forwardBytes (symBytes w) add)).map fun p => { p.1 with byte := p.2 } else w

/-! ### Broadcast commands (11 R261, R262) -/

/-- Detail of DRV_CMD and DRV_CMD_LATE. -/
def cmdDetail (cmd seq : Nat) : Nat := cmd + 256 * seq

/-- A command is acted on: `fold` is the device's own fold for F, `commit` the fold whose boundary commits the action; F = 0 names that boundary for a
FREEZE. -/
def State.actCommand (s : State) (cmd seq : Nat) (params : List Byte) (ofs : Int) (commit : Nat) : State :=
  let f := fld params 0 8
  let fold := ((f : Int) + ofs).toNat
  let late : State := s.raise Ev.drvCmdLate (cmdDetail cmd seq)
  match cmd with
  | 1 => if fold ≤ commit then late
         else { s with drv := { s.drv with gathers := s.drv.gathers ++ [(BitVec.ofNat 16 (fld params 8 2), fold, (fld params 10 4 : Int) * 1000000)] } }
  | 2 =>
    if !s.cfg.drv.cmdEn.getLsbD 0 then s
    else if f = 0 then { s with drv := { s.drv with freezes := s.drv.freezes ++ [commit] } }
    else if fold ≤ commit then late
    else { s with drv := { s.drv with freezes := s.drv.freezes ++ [fold] } }
  | 3 => if s.cfg.drv.cmdEn.getLsbD 1 then { s with drv := { s.drv with floor := some (fld params 0 1 % 16) } } else s
  | _ => s

/-- A member acts once on each new CMD_SEQ (11 R262). -/
def State.memberCommand (s : State) (w : List Byte) : State :=
  let seq := fld w 8 1
  let cmd := fld w 9 1
  if cmd = 0 || 3 < cmd || s.drv.lastCmd = some (BitVec.ofNat 8 seq) then s
  else
    let s1 := ({ s with drv := { s.drv with lastCmd := some (BitVec.ofNat 8 seq) } }).raise Ev.drvCmd (cmdDetail cmd seq)
    s1.actCommand cmd seq ((w.drop 10).take 14) s1.drv.foldOfs (s1.clk.absFold.toNat + 1)

/-- A drove FREEZE falls due at the boundary of its fold: HELD is set there as the hold opcode sets it (11 R262, 04 R82). -/
def State.droveFreeze (s : State) (boundary : Nat) : State :=
  if s.drv.freezes.any (· ≤ boundary) then { s with drv := { s.drv with freezes := s.drv.freezes.filter fun k => boundary < k } }.askHold else s

/-- The lead applies its own command at the boundary that begins the fold of the first frame that carries it (11 R261). -/
def State.selfCommand (s : State) : State :=
  match s.drv.selfCmd with
  | some c =>
    if c.fold ≤ s.clk.absFold.toNat then { s with drv := { s.drv with selfCmd := none } }.actCommand c.cmd c.seq c.params 0 s.clk.absFold.toNat else s
  | none => s

/-- The DROVE_FREEZE_TAKES_EFFECT row stands before the boundary that commits it. -/
def execDroveFreezeTakesEffect (s : State) : Host.Outcome State Fault Refusal := .next (s.ifScheduled fun s => s.droveFreeze (s.clk.absFold.toNat + 1))

/-! ### Receiving (11 R248, R252, R257–R260) -/

/-- What an accepted frame says of its lead and of the ring (11 R254). -/
def State.noteLead (s : State) (w : List Byte) (changed : Bool) : State :=
  { s with drv := { s.drv with
    hop := min 255 (fld w 49 1 + 1)
    grade := fld w 2 1 / 16
    ringBroken := bit (fld w 1 1) 1
    leadId := fld w 4 4
    leadSeen := true
    acc := fld w 50 4
    lastCmd := if changed then none else s.drv.lastCmd } }

/-- The fold offset between the lead's count and the device's. -/
def State.setFoldOfs (s : State) (k : Int) : State := { s with drv := { s.drv with foldOfs := k } }

/-- The label a frame with a fresh mark, or one of a newer lead fold, brings. -/
def State.leadLabel (s : State) (w : List Byte) (fresh : Bool) (x : Int) : State :=
  let leadFold := fld w 33 8
  let newer : Bool := match s.tod.drove with
    | some l => l.rank ≤ leadFold
    | none => true
  if bit (fld w 1 1) 2 && (fresh || newer) then s.setLabel 2 (s.labelAt (fld w 27 6) (fld w 25 2) x leadFold) else s

/-- The sample a frame with a fresh mark gives REFD (11 R257). -/
def State.leadSample (s : State) (w : List Byte) (tc : Nat) (fresh : Bool) (x : Int) : State :=
  if fld w 49 1 = 255 then s.raise Ev.drvTooLong 0
  else if !fresh || s.drv.echo.isEmpty || (s.cand 6).killed then s
  else
    let own := (s.clk.absFold.toNat : Int) + centred ((fld w 25 2 : Int) - s.clk.inSec) 8000
    let v := s.modPeriod 6 (x - own * foldFs)
    (s.gateEvent 6 tc v).sampleAt 6 tc v

/-- A member's use of an accepted frame whose marker was captured at `tc`, LISTEN becoming MEMBER by it; a reordered one gives no sample (11 R251, R257–R260;
19 R432, R433). -/
def State.memberFrame (s : State) (w : List Byte) (tc : Nat) (fresh : Bool) : State :=
  let changed := s.drv.leadSeen && s.drv.leadId ≠ fld w 4 4
  let s1 := (s.noteLead w changed).setDrove .member .forward
  let s2 := if changed then (s1.updCand 6 fun c => { c with configNext := true }).raise Ev.drvLeadChange (fld w 4 4) else s1
  let x : Int := (tc : Int) - (fld w 50 4 * 1000 + s2.drv.c) - markLag (fld w 25 2)
  let s4 := (s2.setFoldOfs (divNear x foldFs - fld w 33 8)).updCand 6 fun c => { c with advNew := some (fld w 2 1 / 16), advUnc := ((fld w 41 4 + (fld w 49 1 + 1) : Nat) : Int) * 1000000 }
  ((s4.leadLabel w fresh x).leadSample w tc fresh x).memberCommand w

/-- Rank of a frame and of the device (11 R252), as one number. -/
def rankOf (grade prio id : Nat) : Nat := (grade * 256 + prio) * 2 ^ 32 + id

/-- The eighth consecutive return of own frames makes a CLAIM a LEAD and closes a broken ring (11 R252). -/
def State.ownReturned (s : State) : State :=
  let d := s.drv
  if d.gotOwn then s
  else
    let s1 := { s with drv := { d with gotOwn := true, returned := d.returned + 1, sinceReturn := 0 } }
    if !s.cfg.drv.ring || s1.drv.returned < 8 then s1
    else if d.state = .claim then s1.setDrove .lead .own
    else if d.ringBroken then ({ s1 with drv := { s1.drv with ringBroken := false } }).raise Ev.drvRingClosed 0
    else s1

/-- A claimant's or lead's handling of an accepted frame whose marker was captured at `tc` (11 R252, R256); a reordered one times nothing. -/
def State.leadFrame (s : State) (w : List Byte) (tc : Nat) (fresh : Bool) : State :=
  let id := fld w 4 4
  let s1 := { s with drv := { s.drv with grade := fld w 2 1 / 16 } }
  if id = s.cfg.drv.id then
    let f := fld w 33 8
    let mine : Bool := match s.drv.sent with
      | some (a, b) => a ≤ f && f ≤ b
      | none => false
    let n := fld w 25 2
    if mine then
      ({ s1 with drv := { s1.drv with
        acc := fld w 50 4, retHop := fld w 49 1
        trip := if n = 0 && fresh then some ((tc : Int) - (foldAt f + markLag n)) else s1.drv.trip } }).ownReturned
    else s1.raise Ev.drvIdClash id
  else if !s.cfg.drv.ring || rankOf (fld w 2 1 / 16) (fld w 3 1) id < rankOf s.leadGrade s.cfg.drv.prio s.cfg.drv.id then
    { s1 with drv := { s1.drv with yield := true } }
  else s1

/-- Which CRC of a frame fails: 0 the CRC-32C, 1 the CRC-8 (11 R248). -/
def crcFault (w : List Byte) : Option Nat :=
  if crc32c ((w.drop 1).take 44) ≠ fld w 45 4 then some 0 else if crc8 ((w.drop 49).take 5) ≠ fld w 54 1 then some 1 else none

/-- What an accepted frame does, by the state (11 R251). -/
def State.useFrame (s : State) (w : List Byte) (tc : Nat) (fresh : Bool) : State :=
  match s.drv.state with
  | .off => s
  | .listen => s.memberFrame w tc fresh
  | .member => s.memberFrame w tc fresh
  | _ => s.leadFrame w tc fresh

/-- Slot 9 processes a received frame: accepted or not, and what an accepted one does (01 R17; 11 R248, R250, R251). -/
def State.droveFrame (s : State) (f : DrvRx) : State :=
  let w := symBytes f.words
  if s.drv.state = .off || !framed f.words then s
  else match crcFault w with
  | some k =>
    let s1 := { s with drv := { s.drv with crcErrors := s.drv.crcErrors + 1, crcRaised := true } }
    s1.raiseIf (!s.drv.crcRaised) Ev.drvCrcError k
  | none =>
    let kind := fld w 1 1 / 16
    if !f.codesOk || (kind ≠ 1 && kind ≠ 2) then s
    else
      let s1 := { s with drv := { s.drv with accepted := s.drv.accepted + 1, lock := true, quiet := 0, gotFrame := true } }
      let s2 := if (s1.cand 6).killed then s1 else s1.touch 6 s1.instant
      s2.useFrame w f.tc f.fresh

/-- A frame waits for slot 9, with one that a reorder held back behind it (19 R432); while the schedule is suspended the task takes none (01 R32, log 93). -/
def State.takeDrove (s : State) (l : List DrvRx) : State :=
  let back := match s.drv.heldFrame with | some h => [{ h with fresh := false }] | none => []
  { s with drv := { s.drv with heldFrame := none, inbox := if s.schedule then s.drv.inbox ++ l ++ back else s.drv.inbox } }

/-- A device that forwards sends on what it receives, L later (11 R249). -/
def State.forwardOn (s : State) (words : List Sym) : State :=
  if s.drv.tx = .forward then
    { s with drv := { s.drv with forwarded := forwardWords words s.drv.hopPs, sentAt := s.instant + droveL * 1000, after := [] } }
  else s

/-- A frame has arrived, its marker at `t` (11 R244, R249): captured on C6, forwarded, and, with the injection of its link (19 R431, R432), left for slot 9 to
process (01 R17). -/
def execDroveFrameReceived (words : List Sym) (codesOk : Bool) (t : Nat) (s : State) : Host.Outcome State Fault Refusal :=
  let s0 := s.setNow t
  if s0.drv.state = .off || s0.pow.held then .next s0
  else
    let s1 := ({ s0 with drv := { s0.drv with markIn := s0.instant } }).forwardOn words
    let j := s1.test.drove
    let h := j.hit
    let s2 := { s1 with test := { s1.test with drove := if h.1 then h.2.count j.kind else h.2 } }
    let late := if h.1 && j.kind = 4 then j.delay else 0
    let tc := tdcCode (s2.instant + late)
    let s3 := s2.capture 6 (s2.instant + late)
    let f : DrvRx := { words := words, codesOk := codesOk, tc := tc }
    if !h.1 || j.kind = 4 then .next (s3.takeDrove [f])
    else match j.kind with
      | 2 => .next (s3.takeDrove [{ f with words := words.modify 33 fun x => { x with byte := x.byte ^^^ 1 } }])
      | 3 =>
        let s4 := s3.takeDrove []
        .next { s4 with drv := { s4.drv with heldFrame := some f } }
      | _ => .next (s3.takeDrove [])

/-- A code error (11 R244): counted, and a runt of the fold for REFD. -/
def execCodeError (t : Nat) (s : State) : Host.Outcome State Fault Refusal :=
  let s0 := s.setNow t
  if s0.drv.state = .off then .next s0
  else
    .next (({ s0 with drv := { s0.drv with codeErrors := s0.drv.codeErrors + 1 } }).gather 6 fun m => { m with runts := m.runts + 1 })

/-! ### Lock and states -/

/-- Word lock is lost (11 R250): a forwarding device sends BREAK and listens; silence counts only after 16 folds. -/
def execWordLockLoss (e : LockEnd) (s : State) : Host.Outcome State Fault Refusal :=
  let s0 := s.setNow e.t
  if !s0.drv.lock || (e.cause = .silence && s0.drv.quiet < 16) then .next s0
  else
    let s1 := s0.unlockDrove
    match s1.drv.state with
    | .member => .next (s1.setDrove .listen .breakWords)
    | .listen => .next { s1 with drv := { s1.drv with tx := .breakWords } }
    | _ => .next s1

/-- LISTEN without an accepted frame for 16 + 4 × LEAD_PRIO folds (11 R251). -/
def State.claimTimeout (s : State) : State :=
  if s.drv.state = .listen && s.cfg.drv.prio ≠ 255 && 16 + 4 * s.cfg.drv.prio ≤ s.drv.quiet then s.setDrove .claim .own else s

/-- The CLAIM_TIMEOUT row, of the drove task. -/
def execClaimTimeout (s : State) : Host.Outcome State Fault Refusal := .next (s.inTask 9 fun s => s.claimTimeout)

/-- 64 folds of CLAIM without any accepted frame (11 R252). -/
def State.leadTimeout (s : State) : State := if s.drv.state = .claim && 64 ≤ s.drv.quiet then s.setDrove .lead .own else s

/-- The LEAD_TIMEOUT row, of the drove task. -/
def execLeadTimeout (s : State) : Host.Outcome State Fault Refusal := .next (s.inTask 9 fun s => s.leadTimeout)

/-- A ring lead's own frames have not returned for 16 folds (11 R252). -/
def State.ringTimeout (s : State) : State :=
  if s.drv.state = .lead && s.cfg.drv.ring && !s.drv.ringBroken && 16 ≤ s.drv.sinceReturn then
    ({ s with drv := { s.drv with ringBroken := true } }).raise Ev.drvRingBroken 0
  else s

/-- The RING_RETURN_TIMEOUT row, of the drove task. -/
def execRingReturnTimeout (s : State) : Host.Outcome State Fault Refusal := .next (s.inTask 9 fun s => s.ringTimeout)

/-- The exchange's window: words 1,024 to 1,280 after a marker (11 R254). -/
def echoWindow (mark t : Nat) : Bool := mark + 1024 * 32000000 ≤ t && t < mark + 1280 * 32000000

/-- A device makes an echo: not in OFF, and not as the lead of a chain (11 R254). -/
def State.echoes (s : State) : Bool := s.drv.state ≠ .off && (s.drv.state ≠ .lead || s.cfg.drv.ring)

/-- DRV_IN± transmits: in the folds whose in-second number modulo 256 is the own HOP (11 R254). -/
def State.inTurned (s : State) : Bool := s.echoes && s.clk.inSec % 256 = s.drv.hop % 256 && echoWindow s.drv.markIn s.instant

/-- DRV_OUT± receives: in the folds in which the next device, whose HOP is one more, makes its echo (11 R254). -/
def State.outTurned (s : State) : Bool :=
  s.drv.state ≠ .off && s.clk.inSec % 256 = (s.drv.hop + 1) % 256 && echoWindow s.drv.sentAt s.instant

/-- What the device, as the upstream one, sends at DRV_OUT± for a K28.7 that arrives there at `t`: K28.7 again, exactly 512 ns on (11 R254). -/
def State.echoReply (s : State) (x : Sym) (t : Nat) : Option (Nat × Sym) :=
  if s.outTurned && x = Sym.echo then some (t + 512000000, Sym.echo) else none

/-- An echo with round trip `rt`, in a fold whose in-second number modulo 256 is the own HOP (11 R254, R255): one K28.7 goes out at DRV_IN±, a device that
forwards sends idle for the window, and the value joins the last eight or is rejected. -/
def execEchoMeasurement (rt : Nat) (s0 : State) : Host.Outcome State Fault Refusal :=
  if !s0.echoes || s0.clk.inSec % 256 ≠ s0.drv.hop then .next s0
  else
    let s := { s0 with drv := { s0.drv with
      inWords := [Sym.echo]
      after := if s0.drv.tx = DrvTx.forward then s0.drv.after ++ idleWords 256 else s0.drv.after } }
    let d := s.drv
    let v : Int := divNear ((rt : Int) - 512000000) 2
    let bad := v < 0 || 500000000 < v || (d.echo.length = 8 && 2000000 < (v - d.c).natAbs)
    if bad then .next (({ s with drv := { d with echoBad := d.echoBad + 1 } }).raise Ev.drvEchoFault (min (2 ^ 32 - 1) (rt / 1000000)))
    else .next { s with drv := { d with echoOk := d.echoOk + 1, echo := (d.echo ++ [v.toNat]).drop (d.echo.length - 7) } }

/-- Slot 9 (11 R256): a ring lead compares the round trip of its own frame of fold 0 with ACC + C. -/
def State.droveTimingSlot (s : State) : State :=
  match s.drv.trip with
  | some rt =>
    let diff : Int := rt - (s.drv.acc * 1000 + s.drv.c)
    ({ s with drv := { s.drv with trip := none } }).raiseIf (s.drv.state = DrvState.lead && s.cfg.drv.ring && 1000000 * (s.drv.retHop + 1) < diff.natAbs)
      Ev.drvDelayCheck (detailSat (divNear diff 1000))
  | none => s

/-- Slot 9 (01 R17): the received frames are processed (one arrives in a fold), the timeouts judged, the round trip compared, the next fold's frame staged. -/
def State.droveTask (s : State) : State :=
  let s1 := forEach s.drv.inbox (fun f s => s.droveFrame f) { s with drv := { s.drv with inbox := [] } }
  s1.claimTimeout.leadTimeout.ringTimeout.droveTimingSlot.stageFrame

/-- The row. -/
def execDroveSlot (_ : Computed) (t : Nat) (s : State) : Host.Outcome State Fault Refusal := .next (s.inSlot 9 t State.droveTask)

/-- A boundary's part before the DPLL resolves (11 R252, R261, R262): the lead's own command, gathers and floors received, the yield, a freeze due. -/
def State.droveCommit (s : State) : State :=
  let s0 := s.selfCommand
  let s1 := forEach s0.drv.gathers (fun g s => s.broadcastGather g.1 g.2.1 g.2.2) { s0 with drv := { s0.drv with gathers := [] } }
  let s2 := match s1.drv.floor with
    | some g => { (s1.updRefCfg 6 fun c => { c with grade := g }) with drv := { s1.drv with floor := none } }
    | none => s1
  let s3 := if s2.drv.yield then
      let s3 := { s2 with drv := { s2.drv with yield := false, cast := none, sent := none, returned := 0 } }
      if s3.drv.state = .claim || s3.drv.state = .lead then s3.setDrove .member .forward else s3
    else s2
  s3.droveFreeze s3.clk.absFold.toNat

/-- A boundary's counting (11 R250–R252): a fold that the state has not stood for from its beginning counts as none without a frame. -/
def State.droveCount (s : State) : State :=
  let d := s.drv
  { s with drv := { d with
    quiet := if d.gotFrame then 0 else if d.since + foldFs ≤ s.foldStart then d.quiet + 1 else d.quiet
    returned := if d.gotOwn then d.returned else 0
    sinceReturn := if d.gotOwn then 0 else d.sinceReturn + 1
    gotFrame := false
    gotOwn := false
    crcRaised := false
    lastGrade := s.lockedGrade s.cfg.drv.hopAdd d.lastGrade } }

/-! ### Opcodes of 13 R318 -/

/-- The DROVE group. -/
def State.droveGroup (s : State) : List Byte :=
  let c := s.cfg.drv
  le 1 (b2n c.en) ++ le 1 (b2n c.ring) ++ le 1 c.prio ++ le 1 c.hopAdd ++ le 1 c.holdGrade ++ le 1 c.cmdEn.toNat ++ le 2 0 ++ le 4 c.id

/-- The settings that a DROVE packet spells. -/
def drvCfgOf (p : List Byte) : DrvCfg :=
  { en := fld p 0 1 = 1, ring := fld p 1 1 = 1, prio := fld p 2 1, hopAdd := fld p 3 1, holdGrade := fld p 4 1, cmdEn := BitVec.ofNat 2 (fld p 5 1), id := fld p 8 4 }

/-- The drove settings as the commands staged earlier in the fold leave them. -/
def State.stagedDrv (s : State) : DrvCfg :=
  s.host.staged.foldl (fun c g => if g.commit && g.opcode = 0x8010 then drvCfgOf g.call.params else c) s.cfg.drv

/-- The checks of DROVE (11 R245; 13 R318): DROVE_CMD_EN against the applied value, the locked fields against those of the commands staged before (log 64). -/
def checkDrove (q : Call) (s : State) : Serve :=
  let p := q.params
  let c := s.stagedDrv
  let n := drvCfgOf p
  checks [
    (p.length = 12, St.badLength),
    (s.owns q.pen 0x31 && (q.pen = 0 || fld p 5 1 = s.cfg.drv.cmdEn.toNat), St.denied),
    (fld p 0 1 ≤ 1 && fld p 1 1 ≤ 1 && n.hopAdd ≤ 14 && n.holdGrade ≤ 14 && fld p 5 1 ≤ 3 && zeros p 6 2 && inRange n.id 1 0xFFFFFFFE, St.badParam),
    (!c.en || (n.ring = c.ring && n.id = c.id && n.prio = c.prio), St.locked)]
    (Serve.group 0x8011 [])

/-- DROVE committed. -/
def commitDrove (q : Call) (s : State) : State :=
  let n := drvCfgOf q.params
  let s1 := { s with cfg := { s.cfg with drv := n } }
  if s1.test.drvTest ≠ 0 || n.en = s.cfg.drv.en then s1 else if n.en then s1.droveOn else s1.droveOff .hiZ

/-- The checks of DROVE_CMD (11 R261; 13 R318). -/
def checkDroveCmd (q : Call) (s : State) : Serve :=
  let p := q.params
  let cmd := fld p 0 1
  let f := fld p 2 8
  let body : Bool := match cmd with
    | 1 => inRange (fld p 12 4) 125000 1000000000
    | 2 => zeros p 10 6
    | _ => fld p 2 1 ≤ 15 && zeros p 3 13
  checks [
    (p.length = 16, St.badLength),
    (s.owns q.pen 0x31, St.denied),
    (inRange cmd 1 3 && zeros p 1 1 && body, St.badParam),
    (cmd = 3 || f = 0 || s.clk.absFold.toNat + 33 ≤ f, St.badParam),
    (s.drv.state = .lead && s.drv.cast.isNone && !s.host.staged.any (fun g => g.commit && g.opcode = 0x8012), St.locked)]
    Serve.stage

/-- DROVE_CMD committed: CMD_SEQ advances, and the command goes out in the eight frames that follow, which slot 9 stages from this fold on, and acts on the
lead at the boundary that begins the first one's fold (11 R261, worked example). -/
def commitDroveCmd (q : Call) (s : State) : State × List Byte :=
  let p := q.params
  let seq := s.drv.cmdSeq + 1
  ({ s with drv := { s.drv with
      cmdSeq := seq
      cast := some { cmd := fld p 0 1, params := p.drop 2, left := 8 }
      selfCmd := some { fold := s.clk.absFold.toNat + 1, cmd := fld p 0 1, seq := seq.toNat, params := p.drop 2 } } }, le 1 seq.toNat ++ le 3 0)

/-- DROVE_STATUS. -/
def State.droveStatusBytes (s : State) : List Byte :=
  let d := s.drv
  le 4 s.droveWord ++ le 4 d.leadId ++ leI 8 d.c ++ leI 8 (d.acc * 1000 + d.c) ++ leI 8 d.foldOfs ++ le 4 d.accepted.toNat ++ le 4 d.crcErrors.toNat ++
    le 4 d.codeErrors.toNat ++ le 4 d.echoOk.toNat ++ le 4 d.echoBad.toNat ++ le 1 (d.lastCmd.getD 0).toNat ++ le 3 0

end Sys2Proof.Machine
end

