-- ==== Sys2Proof/Machine/Crook.lean ====
section
/-! DEFINITION. The crook lane (14 R344–R349): decode, refusals, and the five actions at the output logic. -/

namespace Sys2Proof.Machine

/-- A decoded crook action: its pen, flock, path, and the cause of a refusal that its form earns (14 R345, R347). -/
structure CrookCmd where
  pen : Pen
  code : Nat
  flock : BitVec 16
  pin : Bool
  fault : Nat
  deriving DecidableEq, Repr

/-- A frame's decode. -/
def decodeCrook (b : List Byte) : CrookCmd :=
  let h := fld b 0 1
  let code := h % 16
  let f := fld b 2 2
  let crc := crc16 (b.take 10) ≠ fld b 10 2
  let rsv := h / 16 % 4 ≠ 0 || !zeros b 1 1 || !zeros b 4 6 || code = 0 || 5 < code || (f ≠ 0 && code ≠ 2 && code ≠ 3)
  { pen := Fin.ofNat 4 (h / 64), code := code, flock := BitVec.ofNat 16 f, pin := false, fault := if crc then 1 else if rsv then 2 else 0 }

/-- What a source asks of the action that its step names; none where it asks for another, or where the edge is not the pin's active one (17 R391; log 22). -/
def State.crookCmd (s : State) (code : Nat) (src : CrookSrc) : Option CrookCmd :=
  match src with
  | .frame b =>
    let c := decodeCrook b
    if c.code = code || c.code = 0 || 5 < c.code then some c else none
  | .pin n level =>
    let g := s.pinCfg n
    let sub := g.sub.toNat
    if g.func ≠ 3 || sub % 16 ≠ code || g.sub.getLsbD 4 = level then none
    else
      let pen := Fin.ofNat 4 (sub / 32)
      let outs := (List.range 16).filter fun o => s.owner o = pen && (s.outCfg o).mode = 2
      let f := if code = 2 || code = 3 then outs.foldl (fun a o => a + 2 ^ o) 0 else 0
      some { pen := pen, code := code, flock := BitVec.ofNat 16 f, pin := true, fault := 0 }

/-- Causes 3 to 7 (14 R347), the first that holds; 0 for none. -/
def State.crookCause (s : State) (c : CrookCmd) : Nat :=
  let k := s.crook.getD c.pen {}
  if c.fault ≠ 0 then c.fault
  else if (s.penSt c.pen).state ≠ .active then 3
  else if s.instant < k.busyTo then 4
  else if (c.code = 1 && (s.crookEntry c.pen).isNone) || (c.code = 5 && k.gather.isNone) then 5
  else if (c.code = 2 || c.code = 3) && (if c.pin then c.flock = 0 else !((flockOuts c.flock).all fun o => s.owner o = c.pen)) then 6
  else if c.code = 4 && c.pen ≠ 0 then 7
  else 0

/-- The flock an action acts on, as its events report it (14 R343). -/
def State.crookFlock (s : State) (c : CrookCmd) : BitVec 16 :=
  match c.code with
  | 1 => ((s.crookEntry c.pen).map (·.flock)).getD 0
  | 5 => (((s.crook.getD c.pen {}).gather).map (·.1)).getD 0
  | _ => c.flock

/-- Detail of CROOK_FIRED and CROOK_REFUSED. -/
def crookDetail (c : CrookCmd) (flock : BitVec 16) (cause : Nat) : Nat :=
  c.pen.val + 16 * c.code + 256 * b2n c.pin + 2 ^ 12 * cause + 2 ^ 16 * flock.toNat

/-- STEP_FLOCK: the pre-loaded step fires as an IMMEDIATE entry, applied at edges from now on; the load is consumed (05 R124, 06 R147). Its CROOK bit stays,
which tells a crook step's entry from the others (05 R110; DESIGN CHOICE, log 101). -/
def State.fireStep (s : State) (c : CrookCmd) : State :=
  match s.crookEntry c.pen with
  | none => s
  | some e =>
    let stop := s.foldStart + foldFs
    let t1 := s.tally.updEntry e.seq fun e => { e with status := .applying, immediate := true, movedTo := stop }
    let s1 := ({ s with tally := t1 }).updCrook c.pen fun k => { k with step := none }
    forEach (flockOuts e.flock) (fun o s => s.moveImmediate e.seq o s.instant stop) s1

/-- GATE_ON and GATE_OFF (06 R138). -/
def State.fireGate (s : State) (c : CrookCmd) (on : Bool) : State :=
  forEach (flockOuts c.flock) (fun o s => if on then s.openGate o s.instant else s.closeGate o s.instant true) s

/-- FREEZE: the DPLL is held at once, and HELD is committed at the next boundary (01 R26, 04 R82). -/
def State.fireFreeze (s : State) : State :=
  let s1 := if s.lp.held then s else s.freezeInFold
  s1.askHold

/-- GATHER_NOW: the pre-loaded gather fires, and stays loaded (07 R165). -/
def State.fireGather (s : State) (c : CrookCmd) : State :=
  match (s.crook.getD c.pen {}).gather with
  | some g => s.crookGatherNow c.pen g.1 g.2
  | none => s

/-- The time from the decode to the output logic, within 160 ns and within the fold (14 R349; DESIGN CHOICE, log 103). -/
def State.crookDelay (s : State) : Nat := min (min (Config.crookLatency s.freeN) 160000000) (foldFs - 1 - s.clk.now)

/-- A decoded action: refused with its cause at the decode, or taken by the output logic once its latency has passed, until when it is outstanding
(14 R346–R349). -/
def State.crookGo (s : State) (c : CrookCmd) (fire : CrookCmd → State → State) : State :=
  let cause := s.crookCause c
  let flock := s.crookFlock c
  let last (k : CrookPen) : Nat := if 1 ≤ c.code && c.code ≤ 5 then c.code else k.last
  if cause ≠ 0 then
    (s.updCrook c.pen fun k => { k with refused := true, last := last k }).raiseFrom Ev.crookRefused (crookDetail c (if cause = 1 || cause = 2 then c.flock else flock) cause)
  else
    let u := s.clk.now + s.crookDelay
    let s1 := s.draw.updCrook c.pen fun k => { k with refused := false, last := last k, busyTo := s.instant + s.crookDelay }
    ((fire c (s1.setNow u)).raiseFrom Ev.crookFired (crookDetail c flock 0)).setNow s.clk.now

/-- A crook transaction, or an edge on a crook pin. -/
def State.crookAct (s : State) (code : Nat) (src : CrookSrc) (fire : CrookCmd → State → State) : State :=
  if !(match src with | .frame _ => s.ifaceOpen | .pin _ _ => s.pinsRun) then s
  else
    match src, s.crookCmd code src with
    | .frame b, some c =>
      if b.length ≠ 12 then { s with host := { s.host with badInstr := s.host.badInstr + 1 } } else s.crookGo c fire
    | .pin n level, some c => (s.updPin n fun p => { p with pad := level }).crookGo c fire
    | .frame b, none => if b.length ≠ 12 then { s with host := { s.host with badInstr := s.host.badInstr + 1 } } else s
    | .pin n level, none => s.updPin n fun p => { p with pad := level }

/-- The five rows. -/
def execStepFlock (src : CrookSrc) (t : Nat) (s : State) : Host.Outcome State Fault Refusal :=
  .next ((s.setNow t).crookAct 1 src fun c s => s.fireStep c)
def execGateOn (src : CrookSrc) (t : Nat) (s : State) : Host.Outcome State Fault Refusal :=
  .next ((s.setNow t).crookAct 2 src fun c s => s.fireGate c true)
def execGateOff (src : CrookSrc) (t : Nat) (s : State) : Host.Outcome State Fault Refusal :=
  .next ((s.setNow t).crookAct 3 src fun c s => s.fireGate c false)
def execFreeze (src : CrookSrc) (t : Nat) (s : State) : Host.Outcome State Fault Refusal :=
  .next ((s.setNow t).crookAct 4 src fun _ s => s.fireFreeze)
def execGatherNow (src : CrookSrc) (t : Nat) (s : State) : Host.Outcome State Fault Refusal :=
  .next ((s.setNow t).crookAct 5 src fun c s => s.fireGather c)

end Sys2Proof.Machine
end

