-- ==== Sys2Proof/Machine/Host.lean ====
section
/-! DEFINITION. Host transactions and the direct window (12 R265–R286), the pins' latches and inputs (17), pens and ownership (12 R287–R296). -/

namespace Sys2Proof.Machine

/-! ### Transactions -/

/-- A command packet ends (12 R282): the hardware's checks, then its pen's queue. A packet is identified for a reject by what its header bytes give. -/
def State.writePacket (s : State) (b : List Byte) : State :=
  let k := parsePacket b
  if b.length ≠ 10 + fld b 4 2 || 1024 < fld b 4 2 then reject k St.badLength s
  else if crc16 (b.take (b.length - 2)) ≠ fld b (b.length - 2) 2 then reject k St.badCrc s
  else admitPacket k s

/-- The WRITE_COMMAND_PACKET row. -/
def execWriteCommandPacket (bytes : List Byte) (t : Nat) (s : State) : Host.Outcome State Fault Refusal :=
  let s0 := s.setNow t
  .next (if s0.ifaceOpen then s0.writePacket bytes else s0)

/-- The oldest unread reply of a pen that the wire may read: one that goes back over the air is not among them (10 R240). -/
def PenIo.oldest (p : PenIo) : Option Reply := p.replies.find? fun r => !r.air

/-- A reply read through its last CRC byte: GRANTED becomes FREE (12 R267, R285). -/
def PenIo.take (p : PenIo) (r : Reply) : PenIo :=
  { p with replies := p.replies.erase r, free := p.free + 1, read := p.read + 1 }

/-- A reply read (12 R267): `whole` where its last CRC byte was clocked out. The bytes driven stand in `host.out`. -/
def State.readReply (s : State) (sel : Byte) (whole : Bool) : State :=
  let v := sel.toNat
  let drive (l : List Byte) (s : State) : State := { s with host := { s.host with out := l } }
  if v / 4 % 32 ≠ 0 then drive emptyReply s
  else if 128 ≤ v then
    match s.host.reject with
    | some r =>
      let s1 := drive (r.bytes true) s
      if whole then { s1 with host := { s1.host with reject := none } } else s1
    | none => drive emptyReply s
  else
    let p := Fin.ofNat 4 v
    match (s.io p).oldest with
    | some r =>
      let s1 := drive (r.bytes false) s
      if whole then s1.updIo p fun c => c.take r else s1
    | none => drive emptyReply s

/-- The READ_REPLY row. -/
def execReadReply (selector : Byte) (whole : Bool) (t : Nat) (s : State) : Host.Outcome State Fault Refusal :=
  let s0 := s.setNow t
  .next (if s0.ifaceOpen then s0.readReply selector whole else s0)

/-- A direct-register read (12 R265, R270, R271): `n` bytes from an address, driven onto `host.out`. -/
def State.directRead (s : State) (addr n : Nat) : State := { s with host := { s.host with out := s.windowRead addr n } }

/-- An SPI transaction given by its bytes (12 R265, R266): an instruction byte outside 0x01–0x05, or a crook frame of another length, is counted, and it is
discarded; instruction 0x03 reads the window. Packets, reply reads, direct writes and crook frames have rows of their own. -/
def State.spiTx (s : State) (bytes : List Byte) : State :=
  match bytes with
  | [] => s
  | i :: rest =>
    let n := i.toNat
    if n = 0 || 5 < n || (n = 5 && rest.length ≠ 12) then { s with host := { s.host with badInstr := s.host.badInstr + 1 } }
    else if n = 3 then s.directRead (fld rest 0 1) (rest.length - 1)
    else s

/-- An I2C transaction to the device (12 R268): what is written begins with a pointer, and `reads` bytes are then read. A pointer that is no instruction of the
window or the pens is NACKed; a read without a pointer, or with that of a write, gives zeros; none is counted. -/
def State.i2cTx (s : State) (sent : List Byte) (reads : Nat) : State :=
  let s1 := { s with host := { s.host with nack := false } }
  let zeros := { s1 with host := { s1.host with out := List.replicate reads 0 } }
  match sent with
  | [] => zeros
  | i :: rest =>
    let n := i.toNat
    if n = 0 || 4 < n then { s with host := { s.host with nack := true } }
    else if n = 3 then s1.directRead (fld rest 0 1) reads
    else if n = 2 || reads = 0 then s1
    else zeros

/-- A transaction given by its bytes, which the table's rows for packets, replies, writes and crook frames do not carry: among them the direct-register read, of
which the table has no row. Closed interfaces ignore one of SPI, and one of I2C meets a NACK of the device's own address (18 R418). -/
def execBadInstructionTransaction (tx : BusTx) (t : Nat) (s : State) : Host.Outcome State Fault Refusal :=
  let s0 := s.setNow t
  .next (match tx with
    | .spi bytes => if s0.ifaceOpen then s0.spiTx bytes else s0
    | .i2c addr sent reads =>
      if addr.toNat ≠ s0.i2cAddress then s0
      else if s0.ifaceOpen then s0.i2cTx sent reads
      else { s0 with host := { s0.host with nack := true } })

/-! ### The GPIO registers of the window (12 R270; 17 R400) -/

/-- What SET (0), CLR (1) and TGL (2) do to the latches. -/
def State.actLatches (s : State) (kind v : Nat) : State :=
  { s with pins := s.pins.mapIdx fun n p =>
      if v.testBit n then { p with latch := if kind = 0 then true else if kind = 1 then false else !p.latch } else p }

/-- What a loaded patch writes through the private port, after a window write of the same SYS cycle; ROM firmware writes nothing (17 R401). -/
def State.portWrite (s : State) : State :=
  if s.host.patchLoaded.isNone then s
  else
    let w := Config.patchPort s.freeN
    { s.draw with pins := s.pins.mapIdx fun n p => if w.1.getLsbD n then { p with latch := w.2.getLsbD n } else p }

/-- The byte that a transaction has written at window address `a`, 0 where it has written none: the address rises after each byte and wraps (12 R271). -/
def lastWritten (addr : Nat) (data : List Byte) (a : Nat) : Byte :=
  ((((data.zip (List.range data.length)).filter fun p => (addr + p.2) % 256 = a).getLast?).map (·.1)).getD 0

/-- The four bytes of a register as a transaction has written them. -/
def writtenWord (addr : Nat) (data : List Byte) (base : Nat) : Nat :=
  ofLe [lastWritten addr data base, lastWritten addr data (base + 1), lastWritten addr data (base + 2), lastWritten addr data (base + 3)]

/-- Byte `i` of a direct write: a register acts as its highest-addressed byte is written, with the bytes of it written in this transaction. Addresses
that are not GPIO registers ignore what is written. -/
def State.windowByte (s : State) (addr : Nat) (data : List Byte) (i : Nat) : State :=
  let a := (addr + i) % 256
  let d := data.take (i + 1)
  if a = 0x17 then (s.actLatches 0 (writtenWord addr d 0x14)).portWrite
  else if a = 0x1B then (s.actLatches 1 (writtenWord addr d 0x18)).portWrite
  else if a = 0x1F then (s.actLatches 2 (writtenWord addr d 0x1C)).portWrite
  else s

/-- A direct write. -/
def State.windowWrite (s : State) (addr : Nat) (data : List Byte) : State := forEach (List.range data.length) (fun i s => s.windowByte addr data i) s

/-- A write where the interfaces are open. -/
def State.directWrite (s : State) (addr : Nat) (data : List Byte) : State := if s.ifaceOpen then s.windowWrite addr data else s

/-- The four rows. -/
def execDirectRegisterWrite (addr : Byte) (data : List Byte) (t : Nat) (s : State) : Host.Outcome State Fault Refusal :=
  .next ((s.setNow t).directWrite addr.toNat data)
def execGpioSet (off : Fin 4) (data : List Byte) (t : Nat) (s : State) : Host.Outcome State Fault Refusal :=
  .next ((s.setNow t).directWrite (0x14 + off.val) data)
def execGpioClr (off : Fin 4) (data : List Byte) (t : Nat) (s : State) : Host.Outcome State Fault Refusal :=
  .next ((s.setNow t).directWrite (0x18 + off.val) data)
def execGpioTgl (off : Fin 4) (data : List Byte) (t : Nat) (s : State) : Host.Outcome State Fault Refusal :=
  .next ((s.setNow t).directWrite (0x1C + off.val) data)

/-! ### Pins: inputs (17 R394–R397) -/

/-- A pin's synchronised level changes. -/
def execPinInputLevelChange (n : Fin 24) (level : Bool) (s : State) : Host.Outcome State Fault Refusal :=
  .next (s.updPin n fun p => { p with pad := level })

/-- Whether a pin in FUNC 0 counts an edge to `level`. -/
def PinCfg.countsEdge (c : PinCfg) (level : Bool) : Bool :=
  c.func = 0 && !c.sub.getLsbD 0 && (if level then c.sub.getLsbD 1 else c.sub.getLsbD 2)

/-- The GPS cycle that an instant is stamped with: the start of the cycle of 52.08333 ns that holds it (17 R395; DESIGN CHOICE, log 94). -/
def gpsStamp (x : Nat) : Nat :=
  let ph := Config.gpsPhase % 52083334
  (x + ph) * 3 / 156250000 * 156250000 / 3 - ph

/-- One edge more: counted, the first eight of a fold with their instant. -/
def PinSt.takeEdge (p : PinSt) (level : Bool) (fold : BitVec 64) (at_ : Nat) : PinSt :=
  let k := if p.stampFold = fold then p.stamped else 0
  if k < 8 then { p with edges := p.edges + 1, stamps := p.stamps ++ [(level, gpsStamp at_)], stamped := k + 1, stampFold := fold }
  else { p with edges := p.edges + 1, beyond := p.beyond ++ [level] }

/-- A selected edge is counted, the first eight of a fold with their instant, to one GPS cycle (17 R395). -/
def execGpioEdge (n : Fin 24) (level : Bool) (t : Nat) (s : State) : Host.Outcome State Fault Refusal :=
  let s0 := (s.setNow t).updPin n fun p => { p with pad := level }
  if !(s0.pinCfg n).countsEdge level || !s0.pinsRun then .next s0
  else .next (s0.updPin n fun p => p.takeEdge level s0.clk.absFold s0.instant)

/-- An edge on a pin in the PEN_RESET function resets its pen at the first boundary after it has crossed (01 R29; 12 R292, 17 R397). -/
def execPenResetPinEdge (n : Fin 24) (level : Bool) (t : Nat) (s : State) : Host.Outcome State Fault Refusal :=
  let s0 := (s.setNow t).updPin n fun p => { p with pad := level }
  let c := s0.pinCfg n
  let v := c.sub.toNat
  let pen := Fin.ofNat 4 (v / 4)
  if c.func = 6 && v % 4 = 2 && c.sub.getLsbD 4 = !level && pen ≠ 0 && s0.pinsRun then
    .next (s0.updPen pen fun p => if s0.crossesLate then { p with pinLate := p.pinLate + 1 } else { p with pinReset := p.pinReset + 1 })
  else .next s0

/-! ### Pens and ownership -/

/-- A management reply that is on the air as its pen is reset: it is delivered (12 R293). -/
def State.onAirReply (s : State) (p : Pen) : List Reply :=
  if p = 3 && s.com.onAir.any (·.kind = 5) then ((s.io p).replies.find? (·.air)).toList else []

/-- Items of a pen's reset (12 R293): commands and replies discarded, each freeing its credit. `n` staged changes of the pen have been dropped, and
`lost` commands whose ACCEPTED had been posted. -/
def State.dropPenItems (s : State) (p : Pen) (n lost : Nat) : State :=
  let c := s.io p
  let stay := s.onAirReply p
  let k := n + c.queue.length + (c.replies.length - stay.length)
  let s1 := s.updIo p fun c => { c with free := c.free + k, queue := [], replies := stay, abandoned := c.abandoned + BitVec.ofNat 32 (k + lost), pinStep := none }
  let s2 := if p = 3 then { s1 with com := { s1.com with queue := s1.com.queue.filter (·.kind ≠ 5) } } else s1
  s2.updPen p fun x => { x with abandoned := k + lost }

/-- PEN_STATE's detail word (12 R291). -/
def penDetail (p : Pen) (st : PenState) (items : Nat) : Nat := p.val + 256 * st.code + 2 ^ 16 * (min 65535 items)

/-- A pen changes state. -/
def State.setPen (s : State) (p : Pen) (st : PenState) : State :=
  let s1 := s.updPen p fun x => { x with state := st }
  s1.raise Ev.penState (penDetail p st (s1.penSt p).abandoned)

/-- Resources named by an index (12 R288). -/
def isResource (r : Nat) : Bool := r < 0x32 || (0x40 ≤ r && r < 0x60)

/-- A pen's crook loads on a resource dropped: its step cancelled whole with cause HOST. -/
def State.dropLoadsOf (s : State) (r : Nat) (p : Pen) : State :=
  let s1 := match s.crookEntry p with
    | some e => if e.flock.getLsbD r then s.cancelOpen e.seq 1 else s
    | none => s
  s1.updCrook p fun k => { k with gather := k.gather.filter fun g => !g.1.getLsbD r }

/-- Other pens' crook loads on a resource that changes owner are cancelled whole (12 R289): a step with cause HOST. -/
def State.dropLoads (s : State) (r : Nat) (new : Pen) : State :=
  if 16 ≤ r then s else forEach (List.finRange 4) (fun p s => if p = new then s else s.dropLoadsOf r p) s

/-- One ownership change committed. -/
def State.setOwner (s : State) (r : Nat) (new : Pen) : State :=
  let old := s.owner r
  if old = new then s
  else
    let s1 := { s with cfg := { s.cfg with owners := s.cfg.owners.upd r fun _ => new } }
    (s1.dropLoads r new).raise Ev.ownerChange (r + 256 * old.val + 1024 * new.val)

/-- The pairs of an OWNER_SET. -/
def ownerPairs : List Byte → List (Nat × Nat)
  | r :: o :: l => (r.toNat, o.toNat) :: ownerPairs l
  | _ => []

/-- The table is locked, now or by an OWNER_LOCK already staged (12 R290). -/
def State.ownersLocked (s : State) : Bool := s.ownLock || s.host.staged.any fun g => g.commit && g.opcode = 0xC014

/-- The checks of OWNER_SET (12 R288, R290; 13 R323). -/
def checkOwnerSet (q : Call) (s : State) : Serve :=
  let l := ownerPairs q.params
  checks [
    (inRange q.params.length 2 164 && q.params.length % 2 = 0, St.badLength),
    (q.pen = 0, St.denied),
    (l.all (fun p => isResource p.1 && p.2 ≤ 3) && (l.map (·.1)).Nodup, St.badParam),
    (!s.ownersLocked, St.locked)]
    Serve.stage

/-- OWNER_SET committed. -/
def commitOwnerSet (q : Call) (s : State) : State :=
  forEach (ownerPairs q.params) (fun p s => s.setOwner p.1 (Fin.ofNat 4 p.2)) s

/-- OWNER_READ: 0xFF at reserved indices. -/
def State.ownerBytes (s : State) : List Byte := (List.range 96).flatMap fun r => if isResource r then le 1 (s.owner r).val else [0xFF]

/-- The checks of OWNER_LOCK, and its commit. -/
def checkOwnerLock (q : Call) (_s : State) : Serve := checks [(q.params.length = 0, St.badLength), (q.pen = 0, St.denied)] Serve.stage
def commitOwnerLock (_q : Call) (s : State) : State := { s with ownLock := true }

/-- The checks of PEN_RESET, PEN_DISABLE and PEN_ENABLE: pens 1–3 (12 R292). -/
def checkPenOp (q : Call) (_s : State) : Serve :=
  checks [(q.params.length = 1, St.badLength), (q.pen = 0, St.denied), (inRange (fld q.params 0 1) 1 3, St.badParam)] Serve.stage

/-- PEN_ENABLE committed: only a DISABLED pen changes (13 R323). -/
def commitPenEnable (q : Call) (s : State) : State :=
  let p := Fin.ofNat 4 (fld q.params 0 1)
  if (s.penSt p).state = .disabled then (s.updPen p fun x => { x with abandoned := 0 }).setPen p .active else s

/-- The AUDIT block (13 R309) from the snapshot. -/
def State.auditBytes (s : State) : List Byte :=
  let h := s.snap.host
  let totals (t : Totals) : List Byte := le 8 t.entered.toNat ++ le 8 t.applied.toNat ++ le 8 t.cancelled.toNat ++ le 8 t.opened.toNat
  ((h.pens.zip s.snap.pens).toList.flatMap fun x =>
      le 1 x.1.free ++ le 1 x.1.outstanding ++ le 1 x.1.granted ++ le 1 x.2.state.code ++ le 4 x.1.accepted.toNat ++ le 4 x.1.read.toNat ++
        le 4 x.1.abandoned.toNat ++ le 4 x.1.noCredit.toNat ++ le 4 x.1.resets.toNat) ++
    le 4 h.badInstr.toNat ++ le 4 h.rejectLost.toNat ++ le 4 s.snap.tally.dropped.toNat ++ le 4 0 ++
    (s.snap.tally.bySrc.toList.flatMap totals) ++ (s.snap.tally.byTarget.toList.flatMap totals)

/-! ### Pin opcodes (13 R322) -/

/-- The PIN group. -/
def State.pinGroup (s : State) (n : Nat) : List Byte :=
  let c := s.pinCfg n
  le 1 n ++ le 1 c.func ++ le 1 c.sub.toNat ++ le 1 c.pull ++ le 1 c.sleep ++ le 3 0

/-- The settings with what a PIN packet writes. -/
def setPin (p : List Byte) (c : Settings) : Settings :=
  { c with pins := c.pins.upd (fld p 0 1) fun _ => { func := fld p 1 1, sub := BitVec.ofNat 8 (fld p 2 1), pull := fld p 3 1, sleep := fld p 4 1 } }

/-- SUB as its function defines it (17 R391). -/
def subOk (func sub : Nat) : Bool :=
  match func with
  | 0 => sub < 8 && (sub % 2 = 0 || sub / 2 = 0)
  | 1 => sub ≤ 5 || (0x20 ≤ sub && !evReserved (sub - 0x20))
  | 2 => sub ≤ 8
  | 3 => 1 ≤ sub % 16 && sub % 16 ≤ 5
  | 4 => sub = 0
  | 5 => sub % 128 ≤ 2
  | 6 => sub < 32 && (match sub % 4 with
      | 0 => decide (sub = 0)
      | 1 => decide (sub / 4 % 4 = 0)
      | 2 => decide (1 ≤ sub / 4 % 4)
      | _ => false)
  | 7 => sub ≤ 2
  | _ => false

/-- Pin settings as the PIN writes staged earlier in the fold leave them; pins locked, now or by a staged PIN_LOCK (17 R404). -/
def State.stagedPins (s : State) : Settings := s.host.staged.foldl (fun c g => if g.commit && g.opcode = 0xB010 then setPin g.call.params c else c) s.cfg
def State.pinLocked (s : State) (n : Nat) : Bool :=
  (s.pin n).locked || s.host.staged.any fun g => g.commit && g.opcode = 0xB012 && (fld g.call.params 4 4).testBit n

/-- The checks of PIN (17 R389–R392, R403, R404). -/
def checkPin (q : Call) (s : State) : Serve :=
  let p := q.params
  let n := fld p 0 1
  let func := fld p 1 1
  let sub := fld p 2 1
  let g := s.stagedPins
  let second := func = 3 && (List.range 24).any fun m =>
    let c := g.pins.getD m {}
    m ≠ n && c.func = 3 && c.sub.toNat / 128 = sub / 128
  checks [
    (p.length = 8, St.badLength),
    (n < 24, St.badParam),
    (s.owns q.pen (0x18 + n), St.denied),
    (q.pen = 0 || ((func ≠ 3 || sub / 32 % 4 = q.pen.val) && (func ≠ 6 || sub % 4 = 0 || sub % 4 = 3) && func ≠ 7), St.denied),
    (func ≤ 7 && subOk func sub && fld p 3 1 ≤ 3 && fld p 4 1 ≤ 4 && zeros p 5 3, St.badParam),
    ((func ≠ 4 || n = 20 || n = 21) && !second, St.badParam),
    (!s.pinLocked n, St.locked)]
    (Serve.group 0xB011 (p.take 1))

/-- PIN committed. -/
def commitPin (q : Call) (s : State) : State := { s with cfg := setPin q.params s.cfg }

/-- The checks of PIN_LOCK (13 R322): the first step waits in the pen for the second as its next interpreted command. -/
def checkPinLock (q : Call) (s : State) : Serve :=
  let p := q.params
  let code := fld p 0 2
  let mask := fld p 4 4
  let first := (s.io q.pen).pinStep
  checks [
    (p.length = 8, St.badLength),
    ((List.range 24).all fun n => !mask.testBit n || s.owns q.pen (0x18 + n), St.denied),
    (zeros p 2 2 && mask ≠ 0 && mask < 2 ^ 24, St.badParam),
    ((code = 0x5EED && first.isNone) || (code = 0xC0DE && first = some (BitVec.ofNat 32 mask)), St.badParam)]
    (if code = 0x5EED then { act := fun s => s.updIo q.pen fun c => { c with pinStep := some (BitVec.ofNat 32 mask) } } else Serve.stage)

/-- The pair's second command committed. -/
def commitPinLock (q : Call) (s : State) : State :=
  let mask := fld q.params 4 4
  { s with pins := s.pins.mapIdx fun n p => if mask.testBit n then { p with locked := true } else p }

/-- PIN_STATUS (13 R322). -/
def State.pinStatusBytes (s : State) : List Byte :=
  le 4 (pinWord s.pinRead) ++ le 4 (pinWord fun n => (s.pin n).pad) ++ le 4 (pinWord fun n => (s.pin n).locked) ++
    ((List.range 24).flatMap fun n => le 1 (s.pinCfg n).func)

end Sys2Proof.Machine
end

