-- ==== Sys2Proof/Machine/EventOps.lean ====
section
/-! DEFINITION. The event engine and the event opcodes (14 R330–R342; 13 R320, R321). -/

namespace Sys2Proof.Machine

/-! ### The engine (14 R337, R338, R342; 17 R395) -/

/-- FOLD, then NS, then ID. -/
def Occ.before (a b : Occ) : Bool :=
  a.fold < b.fold || (a.fold = b.fold && (a.ns < b.ns || (a.ns = b.ns && a.id ≤ b.id)))

/-- Insertion into an ordered list, after equals that came earlier. -/
def insertOcc (x : Occ) : List Occ → List Occ
  | [] => [x]
  | y :: r => if y.before x then y :: insertOcc x r else x :: y :: r

/-- Occurrences in the order of R337. -/
def sortOccs (l : List Occ) : List Occ := l.foldl (fun a x => insertOcc x a) []

/-- The edges kept of a pin: those with a time, then those beyond the sixteenth. -/
def State.raisePinEdges (s : State) (n : Nat) (p : PinSt) : State :=
  let s1 := forEach p.stamps (fun x s => s.raise (0xF8 + n) (b2n x.1 * 2 ^ 31 + s.nsOf x.2)) s
  forEach p.beyond (fun l s => s.raise (0xF8 + n) (b2n l * 2 ^ 31 + 2 ^ 30)) s1

/-- The GPIO edges counted since the last run are raised, one event each (17 R395). -/
def State.raiseEdges (s : State) : State :=
  forEach (List.range 24) (fun n s => (s.updPin n fun p => { p with stamps := [], beyond := [] }).raisePinEdges n (s.pin n)) s

/-- Whether a source is enabled. -/
def State.enabled (s : State) (id : Nat) : Bool := (s.cfg.ev.getD id {}).enable

/-- The QUEUE_OVERFLOW entry, once there is room and the source is enabled (14 R338). -/
def State.queueOverflow (s : State) : State :=
  if s.ev.dropped = 0 || 64 ≤ s.ev.queue.length || !s.enabled Ev.queueOverflow then s
  else
    let o : Occ := { id := Ev.queueOverflow, fold := s.clk.absFold, ns := s.nsAt s.clk.now, detail := BitVec.ofNat 32 (min (2 ^ 32 - 1) s.ev.dropped) }
    { s with ev := { s.ev with queue := s.ev.queue ++ [o], dropped := 0 } }

/-- One occurrence queued, or dropped and counted (14 R337, R338). -/
def State.queueOcc (s : State) (o : Occ) : State :=
  let s1 := s.queueOverflow
  if s1.ev.queue.length < 64 then { s1 with ev := { s1.ev with queue := s1.ev.queue ++ [o] } }
  else
    { s1 with ev := { s1.ev with
      dropped := s1.ev.dropped + 1
      srcs := s1.ev.srcs.upd Ev.queueOverflow fun e => { e with count := e.count + 1, sticky := true, raised := true } } }

/-- Bit 4 + n of IRQ_PENDING for each pen (14 R342). -/
def State.updateIrq (s : State) : State :=
  { s with host := { s.host with irqEvent := BitVec.ofNat 4 ((List.range 4).foldl (fun a n => a + b2n (s.eventPending n) * 2 ^ n) 0) } }

/-- Up to 64 occurrences, in order, join the queue. -/
def State.queueOccs (s : State) : State :=
  let l := sortOccs s.ev.occs
  forEach (l.take 64) (fun o s => s.queueOcc o) { s with ev := { s.ev with occs := l.drop 64 } }

/-- Slot 5: edges raised, up to 64 occurrences queued, IRQ_PENDING updated. -/
def State.eventSlot (s : State) : State :=
  s.raiseEdges.queueOverflow.queueOccs.updateIrq

/-- The row. -/
def execEventEngineSlot (t : Nat) (s : State) : Host.Outcome State Fault Refusal := .next (s.inSlot 5 t fun s => s.eventSlot)

/-! ### Opcodes -/

/-- FIRST and COUNT. -/
def evFirst (q : Call) : Nat := fld q.params 0 2
def evCount (q : Call) : Nat := fld q.params 2 2

/-- The command's range covers an ID. -/
def evNames (q : Call) (i : Nat) : Bool := evFirst q ≤ i && i < evFirst q + evCount q

/-- Every source changed by its ID. -/
def State.mapSources (s : State) (f : Nat → Source → Source) : State := { s with ev := { s.ev with srcs := s.ev.srcs.mapIdx f } }

/-- Bit `k` of a packet's bitmap. -/
def evBit (q : Call) (k : Nat) : Bool := (fld q.params (4 + k / 8) 1).testBit (k % 8)

/-- The pen may clear a source's sticky bit (13 R321). -/
def State.mayClear (s : State) (p : Pen) (id : Nat) : Bool :=
  if p = 0 then true
  else if id < 0x40 then s.owner (0x10 + id / 8) = p
  else if id < 0x80 then s.owner ((id - 0x40) / 4) = p
  else if 0xA8 ≤ id && id ≤ 0xCF then s.owner 0x30 = p
  else if 0xD0 ≤ id && id ≤ 0xE7 then s.owner 0x31 = p
  else if 0xF8 ≤ id && id ≤ 0x10F then s.owner (0x18 + id - 0xF8) = p
  else false

/-- The checks of EVT_CONFIG. -/
def checkEvtConfig (q : Call) (_s : State) : Serve :=
  let n := evCount q
  checks [
    (5 ≤ q.params.length && q.params.length = 4 + n, St.badLength),
    (q.pen = 0, St.denied),
    (inRange n 1 288 && evFirst q + n ≤ 288, St.badParam),
    ((List.range n).all fun k =>
      let b := fld q.params (4 + k) 1
      b < 8 && b / 2 ≠ 3 && (b = 0 || !evReserved (evFirst q + k)), St.badParam)]
    Serve.stage

/-- EVT_CONFIG committed. -/
def commitEvtConfig (q : Call) (s : State) : State :=
  let f (i : Nat) (e : EvCfg) : EvCfg :=
    if evNames q i then
      let b := fld q.params (4 + i - evFirst q) 1
      { enable := b % 2 = 1, cls := b / 2 }
    else e
  { s with cfg := { s.cfg with ev := s.cfg.ev.mapIdx f } }

/-- Length and range of a bitmap command. -/
def bitmapOk (q : Call) : Bool := evFirst q % 8 = 0 && evCount q % 8 = 0 && evFirst q + evCount q ≤ 288

/-- No bit names a reserved ID (14 R329). -/
def bitmapPlain (q : Call) : Bool := (List.range (evCount q)).all fun k => !evBit q k || !evReserved (evFirst q + k)

/-- The checks of EVT_NOTIFY. -/
def checkEvtNotify (q : Call) (_s : State) : Serve :=
  checks [
    (4 ≤ q.params.length && q.params.length = 4 + evCount q / 8, St.badLength),
    (bitmapOk q && bitmapPlain q, St.badParam)]
    Serve.stage

/-- A bit of a small word set to `b`. -/
def setBit4 (v : BitVec 4) (n : Nat) (b : Bool) : BitVec 4 := if b then v ||| BitVec.ofNat 4 (2 ^ n) else v &&& ~~~(BitVec.ofNat 4 (2 ^ n))

/-- EVT_NOTIFY committed, on the pen's own mask. -/
def commitEvtNotify (q : Call) (s : State) : State :=
  s.mapSources fun i e => if evNames q i then { e with notify := setBit4 e.notify q.pen.val (evBit q (i - evFirst q)) } else e

/-- A pen's masks at their reset values (14 R334, R335). -/
def State.resetNotify (s : State) (p : Pen) : State :=
  s.mapSources fun i e => { e with notify := setBit4 e.notify p.val (p = 0 && !evReserved i) }

/-- The checks of EVT_STATUS, read from the snapshot. -/
def checkEvtStatus (q : Call) (s : State) : Serve :=
  let byte (i : Nat) : List Byte :=
    let e := s.snap.ev.srcs.getD i {}
    let c := s.snap.evCfg.getD i {}
    le 1 (b2n e.live + 2 * b2n e.sticky + 4 * b2n c.enable + 8 * c.cls + 32 * b2n (e.notify.getLsbD q.pen.val))
  checks [(q.params.length = 4, St.badLength), (evFirst q + evCount q ≤ 288, St.badParam)]
    (Serve.data ((List.range (evCount q)).flatMap fun k => byte (evFirst q + k)))

/-- The checks of EVT_CLEAR (13 R321). -/
def checkEvtClear (q : Call) (s : State) : Serve :=
  checks [
    (4 ≤ q.params.length && q.params.length = 4 + evCount q / 8, St.badLength),
    (evFirst q + evCount q ≤ 288, St.badParam),
    ((List.range (evCount q)).all fun k => !evBit q k || s.mayClear q.pen (evFirst q + k), St.denied),
    (bitmapOk q && bitmapPlain q, St.badParam)]
    Serve.stage

/-- EVT_CLEAR committed: a bit whose live status is 1 in the boundary's snapshot stays set (14 R333). -/
def commitEvtClear (q : Call) (s : State) : State :=
  s.mapSources fun i e => if evNames q i && evBit q (i - evFirst q) then { e with sticky := e.sticky && e.live } else e

/-- The checks of EVT_COUNTERS. -/
def checkEvtCounters (q : Call) (s : State) : Serve :=
  checks [(q.params.length = 4, St.badLength), (inRange (evCount q) 1 256 && evFirst q + evCount q ≤ 288, St.badParam)]
    (Serve.data ((List.range (evCount q)).flatMap fun k => le 4 (s.snap.ev.srcs.getD (evFirst q + k) {}).count.toNat))

/-- A queue entry's 20 bytes. -/
def Occ.bytes (o : Occ) : List Byte := blankWords o.blank (le 2 o.id ++ le 2 0 ++ le 8 o.fold.toNat ++ le 4 o.ns ++ le 4 o.detail.toNat)

/-- The checks of EVT_QUEUE: what the snapshot's queue holds, oldest first; with CONSUME the entries returned are removed at the commit (14 R339). -/
def checkEvtQueue (q : Call) (s : State) : Serve :=
  let p := q.params
  let use := fld p 1 1 = 1
  let l := s.snap.ev.queue.take (fld p 0 1)
  checks [
    (p.length = 4, St.badLength),
    (!(fld p 1 1 % 2 = 1) || q.pen = 0, St.denied),
    (inRange (fld p 0 1) 1 50 && fld p 1 1 ≤ 1 && zeros p 2 2, St.badParam)]
    { body := .bytes (le 1 l.length ++ le 3 0 ++ l.flatMap (·.bytes)), commit := use, mark := s.snap.ev.taken + l.length }

/-- CONSUME committed: entries up to the mark go (14 R339). -/
def commitEvtQueue (mark : Nat) (s : State) : State :=
  let n := mark - s.ev.taken
  { s with ev := { s.ev with queue := s.ev.queue.drop n, taken := s.ev.taken + n } }

end Sys2Proof.Machine
end

