-- ==== Sys2Proof/Machine/Flash.lean ====
section
/-! DEFINITION. The store's flash as an addressed memory (15 R350), and what stands in it: records, images, headers, the live set and what start-up
takes from it (15 R351–R356, R359, R363–R368, R370). Word addresses: bank A 0–767, bank B 768–1535, user pages from 1536. -/

namespace Sys2Proof.Machine

/-! ### Cells -/

/-- The canonical form of the cells: addresses strictly rising, no cell equal to erased flash. -/
def flashOk : List Host.Cell → Bool
  | [] => true
  | [c] => c.2 ≠ flashErased
  | c :: d :: r => c.2 ≠ flashErased && c.1 < d.1 && flashOk (d :: r)

/-- The byte at an address. -/
def flashRead (m : List Host.Cell) (a : Nat) : Byte := match m with
  | [] => flashErased
  | c :: r => if c.1 = a then c.2 else flashRead r a

/-- One byte written, in canonical form. -/
def flashWrite (m : List Host.Cell) (a : Nat) (b : Byte) : List Host.Cell := match m with
  | [] => if b = flashErased then [] else [(a, b)]
  | c :: r =>
    if a < c.1 then (if b = flashErased then c :: r else (a, b) :: c :: r)
    else if a = c.1 then (if b = flashErased then r else (a, b) :: r)
    else c :: flashWrite r a b

/-- Consecutive bytes written from an address. -/
def flashProgram (m : List Host.Cell) (a : Nat) : List Byte → List Host.Cell
  | [] => m
  | b :: r => flashProgram (flashWrite m a b) (a + 1) r

/-- Addresses `lo` to `hi` − 1 erased. -/
def flashErase (m : List Host.Cell) (lo hi : Nat) : List Host.Cell := m.filter fun c => c.1 < lo || hi ≤ c.1

/-- Consecutive bytes. -/
def flashBytes (m : List Host.Cell) (a n : Nat) : List Byte := (List.range n).map fun i => flashRead m (a + i)

/-- First word of a bank, of a user page. -/
def bankWord (b : Bool) : Nat := if b then 768 else 0
def pageWord (p : Nat) : Nat := 1536 + 16 * p

/-- The next page start at or after a bank word. -/
def pageFrom (w : Nat) : Nat := (w + 15) / 16 * 16

/-- Where an append and the scan go on after an invalid item (15 R355). -/
def afterInvalid (w : Nat) : Nat := pageFrom (w + 34)

/-! ### Records as words (15 R352, R366) -/

/-- Bytes padded with 0xFF to whole words, cut into words. -/
def cutWords : Nat → List Byte → List (List Byte)
  | 0, _ => []
  | k + 1, l => if l.isEmpty then [] else ((l ++ List.replicate 16 flashErased).take 16) :: cutWords k (l.drop 16)

/-- A commit word (15 R352). -/
def commitWordBytes : List Byte := 0x3C :: List.replicate 15 flashErased

/-- The words of a record with its SEQ. -/
def recordWords (type : Nat) (seq : BitVec 32) (payload : List Byte) : List (List Byte) :=
  let d := le 1 type ++ le 1 payload.length ++ le 4 seq.toNat ++ payload
  cutWords 64 (d ++ le 4 (crc32c d)) ++ [commitWordBytes]

/-- The words of a hot-set image (15 R366). -/
def imageWords (seq : BitVec 32) (payload : List Byte) : List (List Byte) :=
  (le 1 0xF0 ++ le 1 0 ++ le 2 payload.length ++ le 4 seq.toNat ++ le 4 (crc32c payload) ++ List.replicate 4 flashErased) ::
    (cutWords 64 payload ++ [commitWordBytes])

/-- Words that a record of `n` payload bytes takes. -/
def recordSize (n : Nat) : Nat := ceilDiv (10 + n) 16 + 1

/-! ### The scan (15 R353, R355) -/

/-- An item of the log. -/
structure Item where
  type : Nat
  seq : BitVec 32
  payload : List Byte
  base : Nat
  size : Nat
  valid : Bool
  deriving DecidableEq, Repr

/-- The item at a bank word, whose TYPE is not 0xFF. -/
def itemAt (m : List Host.Cell) (b : Bool) (w : Nat) : Item :=
  let a := 16 * (bankWord b + w)
  let h := flashBytes m a 16
  let type := fld h 0 1
  if type = 0xF0 then
    let p := flashBytes m (a + 16) 476
    { type := type
      seq := BitVec.ofNat 32 (fld h 4 4)
      payload := p
      base := w
      size := 32
      valid := w + 32 ≤ 768 && fld h 2 2 = 476 && fld h 8 4 = crc32c p && flashRead m (a + 496) = 0x3C }
  else
    let n := fld h 1 1
    let d := flashBytes m a (6 + n)
    let size := recordSize n
    { type := type
      seq := BitVec.ofNat 32 (fld h 2 4)
      payload := d.drop 6
      base := w
      size := size
      valid := w + size ≤ 768 && 1 ≤ type && type ≤ 8 && n ≤ 240 && ofLe (flashBytes m (a + 6 + n) 4) = crc32c d &&
        flashRead m (a + 16 * (size - 1)) = 0x3C }

/-- Items from a bank word on, with the word at which the log ends. -/
def scanFrom (m : List Host.Cell) (b : Bool) : Nat → Nat → List Item × Nat
  | 0, w => ([], w)
  | k + 1, w =>
    if 768 ≤ w then ([], 768)
    else if flashRead m (16 * (bankWord b + w)) = flashErased then ([], w)
    else
      let i := itemAt m b w
      let r := scanFrom m b k (if i.valid then w + i.size else afterInvalid w)
      (i :: r.1, r.2)

/-- The scan of a bank. -/
def scanBank (m : List Host.Cell) (b : Bool) : List Item × Nat := scanFrom m b 768 2

/-- Its valid items. -/
def validItems (m : List Host.Cell) (b : Bool) : List Item := (scanBank m b).1.filter (·.valid)

/-- The part of a type that an item is (15 R356). -/
def Item.part (i : Item) : Nat :=
  if i.type = 0x01 || i.type = 0x04 then fld i.payload 4 1 else if i.type = 0x06 || i.type = 0x07 then fld i.payload 0 1 else 0

/-- Its generation number. -/
def Item.gen (i : Item) : Nat := if i.type = 0x06 then fld i.payload 4 4 else fld i.payload 0 4

/-- The newest of a list by SEQ. -/
def newest (l : List Item) : Option Item := l.foldl (fun a i => match a with
  | some j => if j.seq.toNat ≤ i.seq.toNat then some i else a
  | none => some i) none

/-- The newest valid record of a type and part. -/
def winner (l : List Item) (type part : Nat) : Option Item := newest (l.filter fun i => i.type = type && i.part = part)

/-- Insertion by SEQ. -/
def insertSeq (i : Item) : List Item → List Item
  | [] => [i]
  | j :: r => if j.seq.toNat ≤ i.seq.toNat then j :: insertSeq i r else i :: j :: r

/-- The live items in SEQ order (15 R353, R359): the winner of every type and part but INTENT. -/
def liveItems (m : List Host.Cell) (b : Bool) : List Item :=
  let l := validItems m b
  (l.filter fun i => i.type ≠ 0x08 && winner l i.type i.part = some i).foldl (fun a i => insertSeq i a) []

/-- The words of an item, as they stand. -/
def Item.words (i : Item) (m : List Host.Cell) (b : Bool) : List (List Byte) :=
  (List.range i.size).map fun k => flashBytes m (16 * (bankWord b + i.base + k)) 16

/-- The newest generation of a type whose `n` parts are all valid (15 R356). -/
def newestGen (l : List Item) (type n : Nat) : Option Nat :=
  let t := l.filter fun i => i.type = type
  t.foldl (fun a i =>
    let g := i.gen
    if ((List.range n).all fun k => t.any fun j => j.gen = g && j.part = k) && (match a with | some h => h < g | none => true) then some g else a) none

/-- The payload of a part of a generation. -/
def genPart (l : List Item) (type gen part : Nat) : List Byte :=
  ((l.find? fun i => i.type = type && i.gen = gen && i.part = part).map (·.payload)).getD []

/-! ### Bank headers (15 R351) -/

/-- Word 0 and bytes 0–6 of word 1, then their CRC, 0xFF and COMMIT. -/
def headerWords (bankSeq erases op : Nat) (bank : Bool) (tai : Option Nat) : List (List Byte) :=
  let w0 := le 4 bankSeq ++ le 4 erases ++ le 6 op ++ le 1 (b2n bank) ++ le 1 1
  let w1 := le 6 (tai.getD 0) ++ le 1 (0xFE + b2n tai.isSome)
  [w0, w1 ++ le 4 (crc32c (w0 ++ w1)) ++ List.replicate 4 flashErased ++ [0x3C]]

/-- A valid bank's header. -/
structure Header where
  bankSeq : Nat
  erases : Nat
  op : Nat
  tai : Option Nat
  deriving DecidableEq, Repr

/-- The header of a bank, where it is valid. -/
def headerOf (m : List Host.Cell) (b : Bool) : Option Header :=
  let h := flashBytes m (16 * bankWord b) 32
  if fld h 31 1 = 0x3C && fld h 23 4 = crc32c (h.take 23) then
    some { bankSeq := fld h 0 4, erases := fld h 4 4, op := fld h 8 6, tai := if bit (fld h 22 1) 0 then some (fld h 16 6) else none }
  else none

/-- Whether a bank reads erased throughout. -/
def bankBlank (m : List Host.Cell) (b : Bool) : Bool := m.all fun c => c.1 < 16 * bankWord b || 16 * (bankWord b + 768) ≤ c.1

end Sys2Proof.Machine
end

