-- ==== Sys2Proof/Machine/StoreOps.lean ====
section
/-! DEFINITION. The store engine (15): appends, compaction and refresh, page operations, the hot-set save, its timers and its opcodes (13 R319). -/

namespace Sys2Proof.Machine

/-- The store changed by `f`. -/
def State.mapStore (s : State) (f : Store → Store) : State := { s with store := f s.store }

/-! ### What records hold (15 R356, R364, R366) -/

/-- The COUNTERS payload. -/
def LifeCounters.bytes (c : LifeCounters) : List Byte :=
  le 6 c.opSeconds.toNat ++ le 2 0 ++ le 6 c.holdSeconds.toNat ++ le 2 0 ++ le 4 c.switches.toNat ++ le 4 c.boots.toNat ++ le 4 c.saves.toNat ++
    le 4 c.lost.toNat

/-- The MODEL payload of a model: its block, the TSENSE offset (0x8000 while none is learned, log 47), the covariance. -/
def State.modelPayload (s : State) (m : Model) : List Byte :=
  m.block ++ leI 2 (s.lp.meanOffset.getD (-32768)) ++ le 2 0 ++ (m.cov.flatMap fun c => le 8 c.toNat)

/-- One WEAR part. -/
def wearPayload (w : Vec Wear 32) (part : Nat) : List Byte :=
  le 1 part ++ le 3 0 ++ (((w.toList.drop (16 * part)).take 16).flatMap fun x => le 4 x.erases.toNat ++ le 4 x.raw.toNat)

/-- The hot set (15 R366). It counts the save that writes it (log 47); a missing event entry is 0xFF throughout. -/
def State.hotSet (s : State) : List Byte :=
  let l := s.ev.queue.drop (s.ev.queue.length - 4)
  LifeCounters.bytes { s.store.life with saves := s.store.life.saves + 1 } ++ s.modelPayload s.mdl ++
    ((s.store.wear.zip s.store.wearWritten).toList.flatMap fun x => le 2 (min 65535 (x.1.erases - x.2.erases).toNat) ++ le 2 (min 65535 (x.1.raw - x.2.raw).toNat)) ++
    ((l.flatMap Occ.bytes) ++ List.replicate 80 flashErased).take 80

/-- The SSCT records (15 R356). -/
def State.ssctRecords (s : State) : List RecReq :=
  let part (p a n : Nat) (front : List Byte) : RecReq :=
    { type := 0x04, payload := le 4 0 ++ le 1 p ++ le 3 0 ++ front ++ tens ((s.ssct.bins.drop a).take n), genAt := some 0 }
  [part 0 0 86 (leI 8 s.ssct.meanP), part 1 86 85 [], part 2 171 85 []]

/-! ### Events and ends of jobs -/

/-- STORE_VERIFY_FAIL (15 R375) for a word address. -/
def State.verifyFail (s : State) (kind type w : Nat) : State :=
  let page := if 1536 ≤ w then (w - 1536) / 16 else w % 768 / 16
  s.raise Ev.storeVerifyFail (kind + 2 ^ 8 * type + 2 ^ 16 * page + (if 768 ≤ w && w < 1536 then 2 ^ 22 else 0))

/-- WEAR_WARN as an erase count reaches a bound (15 R373). -/
def State.warnWear (s : State) (count what : Nat) : State :=
  if count = 80000 then s.raise Ev.wearWarn what else if count = 100000 then s.raise Ev.wearWarn (what + 2 ^ 31) else s

/-- The job in hand. -/
def State.storeHead (s : State) : Option StoreJob := s.store.jobs.head?

/-- The job in hand changed. -/
def State.updHead (s : State) (f : StoreJob → StoreJob) : State := s.mapStore fun x => { x with jobs := upd x.jobs 0 f }

/-- The job in hand ends: what its owner waits for follows at the next boundary (01 R24, 12 R284); a patch chunk that failed is expected again. -/
def State.endStoreJob (s : State) (st : BitVec 16) : State :=
  match s.store.jobs with
  | [] => s
  | j :: r =>
    let next : Option (Nat × Nat) := match j.owner with
      | some o => if o.opcode = 0x901C && st ≠ St.ok then some (fld o.params 0 1, fld o.params 1 1) else s.store.patchNext
      | none => s.store.patchNext
    s.mapStore fun x => { x with
      jobs := r
      phase := .idle
      gen := none
      seqNow := none
      again := false
      restoring := false
      patchNext := next
      settling := x.settling ++ (j.owner.map fun o => (o, st)).toList }

/-! ### Words -/

/-- The word in flight has been programmed (15 R374). -/
def State.programEnd (s : State) : State :=
  match s.store.phase with
  | .writing w =>
    if w.issued && !w.done then
      s.mapStore fun x => { x with flash := flashProgram x.flash (16 * (w.base + w.idx)) (w.words.getD w.idx []), phase := .writing { w with done := true } }
    else s
  | _ => s

/-- Words begin to be written, the first issued at once; an injection armed for the next record is taken (19 R436). -/
def State.startWords (s : State) (base : Nat) (words : List (List Byte)) (kind type : Nat) : State :=
  s.mapStore fun x => { x with
    phase := .writing { base := base, words := words, kind := kind, type := type, issued := true, fault := if kind ≤ 1 then x.inject else none }
    inject := if kind ≤ 1 then none else x.inject }

/-- An erase begins. -/
def State.startErase (s : State) (page : Bool) (n : Nat) : State := s.mapStore fun x => { x with phase := .erasing page n false }

/-! ### Appends (15 R354, R357, R358) -/

/-- A CONFIG part's data (15 R369, log 19). -/
def configData (gen part : Nat) : List Byte := (List.range 232).map fun i => Config.snapshotByte gen part i

/-- The SEQ that the next record takes: the next one, or that of its first attempt (log 46). -/
def Store.recordSeq (x : Store) : BitVec 32 := x.seqNow.getD (x.maxSeq + 1)

/-- The generation number that a record's job bears: the SEQ of its part 0 (15 R356). -/
def Store.recordGen (x : Store) : BitVec 32 := x.gen.getD x.recordSeq

/-- The words of the next record. -/
def Store.wordsOf (x : Store) (r : RecReq) : List (List Byte) :=
  let g := x.recordGen
  let p := match r.genAt with
    | some o => r.payload.take o ++ le 4 g.toNat ++ r.payload.drop (o + 4)
    | none => r.payload
  recordWords r.type x.recordSeq (if r.type = 0x01 then p ++ configData g.toNat (fld p 4 1) else p)

/-- The highest SEQ once the next record has taken its own. -/
def Store.seqAfter (x : Store) : BitVec 32 := if x.maxSeq.toNat < x.recordSeq.toNat then x.recordSeq else x.maxSeq

/-- A record begins at the append point. A CONFIG generation takes the place of one that was cut off before its part 0 was valid and whose number it bears. -/
def State.startRecord (s : State) (r : RecReq) : State :=
  let x := s.store
  let g := x.recordGen
  let new := r.type = 0x01 && x.gen.isNone
  let cfg := (s.storeHead.bind (·.snap)).getD s.cfg
  (s.mapStore fun x => { x with
    seqNow := some x.recordSeq
    maxSeq := x.seqAfter
    gen := if r.genAt.isSome then some g else x.gen
    patchGen := if r.type = 0x06 && r.genAt.isSome then g else x.patchGen
    gens := if new then (x.gens.filter fun y => y.1 ≠ g) ++ [(g, cfg)] else x.gens }).startWords (bankWord x.bankB + x.append) (x.wordsOf r) 0 r.type

/-- Words that the next record of a list takes. -/
def RecReq.size (r : RecReq) : Nat := recordSize (r.payload.length + (if r.type = 0x01 then 232 else 0))

/-- An append fits (15 R357). -/
def Store.fits (x : Store) (n : Nat) : Bool := x.append + n + 96 ≤ 768

/-- The wear that a committed WEAR record holds. -/
def State.noteWear (s : State) (w : Writing) : State :=
  if w.type ≠ 0x07 then s
  else
    let b := w.words.flatten
    let part := fld b 6 1
    let f (i : Nat) (v : Wear) : Wear :=
      if i / 16 = part then { erases := BitVec.ofNat 32 (fld b (10 + 8 * (i % 16)) 4), raw := BitVec.ofNat 32 (fld b (14 + 8 * (i % 16)) 4) } else v
    s.mapStore fun x => { x with wearWritten := x.wearWritten.mapIdx f }

/-- A record has committed. -/
def State.recordDone (s : State) (w : Writing) : State :=
  let s1 := (s.noteWear w).updHead fun j => match j.kind with
    | .records (_ :: r) => { j with kind := .records r }
    | _ => j
  s1.mapStore fun x => { x with phase := .idle, append := x.append + w.words.length, seqNow := none, again := false }

/-- A record has failed: once more at the point of R355, then STORE_FAULT (15 R358). -/
def State.recordFailed (s : State) (w : Writing) : State :=
  let s1 := (s.verifyFail 0 w.type (w.base + w.idx)).mapStore fun x => { x with phase := .idle, append := afterInvalid x.append, again := true }
  if s.store.again then s1.endStoreJob St.storeFault else s1

/-! ### Compaction (15 R359–R361) -/

/-- The bank that is not active. -/
def Store.target (x : Store) : Bool := !x.bankB

/-- The live set's words. -/
def Store.liveWords (x : Store) : Nat := ((liveItems x.flash x.bankB).map (·.size)).sum

/-- A compaction is in the queue. -/
def Store.compacting (x : Store) : Bool := x.jobs.any fun j => match j.kind with | .compaction _ => true | _ => false

/-- The compaction is abandoned: the target bank is erased (15 R361). -/
def State.undoCompaction (s : State) : State := (s.mapStore fun x => { x with comp := some .undo }).startErase false (b2n s.store.target)

/-- Compaction begins with its INTENT, in the reserve. -/
def State.startCompaction (s : State) : State :=
  let x := s.store
  let src := ((headerOf x.flash x.bankB).map (·.bankSeq)).getD 0
  let p := le 1 (b2n x.target) ++ le 3 0 ++ le 4 src ++ le 2 x.liveWords ++ le 2 0
  let seq := x.maxSeq + 1
  if 768 < x.append + 3 then s.undoCompaction
  else
    (s.mapStore fun x => { x with comp := some .intent, compAt := 0, maxSeq := seq }).startWords (bankWord x.bankB + x.append) (recordWords 0x08 seq p) 1 0x08

/-- Bank A of a store without a valid bank gets its header (15 R363). -/
def State.startFormat (s : State) : State :=
  s.startWords (bankWord false) (headerWords 1 s.store.bankErases.1 0 false none) 4 0

/-- That header has failed to verify: bank A is erased, and it is written again (DESIGN CHOICE, log 95). -/
def State.formatFailed (s : State) (w : Writing) : State :=
  (s.verifyFail 0 w.type (w.base + w.idx)).mapStore fun x => { x with phase := .idle, jobs := { kind := .bankErase 0 } :: x.jobs }

/-- The next live record is copied, or the header written. -/
def State.copyNext (s : State) (left : List (Nat × List (List Byte))) : State :=
  let x := s.store
  match left with
  | (ty, w) :: r => (s.mapStore fun x => { x with comp := some (.copy r) }).startWords (bankWord x.target + 2 + x.compAt) w 1 ty
  | [] =>
    let h := headerOf x.flash x.bankB
    let e := if x.target then x.bankErases.2 else x.bankErases.1
    let w := headerWords (((h.map (·.bankSeq)).getD 0) + 1) e x.life.opSeconds.toNat x.target (if s.tod.valid then some s.clk.seconds.toNat else none)
    (s.mapStore fun x => { x with comp := some .header }).startWords (bankWord x.target) w 1 0

/-- The copied bank becomes the active one (15 R359). -/
def State.switchBank (s : State) : State :=
  s.mapStore fun x => { x with bankB := !x.bankB, append := 2 + x.compAt, comp := some .eraseSource }

/-- The store after a compaction, as far as sequence numbers and room go (log 46). -/
def Store.compacted (x : Store) : Store :=
  let w := (liveItems x.flash x.bankB).flatMap fun i => i.words x.flash x.bankB
  let a := 16 * bankWord x.target
  { x with
    flash := flashProgram (flashErase x.flash a (a + 12288)) (a + 32) w.flatten
    bankB := x.target
    append := 2 + w.length
    maxSeq := x.maxSeq + 1 }

/-- The store after a record, which a compaction precedes where it does not fit (15 R357). -/
def Store.afterRecord (x : Store) (r : RecReq) : Store :=
  let y := if x.fits r.size then x else x.compacted
  let w := y.wordsOf r
  { y with
    flash := flashProgram y.flash (16 * (bankWord y.bankB + y.append)) w.flatten
    append := y.append + w.length
    maxSeq := y.seqAfter
    gen := if r.genAt.isSome then some y.recordGen else y.gen
    seqNow := none }

/-- The store after a job. -/
def Store.afterJob (x : Store) (j : StoreJob) : Store :=
  match j.kind with
  | .records l => { l.foldl Store.afterRecord x with gen := none, seqNow := none }
  | .compaction _ => x.compacted
  | _ => x

/-- The SEQ that a record of `n` payload bytes takes after every job that is queued (15 R354). -/
def Store.seqFor (x : Store) (n : Nat) : BitVec 32 :=
  let y := x.jobs.foldl Store.afterJob x
  (if y.fits (recordSize n) then y else y.compacted).maxSeq + 1

/-- A step of the compaction's words has verified. -/
def State.compWordsDone (s : State) (w : Writing) : State :=
  match s.store.comp with
  | some .intent =>
    (s.mapStore fun x => { x with append := x.append + w.words.length, comp := some .eraseTarget }).startErase false (b2n s.store.target)
  | some (.copy left) => (s.mapStore fun x => { x with compAt := x.compAt + w.words.length }).copyNext left
  | some .header => s.mapStore fun x => { x with comp := some .switch, phase := .idle }
  | _ => s.mapStore fun x => { x with phase := .idle }

/-- A word of the compaction has failed. -/
def State.compWordsFailed (s : State) (w : Writing) : State :=
  let s1 := s.verifyFail 1 w.type (w.base + w.idx)
  (if s.store.comp = some .intent then s1.mapStore fun x => { x with append := afterInvalid x.append } else s1).undoCompaction

/-- The source has been erased: COMPACT_DONE for space, REFRESH_DONE for age (15 R375). -/
def State.compDone (s : State) (refresh : Bool) : State :=
  let s1 := s.raise (if refresh then Ev.refreshDone else Ev.compactDone) (s.store.compAt + (if s.store.bankB then 2 ^ 16 else 0))
  (s1.mapStore fun x => { x with comp := none, compFailed := false, failing := false }).mapStore fun x => { x with jobs := x.jobs.drop 1, phase := .idle }

/-- The abandoned target has been erased: the compaction is retried once at once, then record commands fail (15 R361). -/
def State.compUndone (s : State) : State :=
  if s.store.compFailed then
    s.mapStore fun x => { x with comp := none, compFailed := false, failing := true, jobs := x.jobs.drop 1, phase := .idle }
  else s.mapStore fun x => { x with comp := none, compFailed := true, phase := .idle }

/-! ### Pages (15 R372, R373) -/

/-- The 256 bytes that a PAGE_WRITE programs: DATA where it covers a byte, wrapping in the page, and the buffer elsewhere. -/
def pageImage (buffer data : List Byte) (off : Nat) : List Byte :=
  (List.range 256).map fun i =>
    let k := (i + 256 - off) % 256
    if k < data.length then data.getD k 0 else buffer.getD i flashErased

/-- The page's content is left undefined (15 R372; log 8). -/
def State.pageLost (s : State) (page : Nat) : State :=
  let n := s.freeN
  s.draw.mapStore fun x => { x with flash := flashProgram x.flash (16 * pageWord page) ((List.range 256).map fun i => Config.undefinedByte n i) }

/-- A page's words have verified. -/
def State.pageDone (s : State) : State := s.endStoreJob (if s.store.restoring then St.storeFault else St.ok)

/-- A page's word has failed: erased and reprogrammed from the buffer, once. -/
def State.pageFailed (s : State) (w : Writing) : State :=
  let page := (w.base - 1536) / 16
  let s1 := s.verifyFail 3 0 (w.base + w.idx)
  if s.store.restoring then (s1.pageLost page).endStoreJob St.storeFault
  else (s1.mapStore fun x => { x with restoring := true }).startErase true page

/-! ### Erases -/

/-- One more erase of a bank. -/
def bumpErase (b : Nat) (e : Nat × Nat) : Nat × Nat := if b = 0 then (e.1 + 1, e.2) else (e.1, e.2 + 1)

/-- An erase has ended in the array (15 R373, R374): counted, with WEAR_WARN at its bounds. The erase of a restore is no PAGE_WRITE of its own. -/
def State.eraseEnd (s : State) : State :=
  match s.store.phase with
  | .erasing true p false =>
    let a := 16 * pageWord p
    let s1 := s.mapStore fun x => { x with flash := flashErase x.flash a (a + 256), phase := .erasing true p true }
    if s.store.restoring then s1
    else
      let raw : Nat := match s.storeHead.map (·.kind) with
        | some (JobKind.pageWrite _ _ _) => 1
        | _ => 0
      let s2 := s1.mapStore fun x => { x with wear := x.wear.upd p fun v => { erases := v.erases + 1, raw := v.raw + BitVec.ofNat 32 raw } }
      s2.warnWear (s2.store.wear.getD p {}).erases.toNat (0x40 + p)
  | .erasing false b false =>
    let a := 16 * bankWord (b = 1)
    let s1 := s.mapStore fun x => { x with flash := flashErase x.flash a (a + 12288), phase := .erasing false b true, bankErases := bumpErase b x.bankErases }
    s1.warnWear (if b = 0 then s1.store.bankErases.1 else s1.store.bankErases.2) b
  | _ => s

/-- What follows an erase that has ended. -/
def State.afterErase (s : State) : State :=
  match s.store.jobs with
  | [] => s.mapStore fun x => { x with phase := .idle }
  | j :: _ =>
    match j.kind with
    | .pageErase _ => s.endStoreJob St.ok
    | .pageWrite p off data =>
      let b := if s.store.restoring then s.store.buffer else pageImage s.store.buffer data off
      s.startWords (pageWord p) (cutWords 16 b) 3 0
    | .bankErase _ => s.endStoreJob St.ok
    | .compaction refresh =>
      match s.store.comp with
      | some .eraseTarget => s.copyNext ((liveItems s.store.flash s.store.bankB).map fun i => (i.type, i.words s.store.flash s.store.bankB))
      | some .undo => s.compUndone
      | _ => s.compDone refresh
    | .records _ => s.mapStore fun x => { x with phase := .idle }
    | .format => s.mapStore fun x => { x with phase := .idle }

/-! ### The engine -/

/-- A pen reset stops a job at its atomic end (12 R294). -/
def StoreJob.stopped (j : StoreJob) : Bool := j.begun && (match j.owner with | some o => o.stop | none => false)

/-- With nothing in hand, the next operation begins: `k` jobs may end without one. -/
def State.nextOp : Nat → State → State
  | 0, s => s
  | k + 1, s =>
    match s.store.jobs with
    | [] => s
    | j :: _ =>
      let s1 := s.updHead fun j => { j with begun := true }
      match j.kind with
      | .records [] => State.nextOp k (s1.endStoreJob St.ok)
      | .records (r :: _) =>
        if j.stopped then State.nextOp k (s1.endStoreJob St.abandoned)
        else if s.store.failing then State.nextOp k (s1.endStoreJob St.storeFault)
        else if s.store.fits r.size then s1.startRecord r
        else State.nextOp k (s1.mapStore fun x => { x with jobs := { kind := .compaction false } :: x.jobs })
      | .pageWrite p _ _ => (s1.mapStore fun x => { x with buffer := flashBytes x.flash (16 * pageWord p) 256 }).startErase true p
      | .pageErase p => s1.startErase true p
      | .bankErase b => s1.startErase false b
      | .format => s1.startFormat
      | .compaction _ =>
        match s.store.comp with
        | none => s1.startCompaction
        | some .eraseSource => s1.startErase false (b2n s.store.target)
        | _ => s1

/-- The engine goes on where nothing is in hand. -/
def State.goOn (s : State) : State := if s.store.phase = .idle then State.nextOp (2 * s.store.jobs.length + 2) s else s

/-- A verified word: the injected stop (19 R436), the next word, or what follows the last. -/
def State.wordVerified (s : State) (w : Writing) : State :=
  let stop : Bool := match w.fault with
    | some (2, n) => w.idx + 1 = min n (w.words.length - 1)
    | _ => false
  if stop then
    { (s.mapStore fun x => { x with phase := .idle, halted := true }) with
      pow := { s.pow with softReset := some s.instant }
      rel := { s.rel with stopping := true } }.runAll s.instant
  else if w.idx + 1 < w.words.length then
    s.mapStore fun x => { x with phase := .writing { w with idx := w.idx + 1, issued := true, done := false } }
  else if w.kind = 0 then (s.recordDone w).goOn
  else if w.kind = 1 then (s.compWordsDone w).goOn
  else if w.kind = 4 then (s.endStoreJob St.ok).goOn
  else s.pageDone.goOn

/-- A last word that fails leaves no COMMIT, so what it ends is left invalid (15 R358): it reads erased (DESIGN CHOICE, log 95). -/
def State.dropCommit (s : State) (w : Writing) : State :=
  if w.kind ≠ 3 && w.idx + 1 = w.words.length then
    s.mapStore fun x => { x with flash := flashErase x.flash (16 * (w.base + w.idx)) (16 * (w.base + w.idx) + 16) }
  else s

/-- A word that did not verify. -/
def State.wordFailed (s0 : State) (w : Writing) : State :=
  let s := s0.dropCommit w
  if w.kind = 0 then (s.recordFailed w).goOn
  else if w.kind = 1 then (s.compWordsFailed w).goOn
  else if w.kind = 4 then (s.formatFailed w).goOn
  else (s.pageFailed w).goOn

/-- The slot's step on the word in flight: its verdict, which an injection may turn (19 R436). -/
def State.stepWord (s : State) (ok : Bool) : State :=
  let s1 := s.programEnd
  match s1.store.phase with
  | .writing w =>
    if !w.issued then s1.mapStore fun x => { x with phase := .writing { w with issued := true } }
    else
      let bad : Bool := match w.fault with
        | some (1, _) => true
        | _ => false
      if ok && !bad then s1.wordVerified w else s1.wordFailed { w with fault := if bad then none else w.fault }
  | _ => s1

/-! ### Timers (15 R356, R361, R362; 04 R99) -/

/-- A job of the engine's own. -/
def State.ownJob (s : State) (k : JobKind) : State := s.mapStore fun x => { x with jobs := x.jobs ++ [{ kind := k }] }

/-- A MODEL record is asked for. -/
def State.saveModel (s : State) : State := s.ownJob (.records [{ type := 0x02, payload := s.modelPayload s.mdl }])

/-- MODEL_SAVE hours have passed (04 R99). A MODEL_SAVE written meanwhile acts from the next expiry on (DESIGN CHOICE, log 80). -/
def State.modelTimer (s : State) : State :=
  if s.mdl.saveIn ≠ 0 then s else ({ s with mdl := { s.mdl with saveIn := 3600 * s.cfg.lp.modelSave } }).saveModel

/-- WEAR parts that have changed. -/
def Store.changedWear (x : Store) : List Nat := [0, 1].filter fun p => wearPayload x.wear p ≠ wearPayload x.wearWritten p

/-- A device hour of operation has passed: COUNTERS, the WEAR parts that changed, and what is due once an hour. -/
def State.hourly (s : State) : State :=
  if s.store.hourIn ≠ 0 then s
  else
    let recs : List RecReq := { type := 0x03, payload := s.store.life.bytes } ::
      s.store.changedWear.map fun p => { type := 0x07, payload := wearPayload s.store.wear p }
    (s.mapStore fun x => { x with hourIn := 3600, ageCheck := true, retryDue := x.failing }).ownJob (.records recs)

/-- The age of the active bank (15 R362). -/
def State.bankAge (s : State) : Nat :=
  match headerOf s.store.flash s.store.bankB with
  | some h => max (s.store.life.opSeconds.toNat - h.op) (match h.tai with | some t => if s.tod.valid then s.clk.seconds.toNat - t else 0 | none => 0)
  | none => 0

/-- The age check: at 4 device-years a refresh. -/
def State.refreshCheck (s : State) : State :=
  if !s.store.ageCheck then s
  else
    let s1 := s.mapStore fun x => { x with ageCheck := false }
    if 126144000 ≤ s.bankAge && !s.store.compacting then s1.ownJob (.compaction true) else s1

/-- The hourly retry of a compaction that has failed. -/
def State.compRetry (s : State) : State :=
  if s.store.retryDue && s.store.failing && !s.store.compacting then
    s.mapStore fun x => { x with retryDue := false, jobs := { kind := .compaction false } :: x.jobs }
  else s.mapStore fun x => { x with retryDue := false }

/-- A retry can only stand in front of a job that is not begun. -/
def State.compRetryIdle (s : State) : State := if s.store.phase = .idle then s.compRetry else s

/-- All of them. -/
def State.storeTimers (s : State) : State := s.hourly.modelTimer.refreshCheck.compRetryIdle

/-! ### The rows of the engine -/

/-- The engine's work in its slot. -/
def State.storeSlot (s : State) (ok : Bool) : State :=
  if s.store.halted then s
  else
    let s0 := s.storeTimers
    match s0.store.phase with
    | .writing _ => s0.stepWord ok
    | .erasing _ _ true => s0.afterErase.goOn
    | .erasing _ _ false => s0
    | .idle => s0.goOn

/-- Slot 10 (01 R17; 15): the previous word verified, the next issued. -/
def execStoreEngineSlot (verifyOk : Bool) (t : Nat) (s : State) : Host.Outcome State Fault Refusal := .next (s.inSlot 10 t fun s => s.storeSlot verifyOk)

/-- The flash has programmed the word in flight, in its own domain (01 R17; 15 R374). -/
def execFlashWordProgramEnd (t : Nat) (s : State) : Host.Outcome State Fault Refusal := .next (s.setNow t).programEnd

/-- The flash has ended the erase in progress (15 R374); a hot-set save has suspended it (15 R367). -/
def execFlashEraseEnd (t : Nat) (s : State) : Host.Outcome State Fault Refusal :=
  let s0 := s.setNow t
  .next (if s0.store.saving.isSome then s0 else s0.eraseEnd)

/-- The rows of the timers, each a part of the store slot's task (01 R18). -/
def execHourlyRecord (t : Nat) (s : State) : Host.Outcome State Fault Refusal := .next ((s.setNow t).inTask 10 State.hourly)
def execModelSaveTimer (s : State) : Host.Outcome State Fault Refusal := .next (s.inTask 10 State.modelTimer)
def execRefreshCheck (s : State) : Host.Outcome State Fault Refusal := .next (s.inTask 10 State.refreshCheck)
def execCompactionRetry (s : State) : Host.Outcome State Fault Refusal := .next (s.inTask 10 State.compRetryIdle)

/-- Compaction falls due (15 R357, R362): an append at the head does not fit, or a compaction heads the queue, with nothing in hand. -/
def State.compactionDue (s : State) : Bool :=
  s.store.phase = .idle && !s.store.halted &&
    (match s.store.jobs with
     | j :: _ =>
       (match j.kind with
        | .compaction _ => s.store.comp.isNone
        | .records (r :: _) => !j.stopped && !s.store.failing && !s.store.fits r.size
        | _ => false)
     | [] => false)

/-- The COMPACTION row: the engine begins it, in its slot. -/
def execCompaction (s : State) : Host.Outcome State Fault Refusal := .next (s.inTask 10 fun s => if s.compactionDue then s.goOn else s)

/-! ### The boundary (12 R297; 15 R359, R371) -/

/-- What a job that ended well commits: a model write (13 R311), the key (15 R371). -/
def State.jobEffect (s : State) (o : JobOwner) (st : BitVec 16) : State :=
  if st ≠ St.ok then s
  else if o.opcode = 0x2038 then { s with mdl := s.mdl.written o.params }.trimExtrap
  else if o.opcode = 0x7014 then { s with com := { s.com with newKey := some o.params } }
  else s

/-- Jobs that ended in the fold before: effects, journal buffers, and CMD_DONE due; a compaction's new bank becomes active. -/
def State.storeBoundary (s : State) : State :=
  let l := s.store.settling
  let s1 := forEach l (fun x s => s.jobEffect x.1 x.2) s
  let n := l.countP fun x => x.1.opcode ≠ 0x601C
  let s2 := s1.mapStore fun x => { x with settling := [], ended := x.ended ++ l, journals := x.journals - n }
  if s2.store.comp = some .switch then s2.switchBank else s2

/-! ### Pen resets (12 R293, R294) -/

/-- The store jobs of a pen as its reset finds them: the one in hand runs to its atomic end, a begun one that waits for a compaction ends at once, the
others are dropped. -/
def State.penResetStore (s : State) (p : Pen) : State :=
  let mine (j : StoreJob) : Bool := match j.owner with | some o => o.pen = p | none => false
  let mark (j : StoreJob) : StoreJob := { j with owner := j.owner.map fun o => { o with stop := true, reply := o.credit } }
  let inHand := s.store.phase ≠ .idle
  let keep := s.store.jobs.mapIdx fun i j => (i, j)
  let dead := keep.filter fun x => mine x.2 && !(x.1 = 0 && inHand)
  let ends := (dead.filter fun x => x.2.begun).filterMap fun x => x.2.owner.map fun o => ({ o with stop := true, reply := o.credit }, St.abandoned)
  s.mapStore fun x => { x with
    jobs := (keep.filter fun x => !(mine x.2 && !(x.1 = 0 && inHand))).map fun x => if mine x.2 then mark x.2 else x.2
    journals := x.journals - (dead.filter fun x => !x.2.begun).length
    settling := x.settling ++ ends }

/-- Jobs of a pen that no engine has begun and whose ACCEPTED has been posted: commands that the reset discards with no credit left to free. -/
def State.lostJobs (s : State) (p : Pen) : Nat :=
  s.store.jobs.countP fun j => !j.begun && (match j.owner with | some o => o.pen = p && !o.credit | none => false)

/-- A command of the pen is begun in the store engine. -/
def State.storeHolds (s : State) (p : Pen) : Bool :=
  (s.store.jobs.any fun j => match j.owner with | some o => o.pen = p | none => false) || s.store.settling.any fun x => x.1.pen = p

/-! ### The hot set (15 R367) -/

/-- A compaction's words as NPFAIL falls: it starts again (log 47); a whole INTENT stands, and after a whole header the target is the valid bank (log 95). -/
def State.cutCompaction (s : State) (whole : Bool) : State :=
  match s.store.comp with
  | some .header => s.mapStore fun x => { x with phase := .idle, comp := if whole then some .switch else none }
  | some .intent => s.mapStore fun x => { x with phase := .idle, append := if whole then x.append + 3 else afterInvalid x.append, comp := none }
  | _ => s.mapStore fun x => { x with phase := .idle, comp := none }

/-- The words in hand as NPFAIL falls: the word in flight ends; a record is abandoned, to be written again from its start, but one whose COMMIT so stands is
whole (log 95); a page's words resume where they stopped. -/
def State.cutWords (s : State) : State :=
  let s1 := s.programEnd
  match s1.store.phase with
  | .writing w =>
    let whole := w.issued && w.idx + 1 = w.words.length
    if w.kind = 0 then
      if whole then s1.recordDone w
      else s1.mapStore fun x => { x with phase := .idle, append := afterInvalid x.append, seqNow := none, gen := if x.gen = x.seqNow then none else x.gen }
    else if w.kind = 1 then s1.cutCompaction whole
    else s1
  | _ => s1

/-- What is in hand as NPFAIL falls (15 R367): an erase resumes where it stopped, and the image goes to the bank that recovery will keep: the target, once its
header stands (15, "When power fails during compaction"). -/
def State.cutStore (s : State) : State :=
  let s1 := s.cutWords
  if s1.store.comp = some .switch then s1.switchBank else s1

/-- The image, where the save is armed and the active bank has the room (log 47). -/
def State.imageFor (s : State) (free : Nat) : List (List Byte) :=
  if s.store.armed && 64 ≤ free && s.store.append + 32 ≤ 768 then imageWords (s.store.maxSeq + 1) s.hotSet else []

/-- The save begins. -/
def State.beginSave (s : State) : State :=
  let s1 := s.cutStore
  let img := s1.imageFor (768 - (if s1.store.bankB = s.store.bankB then s.store.append else s1.store.append))
  s1.mapStore fun x => { x with saving := some img }

/-- The words of an image that failed to verify, of those that `bad` names: its commit word is programmed only after every other has verified (15 R352, R366). -/
def badWords (bad : List Nat) : List Nat :=
  let l := (List.range 31).filter fun k => bad.contains k
  if l.isEmpty && bad.contains 31 then [31] else l

/-- The save ends: `bad` names the words that did not verify, each an event (15 R375). An image with such a word is left without its commit word. -/
def State.endSave (s : State) (bad : List Nat) : State :=
  match s.store.saving with
  | none => s
  | some [] => s.mapStore fun x => { x with saving := none }
  | some img =>
    let base := bankWord s.store.bankB + s.store.append
    let whole := (badWords bad).isEmpty
    let s1 := forEach (badWords bad) (fun k s => s.verifyFail 2 0xF0 (base + k)) s
    s1.mapStore fun x => { x with
      saving := none
      flash := flashProgram x.flash (16 * base) (if whole then img else img.dropLast).flatten
      append := if whole then x.append + 32 else afterInvalid x.append
      maxSeq := x.maxSeq + 1
      life := if whole then { x.life with saves := x.life.saves + 1 } else x.life }

/-- HOTSET_SAVED, as a save that wrote an image ends with power held (15 R367, R375). -/
def State.savedEvent (s : State) (wrote : Bool) : State := s.raiseIf wrote Ev.hotsetSaved (s.store.maxSeq.toNat % 2 ^ 31)

/-! ### Opcodes (13 R319) -/

/-- A store command waits for a journal buffer, for its pen's job, and for a compaction (12 R284, R297; 15 R359); else its job is queued and ACCEPTED
follows with `data`. -/
def storeServe (q : Call) (op : BitVec 16) (s : State) (data : List Byte) (job : StoreJob) : Serve :=
  let busy := s.store.jobs.any fun j => match j.owner with | some o => o.pen = q.pen | none => false
  if 4 ≤ s.store.journals || busy || s.store.compacting then Serve.stay
  else
    let o : JobOwner := { pen := q.pen, tag := q.tag, cls := q.cls, opcode := op, params := q.params }
    { status := St.accepted
      body := .bytes data
      act := fun s => s.mapStore fun x => { x with jobs := x.jobs ++ [{ job with owner := some o }], journals := x.journals + 1 } }

/-- The ten parts of a saved configuration, as they are asked for (15 R369). -/
def configParts : List RecReq := (List.range 10).map fun k => { type := 0x01, payload := le 4 0 ++ le 1 k ++ le 1 10 ++ le 2 0, genAt := some 0 }

/-- The record of a PATCH_WRITE chunk (15 R370). -/
def patchRecord (q : Call) (s : State) : RecReq :=
  { type := 0x06
    payload := le 1 (fld q.params 0 1) ++ le 1 (fld q.params 1 1) ++ le 2 0 ++ le 4 s.store.patchGen.toNat ++ q.params.drop 4
    genAt := if fld q.params 0 1 = 0 then some 4 else none }

/-- The chunk expected after one of PATCH_WRITE (15 R370). -/
def patchAfter (q : Call) : Option (Nat × Nat) :=
  if fld q.params 0 1 + 1 < fld q.params 1 1 then some (fld q.params 0 1 + 1, fld q.params 1 1) else none

/-- The checks of CONFIG_SAVE (15 R369): the settings applied at the present fold's boundary. -/
def checkConfigSave (q : Call) (s : State) : Serve :=
  let p := q.params
  checks [
    (p.length = 4, St.badLength),
    (q.pen = 0, St.denied),
    (fld p 0 1 ≤ 1 && zeros p 1 3, St.badParam)]
    (storeServe q 0x9010 s [] { kind := .records configParts, snap := some { s.cfg with autostart := fld p 0 1 = 1 } })

/-- The checks of PAGE_WRITE (15 R372; 17 R396). -/
def checkPageWrite (q : Call) (s : State) : Serve :=
  let p := q.params
  checks [
    (inRange p.length 5 260, St.badLength),
    (fld p 0 1 < 32, St.badParam),
    (s.owns q.pen (0x40 + fld p 0 1), St.denied),
    (zeros p 2 2, St.badParam),
    (!s.writeProtect, St.locked)]
    (storeServe q 0x9012 s [] { kind := .pageWrite (fld p 0 1) (fld p 1 1) (p.drop 4) })

/-- The checks of PAGE_ERASE. -/
def checkPageErase (q : Call) (s : State) : Serve :=
  let p := q.params
  checks [
    (p.length = 1, St.badLength),
    (fld p 0 1 < 32, St.badParam),
    (s.owns q.pen (0x40 + fld p 0 1), St.denied),
    (!s.writeProtect, St.locked)]
    (storeServe q 0x9014 s [] { kind := .pageErase (fld p 0 1) })

/-- A write or an erase of a page is in progress. -/
def Store.pageBusy (x : Store) (n : Nat) : Bool := x.jobs.any fun j => match j.kind with
  | .pageWrite p _ _ => p = n
  | .pageErase p => p = n
  | _ => false

/-- The checks of PAGE_READ, from the snapshot. -/
def checkPageRead (q : Call) (s : State) : Serve :=
  let p := q.params
  let n := fld p 0 1
  checks [
    (p.length = 4, St.badLength),
    (n < 32, St.badParam),
    (s.owns q.pen (0x40 + n), St.denied),
    (inRange (fld p 2 2) 1 256, St.badParam),
    (!s.store.pageBusy n, St.storeBusy)]
    (Serve.data ((List.range (fld p 2 2)).map fun i => flashRead s.snap.flash (16 * pageWord n + (fld p 1 1 + i) % 256)))

/-- STORE_STATUS. -/
def State.storeStatusBytes (s : State) : List Byte :=
  let x := s.store
  let run : Option Bool := match x.jobs with
    | j :: _ => (match j.kind with | .compaction r => if x.comp.isSome then some r else none | _ => none)
    | [] => none
  le 1 (b2n x.bankB) ++ le 1 (b2n x.lostInterval + 2 * b2n (run = some false) + 4 * b2n (run = some true) + 8 * b2n s.writeProtect) ++ le 2 0 ++
    le 4 ((768 - x.append) * 16) ++ le 4 (s.bankAge / 3600) ++ le 4 x.bankErases.1 ++ le 4 x.bankErases.2 ++ le 6 x.life.opSeconds.toNat ++ le 2 0

/-- PAGE_WEAR, from the snapshot. -/
def checkPageWear (q : Call) (s : State) : Serve :=
  checks [(q.params.length = 0, St.badLength)] (Serve.data (s.snap.wear.toList.flatMap fun w => le 4 w.erases.toNat ++ le 4 w.raw.toNat))

/-- The checks of PATCH_WRITE (15 R370): chunks in order, TOTAL at most 16 and that of chunk 0, all but the last of 224 bytes. -/
def checkPatchWrite (q : Call) (s : State) : Serve :=
  let p := q.params
  let k := fld p 0 1
  let n := fld p 1 1
  let sv := storeServe q 0x901C s [] { kind := .records [patchRecord q s] }
  checks [
    (inRange p.length 5 228, St.badLength),
    (q.pen = 0, St.denied),
    (zeros p 2 2 && inRange n 1 16 && k < n, St.badParam),
    (k = 0 || s.store.patchNext = some (k, n), St.badParam),
    (k + 1 = n || p.length = 228, St.badParam)]
    (if sv.wait then sv else { sv with act := fun s => (sv.act s).mapStore fun x => { x with patchNext := patchAfter q } })

/-- The checks of SSCT_SAVE (08 R193): GEN is the SEQ that part 0, of 188 bytes, takes as the queue stands (log 46). -/
def checkSsctSave (q : Call) (s : State) : Serve :=
  checks [(q.params.length = 0, St.badLength), (q.pen = 0, St.denied)]
    (storeServe q 0x5016 s (le 4 (s.store.seqFor 188).toNat) { kind := .records s.ssctRecords })

/-- The checks of MODEL_WRITE (04 R95, R99; 13 R311, R312). -/
def checkModelWrite (q : Call) (s : State) : Serve :=
  let p := q.params
  let f := fld p 46 1
  checks [
    (p.length = 48, St.badLength),
    (q.pen = 0, St.denied),
    (f < 4 && zeros p 47 1, St.badParam),
    (if bit f 1 then fldI p 42 2 ≤ fldI p 44 2 else zeros p 42 4, St.badParam),
    (s.lp.state ≠ .holdover, St.locked)]
    (storeServe q 0x2038 s [] { kind := .records [{ type := 0x02, payload := s.modelPayload (s.mdl.written p) }] })

/-- The checks of COMMONS_KEY (15 R371). -/
def checkCommonsKey (q : Call) (s : State) : Serve :=
  checks [(q.params.length = 16, St.badLength), (q.pen = 0, St.denied)]
    (storeServe q 0x7014 s [] { kind := .records [{ type := 0x05, payload := le 4 0 ++ q.params }] })

/-- The checks of STORE_INJECT (19 R436), and its commit. -/
def checkStoreInject (q : Call) (_s : State) : Serve :=
  let p := q.params
  checks [(p.length = 2, St.badLength), (q.pen = 0, St.denied), (fld p 0 1 ≤ 2 && inRange (fld p 1 1) 1 17, St.badParam)] Serve.stage
def commitStoreInject (q : Call) (s : State) : State :=
  s.mapStore fun x => { x with inject := if fld q.params 0 1 = 0 then none else some (fld q.params 0 1, fld q.params 1 1) }

end Sys2Proof.Machine
end

