-- ==== Sys2Proof/Machine/Background.lean ====
section
/-! DEFINITION. Work beneath the foreground (16): scrub, calibration, telemetry, with RF_CAL (13 R316) and TELEM_READ (13 R325). -/

namespace Sys2Proof.Machine

/-- The background state changed by `f`. -/
def State.mapBg (s : State) (f : Background → Background) : State := { s with bg := f s.bg }

/-! ### Scrub (16 R377–R381) -/

/-- The region of an SRAM word (16 R377). -/
def sramRegionOf (w : Nat) : Nat := Config.sramRegion w % 4

/-- The bits of a word that soft errors have turned. -/
def Background.flipped (b : Background) (w : Nat) : List Nat := (b.flips.filter (·.1 = w)).map (·.2)

/-- A soft error turns a bit; a second one on it turns it back. -/
def Background.strike (b : Background) (w k : Nat) : Background :=
  { b with flips := if b.flips.contains (w, k) then b.flips.filter (· ≠ (w, k)) else b.flips ++ [(w, k)] }

/-- A word is written anew: no bit of it is turned. -/
def Background.rewrite (b : Background) (w : Nat) : Background := { b with flips := b.flips.filter (·.1 ≠ w) }

/-- Place `k` of a list changed by `f`. -/
def blankAt {α : Type} (l : List α) (k : Nat) (f : α → α) : List α := l.modify k f

/-- A region-2 word is rewritten as zero: the item that it lies in carries a zero word (16 R380). -/
def State.zeroWord (s : State) (w : Nat) : State :=
  match Config.sramItem w with
  | .reply p k i => s.updIo p fun c => { c with replies := blankAt c.replies k fun r => { r with blank := r.blank ++ [i] } }
  | .reject i => { s with host := { s.host with reject := s.host.reject.map fun r => { r with blank := r.blank ++ [i] } } }
  | .event k i => { s with ev := { s.ev with queue := blankAt s.ev.queue k fun o => { o with blank := o.blank ++ [i] } } }
  | .telemetry k i => s.mapBg fun b => { b with ring := blankAt b.ring k fun e => blankWords [i] e }
  | .retired k i => { s with tally := { s.tally with ring := blankAt s.tally.ring k fun e => { e with blank := e.blank ++ [i] } } }

/-! #### The configuration shadow (16 R377): the settings it copies, each by the opcode that writes it and what names it in the packet -/

/-- The shadowed settings (log 21). -/
def shadowed : List (Nat × Nat) :=
  ((List.range 6).map fun i => (0x1010, i)) ++ ((List.range 8).map fun i => (0x1012, i)) ++ ((List.range 8).map fun i => (0x1014, i)) ++
    [(0x2010, 0), (0x2020, 0), (0x2022, 0), (0x3010, 0)] ++ ((List.range 4).map fun i => (0x3012, i)) ++ ((List.range 16).map fun i => (0x3014, i)) ++
    [(0x3022, 0)] ++ ((List.range 16).map fun i => (0x4010, i)) ++ [(0x4014, 0), (0x5010, 0), (0x6010, 0)] ++
    ((List.range 64).map fun i => (0x6012, i)) ++ [(0x7010, 0), (0x7012, 0), (0x8010, 0)] ++ ((List.range 288).map fun i => (0xA010, i)) ++
    ((List.range 24).map fun i => (0xB010, i)) ++ ((List.range 96).map fun i => (0xC010, i))

/-- The setting that shadow word `n` copies. -/
def shadowPieceOf (n : Nat) : Nat × Nat := shadowed.getD (Config.shadowPiece n % shadowed.length) (0, 0)

/-- The bit of a detail word that tells a demand check. -/
def demandBit (demand : Bool) : Nat := 2 ^ 31 * b2n demand

/-- A check of an SRAM word (16 R379, R380): one turned bit is corrected; more are uncorrectable, and what follows is the region's: 2 the word as zero, 3 the shadow
word rebuilt from the live setting by `rebuild`, 0 and 1 nothing. -/
def State.checkWord (rebuild : Nat → State → State) (w : Nat) (demand : Bool) (s : State) : State :=
  match s.bg.flipped w with
  | [] => s
  | [k] => (s.mapBg fun b => b.rewrite w).raise Ev.scrubCorrected (w % 2 ^ 15 + 2 ^ 16 * (k % 72) + 2 ^ 24 * sramRegionOf w + demandBit demand)
  | _ =>
    let s1 := s.raise Ev.scrubUncorrectable (w % 2 ^ 15 + 2 ^ 24 * sramRegionOf w + demandBit demand)
    if sramRegionOf w = 2 then (s1.mapBg fun b => b.rewrite w).zeroWord w
    else if sramRegionOf w = 3 then rebuild w (s1.mapBg fun b => b.rewrite w)
    else s1

/-! ### Calibration (16 R382–R385; 09 R218, R219) -/

/-- Steps of a calibration in job portions: 4 ms, 1 ms, at most 300 µs, 0.5 ms (09 R218). -/
def calFolds (w : Nat) : Nat := if w = 0 then 32 else if w = 1 then 8 else if w = 3 then 4 else 3

/-- The MAC has no receive or transmit slot within `d` folds (09 R218, log 48); a beacon's begins with its preamble, 48 bits before its SFD's end. -/
def State.macFree (s : State) (d : Nat) : Bool :=
  let soon := s.instant + d * foldFs + 48 * bitFs s.rf.act.rate
  s.com.state = .off ||
    (s.com.queue.isEmpty && s.com.onAir.isNone && s.com.requests.isEmpty && s.com.owed.isEmpty &&
      s.com.reqFolds.all (fun k => s.clk.absFold.toNat + d < k) &&
      (match s.com.expect with | some x => soon < x.1 | none => true) &&
      (s.com.state ≠ .master || (List.range (d + 1)).all fun k => (s.deviceFold + k) % s.periodFolds ≠ s.cfg.com.beaconFold))

/-- A calibration of `d` folds may start now (09 R218). -/
def State.calMayStart (s : State) (d : Nat) : Bool :=
  !s.rfBusy && s.rf.hop.isNone && s.rf.hostTx.isNone && s.rf.toneNext.isNone && (s.rf.state = .idle || (s.rf.state = .rx && s.macOn)) && s.macFree d

/-- The job at the head changed. -/
def State.updCal (s : State) (f : CalJob → CalJob) : State := s.mapBg fun b => { b with calQueue := upd b.calQueue 0 f }

/-- Which of the four calibrations a code names, and the entry of a synthesiser's, taken as the calibration starts. -/
def calKind (w : Nat) : Nat := if 16 ≤ w then 2 else w
def State.calEntry (s : State) (w : Nat) : Nat := if 16 ≤ w then w - 16 else s.cfg.rf.chan

/-- The job portion: the head starts where it may, and runs one step (16 R385). -/
def State.calStep (s : State) : State :=
  match s.bg.calQueue with
  | [] => s
  | j :: _ =>
    match j.which with
    | [] => s
    | w :: _ =>
      if j.started then s.updCal fun j => { j with left := j.left - 1 }
      else if s.calMayStart (calFolds w) then
        let s1 := (s.updCal fun j => { j with started := true, begun := true, left := calFolds w - 1, entry := s.calEntry w }).mapBg fun b => { b with acc := { b.acc with radioCal := true } }
        { s1 with rf := { s1.rf with state := .cal } }
      else s

/-- The TDC portion, in in-second folds 0–7 (16 R382, R383): one of eight steps, which a suspension interrupts and the next such fold resumes (16 R376). -/
def State.tdcStep (s : State) (meas : Nat) : State :=
  if 8 ≤ s.clk.inSec || 8 ≤ s.bg.tdcMeas.length then s else s.mapBg fun b => { b with tdcMeas := b.tdcMeas ++ [meas] }

/-- Slot 12: supervision of the tuning voltage, the TDC step, the job step. -/
def State.calSlot (s : State) (vtuneMargin : Nat) (tdcMeas : Nat) : State :=
  let s1 := if vtuneMargin < 50 then s.mapBg fun b => { b with acc := { b.acc with vtuneLow := true } } else s
  (s1.tdcStep tdcMeas).calStep

/-- The row. -/
def execCalibrationSlot (vtuneMargin : Nat) (tdcMeas : Nat) (t : Nat) (s : State) : Host.Outcome State Fault Refusal := .next (s.inSlot 12 t fun s => s.calSlot vtuneMargin tdcMeas)

/-- The boundary of fold 8 commits the new scale to the eight channels, or discards one outside its limits (16 R383). -/
def State.tdcBoundary (s : State) : State :=
  if s.clk.inSec ≠ 8 || s.bg.tdcMeas.length < 8 then s
  else
    let new := Vec.ofFn 8 (Config.tdcScale s.bg.tdcMeas)
    let ok := new.toList.all Config.tdcInLimits
    s.mapBg fun b => { b with tdcMeas := [], tdcScale := if ok then new else b.tdcScale, acc := { b.acc with tdcFail := b.acc.tdcFail || !ok } }

/-- A radio calibration falls due (09 R218): never run, 10 K away, or 15 minutes since; queued once. -/
def State.calDue (s : State) (c : Nat) : State :=
  let due : Bool := match s.rf.lastCal.getD c none with
    | none => true
    | some p => 1000 ≤ (s.lp.onDie - p.1).natAbs || p.2 + 900 ≤ s.clk.secIdx
  let queued := s.bg.calQueue.any fun j => j.owner.isNone && j.which.contains c
  if due && !queued then s.mapBg fun b => { b with calQueue := b.calQueue ++ [{ which := [c] }] } else s

/-- The RADIO_CAL_DUE row: a part of the calibration slot (01 R18). -/
def execRadioCalDue (cal : Fin 4) (s : State) : Host.Outcome State Fault Refusal := .next (s.inTask 12 fun s => s.calDue cal.val)

/-- The end of the calibration in hand, where its steps have run: its result waits for the boundary (01 R24), then the rest of its job, or the job's end
(12 R284). -/
def State.calEnd (s : State) (ok : Bool) (cal : SynthCal) (trim : List Int) : State :=
  match s.bg.calQueue with
  | [] => s
  | j :: r =>
    match j.which with
    | [] => s
    | w :: rest =>
      if !j.started || j.left ≠ 0 then s
      else
        let s1 := s.mapBg fun b => { b with calDone := b.calDone ++ [{ kind := calKind w, entry := j.entry, ok := ok, cal := cal, trim := trim }] }
        let s2 :=
          if rest.isEmpty then
            (s1.mapBg fun b => { b with calQueue := r }).mapStore fun x => { x with settling := x.settling ++ (j.owner.map fun o => (o, St.ok)).toList }
          else s1.mapBg fun b => { b with calQueue := { j with which := rest, started := false } :: r }
        s2.restRf.takeDeferred

/-- The boundary's part: calibrations that have finished go live (01 R24; 09 R219). -/
def State.calBoundary (s : State) : State :=
  forEach s.bg.calDone (fun d s => s.calResult d.kind d.entry d.ok d.cal d.trim) (s.mapBg fun b => { b with calDone := [] })

/-- The RADIO_CALIBRATION_END row. -/
def execRadioCalibrationEnd (inLimits : Bool) (f : CalFigures) (t : Nat) (s : State) : Host.Outcome State Fault Refusal :=
  .next ((s.setNow t).ifScheduled fun s => s.calEnd inLimits f.cal f.trim)

/-- A job of a pen. -/
def CalJob.ofPen (j : CalJob) (p : Pen) : Bool := match j.owner with | some o => o.pen = p | none => false

/-- The last step of the calibration in hand has run: only its result is still to come. -/
def CalJob.ran (j : CalJob) : Bool := j.started && j.left = 0

/-- What a pen reset leaves of a job (12 R294): a calibration whose steps have all run still gives its result, with the job's own end where it is the job's last. -/
def CalJob.afterReset (j : CalJob) : Option CalJob :=
  if !j.ran then none
  else if j.which.length = 1 then some { j with owner := j.owner.map fun o => { o with stop := true, reply := o.credit } }
  else some { j with owner := none, which := j.which.take 1 }

/-- A pen reset's part in the calibration engine (12 R293, R294): a begun job ends after its step with its previous results kept, the others go; one whose every
step has run ends with OK. -/
def State.penResetCal (s : State) (p : Pen) : State :=
  let mine (j : CalJob) : Bool := j.ofPen p
  let ends := (s.bg.calQueue.filter fun j => mine j && j.begun && !(j.ran && j.which.length = 1)).filterMap fun j => j.owner.map fun o => ({ o with stop := true, reply := o.credit }, St.abandoned)
  let running := match s.bg.calQueue with
    | j :: _ => mine j && j.started && !j.ran
    | [] => false
  let s1 := (s.mapBg fun b => { b with calQueue := b.calQueue.filterMap fun j => if mine j then j.afterReset else some j }).mapStore fun x => { x with settling := x.settling ++ ends }
  if running then s1.restRf.takeDeferred else s1

/-- RF_CAL jobs of a pen that the engine has not begun and whose ACCEPTED has been posted. -/
def State.lostCals (s : State) (p : Pen) : Nat :=
  s.bg.calQueue.countP fun j => !j.begun && (match j.owner with | some o => o.pen = p && !o.credit | none => false)

/-- The checks of RF_CAL (13 R316): it waits while its pen has a job in the engine (12 R284). -/
def checkRfCal (q : Call) (s : State) : Serve :=
  let w := fld q.params 0 1
  let busy := s.bg.calQueue.any fun j => j.ofPen q.pen
  let o : JobOwner := { pen := q.pen, tag := q.tag, cls := q.cls, opcode := 0x601C }
  checks [
    (q.params.length = 1, St.badLength),
    (s.owns q.pen 0x30, St.denied),
    (inRange w 1 15, St.badParam)]
    (if busy then Serve.stay
     else { status := St.accepted
            act := fun s => s.mapBg fun b => { b with calQueue := b.calQueue ++ [{ owner := some o, which := (List.range 4).filter fun k => bit w k }] } })

/-! ### Telemetry (16 R386, R387) -/

/-- The mean of an analog quantity over the second. -/
def TelemAcc.mean (a : TelemAcc) (k : Nat) : Int := let n := a.counts.getD k 0; if n = 0 then 0 else divNear (a.sums.getD k 0) n

/-- A count of the second, saturating at 0xFFFF. -/
def perSecond (now base : BitVec 32) : Nat := min 65535 (now - base).toNat

/-- The entry of the second that closes at this boundary, which device seconds `sec` describes. -/
def State.telemEntry (s : State) (sec : Nat) : List Byte :=
  let a := s.bg.acc
  let flags := b2n (s.lp.state = .holdover) + 2 * b2n s.tod.valid + 4 * b2n s.lp.tsense.isSome + 8 * b2n a.vtuneLow + 16 * b2n a.tdcFail +
    32 * b2n a.radioCal
  le 6 sec ++ le 2 flags ++ leI 2 (a.mean 0) ++ (if s.lp.tsense.isSome then leI 2 (a.mean 1) else le 2 0x8000) ++ leI 2 s.lp.teffCenti ++
    ((List.range 8).flatMap fun k => leI 2 (a.mean (k + 2))) ++ le 2 0 ++
    leI 6 (if a.dcoN = 0 then 0 else divNear a.dcoSum a.dcoN) ++ le 4 (if a.errN = 0 then 0 else min (2 ^ 32 - 1) (isqrt (a.errSq / a.errN))) ++
    le 4 s.uncNs ++ le 1 (s.lp.state.code + 16 * optIdx s.sel.bell) ++ (match s.com.rssi with | some r => leI 1 r | none => le 1 0x80) ++
    le 2 (perSecond s.com.cnt.accepted a.beacons) ++ le 2 (perSecond s.com.cnt.ccaFail a.cca) ++ le 2 (perSecond s.rf.dropped a.rxDrop) ++
    le 2 (min 65535 ((s.rf.txTime - a.txTime).toNat / 100)) ++ le 2 (perSecond (s.ev.srcs.getD Ev.scrubCorrected {}).count a.scrub) ++ leI 2 (a.mean 10)

/-- The next second's figures begin. -/
def State.telemFresh (s : State) : TelemAcc :=
  { turn := s.bg.acc.turn, beacons := s.com.cnt.accepted, cca := s.com.cnt.ccaFail, rxDrop := s.rf.dropped, txTime := s.rf.txTime
    scrub := (s.ev.srcs.getD Ev.scrubCorrected {}).count, radioCal := s.calRunning || s.rf.hopCal }

/-- The boundary's part: the word and the error of the fold that has ended join its second; at a second boundary the entry closes, `sec` being the seconds just
ended. -/
def State.telemBoundary (s : State) (sec : Nat) : State :=
  let s1 := s.mapBg fun b => { b with acc := { b.acc with
    dcoSum := b.acc.dcoSum + s.lp.dcoWas
    dcoN := b.acc.dcoN + 1
    errSq := b.acc.errSq + (match s.lp.err with | some e => e.natAbs * e.natAbs | none => 0)
    errN := b.acc.errN + b2n s.lp.err.isSome } }
  if s.clk.inSec = 0 then s1.mapBg fun b => { b with closing := some (s1.telemEntry sec), acc := s1.telemFresh } else s1

/-- An entry joins the ring; a full ring loses its oldest, counted where it was newer than the read mark (16 R387). -/
def State.appendTelem (s : State) (e : List Byte) : State :=
  let b := s.bg
  if b.ring.length < 64 then s.mapBg fun b => { b with ring := b.ring ++ [e] }
  else
    let unread := b.readMark ≤ b.ringBase
    let lost := if unread then b.lost + 1 else b.lost
    (s.mapBg fun b => { b with ring := b.ring.drop 1 ++ [e], ringBase := b.ringBase + 1, lost := lost }).raiseIf unread Ev.telemOverwrite lost.toNat

/-- Slot 15: one analog sample in turn, and the entry of the second before: in fold 0, or where that fold's slot did not run, in the next to run (16 R376,
R386). -/
def State.telemSlot (s : State) (sample : Int) : State :=
  let s1 := s.mapBg fun b =>
    let k := b.acc.turn
    { b with acc := { b.acc with sums := upd b.acc.sums k (· + sample), counts := upd b.acc.counts k (· + 1), turn := (k + 1) % 11 } }
  match s1.bg.closing with
  | some e => (s1.mapBg fun b => { b with closing := none }).appendTelem e
  | none => s1

/-- The row. -/
def execTelemetrySlot (sample : Int) (t : Nat) (s : State) : Host.Outcome State Fault Refusal := .next (s.inSlot 15 t fun s => s.telemSlot sample)

/-- The checks of TELEM_READ, from the snapshot; `mark` is one past the newest entry it returns (16 R387). -/
def checkTelemRead (q : Call) (s : State) : Serve :=
  let p := q.params
  let b := s.snap.bg
  let l := (b.ring.drop (fld p 0 1)).take (fld p 1 1)
  checks [(p.length = 2, St.badLength), (fld p 0 1 ≤ 63 && inRange (fld p 1 1) 1 16, St.badParam)]
    { body := .bytes (le 4 b.lost.toNat ++ le 1 b.ring.length ++ le 1 l.length ++ le 2 0 ++ l.flatten)
      commit := true
      mark := if l.isEmpty then 0 else b.ringBase + fld p 0 1 + l.length }

/-- TELEM_READ committed: the read mark. -/
def commitTelemRead (mark : Nat) (s : State) : State := s.mapBg fun b => { b with readMark := max b.readMark mark }

end Sys2Proof.Machine
end

