-- ==== Sys2Proof/Machine/PowerOps.lean ====
section
/-! DEFINITION. Power, reset and start-up (18): power states, SLEEP and wake, NPFAIL, the reset causes, the boot sequence with the store's recovery
(15 R363–R368), and the system opcodes of 13 R308. -/

namespace Sys2Proof.Machine

/-! ### Release of outputs (18 R419) -/

/-- APLL_LOCK was 1 at the boundary before: the lock is committed at one boundary, and release takes effect at the next (18, worked example; log 90). -/
def State.lockStands (s : State) : Bool := s.lp.aplLock && (match s.lp.lockFold with | some k => k < s.clk.absFold.toNat | none => false)

/-- Release takes effect once it is ordered, or the snapshot carries AUTOSTART, and the APLL is locked. -/
def State.releaseOutputs (s : State) : State :=
  if s.rel.released || !(s.rel.ordered || s.cfg.autostart) || !s.lockStands then s
  else ({ s with rel := { s.rel with released := true } }).runAll s.foldStart

/-- The row: a boundary's own work (18 R419). -/
def execOutputReleaseTakesEffect (s : State) : Host.Outcome State Fault Refusal := .next (if s.atBoundary then s.releaseOutputs else s)

/-- The checks of OUTPUTS_RELEASE, and its commit. -/
def checkOutputsRelease (q : Call) (_s : State) : Serve := checks [(q.params.length = 0, St.badLength), (q.pen = 0, St.denied)] Serve.stage
def commitOutputsRelease (_q : Call) (s : State) : State := { s with rel := { s.rel with ordered := true } }

/-! ### Power states (18 R422–R424) -/

/-- QUIET_OFF outputs stop, or are let run again (06 R150; 18 R423). -/
def State.quietOutputs (s : State) (off : Bool) : State :=
  forEach (List.range 16) (fun o s =>
    let s1 := s.updOut o fun x => { x with quietOff := off && (s.outCfg o).quietOff }
    s1.setRunning o s1.foldStart false) s

/-- RUN from another state. -/
def State.enterRun (s : State) : State :=
  let s1 := { s with pow := { s.pow with state := .run } }
  ((s1.quietOutputs false).commonsWake).radioWake

/-- QUIET. -/
def State.enterQuiet (s : State) : State :=
  let s1 := { s with pow := { s.pow with state := .quiet } }
  ((s1.commonsQuiet).radioQuiet).quietOutputs true

/-- The entry to SLEEP at its committing boundary (18 R424): the freeze, which `resolveDpll` commits, the radio, the outputs; the rest waits until they are
low. -/
def State.beginSleep (s : State) : State :=
  let s1 := { s with
    pow := { s.pow with sleepEntry := true, sleepFrom := s.foldStart, from_ := s.pow.state }
    rel := { s.rel with stopping := true } }
  ((s1.commonsQuiet).radioQuiet).runAll s1.foldStart

/-- POWER_STATE committed. -/
def commitPowerState (q : Call) (s : State) : State :=
  match fld q.params 0 1 with
  | 0 => if s.pow.state = .run then s else s.enterRun
  | 1 => if s.pow.state = .quiet then s else s.enterQuiet
  | _ => s.beginSleep

/-- A command is in progress in a shared engine, or a compaction runs (18 R424). -/
def State.engineBusy (s : State) : Bool :=
  s.store.compacting || (s.store.jobs.any fun j => j.owner.isSome) || s.bg.calQueue.any fun j => j.owner.isSome && j.begun

/-- The checks of POWER_STATE (13 R308; 18 R424). -/
def checkPowerState (q : Call) (s : State) : Serve :=
  checks [
    (q.params.length = 1, St.badLength),
    (q.pen = 0, St.denied),
    (fld q.params 0 1 ≤ 2, St.badParam),
    (fld q.params 0 1 ≠ 2 || !((s.tally.entries.any fun e => e.status = .applying) || s.engineBusy), St.locked)]
    Serve.stage

/-- The end of the entry to SLEEP: an output that is still high is cut, the drove goes off, the hot set is saved with power held, pins take their SLEEP
behaviour, the clocks stop (17 R405; 18 R424). -/
def State.enterSleep (s : State) (bad : List Nat) : State :=
  let s1 := (s.droveOff .hiZ).beginSave
  let wrote := s1.store.saving ≠ some []
  let s2 := (s1.endSave bad).savedEvent wrote
  let latch (n : Nat) (p : PinSt) : PinSt := { p with hold := s2.pinLevel n }
  let cut (x : Out) : Out := { x with lowAt := min x.lowAt s.instant }
  let s3 := { s2 with pins := s2.pins.mapIdx latch, outs := s2.outs.map cut }
  { s3 with pow := { s3.pow with state := .sleep, sleepEntry := false, pinsAsleep := true } }

/-- SLEEP may be entered: the front end is off, and every output is low or 1 s has passed (18 R424). -/
def State.mayEnterSleep (s : State) : Bool :=
  s.pow.sleepEntry && !s.pow.suspended && s.rf.state = .off && (s.allLow || s.pow.sleepFrom + secondFs ≤ s.instant)

/-- The SLEEP_ENTRY row. -/
def execSleepEntry (e : SleepEnd) (s : State) : Host.Outcome State Fault Refusal :=
  let s0 := s.setNow e.t
  .next (if s0.mayEnterSleep then s0.enterSleep e.bad else s0)

/-- `n` folds pass (01 R15; 07 R167; 15 R364; 18 R426): the counters, the sum of the words in force, the folds of a HOLDOVER episode. -/
def State.passFolds (s : State) (n : Nat) : State :=
  let k := (s.clk.inSec + n) / 8000
  let c := { s.clk with
    absFold := s.clk.absFold + BitVec.ofNat 64 n
    inSec := (s.clk.inSec + n) % 8000
    seconds := s.clk.seconds + BitVec.ofNat 48 k
    secIdx := s.clk.secIdx + k }
  let l := s.store.life
  let word := s.lp.wordSum + n * s.lp.dco
  { s with
    clk := c
    lp := { s.lp with
      wordSum := word
      wordMark := if k = 0 then s.lp.wordMark else word
      meanWord := if k = 0 then s.lp.meanWord else divNear (word - s.lp.wordMark) 8000
      episode := if s.lp.state = .holdover then s.lp.episode + n else s.lp.episode }
    mdl := { s.mdl with oscAge := s.mdl.oscAge + BitVec.ofNat 48 k, saveIn := s.mdl.saveIn - k }
    store := { s.store with
      hourIn := s.store.hourIn - k
      life := { l with
        opSeconds := l.opSeconds + BitVec.ofNat 48 k
        holdSeconds := if s.lp.state = .holdover then l.holdSeconds + BitVec.ofNat 48 k else l.holdSeconds } } }

/-- A candidate is disqualified by the wake with cause LOS (18 R426). -/
def State.loseCandidate (s : State) (i : Nat) : State :=
  let s1 := s.updCand i fun c => { c with
    active := false
    late := {}
    wasActive := none
    gate := none
    gateEnd := none
    sample := none
    newSample := false
    meas := { removed := c.meas.removed + c.late.removed }
    latched := {} }
  s1.disqualify i 1

/-- The loops at a wake, `interval` fs having passed (18 R426): HOLDOVER goes on with 2 % of the interval in U in place of its own growth, or, where the DPLL
has never been locked, ends in FREERUN (04 R102), but not while HELD keeps it in HOLDOVER (04 R82; DEDUCED, log 96); the APLL is to lock again (04 R79). -/
def State.wakeLoops (s : State) (interval : Nat) : State :=
  let s1 := s.awaitLock s.instant
  let u := satFs (s1.lp.unc + (interval / 50 : Nat))
  let free := !s1.lp.everLocked && !s1.lp.held
  { s1 with
    lp := { s1.lp with
      state := if free then .freerun else .holdover
      unc := if free then fsMax else u
      grown := s1.lp.episode
      frozen := false
      lastEpisode := if free && s1.lp.state = .holdover then (s1.lp.episode, u, 0) else s1.lp.lastEpisode
      amountDue := false } }

/-- The wake (18 R425–R428): device time takes the interval that AON measured, in fs; the schedule resumes at the next boundary, where what the fold that entered
SLEEP had staged commits, a selector pass among it (DESIGN CHOICE, log 93). -/
def State.wake (s : State) (interval : Nat) : State :=
  let x := s.clk.now + interval
  let s1 := s.passFolds (x / foldFs)
  let s2 : State := { s1 with
    clk := { s1.clk with now := x % foldFs }
    pow := { s1.pow with state := s1.pow.from_, suspended := true, resume := true, relock := true, wdMissed := 0 } }
  let s3 := forEach (List.range 8) (fun i s => s.loseCandidate i) (s2.wakeLoops interval)
  (if s3.pow.state = .run then s3.commonsWake.radioWake else s3).droveWake

/-- The WAKE_REQUEST row: NCS, or SDA with SCL high, held low for `ns` nanoseconds. -/
def execWakeRequest (ns interval : Nat) (s : State) : Host.Outcome State Fault Refusal :=
  .next (if s.pow.state = .sleep && !s.pow.held && 62000 ≤ ns then s.wake interval else s)

/-- The shift that a rising edge at the boundary gives an output's grid, with what its carry holds (18 R428). -/
def State.wakeShift (s : State) (o : Nat) : Fs :=
  let pulse := (s.outCfg o).mode = 1
  let p := if pulse then s.pulsePeriod o else s.basePeriod o
  let old := if pulse then s.frameOf o else s.originOf o
  let shift := if p.2 = 0 then 0 else divNear (centred (((s.foldStart : Int) - old) * p.2) p.1) p.2
  satFs (shift + (s.out o).carry)

/-- An output's divider starts anew with a rising edge at the boundary, of a pulse output its frame too (18 R427). -/
def State.regrid (s : State) (o : Nat) (carry : Fs) : State :=
  (s.settle o s.foldStart).updOut o fun x => { x with
    carry := carry
    origin := some s.foldStart
    prevEdge := none
    frame := if (s.outCfg o).mode = 1 then some s.foldStart else x.frame
    lastStart := none
    plans := []
    index := none
    oldPulse := none }

/-- The entry of a wake, DONE with its whole amount applied at once (18 R428). -/
def State.wakeEntry (s : State) (o : Nat) (a : Fs) : State :=
  let t := s.tally.add { src := .gather, flock := BitVec.ofNat 16 (2 ^ o), pen := 0, slot := 31, seq := 0, amount := a, created := s.clk.absFold, wake := true, immediate := true }
  match t.find s.tally.nextSeq with
  | some e => { s with tally := t.payOut e o a }.finishEntry e
  | none => s

/-- One output's divider restarts with a rising edge at the boundary (18 R427, R428): the shift of its grid is a DONE entry with the WAKE flag. -/
def State.restartDivider (o : Nat) (s : State) : State :=
  let sum := s.wakeShift o
  let a := satFs (flockAmount sum)
  (s.regrid o (sum - a)).wakeEntry o a

/-- Every divider and output restarts at the first boundary after the APLL relocks. -/
def State.restartDividers (s : State) : State :=
  if !s.pow.relock || !s.lp.aplLock then s
  else (forEach (List.range 16) State.restartDivider { s with pow := { s.pow with relock := false }, rel := { s.rel with stopping := false } }).runAll s.foldStart

/-- The WAKE_DIVIDER_RESTART row: a boundary's own work (18 R427). -/
def execWakeDividerRestart (s : State) : Host.Outcome State Fault Refusal := .next (if s.atBoundary then s.restartDividers else s)

/-! ### NPFAIL (01 R32; 15 R367; 18 R413, R416) -/

/-- NPFAIL falls: the schedule is suspended and the hot-set save begins, during start-up too; in SLEEP and in reset only the pin is seen, and neither a save
that runs nor a sequencer that already idles begins another (01 R32). -/
def execNpfailFall (t : Nat) (s : State) : Host.Outcome State Fault Refusal :=
  let s0 := s.setNow t
  let s1 := { s0 with pow := { s0.pow with npfail := true } }
  if s1.pow.held || s1.pow.state = .sleep then .next s1
  else
    let s2 := s1.raise Ev.npfail 0
    let s3 := { s2 with pow := { s2.pow with suspended := true, resume := false } }
    .next (if s3.store.saving.isSome || s3.pow.idle then s3 else s3.beginSave)

/-- NPFAIL rises: the watchdog restarts its count. -/
def execNpfailRise (s : State) : Host.Outcome State Fault Refusal := .next { s with pow := { s.pow with npfail := false, wdMissed := 0 } }

/-! ### Reset (18 R408–R416) -/

/-- The user page whose write or erase the engine has in hand. -/
def State.pageInHand (s : State) : Option Nat :=
  match s.storeHead with
  | some j => if j.begun then (match j.kind with | .pageWrite p _ _ => some p | .pageErase p => some p | _ => none) else none
  | none => none

/-- A hot-set save that a loss of power cuts: some of its words stand (15 R367; Config.savedWords). -/
def State.saveCut (s : State) : State :=
  match s.store.saving with
  | some img =>
    let base := bankWord s.store.bankB + s.store.append
    (s.mapStore fun x => { x with flash := flashProgram x.flash (16 * base) (img.take (Config.savedWords s.freeN % 32)).flatten }).draw
  | none => s

/-- A bank erase that a reset cuts, which began with its page 0: the pages erased by then (15 R359; Config.erasedPages). -/
def State.eraseCut (s : State) : State :=
  match s.store.phase with
  | .erasing false b false =>
    let a := 16 * bankWord (b = 1)
    (s.mapStore fun x => { x with flash := flashErase x.flash a (a + 256 * (Config.erasedPages s.freeN % 49)) }).draw
  | _ => s

/-- What a reset leaves of the store: its flash, the banks' erase counts (log 18) and what its CONFIG generations stand for (log 19). A page whose
operation a loss of power cut is undefined (15 R372), and of a save that it cut some words stand. -/
def State.storeThrough (s0 : State) (powerLost : Bool) : State :=
  let s := s0.eraseCut
  if !powerLost then s
  else match s.pageInHand with
  | some p => s.saveCut.pageLost p
  | none => s.saveCut

/-- Reset is held with a cause: every output off at once, every queue and counter at its reset value (18 R411, R414, R415). Where causes coincide the
first of power-on, pin, watchdog, soft is kept (18 R412). -/
def State.enterReset (s : State) (cause : Nat) : State :=
  let s1 := s.storeThrough (cause = 0)
  let c := if s.pow.held then min s.pow.cause cause else cause
  { pending := s1.pending
    store := { flash := s1.store.flash, bankErases := s1.store.bankErases, gens := s1.store.gens, armed := false }
    host := { straps := s1.host.straps }
    pins := s1.pins.map fun p => { pad := p.pad }
    pow := { held := true, opened := false, cause := c, npfail := s1.pow.npfail }
    test := if cause = 0 then {} else { tap := s1.test.tap, ir := s1.test.ir, irShift := s1.test.irShift, drShift := s1.test.drShift, cells := s1.test.cells, tdo := s1.test.tdo }
    freeN := s1.freeN }

/-- POR is asserted. -/
def execPowerOnReset (s : State) : Host.Outcome State Fault Refusal := .next (s.enterReset 0)

/-- Whether a low NRESET of `ns` nanoseconds is a reset (18 R410). -/
def nresetCounts (ns : Nat) : Bool := 1000 ≤ ns || (100 ≤ ns && Config.nresetSeen ns)

/-- A pin reset waits for the end of a hot-set save (18 R416). -/
def execPinReset (ns : Nat) (s : State) : Host.Outcome State Fault Refusal :=
  if !nresetCounts ns then .next s
  else if s.store.saving.isSome then .next { s with pow := { s.pow with pinWait := true } }
  else .next (s.enterReset 1)

/-- The watchdog expires after 7.8125 ms, 62 boundaries and a half, without a feed; NPFAIL low and SLEEP pause it (18 R413, log 49). -/
def execWatchdogExpiry (s : State) : Host.Outcome State Fault Refusal :=
  .next (if s.pow.held || s.pow.npfail || s.pow.state = .sleep || s.pow.wdMissed < 62 then s else s.enterReset 2)

/-- A soft reset acts once every output is low, or 1 s after its commit (18 R415); while a hot-set save runs, the sequencer has no cycle for it (01 R32). -/
def execSoftResetExecution (t : Nat) (s : State) : Host.Outcome State Fault Refusal :=
  let s0 := s.setNow t
  .next (match s0.pow.softReset with
    | some c => if s0.store.saving.isNone && (s0.allLow || c + secondFs ≤ s0.instant) then s0.enterReset 3 else s0
    | none => s0)

/-- The schedule resumes at the next boundary. -/
def State.resumeNext (s : State) : State := { s with pow := { s.pow with resume := true } }

/-- The hot-set save ends, the words `bad` not having verified: the schedule resumes at the next boundary if NPFAIL is high, else the sequencer idles; a pin
reset that waited acts. -/
def execHotsetSaveEnd (bad : List Nat) (t : Nat) (s : State) : Host.Outcome State Fault Refusal :=
  let s0 := s.setNow t
  match s0.store.saving with
  | none => .next s0
  | some img =>
    let s1 := s0.endSave bad
    if s1.pow.pinWait then .next (s1.enterReset 1)
    else if s1.pow.npfail then .next { s1 with pow := { s1.pow with idle := true } }
    else .next (s1.savedEvent (img ≠ [])).resumeNext

/-! ### Start-up (15 R363–R370; 18 R417) -/

/-- The banks as recovery finds them (15 R363): which is active, which is to be erased with which event, or neither valid. -/
inductive Recovery where
  | fresh
  | use (bank : Bool) (erase : Option Nat)

/-- Recovery's decision. The event is RECOVERY_ROLLBACK where the newest INTENT names the other bank for this BANK_SEQ. -/
def recover (m : List Host.Cell) : Recovery :=
  let single (b : Bool) (h : Header) : Recovery :=
    if bankBlank m (!b) then .use b none
    else
      let i := newest ((validItems m b).filter fun i => i.type = 0x08)
      let roll : Bool := match i with
        | some x => fld x.payload 0 1 = b2n (!b) && fld x.payload 4 4 = h.bankSeq
        | none => false
      .use b (some (if roll then Ev.recoveryRollback else Ev.recoveryComplete))
  match headerOf m false, headerOf m true with
  | some a, some b => if b.bankSeq < a.bankSeq then .use false (some Ev.recoveryComplete) else .use true (some Ev.recoveryComplete)
  | some a, none => single false a
  | none, some b => single true b
  | none, none => .fresh

/-- An event for the first boundary. -/
def State.bootEvent (s : State) (id detail : Nat) : State := { s with pow := { s.pow with bootEvents := s.pow.bootEvents ++ [(id, detail)] } }

/-- Recovery acts: the active bank is chosen, the erase of the other queued, or of both with a header for bank A after it; the store slot runs them after
start-up (15 R363, R375). -/
def State.recoverStore (s : State) : State :=
  match recover s.store.flash with
  | .fresh => s.mapStore fun x => { x with bankB := false, jobs := [{ kind := .bankErase 0 }, { kind := .bankErase 1 }, { kind := .format }] }
  | .use b none => s.mapStore fun x => { x with bankB := b }
  | .use b (some ev) =>
    let h := (headerOf s.store.flash b).map (·.bankSeq)
    (s.mapStore fun x => { x with bankB := b, jobs := [{ kind := .bankErase (b2n (!b)) }] }).bootEvent ev (b2n (!b) + 256 * (h.getD 0 % 2 ^ 24))

/-- The model of a MODEL payload, with the TSENSE offset (15 R356). -/
def Model.ofBytes (p : List Byte) : Model :=
  let f := fld p 46 1
  { f0 := fldI p 0 6
    c1 := fldI p 6 6
    c2 := fldI p 12 6
    c3 := fldI p 18 6
    aLog := fldI p 24 6
    aLin := fldI p 30 6
    oscAge := BitVec.ofNat 48 (fld p 36 6)
    span := if bit f 1 then some (fldI p 42 2, fldI p 44 2) else none
    valid := bit f 0
    nObs := BitVec.ofNat 32 (fld p 48 4)
    sigmaY := fldI p 52 6
    sigmaD := fld p 58 6
    cov := (List.range 21).map fun k => BitVec.ofNat 64 (fld p (68 + 8 * k) 8) }

/-- A MODEL payload restored (04 R92, R99). The offset that it holds weighs as one reading in the mean that goes on (DESIGN CHOICE, log 89). -/
def State.loadModel (s : State) (p : List Byte) : State :=
  let o := fldI p 64 2
  { s with mdl := Model.ofBytes p, lp := { s.lp with tsOffset := if o = -32768 then none else some (o, 1) } }

/-- Counters of a COUNTERS payload. -/
def LifeCounters.ofBytes (p : List Byte) : LifeCounters :=
  { opSeconds := BitVec.ofNat 48 (fld p 0 6)
    holdSeconds := BitVec.ofNat 48 (fld p 8 6)
    switches := BitVec.ofNat 32 (fld p 16 4)
    boots := BitVec.ofNat 32 (fld p 20 4)
    saves := BitVec.ofNat 32 (fld p 24 4)
    lost := BitVec.ofNat 32 (fld p 28 4) }

/-- `a` is newer than `b`, by SEQ. -/
def newerItem (a b : Option Item) : Bool := match a, b with
  | some x, some y => y.seq.toNat < x.seq.toNat
  | some _, none => true
  | none, _ => false

/-- The counters (15 R365): the newer of the record and the image; LOST_INTERVAL where the record is. -/
def State.loadCounters (s : State) (img rec_ : Option Item) : State :=
  if newerItem img rec_ then s.mapStore fun x => { x with life := LifeCounters.ofBytes ((img.map (·.payload)).getD []), lostInterval := false }
  else match rec_ with
    | some r =>
      let l := LifeCounters.ofBytes r.payload
      (s.mapStore fun x => { x with life := { l with lost := l.lost + 1 }, lostInterval := true }).bootEvent Ev.lostInterval (l.opSeconds.toNat % 2 ^ 32)
    | none => s.mapStore fun x => { x with life := { boots := 0 } }

/-- A WEAR part's figures. -/
def wearOf (p : List Byte) (i : Nat) : Wear := { erases := BitVec.ofNat 32 (fld p (4 + 8 * i) 4), raw := BitVec.ofNat 32 (fld p (8 + 8 * i) 4) }

/-- The wear counts (15 R356, R368): the records', and the image's deltas where it is newer than both parts. -/
def State.loadWear (s : State) (l : List Item) (img : Option Item) : State :=
  let base : Vec Wear 32 := .ofFn 32 fun n => match winner l 0x07 (n / 16) with
    | some r => wearOf r.payload (n % 16)
    | none => {}
  let use := newerItem img (winner l 0x07 0) && newerItem img (winner l 0x07 1)
  let p := (img.map (·.payload)).getD []
  let f (n : Nat) (w : Wear) : Wear :=
    { erases := w.erases + BitVec.ofNat 32 (fld p (268 + 4 * n) 2), raw := w.raw + BitVec.ofNat 32 (fld p (270 + 4 * n) 2) }
  s.mapStore fun x => { x with wearWritten := base, wear := if use then base.mapIdx f else base }

/-- The event entries of an image (15 R366, R368). -/
def imageEvents (p : List Byte) : List Occ :=
  (List.range 4).filterMap fun k =>
    let b := (p.drop (396 + 20 * k)).take 20
    if fld b 0 2 < 288 then some { id := fld b 0 2, fold := BitVec.ofNat 64 (fld b 4 8), ns := fld b 12 4, detail := BitVec.ofNat 32 (fld b 16 4) } else none

/-- The hot set and the records that it may replace (15 R365–R368). -/
def State.loadHotSet (s : State) (items : List Item) : State :=
  let l := items.filter (·.valid)
  let images := items.filter fun i => i.type = 0xF0
  let img := newest (images.filter (·.valid))
  let rec_ := winner l 0x03 0
  let model := winner l 0x02 0
  let s1 := match newest images with
    | some i => if i.valid then s else s.bootEvent Ev.hotsetInvalid i.seq.toNat
    | none => s
  let s2 := (s1.loadCounters img rec_).loadWear l img
  let s3 := if newerItem img model then s2.loadModel (((img.map (·.payload)).getD []).drop 32)
    else match model with | some r => s2.loadModel r.payload | none => s2
  match img with
  | some i =>
    if newerItem img rec_ || newerItem img model then
      ({ s3 with ev := { s3.ev with queue := imageEvents i.payload } }).bootEvent Ev.hotsetSaved (2 ^ 31 + i.seq.toNat % 2 ^ 31)
    else s3
  | none => s3

/-- The shaft table of the newest whole generation (08 R193). -/
def State.loadSsct (s : State) (l : List Item) : State :=
  match newestGen l 0x04 3 with
  | some g =>
    let bins (p : List Byte) (o n : Nat) : List Fs := (List.range n).map fun k => 10 * fldI p (o + 2 * k) 2
    let a := genPart l 0x04 g 0
    { s with ssct := { s.ssct with meanP := fldI a 8 8, bins := bins a 16 86 ++ bins (genPart l 0x04 g 1) 8 85 ++ bins (genPart l 0x04 g 2) 8 85 } }
  | none => s

/-- The commons key (15 R371). -/
def State.loadKey (s : State) (l : List Item) : State :=
  match winner l 0x05 0 with
  | some r => { s with com := { s.com with key := some ((r.payload.drop 4).take 16) } }
  | none => s

/-- The settings of the newest whole CONFIG generation (15 R369); SSCT_MODE starts OFF (08 R193). -/
def State.loadConfig (s : State) (l : List Item) : State :=
  match (newestGen l 0x01 10).bind fun g => s.store.gens.find? fun x => x.1.toNat = g with
  | some x => { s with cfg := { x.2 with ssct := { x.2.ssct with mode := 0 } } }
  | none => s

/-- The image of a patch whose chunk 0 is `c`: all its chunks in order, none if one is missing; and how many were found. -/
def patchImage (l : List Item) (c : Item) : Option (List Byte) × Nat :=
  let total := fld c.payload 1 1
  let found := (List.range total).filterMap fun k => (l.filter fun i => i.type = 0x06 && i.part = k && i.gen = c.gen && fld i.payload 1 1 = total).head?
  (if found.length = total then some (found.flatMap fun i => i.payload.drop 8) else none, found.length)

/-- The firmware patch (15 R370, R375), read from the valid bank with the highest BANK_SEQ. -/
def State.loadPatch (s : State) (l : List Item) : State :=
  match winner l 0x06 0 with
  | none => s
  | some c =>
    match patchImage l c with
    | (none, n) => s.bootEvent Ev.patchRejected (1 + 256 * n)
    | (some b, n) =>
      let rev := fld b 0 4
      if b.length < 8 || fld b (b.length - 4) 4 ≠ crc32c (b.take (b.length - 4)) then s.bootEvent Ev.patchRejected (2 + 256 * n)
      else if rev / 2 ^ 24 ≠ Config.romRevision.toNat / 2 ^ 24 then s.bootEvent Ev.patchRejected (3 + 256 * n)
      else ({ s with host := { s.host with patchLoaded := some (BitVec.ofNat 32 rev) } }).bootEvent Ev.patchLoaded rev

/-- The radio calibrations that start-up queues: the three, and the synthesiser's for every entry without one (09 R218; 18 R417, R421). -/
def bootCals (c : Settings) : List CalJob :=
  let e := (List.range 64).filter fun k => let x := c.chans.getD k {}; x.freq ≠ 0 && !x.calValid
  [{ which := [0] }, { which := [1] }, { which := [3] }] ++ (if e.isEmpty then [] else [{ which := e.map (16 + ·) }])

/-- What the scan of the active bank finds: nothing where both banks are to be erased (15 R363). -/
def bootScan (m : List Host.Cell) (b : Bool) : List Item × Nat :=
  match recover m with
  | .fresh => ([], 2)
  | _ => scanBank m b

/-- The firmware's steps in order, up to the boundary that commits the snapshot (18 R417). -/
def State.startUp (s : State) : State :=
  let s1 := s.recoverStore
  let scan := bootScan s1.store.flash s1.store.bankB
  let l := scan.1.filter (·.valid)
  let top := (scan.1.filter fun i => i.valid || i.type = 0xF0).foldl (fun a i => max a i.seq.toNat) 0
  let s2 := s1.mapStore fun x => { x with append := scan.2, maxSeq := BitVec.ofNat 32 top, armed := true }
  let s3 := (((((s2.loadPatch l).loadHotSet scan.1).loadSsct l).loadKey l).loadConfig l)
  let s4 := s3.mapStore fun x => { x with life := { x.life with boots := x.life.boots + 1 } }
  { s4.chooseBand with
    shadow := s4.cfg
    mdl := { s4.mdl with saveIn := 3600 * s4.cfg.lp.modelSave }
    bg := { s4.bg with calQueue := bootCals s4.cfg }
    snap := { evCfg := s4.cfg.ev, wear := s4.store.wear, flash := s4.store.flash } }

/-- The straps are sampled after a power-on or pin reset. -/
def State.sampleStraps (s : State) (a b : Bool) : State :=
  if s.pow.cause ≤ 1 then { s with host := { s.host with straps := BitVec.ofNat 2 (b2n a + 2 * b2n b) } } else s

/-- Reset is no longer held; the interfaces are still closed, for as many boundaries as the firmware's steps take (log 97). With NPFAIL low no boundary commits
anything until it rises (18 R416; log 96). -/
def State.leaveReset (s : State) : State :=
  ({ s with pow := { s.pow with
    held := false, opened := false, booting := true, bootIn := Config.bootFolds s.freeN % 65
    suspended := s.pow.npfail, resume := s.pow.npfail } }).draw

/-- Reset is released (18 R410, R417): STRAP0 and STRAP1 are sampled after a power-on or pin reset; the folds run from fold 0 in FREERUN, and the boundary at
which the firmware is ready commits the snapshot. -/
def execResetRelease (strap0 strap1 : Bool) (s : State) : Host.Outcome State Fault Refusal :=
  .next (if s.pow.held then (s.sampleStraps strap0 strap1).leaveReset.startUp else s)

/-- The interfaces open; the events of start-up and BOOT are raised. -/
def State.openUp (s : State) : State :=
  (forEach s.pow.bootEvents (fun e s => s.raise e.1 e.2)
    { s with pow := { s.pow with opened := true, booting := false, bootEvents := [] } }).raise Ev.boot s.pow.cause

/-- The boundary that commits the snapshot (14 R343; 15 R375; 18 R417, R418): the interfaces open, the events of start-up and BOOT are raised, and the
MAC, the drove and the front end take up the settings. -/
def State.boot (s : State) : State :=
  if !s.pow.booting then s
  else
    let s2 := s.openUp
    let s3 := if s2.cfg.com.role = 0 then s2 else s2.setMac (if s2.cfg.com.role = 1 then .master else .search)
    let s4 := if s3.cfg.drv.en then s3.droveOn else s3
    s4.rest.takeRf

/-! ### Opcodes (13 R308) -/

/-- The checks of SOFT_RESET, and its commit (18 R415): outputs stop at their next low. -/
def checkSoftReset (q : Call) (_s : State) : Serve :=
  checks [(q.params.length = 2, St.badLength), (q.pen = 0, St.denied), (fld q.params 0 2 = 0x5AFE, St.badParam)] Serve.stage
def commitSoftReset (_q : Call) (s : State) : State :=
  ({ s with pow := { s.pow with softReset := some s.foldStart }, rel := { s.rel with stopping := true } }).runAll s.foldStart

/-- RESET_INFO. -/
def State.resetInfoBytes (s : State) : List Byte := le 1 s.pow.cause ++ le 1 0 ++ le 6 s.store.life.opSeconds.toNat

end Sys2Proof.Machine
end

