-- ==== Sys2Proof/Machine/TestOps.lean ====
section
/-! DEFINITION. Provoking faults and testing (19): the injections and their opcodes, slot ends, drove tests, the boundary-scan port. -/

namespace Sys2Proof.Machine

/-- The test state changed by `f`. -/
def State.mapTest (s : State) (f : Test → Test) : State := { s with test := f s.test }

/-! ### Injections (19 R431–R437) -/

/-- The checks of INJECT (19 R432; 13 R324). -/
def checkInject (q : Call) (_s : State) : Serve :=
  let p := q.params
  let kind := fld p 1 1
  let delay := fldI p 8 8
  checks [
    (p.length = 16, St.badLength),
    (q.pen = 0, St.denied),
    (fld p 0 1 ≤ 1 && kind ≤ 4 && zeros p 4 4, St.badParam),
    (if kind = 4 then inRangeI delay 1000 10000000000 && delay % 1000 = 0 else delay = 0, St.badParam)]
    Serve.stage

/-- A new injection replaces the one of its link; frames count from here. -/
def Injection.arm (p : List Byte) (j : Injection) : Injection :=
  { j with kind := fld p 1 1, every := fld p 2 2, delay := fld p 8 8, seen := 0 }

/-- INJECT committed. -/
def commitInject (q : Call) (s : State) : State :=
  s.mapTest fun x =>
    if fld q.params 0 1 = 0 then { x with drove := x.drove.arm q.params } else { x with commons := x.commons.arm q.params }

/-- The checks of REF_KILL, and its commit (19 R435): the word clock that restarted REFD's window while word lock held is blocked from here, or restarts it
again (02 R39). -/
def checkRefKill (q : Call) (_s : State) : Serve :=
  checks [
    (q.params.length = 2, St.badLength),
    (fld q.params 0 1 ≤ 7, St.badParam),
    (q.pen = 0, St.denied),
    (fld q.params 1 1 ≤ 1, St.badParam)]
    Serve.stage
def commitRefKill (q : Call) (s : State) : State :=
  let i := fld q.params 0 1
  let on : Bool := fld q.params 1 1 = 1
  let s1 := s.updCand i fun c => { c with killed := on }
  if i ≠ 6 || !s.drv.lock || (s.cand 6).killed = on then s1
  else if on then s1.updCand 6 fun c => { c with lastEdge := some s.foldStart }
  else s1.touch 6 s.foldStart

/-- The checks of SLOT_OVERRUN, and its commit (19 R437). -/
def checkSlotOverrun (q : Call) (_s : State) : Serve :=
  let p := q.params
  checks [
    (p.length = 4, St.badLength),
    (q.pen = 0, St.denied),
    (fld p 0 1 ≤ 15 && zeros p 1 1 && 1 ≤ fld p 2 2, St.badParam)]
    Serve.stage
def commitSlotOverrun (q : Call) (s : State) : State := 
  s.mapTest fun x => { x with overrun := x.overrun.filter (·.1 ≠ fld q.params 0 1) ++ [(fld q.params 0 1, fld q.params 2 2)] }

/-- FOLD_OVERRUN's detail word (01 R20, 19 R437). -/
def overrunDetail (slot cycles : Nat) : Nat := slot + 256 * (min cycles 16777215)

/-- A task that still holds `held` cycles of work is suspended with its context: the next slot starts on time, and the slot's row comes in a later fold
(01 R20; log 91). -/
def State.cutTask (s : State) (slot held : Nat) : State :=
  let s1 := s.raise Ev.foldOverrun (overrunDetail slot held)
  { s1 with clk := { s1.clk with slot := slot + 1, cut := slot :: s1.clk.cut.filter (· ≠ slot) } }

/-- The last cycle of a slot (01 R20): a task whose row has not come in this fold is suspended where it still holds work. Where its own work is done, the dummy
work of an armed overrun is suspended and then discarded (19 R437). -/
def State.endSlot (s : State) (slot held : Nat) : State :=
  if held ≠ 0 && s.clk.slot ≤ slot then s.cutTask slot held
  else match s.test.overrun.find? (·.1 = slot) with
  | some x => (s.raise Ev.foldOverrun (overrunDetail slot x.2)).mapTest fun y => { y with overrun := y.overrun.filter (·.1 ≠ slot) }
  | none => s

/-- The SLOT_END row: no later slot has begun, and `t` lies within the slot. -/
def execSlotEnd (slot : Fin 16) (held t : Nat) (s : State) : Host.Outcome State Fault Refusal :=
  let s0 := s.setNow t
  .next (if s0.schedule && s0.clk.slot ≤ slot.val + 1 && slotHolds slot.val t then s0.endSlot slot.val held else s0)

/-! ### Drove tests (19 R438, R439) -/

/-- The checks of DRV_TEST. -/
def checkDrvTest (q : Call) (s : State) : Serve :=
  checks [
    (q.params.length = 1, St.badLength),
    (s.owns q.pen 0x31, St.denied),
    (fld q.params 0 1 ≤ 4, St.badParam)]
    Serve.stage

/-- A mode of DRV_TEST takes effect: a change into modes 1–3 clears the checker's figures (19 R439). -/
def State.setDrvTest (s : State) (m : Nat) : State :=
  let was := s.test.drvTest
  let s1 := s.mapTest fun x => { x with drvTest := m }
  if m = 0 then (if was = 0 then s1 else if s1.cfg.drv.en then s1.droveOn else s1.droveOff .hiZ)
  else
    let s2 := if m ≤ 3 && m ≠ was then s1.mapTest fun x => { x with prbsErrors := 0, prbsBits := 0, prbsLock := false } else s1
    s2.droveOff (testTx m)

/-- DRV_TEST committed. -/
def commitDrvTest (q : Call) (s : State) : State := s.setDrvTest (fld q.params 0 1)

/-- The checker has locked after 32 error-free bits, and has since checked `bits` more of which `errors` were in error (19 R439). -/
def execPrbsCheckerLock (bits errors : Nat) (s : State) : Host.Outcome State Fault Refusal :=
  .next (if 1 ≤ s.test.drvTest && s.test.drvTest ≤ 3 then
      s.mapTest fun x => { x with
        prbsLock := true
        prbsBits := x.prbsBits + BitVec.ofNat 64 bits
        prbsErrors := x.prbsErrors + BitVec.ofNat 32 errors }
    else s)

/-- A reset of a pen that owns the drove or the radio ends its tests (19 R429). -/
def State.penResetTest (s : State) (p : Pen) : State :=
  let s1 := if s.owner 0x31 = p then s.setDrvTest 0 else s
  if s1.owner 0x30 = p then s1.setTone 0 else s1

/-- Counters of an injection in the order of its KINDs. -/
def Injection.bytes (j : Injection) : List Byte := le 4 j.drop.toNat ++ le 4 j.corrupt.toNat ++ le 4 j.reorder.toNat ++ le 4 j.delayed.toNat

/-- TEST_STATUS (19 R434). -/
def State.testStatusBytes (s : State) : List Byte :=
  le 4 s.test.prbsErrors.toNat ++ le 8 s.test.prbsBits.toNat ++ s.test.drove.bytes ++ s.test.commons.bytes

/-! ### Boundary scan (19 R441, R442; IEEE 1149.1) -/

/-- The TAP controller's next state on a rising edge of TCK. -/
def TapState.next (x : TapState) (tms : Bool) : TapState :=
  match x, tms with
  | .reset, true => .reset
  | .reset, false => .idle
  | .idle, true => .selDr
  | .idle, false => .idle
  | .selDr, true => .selIr
  | .selDr, false => .capDr
  | .capDr, true => .ex1Dr
  | .capDr, false => .shDr
  | .shDr, true => .ex1Dr
  | .shDr, false => .shDr
  | .ex1Dr, true => .upDr
  | .ex1Dr, false => .paDr
  | .paDr, true => .ex2Dr
  | .paDr, false => .paDr
  | .ex2Dr, true => .upDr
  | .ex2Dr, false => .shDr
  | .upDr, true => .selDr
  | .upDr, false => .idle
  | .selIr, true => .reset
  | .selIr, false => .capIr
  | .capIr, true => .ex1Ir
  | .capIr, false => .shIr
  | .shIr, true => .ex1Ir
  | .shIr, false => .shIr
  | .ex1Ir, true => .upIr
  | .ex1Ir, false => .paIr
  | .paIr, true => .ex2Ir
  | .paIr, false => .paIr
  | .ex2Ir, true => .upIr
  | .ex2Ir, false => .shIr
  | .upIr, true => .selDr
  | .upIr, false => .idle

/-- A number as `n` bits, bit 0 first. -/
def bitsOf (n v : Nat) : List Bool := (List.range n).map fun k => v.testBit k

/-- The number that bits spell, bit 0 first. -/
def ofBits (l : List Bool) : Nat := l.foldr (fun b a => b2n b + 2 * a) 0

/-- IDCODE (19 R441). -/
def idcode : Nat := Config.romRevision.toNat / 2 ^ 24 % 16 * 2 ^ 28 + 0x1640 * 2 ^ 12 + Config.jtagManufacturer.toNat * 2 + 1

/-- Balls with a boundary cell (19 R442): GPIO0–GPIO23, SCLK, MOSI, MISO, NCS, SCL, SDA, STRAP0, STRAP1, NALARM, NIRQ, NPFAIL, REF4, REF5. -/
def scanBalls : Nat := 37

/-- The balls in the order of their cells: each ball once, at a place the spec leaves open (19 R442; log 67). -/
def scanOrder : List Nat := (List.range scanBalls).foldl (fun l k => l.insertIdx (Config.jtagCell k % (k + 1)) k) []

/-- Length of the instruction register, and what a code in it selects: all ones is BYPASS (19 R441; IEEE 1149.1). -/
def irLength : Nat := 2 + Config.jtagIrExtra
def irSelects (code : Nat) : Nat := if code = 2 ^ irLength - 1 then 0 else Config.jtagDecode code

/-- What a data register captures: the IDCODE, the pads (SAMPLE/PRELOAD, EXTEST), or the bypass bit. -/
def captureDr (ir : Nat) (pads : List Bool) : List Bool :=
  match ir with
  | 1 => bitsOf 32 idcode
  | 2 => scanOrder.map fun k => pads.getD k false
  | 3 => scanOrder.map fun k => pads.getD k false
  | _ => [false]

/-- One bit is shifted in at the far end. -/
def shiftIn (l : List Bool) (tdi : Bool) : List Bool := l.drop 1 ++ [tdi]

/-- A rising edge of TCK: the captures and shifts of the present state, then the next one. -/
def Test.tckRise (x : Test) (tms tdi : Bool) (pads : List Bool) : Test :=
  let x1 := match x.tap with
    | .capDr => { x with drShift := captureDr x.ir pads }
    | .shDr => { x with drShift := shiftIn x.drShift tdi }
    | .capIr => { x with irShift := bitsOf irLength 1 }
    | .shIr => { x with irShift := shiftIn x.irShift tdi }
    | _ => x
  { x1 with tap := x.tap.next tms }

/-- A falling edge of TCK: TDO in the shift states, the updates, IDCODE selected in Test-Logic-Reset. -/
def Test.tckFall (x : Test) : Test :=
  match x.tap with
  | .reset => { x with ir := 1 }
  | .shDr => { x with tdo := x.drShift.headD false }
  | .shIr => { x with tdo := x.irShift.headD false }
  | .upIr => { x with ir := irSelects (ofBits x.irShift) }
  | .upDr => if x.ir = 2 || x.ir = 3 then { x with cells := x.drShift } else x
  | _ => x

/-- What the boundary cells drive on a ball under EXTEST, in place of the functional logic (19 R442). -/
def State.scanDrive (s : State) (ball : Nat) : Option Bool :=
  if s.test.ir = 3 && scanOrder.contains ball then some (s.test.cells.getD (scanOrder.idxOf ball) false) else none

/-- The JTAG_TCK_EDGE row; the port runs in every state of the device. -/
def execJtagTckEdge (rising tms tdi : Bool) (pads : List Bool) (s : State) : Host.Outcome State Fault Refusal :=
  .next (s.mapTest fun x => if rising then x.tckRise tms tdi pads else x.tckFall)

end Sys2Proof.Machine
end

