-- ==== Sys2Proof/Machine/MonitorOps.lean ====
section
/-! DEFINITION. The reference-monitor slot with the selector pass and MON, and the activity windows (01 R17; 02 R39, R40, R48; 03 R60; 06 R151). -/

namespace Sys2Proof.Machine

/-- MON_FAIL of a running output whose snapshot shows |DIFF| above 1 (06 R151). -/
def State.monitorOut (s : State) (o : Nat) : State :=
  let x := s.out o
  s.raiseIf (x.running && 1 < x.diff.natAbs) (0x40 + 4 * o) (detailSat x.diff)

/-- All eight candidates judged, then one selector pass, whose result waits for the boundary (01 R17, 03 R60). -/
def State.monitorSlot (s : State) : State :=
  let s1 := forEach (List.range 8) (fun i s => s.judge s.model i) s
  let s2 := { s1 with sel := { s1.sel with staged := some s1.pass } }
  forEach (List.range 16) (fun o s => s.monitorOut o) s2

/-- The qualification timer of candidate `i` reaches QUAL_T (02 R47): in the reference-monitor slot, once the fold's trips of the candidate have been
judged. -/
def execQualificationTimerExpiry (i : Fin 8) (t : Nat) (s : State) : Host.Outcome State Fault Refusal :=
  let s0 := s.setNow t
  .next (if s.slotDue 4 t && s0.qualifies i then s0.judge s0.model i else s0)

/-- Slot 4. -/
def execReferenceMonitorsSlot (t : Nat) (s : State) : Host.Outcome State Fault Refusal := .next (s.inSlot 4 t State.monitorSlot)

/-- Whether candidate `i`'s activity window has expired (02 R39). REFD's word clock restarts it while word lock holds, unless REF_KILL silences it
(19 R435). -/
def State.windowExpired (s : State) (i : Nat) : Bool :=
  let c := s.cand i
  c.active && !(i = 6 && s.drv.lock && !c.killed) &&
    (match c.lastEdge with
     | some l => s.windowOver i l s.instant
     | none => false)

/-- The activity window of a candidate expires; what REFC's loss is to the commons MAC is its slot's affair (10 R225). -/
def execActivityWindowExpiry (i : Fin 8) (t : Nat) (s : State) : Host.Outcome State Fault Refusal :=
  let s0 := s.setNow t
  .next (if s0.pow.held || s0.pow.state = .sleep || !s0.windowExpired i then s0 else s0.loseActivity i)

end Sys2Proof.Machine
end

