-- ==== Sys2Proof/Machine/Interp.lean ====
section
/-! DEFINITION. The command interpreter (01 R22–R24; 12 R282–R284, R297; 13 R300–R326): every opcode with its class and checks, what each commits, what
each reply reads, and the interpreter's slots. -/

namespace Sys2Proof.Machine

/-! ### The opcode tables (13 R308–R326): class (1 CONTROL, 2 BULK, 3 MAINT) and checks -/

/-- An opcode's class and checks. -/
abbrev OpInfo := Nat × (Call → State → Serve)

/-- NOP echoes up to 16 bytes (13 R308). -/
def checkNop (q : Call) (_s : State) : Serve := checks [(q.params.length ≤ 16, St.badLength)] (Serve.data q.params)

/-- AUDIT copies the snapshot (13 R305, R309). -/
def checkAudit (q : Call) (s : State) : Serve := checks [(q.params.length = 0, St.badLength)] (Serve.data s.auditBytes)

/-- A read with no parameters, and one with an index. -/
def plain (op : BitVec 16) (q : Call) (_s : State) : Serve := checkPlainRead op q
def indexed (op : BitVec 16) (n : Nat) (q : Call) (_s : State) : Serve := checkIndexRead op n q

def opSystem : Nat → Option OpInfo
  | 0x001 => some (1, checkNop)
  | 0x002 => some (2, checkAudit)
  | 0x003 => some (1, checkOutputsRelease)
  | 0x004 => some (1, checkPowerState)
  | 0x005 => some (1, checkSoftReset)
  | 0x006 => some (1, plain 0x0006)
  | _ => none

def opRefs : Nat → Option OpInfo
  | 0x010 => some (1, checkRefInput)
  | 0x011 => some (1, indexed 0x1011 6)
  | 0x012 => some (1, checkRefMon)
  | 0x013 => some (1, indexed 0x1013 8)
  | 0x014 => some (1, checkRefRank)
  | 0x015 => some (1, indexed 0x1015 8)
  | 0x020 => some (1, plain 0x1020)
  | 0x030 => some (1, checkTdcArm)
  | 0x032 => some (1, checkTdcResult)
  | _ => none

def opLoops : Nat → Option OpInfo
  | 0x010 => some (1, checkForce)
  | 0x012 => some (1, plain 0x2012)
  | 0x020 => some (1, checkLoop)
  | 0x021 => some (1, plain 0x2021)
  | 0x022 => some (1, checkStile)
  | 0x023 => some (1, plain 0x2023)
  | 0x030 => some (1, plain 0x2030)
  | 0x032 => some (1, checkHold)
  | 0x034 => some (1, checkNewOsc)
  | 0x036 => some (1, plain 0x2036)
  | 0x038 => some (3, checkModelWrite)
  | 0x040 => some (1, checkStep)
  | 0x042 => some (1, checkTallyCancel)
  | 0x044 => some (2, checkTallyRead)
  | _ => none

def opOuts : Nat → Option OpInfo
  | 0x010 => some (1, checkVco)
  | 0x011 => some (1, plain 0x3011)
  | 0x012 => some (1, checkPaddock)
  | 0x013 => some (1, indexed 0x3013 4)
  | 0x014 => some (1, checkOut)
  | 0x015 => some (1, indexed 0x3015 16)
  | 0x016 => some (1, checkOutDelay)
  | 0x018 => some (1, checkGateWindow)
  | 0x01A => some (1, checkGateFlush)
  | 0x020 => some (1, indexed 0x3020 16)
  | 0x022 => some (1, checkMon)
  | 0x023 => some (1, plain 0x3023)
  | _ => none

def opTime : Nat → Option OpInfo
  | 0x010 => some (1, checkAlign)
  | 0x011 => some (1, indexed 0x4011 16)
  | 0x012 => some (1, checkGather)
  | 0x014 => some (1, checkTime)
  | 0x015 => some (1, plain 0x4015)
  | 0x016 => some (1, checkTimeWrite)
  | 0x018 => some (1, plain 0x4018)
  | _ => none

def opShaft : Nat → Option OpInfo
  | 0x010 => some (1, checkSsct)
  | 0x011 => some (1, plain 0x5011)
  | 0x012 => some (2, checkSsctLoad)
  | 0x014 => some (2, checkSsctRead)
  | 0x016 => some (3, checkSsctSave)
  | 0x018 => some (1, plain 0x5018)
  | _ => none

def opRadio : Nat → Option OpInfo
  | 0x010 => some (1, checkRf)
  | 0x011 => some (1, plain 0x6011)
  | 0x012 => some (1, checkChanWrite)
  | 0x014 => some (1, indexed 0x6014 64)
  | 0x016 => some (1, checkRfRx)
  | 0x018 => some (2, checkRfTx)
  | 0x01A => some (2, checkRfCapture)
  | 0x01C => some (3, checkRfCal)
  | 0x020 => some (1, plain 0x6020)
  | _ => none

def opCommons : Nat → Option OpInfo
  | 0x010 => some (1, checkCommons)
  | 0x011 => some (1, plain 0x7011)
  | 0x012 => some (1, checkMgmt)
  | 0x013 => some (1, plain 0x7013)
  | 0x014 => some (3, checkCommonsKey)
  | 0x016 => some (1, plain 0x7016)
  | _ => none

def opDrove : Nat → Option OpInfo
  | 0x010 => some (1, checkDrove)
  | 0x011 => some (1, plain 0x8011)
  | 0x012 => some (1, checkDroveCmd)
  | 0x014 => some (1, plain 0x8014)
  | _ => none

def opStore : Nat → Option OpInfo
  | 0x010 => some (3, checkConfigSave)
  | 0x012 => some (3, checkPageWrite)
  | 0x014 => some (3, checkPageErase)
  | 0x016 => some (2, checkPageRead)
  | 0x018 => some (1, plain 0x9018)
  | 0x01A => some (2, checkPageWear)
  | 0x01C => some (3, checkPatchWrite)
  | _ => none

def opEvents : Nat → Option OpInfo
  | 0x010 => some (2, checkEvtConfig)
  | 0x012 => some (1, checkEvtNotify)
  | 0x014 => some (2, checkEvtStatus)
  | 0x016 => some (1, checkEvtClear)
  | 0x018 => some (2, checkEvtCounters)
  | 0x01A => some (2, checkEvtQueue)
  | _ => none

def opPins : Nat → Option OpInfo
  | 0x010 => some (1, checkPin)
  | 0x011 => some (1, indexed 0xB011 24)
  | 0x012 => some (1, checkPinLock)
  | 0x014 => some (1, plain 0xB014)
  | _ => none

def opPens : Nat → Option OpInfo
  | 0x010 => some (1, checkOwnerSet)
  | 0x012 => some (1, plain 0xC012)
  | 0x014 => some (1, checkOwnerLock)
  | 0x016 => some (1, checkPenOp)
  | 0x018 => some (1, checkPenOp)
  | 0x01A => some (1, checkPenOp)
  | _ => none

def opTest : Nat → Option OpInfo
  | 0x010 => some (1, checkInject)
  | 0x012 => some (1, checkRefKill)
  | 0x014 => some (1, checkStoreInject)
  | 0x016 => some (1, checkSlotOverrun)
  | 0x018 => some (1, checkDrvTest)
  | 0x01A => some (1, checkRfTone)
  | 0x01C => some (1, plain 0xD01C)
  | _ => none

def opCrook : Nat → Option OpInfo
  | 0x010 => some (1, checkCrookStep)
  | 0x012 => some (1, checkCrookGather)
  | 0x014 => some (1, checkCrookClear)
  | _ => none

/-- Every valid opcode (13 R300). -/
def opInfo (op : Nat) : Option OpInfo :=
  let f := op % 4096
  match op / 4096 with
  | 0 => opSystem f
  | 1 => opRefs f
  | 2 => opLoops f
  | 3 => opOuts f
  | 4 => opTime f
  | 5 => opShaft f
  | 6 => opRadio f
  | 7 => opCommons f
  | 8 => opDrove f
  | 9 => opStore f
  | 10 => opEvents f
  | 11 => opPins f
  | 12 => opPens f
  | 13 => opTest f
  | 14 => if f = 0x010 then some (2, checkTelemRead) else none
  | _ => opCrook f

/-! ### What a reply reads at its boundary (13 R302, R305) -/

/-- The data of a read opcode, with its index byte. -/
def readBytes (op : Nat) (p : List Byte) (s : State) : List Byte :=
  let i := fld p 0 1
  match op with
  | 0x0006 => s.resetInfoBytes
  | 0x1011 => s.refInputGroup i
  | 0x1013 => s.refMonGroup i
  | 0x1015 => s.refRankGroup i
  | 0x1020 => s.refStatusBytes
  | 0x1032 => s.tdcBytes i
  | 0x2012 => s.selStatusBytes
  | 0x2021 => s.loopGroup
  | 0x2023 => s.stileGroup
  | 0x2030 => s.loopStatusBytes
  | 0x2036 => s.mdl.block
  | 0x3011 => s.vcoGroup
  | 0x3013 => s.paddockGroup i
  | 0x3015 => s.outGroup i
  | 0x3020 => s.outStatusBytes i
  | 0x3023 => s.monGroup
  | 0x4011 => s.alignGroup i
  | 0x4015 => s.timeGroup
  | 0x4018 => s.timeBytes
  | 0x5011 => s.ssctGroup
  | 0x5018 => s.ssctStatusBytes
  | 0x6011 => s.rfGroup
  | 0x6014 => s.chanBytes i
  | 0x6020 => s.rfStatusBytes
  | 0x7011 => s.commonsGroup
  | 0x7013 => s.mgmtGroup
  | 0x7016 => s.commonsStatusBytes
  | 0x8011 => s.droveGroup
  | 0x8014 => s.droveStatusBytes
  | 0x9018 => s.storeStatusBytes
  | 0xB011 => s.pinGroup i
  | 0xB014 => s.pinStatusBytes
  | 0xC012 => s.ownerBytes
  | 0xD01C => s.testStatusBytes
  | _ => []

/-! ### What a staged command commits (01 R21) -/

/-- A commit with no data of its own. -/
def just (s : State) : State × Option (List Byte) := (s, none)

/-- A commit whose reply carries what it entered. -/
def told (x : State × List Byte) : State × Option (List Byte) := (x.1, some x.2)

/-! Each subsystem's changes, by the low twelve bits of the opcode. -/

def commitSystemAt (q : Call) (s : State) : Nat → State × Option (List Byte)
  | 0x003 => just (commitOutputsRelease q s)
  | 0x004 => just (commitPowerState q s)
  | 0x005 => just (commitSoftReset q s)
  | _ => just s

def commitRefsAt (q : Call) (s : State) : Nat → State × Option (List Byte)
  | 0x010 => just (commitRefInput q s)
  | 0x012 => just (commitRefMon q s)
  | 0x014 => just (commitRefRank q s)
  | 0x030 => just (commitTdcArm q s)
  | _ => just s

def commitLoopsAt (q : Call) (s : State) : Nat → State × Option (List Byte)
  | 0x010 => just (commitForce q s)
  | 0x020 => just (commitLoop q s)
  | 0x022 => just (commitStile q s)
  | 0x032 => just (commitHold q s)
  | 0x034 => just (commitNewOsc q s)
  | 0x040 => told (commitStep q s)
  | 0x042 => just (commitTallyCancel q s)
  | _ => just s

def commitOutsAt (q : Call) (s : State) : Nat → State × Option (List Byte)
  | 0x010 => just (commitVco q s)
  | 0x012 => just (commitPaddock q s)
  | 0x014 => just (commitOut q s)
  | 0x016 => told (commitOutDelay q s)
  | 0x018 => just (commitGateWindow q s)
  | 0x01A => told (commitGateFlush q s)
  | 0x022 => just (commitMon q s)
  | _ => just s

def commitTimeAt (q : Call) (s : State) : Nat → State × Option (List Byte)
  | 0x010 => just (commitAlign q s)
  | 0x012 => told (commitGather q s)
  | 0x014 => just (commitTime q s)
  | 0x016 => told (commitTimeWrite q s)
  | _ => just s

def commitShaftAt (q : Call) (s : State) : Nat → State × Option (List Byte)
  | 0x010 => just (commitSsct q s)
  | 0x012 => just (commitSsctLoad q s)
  | _ => just s

def commitRadioAt (q : Call) (s : State) : Nat → State × Option (List Byte)
  | 0x010 => just (commitRf q s)
  | 0x012 => just (commitChanWrite q s)
  | 0x016 => just (commitRfRx q s)
  | _ => just s

def commitCommonsAt (q : Call) (s : State) : Nat → State × Option (List Byte)
  | 0x010 => just (commitCommons q s)
  | 0x012 => just (commitMgmt q s)
  | _ => just s

def commitDroveAt (q : Call) (s : State) : Nat → State × Option (List Byte)
  | 0x010 => just (commitDrove q s)
  | 0x012 => told (commitDroveCmd q s)
  | _ => just s

def commitEventsAt (q : Call) (m : Nat) (s : State) : Nat → State × Option (List Byte)
  | 0x010 => just (commitEvtConfig q s)
  | 0x012 => just (commitEvtNotify q s)
  | 0x01A => just (commitEvtQueue m s)
  | _ => just s

def commitPinsAt (q : Call) (s : State) : Nat → State × Option (List Byte)
  | 0x010 => just (commitPin q s)
  | 0x012 => just (commitPinLock q s)
  | _ => just s

def commitPensAt (q : Call) (s : State) : Nat → State × Option (List Byte)
  | 0x010 => just (commitOwnerSet q s)
  | 0x014 => just (commitOwnerLock q s)
  | 0x01A => just (commitPenEnable q s)
  | _ => just s

def commitTestAt (q : Call) (s : State) : Nat → State × Option (List Byte)
  | 0x010 => just (commitInject q s)
  | 0x012 => just (commitRefKill q s)
  | 0x014 => just (commitStoreInject q s)
  | 0x016 => just (commitSlotOverrun q s)
  | 0x018 => just (commitDrvTest q s)
  | 0x01A => just (commitRfTone q s)
  | _ => just s

def commitTelemAt (q : Call) (m : Nat) (s : State) : Nat → State × Option (List Byte)
  | 0x010 => just (commitTelemRead m s)
  | _ => just s

def commitCrookAt (q : Call) (s : State) : Nat → State × Option (List Byte)
  | 0x010 => told (commitCrookStep q s)
  | 0x012 => just (commitCrookGather q s)
  | 0x014 => just (commitCrookClear q s)
  | _ => just s

/-- The change of a staged command, but for a pen's reset and disabling, which come first, and the clearing of sticky bits (12 R293, 14 R333). -/
def commitOp (g : Staged) (s : State) : State × Option (List Byte) :=
  let f := g.opcode.toNat % 4096
  match g.opcode.toNat / 4096 with
  | 0 => commitSystemAt g.call s f
  | 1 => commitRefsAt g.call s f
  | 2 => commitLoopsAt g.call s f
  | 3 => commitOutsAt g.call s f
  | 4 => commitTimeAt g.call s f
  | 5 => commitShaftAt g.call s f
  | 6 => commitRadioAt g.call s f
  | 7 => commitCommonsAt g.call s f
  | 8 => commitDroveAt g.call s f
  | 10 => commitEventsAt g.call g.mark s f
  | 11 => commitPinsAt g.call s f
  | 12 => commitPensAt g.call s f
  | 13 => commitTestAt g.call s f
  | 14 => commitTelemAt g.call g.mark s f
  | 15 => commitCrookAt g.call s f
  | _ => just s

/-! ### Interpreting one packet (12 R282, 13 R303) -/

/-- What the interpreter decides of a packet; over the air the crook opcodes are refused too (10 R240). -/
def State.decide_ (s : State) (k : Packet) : Serve :=
  let q := k.call
  if q.flags ≠ 0 || q.rsv ≠ 0 then .refuse St.badParam
  else match opInfo k.opcode.toNat with
    | none => .refuse St.badOpcode
    | some (c, chk) => if q.cls.toNat ≠ c || (k.air && k.opcode.toNat / 4096 = 15) then .refuse St.badOpcode else chk q s

/-- What came over the air is answered there, when the unit that has it in hand answers (10 R240). -/
def State.markAir (s : State) (k : Packet) : State :=
  if !k.air then s
  else
    let own (o : JobOwner) : JobOwner := if o.pen = 3 && o.tag = k.call.tag then { o with air := true } else o
    { s with
      rf := { s.rf with
        capture := if k.opcode = 0x601A then s.rf.capture.map fun c => { c with air := true } else s.rf.capture
        hostTx := if k.opcode = 0x6018 then s.rf.hostTx.map fun c => { c with air := true } else s.rf.hostTx }
      store := { s.store with jobs := s.store.jobs.map fun j => { j with owner := j.owner.map own } }
      bg := { s.bg with calQueue := s.bg.calQueue.map fun j => { j with owner := j.owner.map own } } }

/-- A packet is served: it leaves its queue, what happens at once happens, and its staged result is given, none where a unit will answer. -/
def State.serve (s : State) (k : Packet) (sv : Serve) : State × Option Staged :=
  let s1 := s.updIo k.call.pen fun p => { p with queue := p.queue.erase k, pinStep := none }
  let s2 := (sv.act s1).markAir k
  (s2, if sv.later then none
       else some { opcode := k.opcode, call := k.call, status := sv.status, body := sv.body, commit := sv.commit, air := k.air, mark := sv.mark })

/-- A staged result waits for the boundary. -/
def State.stage (s : State) (g : Option Staged) : State := { s with host := { s.host with staged := s.host.staged ++ g.toList } }

/-- A packet that must wait is marked (12 R284, R297). -/
def State.defer (s : State) (k : Packet) : State :=
  s.updIo k.call.pen fun p => { p with queue := p.queue.map fun x => if x = k then { x with waits := true } else x }

/-- Interpret a packet of a queue; whether it was served. -/
def State.interpret (s : State) (k : Packet) : State × Bool :=
  let sv := s.decide_ k
  if sv.wait then (s.defer k, false)
  else
    let x := s.serve k sv
    (x.1.stage x.2, true)

/-! ### Queues (01 R22, 12 R283) -/

/-- Packets served in the CONTROL pass: classes URGENT and CONTROL. -/
def Packet.control (k : Packet) : Bool := k.call.cls.toNat ≤ 1

/-- A pen's oldest packet that `f` takes. -/
def State.headOf (s : State) (p : Pen) (f : Packet → Bool) : Option Packet := (s.io p).queue.find? f

/-- The pens in round-robin order from `host.robin`. -/
def State.pensFrom (s : State) : List Pen := (List.range 4).map fun n => Fin.ofNat 4 (s.host.robin + n)

/-- The turn passes to the pen after `p`. -/
def State.turn (s : State) (p : Pen) : State := { s with host := { s.host with robin := (p.val + 1) % 4 } }

/-- Every CONTROL and URGENT packet served, one per pen in turn: `n` bounds how many there are. -/
def State.controlPass : Nat → State → State
  | 0, s => s
  | n + 1, s =>
    match (s.pensFrom.filterMap fun p => s.headOf p Packet.control).head? with
    | some k => State.controlPass n ((s.interpret k).1.turn k.call.pen)
    | none => s

/-- All of them: at most 32. -/
def State.serveControl (s : State) : State := s.controlPass 32

/-- Heads of the BULK queues in turn, then of the MAINT queues (12 R283). -/
def State.longHeads (s : State) : List Packet :=
  (s.pensFrom.filterMap fun p => s.headOf p fun k => k.call.cls = 2) ++ s.pensFrom.filterMap fun p => s.headOf p fun k => k.call.cls = 3

/-- The first of a list of heads that need not wait is served; those before it are marked. Its staged result is given apart. -/
def State.serveFirst (s : State) : List Packet → State × Option (Option Staged)
  | [] => (s, none)
  | k :: r =>
    let sv := s.decide_ k
    if sv.wait then (s.defer k).serveFirst r
    else
      let x := s.serve k sv
      (x.1.turn k.call.pen, some x.2)

/-- A begun command as it finishes: an SSCT_LOAD is refused where the table has been applied since (08 R192). -/
def Staged.finished (g : Staged) (s : State) : Staged :=
  if g.opcode = 0x5012 && g.commit && !s.ssctLoadable then { g with status := St.locked, commit := false } else g

/-- The BULK or MAINT command that a slot left begun finishes (01 R18, R19). -/
def State.finishBegun (s : State) : State :=
  match s.host.begun with
  | some g => ({ s with host := { s.host with begun := none } }).stage (some (g.finished s))
  | none => s

/-- `n` BULK or MAINT commands run to their end, the begun one first. -/
def State.longPass : Nat → State → State
  | 0, s => s
  | n + 1, s =>
    if s.host.begun.isSome then State.longPass n s.finishBegun
    else
      let x := s.serveFirst s.longHeads
      match x.2 with
      | some g => State.longPass n (x.1.stage g)
      | none => x.1

/-- One more is begun: a BULK copy is taken from the present snapshot (13 R305). -/
def State.beginLong (s : State) : State :=
  if s.host.begun.isSome then s
  else
    let x := s.serveFirst s.longHeads
    match x.2 with
    | some g => { x.1 with host := { x.1.host with begun := g } }
    | none => x.1

/-- An interpreter slot: all CONTROL, then as much BULK and MAINT work as it reaches (log 35). -/
def State.interpSlot (s : State) (done : Nat) (begun : Bool) : State :=
  let s1 := (s.serveControl).longPass done
  if begun then s1.beginLong else s1

/-- The interpreter slot that an instant lies within: 6, 8, 11 or 14 (01 R17). -/
def interpAt (t : Nat) : Nat := ([6, 8, 11].find? fun n => slotHolds n t).getD 14

/-- Slots 6, 8, 11 and 14. -/
def execCommandInterpreterSlot (done : Nat) (begun : Bool) (t : Nat) (s : State) : Host.Outcome State Fault Refusal :=
  .next (s.inSlot (interpAt t) t fun s => s.interpSlot done begun)

/-- Reserve: only the command already begun goes on (01 R19). -/
def execReserveSlot (done : Bool) (t : Nat) (s : State) : Host.Outcome State Fault Refusal :=
  .next (s.inSlot 16 t fun s => if done then s.finishBegun else s)

/-- BULK and MAINT commands run in their order, the begun one first, until the packet `k` has been served or has been found to wait: `n` bounds how many
there are (01 R22, 12 R283). -/
def State.longUntil : Nat → Packet → State → State
  | 0, _, s => s
  | n + 1, k, s =>
    if !(s.io k.call.pen).queue.contains k then s
    else
      let s1 := s.finishBegun
      let x := s1.serveFirst s1.longHeads
      match x.2 with
      | some g => State.longUntil n k (x.1.stage g)
      | none => x.1

/-- The interpreter comes to a packet that stands in its pen's queue: it has served CONTROL before, and the long commands ahead of it (01 R22). -/
def State.reach (s : State) (k : Packet) : State :=
  let s1 := s.serveControl
  if k.control then s1 else s1.longUntil 33 k

/-- The sequencer stands in one of the interpreter's slots (01 R17). -/
def State.interpreting (s : State) : Bool := s.schedule && (s.clk.slot = 7 || s.clk.slot = 9 || s.clk.slot = 12 || s.clk.slot = 15)

/-- The oldest waiting packet of a pen is served in its turn, if it need not wait any more. -/
def State.serveWaiting (s : State) (p : Pen) : State :=
  match s.headOf p (·.waits) with
  | some k => if !s.interpreting || (s.decide_ k).wait then s else s.reach k
  | none => s

/-- A deferred command is served in a later slot of the interpreter, once a journal buffer is free (12 R297). -/
def execDeferredCommandServed (p : Pen) (t : Nat) (s : State) : Host.Outcome State Fault Refusal := .next ((s.setNow t).serveWaiting p)

/-- A long command starts once its pen's job in its engine has ended (12 R284). -/
def execLongCommandStart (p : Pen) (t : Nat) (s : State) : Host.Outcome State Fault Refusal := .next ((s.setNow t).serveWaiting p)

/-! ### Jobs and pen resets that end (12 R284, R291) -/

/-- Which engine an owner's job ran in. -/
def JobOwner.engine (o : JobOwner) : Engine := if o.opcode = 0x601C then .calibration else .store

/-- CMD_DONE for a job that has ended (12 R284). -/
def State.jobDone (s : State) (p : Pen) (eng : Engine) : State :=
  match s.store.ended.find? fun x => x.1.pen = p && x.1.engine = eng with
  | some x =>
    (s.mapStore fun m => { m with ended := m.ended.erase x }).raise Ev.cmdDone (x.2.toNat * 2 ^ 16 + x.1.tag.toNat * 2 ^ 8 + p.val)
  | none => s

/-- The JOB_END row. -/
def execJobEnd (p : Pen) (eng : Engine) (t : Nat) (s : State) : Host.Outcome State Fault Refusal := .next ((s.setNow t).ifScheduled fun s => s.jobDone p eng)

/-- RESETTING ends at a boundary after the last engine command of the pen has ended (12 R291). -/
def State.endPenReset (s : State) (p : Pen) : State :=
  let x := s.penSt p
  let cal := s.bg.calQueue.any fun j => match j.owner with | some o => o.pen = p | none => false
  if x.state ≠ .resetting || s.clk.absFold.toNat ≤ x.since.toNat || s.storeHolds p || cal then s
  else (s.updPen p fun y => { y with toDisabled := false }).setPen p (if x.toDisabled then .disabled else .active)

/-- The PEN_RESET_END row: a boundary's own work. -/
def execPenResetEnd (p : Pen) (s : State) : Host.Outcome State Fault Refusal := .next (if s.atBoundary then s.endPenReset p else s)

/-! ### A command delivered and served (log 36) -/

/-- A whole packet of an opcode arrives over the wire, and where it is queued and an interpreter slot of the fold is still to come, the interpreter comes to
it there. -/
def deliver (op : BitVec 16) (q : Call) (s : State) : State :=
  if !s.ifaceOpen then s
  else
    let k : Packet := { opcode := op, call := q, order := s.host.order }
    let s1 := admitPacket { opcode := op, call := q } s
    if s1.schedule && s1.clk.slot ≤ 14 && (s1.io q.pen).queue.contains k then s1.reach k else s1

end Sys2Proof.Machine
end

