-- ==== Sys2Proof/Machine/Scrub.lean ====
section
/-! DEFINITION. The configuration shadow and the scrub slot (16 R377–R381). -/

namespace Sys2Proof.Machine

/-- The packet parameters that write a shadowed setting as it stands. -/
def State.pieceBytes (s : State) (k : Nat × Nat) : List Byte :=
  match k.1 with
  | 0x2010 => le 1 (s.sel.force.getD 255)
  | 0x6012 => le 1 k.2 ++ le 3 0 ++ le 4 (s.chan k.2).freq
  | 0xA010 => le 2 k.2 ++ le 2 1 ++ le 1 (b2n (s.cfg.ev.getD k.2 {}).enable + 2 * (s.cfg.ev.getD k.2 {}).cls)
  | 0xC010 => le 1 k.2 ++ le 1 (s.owner k.2).val
  | op => readBytes (op + 1) (le 1 k.2) s

/-- The commit of an opcode with parameters, as the device makes it for itself (01 R21). -/
def State.selfCommit (s : State) (op : Nat) (p : List Byte) : State :=
  (commitOp { opcode := BitVec.ofNat 16 op, call := { pen := 0, cls := 1, flags := 0, tag := 0, rsv := 0, params := p }, status := St.ok, body := .bytes [], commit := true } s).1

/-- The state as it were with the shadow for its settings. -/
def State.onShadow (s : State) : State := { s with cfg := s.shadow, sel := { s.sel with force := s.bg.shadowForce } }

/-- The shadow becomes the settings of `x`. -/
def State.withShadow (s x : State) : State := { s with shadow := x.cfg, bg := { s.bg with shadowForce := x.sel.force } }

/-- The live settings become those of `x`. -/
def State.withLive (s x : State) : State := { s with cfg := x.cfg, sel := { s.sel with force := x.sel.force } }

/-- A live setting differs from the shadow word that copies it (16 R381). -/
def State.pieceDiffers (s : State) (k : Nat × Nat) : Bool := s.pieceBytes k ≠ s.onShadow.pieceBytes k

/-- A shadowed setting is rebuilt from the live one (16 R380). -/
def State.shadowPiece (s : State) (k : Nat × Nat) : State := s.withShadow (s.onShadow.selfCommit k.1 (s.pieceBytes k))

/-- The shadow words that SRAM word `w` of region 3 holds are rebuilt. -/
def rebuildShadow (w : Nat) (s : State) : State :=
  forEach ((List.range 8000).filter fun n => Config.shadowWord n = w) (fun n s => s.shadowPiece (shadowPieceOf n)) s

/-- What has befallen the SRAM: a bit turned, or a read with its demand check (16 R379). -/
def State.sramAct (a : SramAct) (s : State) : State :=
  match a with
  | .strike w k => s.mapBg fun b => b.strike w k
  | .read w => s.checkWord rebuildShadow w true

/-- Soft errors have changed a live setting to what an opcode would write with the parameters `x.2`; its shadow stands (log 21). -/
def State.strikeLive (x : Nat × List Byte) (s : State) : State := s.withLive (s.selfCommit x.1 x.2)

/-- The check of shadow word `n`: one that is clean, or has been corrected, is compared with the live setting, which is restored where they differ (16 R378,
R381). -/
def State.checkShadow (s : State) (n : Nat) : State :=
  let clean := (s.bg.flipped (Config.shadowWord n)).length ≤ 1
  let s1 := s.checkWord rebuildShadow (Config.shadowWord n) false
  if clean && s1.pieceDiffers (shadowPieceOf n) then (s1.mapBg fun b => { b with restore := b.restore ++ [n] }).raise Ev.shadowMismatch n else s1

/-- The check of the `k`th of a fold's four words (16 R378). -/
def State.scrubWord (k : Nat) (s : State) : State := s.checkWord rebuildShadow (4 * s.clk.inSec + k) false

/-- Slot 13 of in-second fold n (16 R378): SRAM words 4n to 4n + 3 and shadow word n, after what `acts` and `live` tell of the time since the slot before. -/
def State.scrubSlot (s : State) (acts : List SramAct) (live : List (Nat × List Byte)) : State :=
  (forEach (List.range 4) State.scrubWord (forEach acts State.sramAct (forEach live State.strikeLive s))).checkShadow s.clk.inSec

/-- The row. -/
def execScrubSlot (acts : List SramAct) (live : List (Nat × List Byte)) (t : Nat) (s : State) : Host.Outcome State Fault Refusal :=
  .next (s.inSlot 13 t fun s => s.scrubSlot acts live)

/-- The boundary's part: settings are restored from the shadow, as commits (16 R381). -/
def State.restoreShadow (s : State) : State :=
  forEach s.bg.restore (fun n s => s.selfCommit (shadowPieceOf n).1 (s.onShadow.pieceBytes (shadowPieceOf n))) (s.mapBg fun b => { b with restore := [] })

end Sys2Proof.Machine
end

