-- ==== Sys2Proof/Machine/Boundary.lean ====
section
/-! DEFINITION. The fold boundary (01 R11–R31): the snapshot, the counters, every staged change, and the replies that become readable. -/

namespace Sys2Proof.Machine

/-! ### Replies (12 R283, R285; 13 R302, R305, R306) -/

/-- A reply takes its credit's slot: OUTSTANDING to GRANTED; one for the air goes to the MAC (10 R240). -/
def State.postReply (s : State) (r : Reply) : State :=
  let s1 := s.updIo r.pen fun p => { p with replies := p.replies ++ [r] }
  if r.air then s1.airReply r else s1

/-- The status that a staged command replies: a FORCE is judged at its boundary (03 R69). -/
def State.replyStatus (s : State) (g : Staged) : BitVec 16 := if g.opcode = 0x2010 && g.commit then s.forceStatus g.call else g.status

/-- Reply data: what the commit entered, or what the reply reads; none with a refusal other than FORCED_INVALID (13 R306). -/
def State.replyData (s : State) (g : Staged) (told : Option (List Byte)) : List Byte :=
  let st := (s.replyStatus g).toNat
  if 0x100 ≤ st && st ≠ 0x500 then []
  else match told with
    | some d => d
    | none =>
      match g.body with
      | .bytes l => l
      | .read op p => readBytes op.toNat p s

/-- A job's ACCEPTED has been posted: no credit of it is OUTSTANDING any more (12 R284, R294). -/
def State.noteAccepted (s : State) (g : Staged) : State :=
  if g.status ≠ St.accepted then s
  else
    let mark (o : JobOwner) : JobOwner := if o.pen = g.call.pen && o.opcode = g.opcode then { o with credit := false } else o
    (s.mapStore fun x => { x with jobs := x.jobs.map fun j => { j with owner := j.owner.map mark } }).mapBg fun b =>
      { b with calQueue := b.calQueue.map fun j => { j with owner := j.owner.map mark } }

/-- One staged command's reply. SOFT_RESET posts none (13 R308). -/
def State.post (s : State) (g : Staged) (told : Option (List Byte)) : State :=
  if g.opcode = 0x0005 && g.commit then s
  else
    (s.postReply { pen := g.call.pen, cls := g.call.cls, tag := g.call.tag, status := s.replyStatus g, opcode := g.opcode, data := s.replyData g told, air := g.air }).noteAccepted g

/-- Replies of jobs that a pen reset stopped, as they end (12 R294). -/
def State.settleReplies (s : State) : State :=
  forEach (s.store.settling.filter fun x => x.1.reply) (fun x s =>
    s.postReply { pen := x.1.pen, cls := x.1.cls, tag := x.1.tag, status := x.2, opcode := x.1.opcode, data := [], air := x.1.air }) s

/-! ### Pen resets (12 R291–R294) -/

/-- A staged command that resets or disables pen `p`. -/
def Staged.resets (g : Staged) (p : Pen) : Bool := g.commit && (g.opcode = 0xC016 || g.opcode = 0xC018) && fld g.call.params 0 1 = p.val

/-- The pens whose reset this boundary commits. -/
def State.resettingPens (s : State) (l : List Staged) : List Pen :=
  [1, 2, 3].filter fun p => (s.penSt p).state ≠ .resetting && ((s.penSt p).pinReset ≠ 0 || l.any fun g => g.resets p)

/-- A command whose job a shared engine has begun: it runs to its atomic end (12 R293). -/
def State.jobBegun (s : State) (g : Staged) : Bool :=
  let own (o : Option JobOwner) : Bool := match o with | some o => o.pen = g.call.pen && o.opcode = g.opcode && o.credit | none => false
  g.status = St.accepted &&
    ((s.store.jobs.any fun j => j.begun && own j.owner) || (s.bg.calQueue.any fun j => j.begun && own j.owner) ||
      s.store.settling.any fun x => x.1.pen = g.call.pen && x.1.opcode = g.opcode && x.1.credit)

/-- Jobs that have ended in the elapsed fold with their ACCEPTED still staged: their reply is the final one (12 R294). -/
def State.replySettling (s : State) (p : Pen) : State :=
  s.mapStore fun x => { x with settling := x.settling.map fun y => if y.1.pen = p && y.1.credit then ({ y.1 with reply := true }, y.2) else y }

/-- What a pen has in the radio, in the interpreter and in its TDC result goes. -/
def State.dropUnits (s : State) (p : Pen) (cap tx begun : Bool) : State :=
  { s with
    rf := { s.rf with capture := if cap then none else s.rf.capture, hostTx := if tx then none else s.rf.hostTx }
    host := { s.host with begun := if begun then none else s.host.begun }
    tdc := s.tdc.upd p.val fun _ => {} }

/-- A pen reset is committed (12 R293): `gone` are the pen's staged commands. -/
def State.penReset (s : State) (p : Pen) (gone : List Staged) : State :=
  let mine (q : Option Pen) : Bool := q = some p
  let cap := mine (s.rf.capture.map (·.pen))
  let tx := mine (s.rf.hostTx.map (·.pen))
  let begun := mine (s.host.begun.map (·.call.pen))
  let n := ((gone ++ s.host.begun.toList.filter (·.call.pen = p)).filter fun g => !s.jobBegun g).length + b2n cap + b2n tx
  let lost := s.lostJobs p + s.lostCals p
  let s1 := (((s.replySettling p).penResetStore p).penResetCal p).dropPenItems p n lost
  let s3 := (((s1.dropUnits p cap tx begun).updCrook p fun c => { c with gather := none }).resetNotify p).penResetTally p
  let s4 := forEach ((List.range 16).filter fun o => s3.owner o = p) (fun o s => s.prstOutput o s.foldStart) s3
  ((s4.penResetTest p).updPen p fun x => { x with since := s.clk.absFold }).setPen p .resetting

/-- A trigger of a pen reset (12 R292): counted; a second one starts no second reset, but a disable takes effect. -/
def State.penTrigger (s : State) (p : Pen) (disable : Bool) (gone : List Staged) : State :=
  let x := s.penSt p
  let s1 := s.updIo p fun c => { c with resets := c.resets + 1 }
  let s2 := s1.updPen p fun y => { y with toDisabled := disable || (if x.state = .resetting then x.toDisabled else x.state = .disabled) }
  if x.state = .resetting then s2 else s2.penReset p (gone.filter fun g => g.call.pen = p)

/-- Edges that asked for a reset too late to have crossed take effect at the next boundary (01 R29; 12 R292). -/
def State.latePins (s : State) : State := { s with pens := s.pens.map fun x => { x with pinReset := x.pinReset + x.pinLate, pinLate := 0 } }

/-- Each edge that has crossed is one trigger (12 R292; 17 R397). -/
def State.pinTriggers (s : State) (p : Pen) (l : List Staged) : State :=
  forEach (List.range (s.penSt p).pinReset) (fun _ s => s.penTrigger p false l) (s.updPen p fun x => { x with pinReset := 0 })

/-- Pen resets, disables and enables in staging order, after those that pins asked for (12 R291–R293). -/
def State.commitPens (s : State) (l : List Staged) : State :=
  let s1 := forEach [1, 2, 3] (fun p s => s.pinTriggers p l) s
  State.latePins <| forEach l (fun g s =>
    if !g.commit then s
    else if g.opcode = 0xC01A then commitPenEnable g.call s
    else if g.opcode = 0xC016 || g.opcode = 0xC018 then s.penTrigger (Fin.ofNat 4 (fld g.call.params 0 1)) (g.opcode = 0xC018) l
    else s) s1

/-! ### The snapshot and the counters (01 R15, R31; 14 R332) -/

/-- The boundary's snapshot of the live statuses. -/
def State.latchLive (s : State) : State := s.mapSources fun i e => { e with live := s.liveNow i e, raised := false }

/-- A qualification timer that runs takes one fold more (02 R47). -/
def Cand.count (c : Cand) : Cand := { c with wasActive := none, timer := if c.timing then c.timer + 1 else c.timer }

/-- The snapshot of the candidates' measurements, with the word in force while they were taken (01 R31, 02 R41), and one fold more on the qualification timers.
What came within a crossing's latency of the boundary is left for the next snapshot (01 R29, R31). -/
def State.latchRefs (s : State) : State :=
  let latch (c : Cand) : Cand := { c with
    latched := { c.meas with activity := c.wasActive.getD c.active }
    deglitched := c.deglitched + BitVec.ofNat 32 c.meas.removed
    meas := c.late
    late := {} }
  { s with lp := { s.lp with dcoWas := s.lp.dco }, cands := s.cands.map fun c => (latch c).count }

/-- MON's snapshot: edges that pads missed (06 R151), on which the live status of MON_FAIL is judged (14 R332). -/
def State.latchMon (s : State) (m : BoundaryIn) : State :=
  forEach m.padMissed (fun p s => if (s.out p.1).running then s.updOut p.1 fun x => { x with diff := x.diff + p.2 } else s) s

/-- The counters advance by one fold, and the fold's own instants and slots begin at 0 (01 R15, R17). -/
def State.advance (s : State) : State :=
  let s1 := s.passFolds 1
  { s1 with clk := { s1.clk with now := 0, slot := 0 } }

/-- What hardware does at a device-second boundary: the second's observation closes, and the precise gates end and begin (02 R43, 04 R97). -/
def State.secondBoundary (s : State) : State := s.closeSecond.gateBoundary s.model

/-! ### The word, the outputs and the tally -/

/-- With no staged word the standing one acts for another fold: its payout is paid again, up to what its entry has left (01 R12, R26, 05 R114). The difference
of the realised value from the word is carried once, by the fold that committed it (DESIGN CHOICE, log 37). -/
def State.redeliver (s : State) : State :=
  match s.lp.dcoSeq.bind s.tally.find with
  | some e =>
    let r := e.remaining
    let x := clampI (min 0 r) (max 0 r) (s.lp.dcoPay / 8000)
    if x = 0 then s else { s with tally := s.tally.payDevice e x }
  | none => s

/-- The SSCT phase that the word delivers in its fold. -/
def State.deliverSsct (s : State) : State :=
  let x := s.lp.dcoSsct.tdiv 8000
  { s with ssct := { s.ssct with net := s.ssct.net + x, sum := s.ssct.sum + x } }

/-- The DCO word of the new fold, with the SSCT phase that it delivers (04 R76, 08 R187). -/
def State.wordBoundary (s : State) : State := (if s.lp.staged.isSome then s.commitWord else s.redeliver).deliverSsct

/-- An output's counters and plans stand at the boundary. -/
def State.settleNow (o : Nat) (s : State) : State := s.settle o s.foldStart

/-- What the elapsed fold brought the outputs: planned starts are reached, counters stand at the boundary, fired gathers become entries, amounts are fixed, and
ALIGN_DONE is raised. -/
def State.outputsBoundary (s : State) : State :=
  (forEach (List.range 16) State.settleNow s).createCrookGathers.fixGathers.raiseAligns

/-- The STEP entry at the head of an output that does not run is applied whole (06 R148). -/
def State.stepStill (s : State) (o : Nat) : State :=
  match s.outHead o with
  | some e =>
    let rest := e.amount - e.outApplied o
    if e.status = .applying && e.src = .step && !e.crook && rest ≠ 0 then s.moveOut e o rest else s
  | none => s

/-- Entries of outputs that do not run are applied whole at their activating boundary (06 R148, 07 R163). -/
def State.payStill (s : State) : State :=
  forEach (List.range 16) (fun o s => if (s.out o).running then s else (s.stepStill o).gatherStill o) s

/-! ### Selector, grades, oscillator -/

/-- The staged pass is committed (03 R63, R67, R72, R73): the selector counts a change to a candidate, the store every change of BELL (15 R364). -/
def State.commitPass (s : State) : State :=
  match s.sel.staged with
  | none => s
  | some r =>
    let x := s.sel
    let bell := x.bell ≠ r.bell
    let ch := bell || x.state ≠ r.state
    let count := bell && r.bell.isSome
    let s1 := { s with
      sel := { x with
        bell := r.bell
        state := r.state
        usedForce := r.force
        shadow := r.shadow
        lastCause := if ch then r.cause else x.lastCause
        switches := if count then x.switches + 1 else x.switches
        staged := none }
      store := { s.store with life := { s.store.life with switches := if bell then s.store.life.switches + 1 else s.store.life.switches } } }
    (s1.raiseIf ch Ev.bellChange s1.selWord).raiseIf (r.state = .forcedInvalid && x.state ≠ .forcedInvalid) Ev.forcedInvalid s1.selWord

/-- Advertised grades that have arrived are committed (02 R52). -/
def State.commitGrades (s : State) : State := { s with cands := s.cands.map fun c => { c with advGrade := c.advNew.getD c.advGrade, advNew := none } }

/-- Effective and advertised grades of the eight candidates. -/
def State.grades (s : State) : List (Nat × Nat) := (List.range 8).map fun i => (s.egrade i, (s.cand i).advGrade)

/-- GRADE_CHANGE for what the boundary's commits made of each effective grade (02 R53): bit 8 where the advertised grade is among what changed (DESIGN CHOICE,
log 92). -/
def State.gradeEvents (s : State) (old : List (Nat × Nat)) : State :=
  forEach (List.range 8) (fun i s =>
    let o := old.getD i (0, 0)
    s.raiseIf (s.egrade i ≠ o.1) (8 * i + 6) (s.egrade i + 16 * o.1 + 256 * b2n ((s.cand i).advGrade ≠ o.2))) s

/-- A declared new oscillator, outside HOLDOVER (04 R99, R103). -/
def State.oscBoundary (s : State) : State :=
  match s.mdl.newOsc with
  | some r => if s.lp.state = .holdover then s else (s.newOscillator r).saveModel
  | none => s

/-- DPLL_STATE for the net change since the last boundary that told of one (04 R83; 18 R426). -/
def State.dpllEvent (s : State) : State :=
  ({ s with lp := { s.lp with told := (s.lp.state, s.lp.held) } }).raiseIf (s.lp.told ≠ (s.lp.state, s.lp.held)) Ev.dpllState s.loopWord

/-- TIME_VALID becomes 1 for the first time after start-up: the store's age is checked (15 R362). -/
def State.noteTime (s : State) : State :=
  if s.tod.valid && !s.store.timeSeen then s.mapStore fun x => { x with timeSeen := true, ageCheck := true } else s

/-- The last candidate kind that steered names the automatic time source (07 R169). -/
def State.noteSource (s : State) : State :=
  match s.sel.bell with
  | some b => { s with tod := { s.tod with last := if b = 6 then 2 else if b = 7 then 3 else 1 } }
  | none => s

/-! ### The whole boundary -/

/-- Sticky bits are cleared against the snapshot (14 R333). -/
def State.commitClears (s : State) (l : List Staged) : State :=
  forEach (l.filter fun g => g.commit && g.opcode = 0xA016) (fun g s => commitEvtClear g.call s) s

/-- The staged changes in staging order, with what each tells its reply. -/
def State.commitAll (s : State) (l : List Staged) : State × List (Staged × Option (List Byte)) :=
  l.foldl (fun a g =>
    if !g.commit then (a.1, a.2 ++ [(g, none)])
    else
      let x := commitOp g a.1
      (x.1, a.2 ++ [(g, x.2)])) (s, [])

/-- After the host's changes: the drove's, the grades, the selector, the DPLL, the tally (01 R21, R26); `graded` that the pass of the elapsed fold found the
bellwether's grade to be 15, `old` the grades before the boundary. -/
def State.commitLoops (s : State) (graded : Bool) (old : List (Nat × Nat)) : State :=
  let s1 := (s.droveCommit.configFrames.commitGrades.gradeEvents old).commitPass
  let s2 := (s1.resolveDpll s.sel.bell s.sel.state graded).limitNew
  let s3 := s2.oscBoundary.activateTally.payStill.shaftBoundary
  s3.judgeBandwidth.shaftEvent

/-- The units that act at a boundary: outputs, dividers, drove, store, commons, radio, calibration, telemetry. -/
def State.commitUnits (s : State) (sec : Nat) : State :=
  let s1 := s.lockBoundary.releaseOutputs.restartDividers.droveCount
  let s2 := s1.settleReplies.storeBoundary.calBoundary.commonsBoundary.hostTxBoundary.toneBoundary.captureBoundary.tdcBoundary
  ((s2.telemBoundary sec).noteTime.noteSource).dpllEvent

/-- The watchdog is fed by a boundary that follows a DPLL update slot that ran to its end (18 R413). -/
def State.feedWatchdog (s : State) : State :=
  { s with pow := { s.pow with slotDone := false, wdMissed := if s.pow.slotDone then 0 else if s.pow.npfail then s.pow.wdMissed else s.pow.wdMissed + 1 } }

/-- SUMMARY and the copies that BULK reads take (12 R274, 13 R305), and the loop status signals (17 R399). -/
def State.latchCopies (s : State) : State :=
  let h := { s.host with summary := BitVec.ofNat 32 s.summaryNow }
  { s with
    host := h
    lp := { s.lp with shown := (s.lp.aplLock, s.mdl.valid) }
    snap := { tally := s.tally, host := h, pens := s.pens, ev := s.ev, evCfg := s.cfg.ev, ssct := s.ssct, bg := s.bg, wear := s.store.wear
              flash := s.store.flash } }

/-- Entries that have left the open list join the ring. -/
def State.retire (s : State) : State := { s with tally := s.tally.retire }

/-- What the boundary commits, the counters having advanced; `sec` is the device second of the fold that has ended. Each change is written to the live setting and
to its shadow (16 R377). Entries that left the open list at the boundary before are retired first (05 R112, R128). -/
def State.commitBoundary (s : State) (sec : Nat) : State :=
  let all := s.host.staged
  let gone := s.resettingPens all
  let l := all.filter fun g => !gone.contains g.call.pen
  let s0 := { s with
    host := { s.host with staged := [] }
    test := { s.test with overrun := [] } }
  let s1 := s0.latchRefs.secondBoundary.commitClears l
  let s2 := (s1.retire.commitPens all).restoreShadow.outputsBoundary.wordBoundary
  let s3 := s2.finishAll.takeJump.boot
  let x := s3.commitAll l
  let s4 := ((((x.1.withShadow (s3.onShadow.commitAll l).1).inputChanges s.cfg).commitLoops s.gradedOut s.grades).commitUnits sec).capture 7 s.foldStart
  let s5 := forEach x.2 (fun g s => s.post g.1 g.2) s4
  let s6 := forEach [1, 2, 3] (fun p s => s.endPenReset p) s5
  s6.feedWatchdog.latchCopies.raiseLate

/-- A boundary at which the sequencer does not act is one without a feed; NPFAIL low pauses the count (18 R413). -/
def State.missFeed (s : State) : State := if s.pow.npfail then s else { s with pow := { s.pow with wdMissed := s.pow.wdMissed + 1 } }

/-- A boundary of a fold that NPFAIL or a wake has suspended: it commits nothing (01 R32), but the word in force moves device time for another fold (01 R12),
and what is hardware goes on: timers and counts, gates, the capture of the fold marker, a frame on its way to the air (01 R25, 02 R57). -/
def State.suspendedBoundary (s : State) (m : BoundaryIn) : State :=
  let s1 := (s.advance.missFeed).latchMon m
  let s2 := ({ s1 with cands := s1.cands.map Cand.count }).secondBoundary
  (s2.latePins.redeliver.deliverSsct.capture 7 s2.foldStart).commonsRamp.raiseLate

/-- The schedule resumes after a SLEEP: each pin returns to its function and its latch (17 R405). -/
def State.wakePins (s : State) : State :=
  if s.pow.pinsAsleep then { s with pow := { s.pow with pinsAsleep := false }, pins := s.pins.map fun p => { p with hold := none } } else s

/-- A fold boundary (01 R11, R15, R21, R32): with reset held or in SLEEP there is none; while the firmware starts up, NPFAIL is low or a wake suspends the
schedule it commits nothing (18 R416, R417).
What was staged before NPFAIL fell is kept, the word among it, and commits at the boundary that resumes (DESIGN CHOICE, log 93). -/
def State.boundary (s : State) (m : BoundaryIn) : State :=
  if s.pow.held || s.pow.state = .sleep then s
  else
    let sec := s.clk.seconds.toNat
    let go := s.pow.resume && !s.pow.npfail
    let s1 := { s with pow := { s.pow with suspended := s.pow.suspended && !go, resume := s.pow.resume && !go } }
    if s1.pow.booting && s1.pow.bootIn ≠ 0 then ({ s1 with pow := { s1.pow with bootIn := s1.pow.bootIn - 1 } }).suspendedBoundary m
    else if s1.pow.suspended then s1.suspendedBoundary m
    else (s1.wakePins.latchMon m).latchLive.advance.commitBoundary sec

/-- The FOLD_BOUNDARY row. -/
def execFoldBoundary (m : BoundaryIn) (s : State) : Host.Outcome State Fault Refusal := .next (s.boundary m)

end Sys2Proof.Machine
end

