-- ==== Sys2Proof/Machine/Opcodes.lean ====
section
/-! DEFINITION. The opcodes of 13 as commands: a packet of each, whole and with a right CRC, delivered and served (log 36). What an opcode checks,
commits and replies stands in Machine/Interp.lean under its number. -/

namespace Sys2Proof.Machine

/-- NOP -/
def execNop (q : Call) (s : State) : Host.Outcome State Fault Refusal := .next (deliver 0x0001 q s)
/-- AUDIT -/
def execAudit (q : Call) (s : State) : Host.Outcome State Fault Refusal := .next (deliver 0x0002 q s)
/-- OUTPUTS_RELEASE -/
def execOutputsRelease (q : Call) (s : State) : Host.Outcome State Fault Refusal := .next (deliver 0x0003 q s)
/-- POWER_STATE -/
def execPowerState (q : Call) (s : State) : Host.Outcome State Fault Refusal := .next (deliver 0x0004 q s)
/-- SOFT_RESET -/
def execSoftReset (q : Call) (s : State) : Host.Outcome State Fault Refusal := .next (deliver 0x0005 q s)
/-- RESET_INFO -/
def execResetInfo (q : Call) (s : State) : Host.Outcome State Fault Refusal := .next (deliver 0x0006 q s)
/-- REF_INPUT -/
def execRefInput (q : Call) (s : State) : Host.Outcome State Fault Refusal := .next (deliver 0x1010 q s)
/-- REF_INPUT_GROUP_READ -/
def execRefInputGroupRead (q : Call) (s : State) : Host.Outcome State Fault Refusal := .next (deliver 0x1011 q s)
/-- REF_MON -/
def execRefMon (q : Call) (s : State) : Host.Outcome State Fault Refusal := .next (deliver 0x1012 q s)
/-- REF_MON_GROUP_READ -/
def execRefMonGroupRead (q : Call) (s : State) : Host.Outcome State Fault Refusal := .next (deliver 0x1013 q s)
/-- REF_RANK -/
def execRefRank (q : Call) (s : State) : Host.Outcome State Fault Refusal := .next (deliver 0x1014 q s)
/-- REF_RANK_GROUP_READ -/
def execRefRankGroupRead (q : Call) (s : State) : Host.Outcome State Fault Refusal := .next (deliver 0x1015 q s)
/-- REF_STATUS -/
def execRefStatus (q : Call) (s : State) : Host.Outcome State Fault Refusal := .next (deliver 0x1020 q s)
/-- TDC_ARM -/
def execTdcArm (q : Call) (s : State) : Host.Outcome State Fault Refusal := .next (deliver 0x1030 q s)
/-- TDC_RESULT -/
def execTdcResult (q : Call) (s : State) : Host.Outcome State Fault Refusal := .next (deliver 0x1032 q s)
/-- FORCE -/
def execForce (q : Call) (s : State) : Host.Outcome State Fault Refusal := .next (deliver 0x2010 q s)
/-- SEL_STATUS -/
def execSelStatus (q : Call) (s : State) : Host.Outcome State Fault Refusal := .next (deliver 0x2012 q s)
/-- LOOP -/
def execLoop (q : Call) (s : State) : Host.Outcome State Fault Refusal := .next (deliver 0x2020 q s)
/-- LOOP_GROUP_READ -/
def execLoopGroupRead (q : Call) (s : State) : Host.Outcome State Fault Refusal := .next (deliver 0x2021 q s)
/-- STILE -/
def execStile (q : Call) (s : State) : Host.Outcome State Fault Refusal := .next (deliver 0x2022 q s)
/-- STILE_GROUP_READ -/
def execStileGroupRead (q : Call) (s : State) : Host.Outcome State Fault Refusal := .next (deliver 0x2023 q s)
/-- LOOP_STATUS -/
def execLoopStatus (q : Call) (s : State) : Host.Outcome State Fault Refusal := .next (deliver 0x2030 q s)
/-- HOLD -/
def execHold (q : Call) (s : State) : Host.Outcome State Fault Refusal := .next (deliver 0x2032 q s)
/-- NEW_OSC -/
def execNewOsc (q : Call) (s : State) : Host.Outcome State Fault Refusal := .next (deliver 0x2034 q s)
/-- MODEL_READ -/
def execModelRead (q : Call) (s : State) : Host.Outcome State Fault Refusal := .next (deliver 0x2036 q s)
/-- MODEL_WRITE -/
def execModelWrite (q : Call) (s : State) : Host.Outcome State Fault Refusal := .next (deliver 0x2038 q s)
/-- STEP -/
def execStep (q : Call) (s : State) : Host.Outcome State Fault Refusal := .next (deliver 0x2040 q s)
/-- TALLY_CANCEL -/
def execTallyCancel (q : Call) (s : State) : Host.Outcome State Fault Refusal := .next (deliver 0x2042 q s)
/-- TALLY_READ -/
def execTallyRead (q : Call) (s : State) : Host.Outcome State Fault Refusal := .next (deliver 0x2044 q s)
/-- VCO -/
def execVco (q : Call) (s : State) : Host.Outcome State Fault Refusal := .next (deliver 0x3010 q s)
/-- VCO_GROUP_READ -/
def execVcoGroupRead (q : Call) (s : State) : Host.Outcome State Fault Refusal := .next (deliver 0x3011 q s)
/-- PADDOCK -/
def execPaddock (q : Call) (s : State) : Host.Outcome State Fault Refusal := .next (deliver 0x3012 q s)
/-- PADDOCK_GROUP_READ -/
def execPaddockGroupRead (q : Call) (s : State) : Host.Outcome State Fault Refusal := .next (deliver 0x3013 q s)
/-- OUT -/
def execOut (q : Call) (s : State) : Host.Outcome State Fault Refusal := .next (deliver 0x3014 q s)
/-- OUT_GROUP_READ -/
def execOutGroupRead (q : Call) (s : State) : Host.Outcome State Fault Refusal := .next (deliver 0x3015 q s)
/-- OUT_DELAY -/
def execOutDelay (q : Call) (s : State) : Host.Outcome State Fault Refusal := .next (deliver 0x3016 q s)
/-- GATE_WINDOW -/
def execGateWindow (q : Call) (s : State) : Host.Outcome State Fault Refusal := .next (deliver 0x3018 q s)
/-- GATE_FLUSH -/
def execGateFlush (q : Call) (s : State) : Host.Outcome State Fault Refusal := .next (deliver 0x301A q s)
/-- OUT_STATUS -/
def execOutStatus (q : Call) (s : State) : Host.Outcome State Fault Refusal := .next (deliver 0x3020 q s)
/-- MON -/
def execMon (q : Call) (s : State) : Host.Outcome State Fault Refusal := .next (deliver 0x3022 q s)
/-- MON_GROUP_READ -/
def execMonGroupRead (q : Call) (s : State) : Host.Outcome State Fault Refusal := .next (deliver 0x3023 q s)
/-- ALIGN -/
def execAlign (q : Call) (s : State) : Host.Outcome State Fault Refusal := .next (deliver 0x4010 q s)
/-- ALIGN_GROUP_READ -/
def execAlignGroupRead (q : Call) (s : State) : Host.Outcome State Fault Refusal := .next (deliver 0x4011 q s)
/-- GATHER -/
def execGather (q : Call) (s : State) : Host.Outcome State Fault Refusal := .next (deliver 0x4012 q s)
/-- TIME -/
def execTime (q : Call) (s : State) : Host.Outcome State Fault Refusal := .next (deliver 0x4014 q s)
/-- TIME_GROUP_READ -/
def execTimeGroupRead (q : Call) (s : State) : Host.Outcome State Fault Refusal := .next (deliver 0x4015 q s)
/-- TIME_WRITE -/
def execTimeWrite (q : Call) (s : State) : Host.Outcome State Fault Refusal := .next (deliver 0x4016 q s)
/-- TIME_READ -/
def execTimeRead (q : Call) (s : State) : Host.Outcome State Fault Refusal := .next (deliver 0x4018 q s)
/-- SSCT -/
def execSsct (q : Call) (s : State) : Host.Outcome State Fault Refusal := .next (deliver 0x5010 q s)
/-- SSCT_GROUP_READ -/
def execSsctGroupRead (q : Call) (s : State) : Host.Outcome State Fault Refusal := .next (deliver 0x5011 q s)
/-- SSCT_LOAD -/
def execSsctLoad (q : Call) (s : State) : Host.Outcome State Fault Refusal := .next (deliver 0x5012 q s)
/-- SSCT_READ -/
def execSsctRead (q : Call) (s : State) : Host.Outcome State Fault Refusal := .next (deliver 0x5014 q s)
/-- SSCT_SAVE -/
def execSsctSave (q : Call) (s : State) : Host.Outcome State Fault Refusal := .next (deliver 0x5016 q s)
/-- SSCT_STATUS -/
def execSsctStatus (q : Call) (s : State) : Host.Outcome State Fault Refusal := .next (deliver 0x5018 q s)
/-- RF -/
def execRf (q : Call) (s : State) : Host.Outcome State Fault Refusal := .next (deliver 0x6010 q s)
/-- RF_GROUP_READ -/
def execRfGroupRead (q : Call) (s : State) : Host.Outcome State Fault Refusal := .next (deliver 0x6011 q s)
/-- CHAN_WRITE -/
def execChanWrite (q : Call) (s : State) : Host.Outcome State Fault Refusal := .next (deliver 0x6012 q s)
/-- CHAN_READ -/
def execChanRead (q : Call) (s : State) : Host.Outcome State Fault Refusal := .next (deliver 0x6014 q s)
/-- RF_RX -/
def execRfRx (q : Call) (s : State) : Host.Outcome State Fault Refusal := .next (deliver 0x6016 q s)
/-- RF_TX -/
def execRfTx (q : Call) (s : State) : Host.Outcome State Fault Refusal := .next (deliver 0x6018 q s)
/-- RF_CAPTURE -/
def execRfCapture (q : Call) (s : State) : Host.Outcome State Fault Refusal := .next (deliver 0x601A q s)
/-- RF_CAL -/
def execRfCal (q : Call) (s : State) : Host.Outcome State Fault Refusal := .next (deliver 0x601C q s)
/-- RF_STATUS -/
def execRfStatus (q : Call) (s : State) : Host.Outcome State Fault Refusal := .next (deliver 0x6020 q s)
/-- COMMONS -/
def execCommons (q : Call) (s : State) : Host.Outcome State Fault Refusal := .next (deliver 0x7010 q s)
/-- COMMONS_GROUP_READ -/
def execCommonsGroupRead (q : Call) (s : State) : Host.Outcome State Fault Refusal := .next (deliver 0x7011 q s)
/-- MGMT -/
def execMgmt (q : Call) (s : State) : Host.Outcome State Fault Refusal := .next (deliver 0x7012 q s)
/-- MGMT_GROUP_READ -/
def execMgmtGroupRead (q : Call) (s : State) : Host.Outcome State Fault Refusal := .next (deliver 0x7013 q s)
/-- COMMONS_KEY -/
def execCommonsKey (q : Call) (s : State) : Host.Outcome State Fault Refusal := .next (deliver 0x7014 q s)
/-- COMMONS_STATUS -/
def execCommonsStatus (q : Call) (s : State) : Host.Outcome State Fault Refusal := .next (deliver 0x7016 q s)
/-- DROVE -/
def execDrove (q : Call) (s : State) : Host.Outcome State Fault Refusal := .next (deliver 0x8010 q s)
/-- DROVE_GROUP_READ -/
def execDroveGroupRead (q : Call) (s : State) : Host.Outcome State Fault Refusal := .next (deliver 0x8011 q s)
/-- DROVE_CMD -/
def execDroveCmd (q : Call) (s : State) : Host.Outcome State Fault Refusal := .next (deliver 0x8012 q s)
/-- DROVE_STATUS -/
def execDroveStatus (q : Call) (s : State) : Host.Outcome State Fault Refusal := .next (deliver 0x8014 q s)
/-- CONFIG_SAVE -/
def execConfigSave (q : Call) (s : State) : Host.Outcome State Fault Refusal := .next (deliver 0x9010 q s)
/-- PAGE_WRITE -/
def execPageWrite (q : Call) (s : State) : Host.Outcome State Fault Refusal := .next (deliver 0x9012 q s)
/-- PAGE_ERASE -/
def execPageErase (q : Call) (s : State) : Host.Outcome State Fault Refusal := .next (deliver 0x9014 q s)
/-- PAGE_READ -/
def execPageRead (q : Call) (s : State) : Host.Outcome State Fault Refusal := .next (deliver 0x9016 q s)
/-- STORE_STATUS -/
def execStoreStatus (q : Call) (s : State) : Host.Outcome State Fault Refusal := .next (deliver 0x9018 q s)
/-- PAGE_WEAR -/
def execPageWear (q : Call) (s : State) : Host.Outcome State Fault Refusal := .next (deliver 0x901A q s)
/-- PATCH_WRITE -/
def execPatchWrite (q : Call) (s : State) : Host.Outcome State Fault Refusal := .next (deliver 0x901C q s)
/-- EVT_CONFIG -/
def execEvtConfig (q : Call) (s : State) : Host.Outcome State Fault Refusal := .next (deliver 0xA010 q s)
/-- EVT_NOTIFY -/
def execEvtNotify (q : Call) (s : State) : Host.Outcome State Fault Refusal := .next (deliver 0xA012 q s)
/-- EVT_STATUS -/
def execEvtStatus (q : Call) (s : State) : Host.Outcome State Fault Refusal := .next (deliver 0xA014 q s)
/-- EVT_CLEAR -/
def execEvtClear (q : Call) (s : State) : Host.Outcome State Fault Refusal := .next (deliver 0xA016 q s)
/-- EVT_COUNTERS -/
def execEvtCounters (q : Call) (s : State) : Host.Outcome State Fault Refusal := .next (deliver 0xA018 q s)
/-- EVT_QUEUE -/
def execEvtQueue (q : Call) (s : State) : Host.Outcome State Fault Refusal := .next (deliver 0xA01A q s)
/-- PIN -/
def execPin (q : Call) (s : State) : Host.Outcome State Fault Refusal := .next (deliver 0xB010 q s)
/-- PIN_GROUP_READ -/
def execPinGroupRead (q : Call) (s : State) : Host.Outcome State Fault Refusal := .next (deliver 0xB011 q s)
/-- PIN_LOCK -/
def execPinLock (q : Call) (s : State) : Host.Outcome State Fault Refusal := .next (deliver 0xB012 q s)
/-- PIN_STATUS -/
def execPinStatus (q : Call) (s : State) : Host.Outcome State Fault Refusal := .next (deliver 0xB014 q s)
/-- OWNER_SET -/
def execOwnerSet (q : Call) (s : State) : Host.Outcome State Fault Refusal := .next (deliver 0xC010 q s)
/-- OWNER_READ -/
def execOwnerRead (q : Call) (s : State) : Host.Outcome State Fault Refusal := .next (deliver 0xC012 q s)
/-- OWNER_LOCK -/
def execOwnerLock (q : Call) (s : State) : Host.Outcome State Fault Refusal := .next (deliver 0xC014 q s)
/-- PEN_RESET -/
def execPenReset (q : Call) (s : State) : Host.Outcome State Fault Refusal := .next (deliver 0xC016 q s)
/-- PEN_DISABLE -/
def execPenDisable (q : Call) (s : State) : Host.Outcome State Fault Refusal := .next (deliver 0xC018 q s)
/-- PEN_ENABLE -/
def execPenEnable (q : Call) (s : State) : Host.Outcome State Fault Refusal := .next (deliver 0xC01A q s)
/-- INJECT -/
def execInject (q : Call) (s : State) : Host.Outcome State Fault Refusal := .next (deliver 0xD010 q s)
/-- REF_KILL -/
def execRefKill (q : Call) (s : State) : Host.Outcome State Fault Refusal := .next (deliver 0xD012 q s)
/-- STORE_INJECT -/
def execStoreInject (q : Call) (s : State) : Host.Outcome State Fault Refusal := .next (deliver 0xD014 q s)
/-- SLOT_OVERRUN -/
def execSlotOverrun (q : Call) (s : State) : Host.Outcome State Fault Refusal := .next (deliver 0xD016 q s)
/-- DRV_TEST -/
def execDrvTest (q : Call) (s : State) : Host.Outcome State Fault Refusal := .next (deliver 0xD018 q s)
/-- RF_TONE -/
def execRfTone (q : Call) (s : State) : Host.Outcome State Fault Refusal := .next (deliver 0xD01A q s)
/-- TEST_STATUS -/
def execTestStatus (q : Call) (s : State) : Host.Outcome State Fault Refusal := .next (deliver 0xD01C q s)
/-- TELEM_READ -/
def execTelemRead (q : Call) (s : State) : Host.Outcome State Fault Refusal := .next (deliver 0xE010 q s)
/-- CROOK_STEP -/
def execCrookStep (q : Call) (s : State) : Host.Outcome State Fault Refusal := .next (deliver 0xF010 q s)
/-- CROOK_GATHER -/
def execCrookGather (q : Call) (s : State) : Host.Outcome State Fault Refusal := .next (deliver 0xF012 q s)
/-- CROOK_CLEAR -/
def execCrookClear (q : Call) (s : State) : Host.Outcome State Fault Refusal := .next (deliver 0xF014 q s)

end Sys2Proof.Machine
end

