-- ==== Sys2Proof/Machine/Dispatch.lean ====
section
/-! DEFINITION. The meaning of each command. -/

namespace Sys2Proof.Machine

def exec (i : Instr) (s : State) : Host.Outcome State Fault Refusal :=
  match i with
  | .writeCommandPacket bytes t => Sys2Proof.Machine.execWriteCommandPacket bytes t s
  | .readReply selector whole t => Sys2Proof.Machine.execReadReply selector whole t s
  | .badInstructionTransaction tx t => Sys2Proof.Machine.execBadInstructionTransaction tx t s
  | .gpioSet off data t => Sys2Proof.Machine.execGpioSet off data t s
  | .gpioClr off data t => Sys2Proof.Machine.execGpioClr off data t s
  | .gpioTgl off data t => Sys2Proof.Machine.execGpioTgl off data t s
  | .directRegisterWrite addr data t => Sys2Proof.Machine.execDirectRegisterWrite addr data t s
  | .stepFlock src t => Sys2Proof.Machine.execStepFlock src t s
  | .gateOn src t => Sys2Proof.Machine.execGateOn src t s
  | .gateOff src t => Sys2Proof.Machine.execGateOff src t s
  | .freeze src t => Sys2Proof.Machine.execFreeze src t s
  | .gatherNow src t => Sys2Proof.Machine.execGatherNow src t s
  | .nop q => Sys2Proof.Machine.execNop q s
  | .audit q => Sys2Proof.Machine.execAudit q s
  | .outputsRelease q => Sys2Proof.Machine.execOutputsRelease q s
  | .powerState q => Sys2Proof.Machine.execPowerState q s
  | .softReset q => Sys2Proof.Machine.execSoftReset q s
  | .resetInfo q => Sys2Proof.Machine.execResetInfo q s
  | .refInput q => Sys2Proof.Machine.execRefInput q s
  | .refInputGroupRead q => Sys2Proof.Machine.execRefInputGroupRead q s
  | .refMon q => Sys2Proof.Machine.execRefMon q s
  | .refMonGroupRead q => Sys2Proof.Machine.execRefMonGroupRead q s
  | .refRank q => Sys2Proof.Machine.execRefRank q s
  | .refRankGroupRead q => Sys2Proof.Machine.execRefRankGroupRead q s
  | .refStatus q => Sys2Proof.Machine.execRefStatus q s
  | .tdcArm q => Sys2Proof.Machine.execTdcArm q s
  | .tdcResult q => Sys2Proof.Machine.execTdcResult q s
  | .force q => Sys2Proof.Machine.execForce q s
  | .selStatus q => Sys2Proof.Machine.execSelStatus q s
  | .loop q => Sys2Proof.Machine.execLoop q s
  | .loopGroupRead q => Sys2Proof.Machine.execLoopGroupRead q s
  | .stile q => Sys2Proof.Machine.execStile q s
  | .stileGroupRead q => Sys2Proof.Machine.execStileGroupRead q s
  | .loopStatus q => Sys2Proof.Machine.execLoopStatus q s
  | .hold q => Sys2Proof.Machine.execHold q s
  | .newOsc q => Sys2Proof.Machine.execNewOsc q s
  | .modelRead q => Sys2Proof.Machine.execModelRead q s
  | .modelWrite q => Sys2Proof.Machine.execModelWrite q s
  | .step q => Sys2Proof.Machine.execStep q s
  | .tallyCancel q => Sys2Proof.Machine.execTallyCancel q s
  | .tallyRead q => Sys2Proof.Machine.execTallyRead q s
  | .vco q => Sys2Proof.Machine.execVco q s
  | .vcoGroupRead q => Sys2Proof.Machine.execVcoGroupRead q s
  | .paddock q => Sys2Proof.Machine.execPaddock q s
  | .paddockGroupRead q => Sys2Proof.Machine.execPaddockGroupRead q s
  | .out q => Sys2Proof.Machine.execOut q s
  | .outGroupRead q => Sys2Proof.Machine.execOutGroupRead q s
  | .outDelay q => Sys2Proof.Machine.execOutDelay q s
  | .gateWindow q => Sys2Proof.Machine.execGateWindow q s
  | .gateFlush q => Sys2Proof.Machine.execGateFlush q s
  | .outStatus q => Sys2Proof.Machine.execOutStatus q s
  | .mon q => Sys2Proof.Machine.execMon q s
  | .monGroupRead q => Sys2Proof.Machine.execMonGroupRead q s
  | .align q => Sys2Proof.Machine.execAlign q s
  | .alignGroupRead q => Sys2Proof.Machine.execAlignGroupRead q s
  | .gather q => Sys2Proof.Machine.execGather q s
  | .time q => Sys2Proof.Machine.execTime q s
  | .timeGroupRead q => Sys2Proof.Machine.execTimeGroupRead q s
  | .timeWrite q => Sys2Proof.Machine.execTimeWrite q s
  | .timeRead q => Sys2Proof.Machine.execTimeRead q s
  | .ssct q => Sys2Proof.Machine.execSsct q s
  | .ssctGroupRead q => Sys2Proof.Machine.execSsctGroupRead q s
  | .ssctLoad q => Sys2Proof.Machine.execSsctLoad q s
  | .ssctRead q => Sys2Proof.Machine.execSsctRead q s
  | .ssctSave q => Sys2Proof.Machine.execSsctSave q s
  | .ssctStatus q => Sys2Proof.Machine.execSsctStatus q s
  | .rf q => Sys2Proof.Machine.execRf q s
  | .rfGroupRead q => Sys2Proof.Machine.execRfGroupRead q s
  | .chanWrite q => Sys2Proof.Machine.execChanWrite q s
  | .chanRead q => Sys2Proof.Machine.execChanRead q s
  | .rfRx q => Sys2Proof.Machine.execRfRx q s
  | .rfTx q => Sys2Proof.Machine.execRfTx q s
  | .rfCapture q => Sys2Proof.Machine.execRfCapture q s
  | .rfCal q => Sys2Proof.Machine.execRfCal q s
  | .rfStatus q => Sys2Proof.Machine.execRfStatus q s
  | .commons q => Sys2Proof.Machine.execCommons q s
  | .commonsGroupRead q => Sys2Proof.Machine.execCommonsGroupRead q s
  | .mgmt q => Sys2Proof.Machine.execMgmt q s
  | .mgmtGroupRead q => Sys2Proof.Machine.execMgmtGroupRead q s
  | .commonsKey q => Sys2Proof.Machine.execCommonsKey q s
  | .commonsStatus q => Sys2Proof.Machine.execCommonsStatus q s
  | .drove q => Sys2Proof.Machine.execDrove q s
  | .droveGroupRead q => Sys2Proof.Machine.execDroveGroupRead q s
  | .droveCmd q => Sys2Proof.Machine.execDroveCmd q s
  | .droveStatus q => Sys2Proof.Machine.execDroveStatus q s
  | .configSave q => Sys2Proof.Machine.execConfigSave q s
  | .pageWrite q => Sys2Proof.Machine.execPageWrite q s
  | .pageErase q => Sys2Proof.Machine.execPageErase q s
  | .pageRead q => Sys2Proof.Machine.execPageRead q s
  | .storeStatus q => Sys2Proof.Machine.execStoreStatus q s
  | .pageWear q => Sys2Proof.Machine.execPageWear q s
  | .patchWrite q => Sys2Proof.Machine.execPatchWrite q s
  | .evtConfig q => Sys2Proof.Machine.execEvtConfig q s
  | .evtNotify q => Sys2Proof.Machine.execEvtNotify q s
  | .evtStatus q => Sys2Proof.Machine.execEvtStatus q s
  | .evtClear q => Sys2Proof.Machine.execEvtClear q s
  | .evtCounters q => Sys2Proof.Machine.execEvtCounters q s
  | .evtQueue q => Sys2Proof.Machine.execEvtQueue q s
  | .pin q => Sys2Proof.Machine.execPin q s
  | .pinGroupRead q => Sys2Proof.Machine.execPinGroupRead q s
  | .pinLock q => Sys2Proof.Machine.execPinLock q s
  | .pinStatus q => Sys2Proof.Machine.execPinStatus q s
  | .ownerSet q => Sys2Proof.Machine.execOwnerSet q s
  | .ownerRead q => Sys2Proof.Machine.execOwnerRead q s
  | .ownerLock q => Sys2Proof.Machine.execOwnerLock q s
  | .penReset q => Sys2Proof.Machine.execPenReset q s
  | .penDisable q => Sys2Proof.Machine.execPenDisable q s
  | .penEnable q => Sys2Proof.Machine.execPenEnable q s
  | .inject q => Sys2Proof.Machine.execInject q s
  | .refKill q => Sys2Proof.Machine.execRefKill q s
  | .storeInject q => Sys2Proof.Machine.execStoreInject q s
  | .slotOverrun q => Sys2Proof.Machine.execSlotOverrun q s
  | .drvTest q => Sys2Proof.Machine.execDrvTest q s
  | .rfTone q => Sys2Proof.Machine.execRfTone q s
  | .testStatus q => Sys2Proof.Machine.execTestStatus q s
  | .telemRead q => Sys2Proof.Machine.execTelemRead q s
  | .crookStep q => Sys2Proof.Machine.execCrookStep q s
  | .crookGather q => Sys2Proof.Machine.execCrookGather q s
  | .crookClear q => Sys2Proof.Machine.execCrookClear q s
  | .foldBoundary m => Sys2Proof.Machine.execFoldBoundary m s
  | .sleepEntry e => Sys2Proof.Machine.execSleepEntry e s
  | .dpllUpdateSlot onDie tsense t => Sys2Proof.Machine.execDpllUpdateSlot onDie tsense t s
  | .stileAndTallySlot t => Sys2Proof.Machine.execStileAndTallySlot t s
  | .shaftTableSlot t => Sys2Proof.Machine.execShaftTableSlot t s
  | .outputSchedulerSlot t => Sys2Proof.Machine.execOutputSchedulerSlot t s
  | .referenceMonitorsSlot t => Sys2Proof.Machine.execReferenceMonitorsSlot t s
  | .eventEngineSlot t => Sys2Proof.Machine.execEventEngineSlot t s
  | .commandInterpreterSlot done begun t => Sys2Proof.Machine.execCommandInterpreterSlot done begun t s
  | .commonsMacSlot t => Sys2Proof.Machine.execCommonsMacSlot t s
  | .droveSlot m t => Sys2Proof.Machine.execDroveSlot m t s
  | .storeEngineSlot verifyOk t => Sys2Proof.Machine.execStoreEngineSlot verifyOk t s
  | .flashWordProgramEnd t => Sys2Proof.Machine.execFlashWordProgramEnd t s
  | .calibrationSlot vtuneMargin tdcInLimits t => Sys2Proof.Machine.execCalibrationSlot vtuneMargin tdcInLimits t s
  | .scrubSlot errs mismatch t => Sys2Proof.Machine.execScrubSlot errs mismatch t s
  | .telemetrySlot sample t => Sys2Proof.Machine.execTelemetrySlot sample t s
  | .reserveSlot done t => Sys2Proof.Machine.execReserveSlot done t s
  | .slotEnd slot held t => Sys2Proof.Machine.execSlotEnd slot held t s
  | .refEdge n rising width t => Sys2Proof.Machine.execRefEdge n rising width t s
  | .activityWindowExpiry n t => Sys2Proof.Machine.execActivityWindowExpiry n t s
  | .preciseGateEnd n m t => Sys2Proof.Machine.execPreciseGateEnd n m t s
  | .qualificationTimerExpiry n t => Sys2Proof.Machine.execQualificationTimerExpiry n t s
  | .tdcIntervalTimeout p => Sys2Proof.Machine.execTdcIntervalTimeout p s
  | .bwStageEnd => Sys2Proof.Machine.execBwStageEnd s
  | .lockAchieved => Sys2Proof.Machine.execLockAchieved s
  | .lossOfLock => Sys2Proof.Machine.execLossOfLock s
  | .learningObservation => Sys2Proof.Machine.execLearningObservation s
  | .modelSaveTimer => Sys2Proof.Machine.execModelSaveTimer s
  | .hourlyRecord t => Sys2Proof.Machine.execHourlyRecord t s
  | .refreshCheck => Sys2Proof.Machine.execRefreshCheck s
  | .compaction => Sys2Proof.Machine.execCompaction s
  | .compactionRetry => Sys2Proof.Machine.execCompactionRetry s
  | .deferredCommandServed p t => Sys2Proof.Machine.execDeferredCommandServed p t s
  | .longCommandStart p t => Sys2Proof.Machine.execLongCommandStart p t s
  | .jobEnd p eng t => Sys2Proof.Machine.execJobEnd p eng t s
  | .penResetEnd p => Sys2Proof.Machine.execPenResetEnd p s
  | .tallyEntryActivation seq => Sys2Proof.Machine.execTallyEntryActivation seq s
  | .gateWindowStart o t => Sys2Proof.Machine.execGateWindowStart o t s
  | .gateWindowStop o t => Sys2Proof.Machine.execGateWindowStop o t s
  | .alignedStart o => Sys2Proof.Machine.execAlignedStart o s
  | .shaftIndexEdge ref5 t => Sys2Proof.Machine.execShaftIndexEdge ref5 t s
  | .shaftIndexTimeout t => Sys2Proof.Machine.execShaftIndexTimeout t s
  | .monSecondEnd meas => Sys2Proof.Machine.execMonSecondEnd meas s
  | .secondsComparison t => Sys2Proof.Machine.execSecondsComparison t s
  | .uartSentence pin21 bytes span t => Sys2Proof.Machine.execUartSentence pin21 bytes span t s
  | .gpioEdge n level t => Sys2Proof.Machine.execGpioEdge n level t s
  | .penResetPinEdge n level t => Sys2Proof.Machine.execPenResetPinEdge n level t s
  | .apllLockAcquired => Sys2Proof.Machine.execApllLockAcquired s
  | .apllLossOfLock t => Sys2Proof.Machine.execApllLossOfLock t s
  | .apllLockTimeout t => Sys2Proof.Machine.execApllLockTimeout t s
  | .outputReleaseTakesEffect => Sys2Proof.Machine.execOutputReleaseTakesEffect s
  | .npfailFall t => Sys2Proof.Machine.execNpfailFall t s
  | .hotsetSaveEnd bad t => Sys2Proof.Machine.execHotsetSaveEnd bad t s
  | .powerOnReset => Sys2Proof.Machine.execPowerOnReset s
  | .pinReset ns => Sys2Proof.Machine.execPinReset ns s
  | .watchdogExpiry => Sys2Proof.Machine.execWatchdogExpiry s
  | .softResetExecution t => Sys2Proof.Machine.execSoftResetExecution t s
  | .resetRelease strap0 strap1 => Sys2Proof.Machine.execResetRelease strap0 strap1 s
  | .wakeRequest ns interval => Sys2Proof.Machine.execWakeRequest ns interval s
  | .wakeDividerRestart => Sys2Proof.Machine.execWakeDividerRestart s
  | .leadFrameTransmit t => Sys2Proof.Machine.execLeadFrameTransmit t s
  | .droveFrameReceived words codesOk t => Sys2Proof.Machine.execDroveFrameReceived words codesOk t s
  | .wordLockLoss e => Sys2Proof.Machine.execWordLockLoss e s
  | .claimTimeout => Sys2Proof.Machine.execClaimTimeout s
  | .leadTimeout => Sys2Proof.Machine.execLeadTimeout s
  | .ringReturnTimeout => Sys2Proof.Machine.execRingReturnTimeout s
  | .echoMeasurement rt => Sys2Proof.Machine.execEchoMeasurement rt s
  | .droveFreezeTakesEffect => Sys2Proof.Machine.execDroveFreezeTakesEffect s
  | .beaconDue => Sys2Proof.Machine.execBeaconDue s
  | .ccaAttempt m t => Sys2Proof.Machine.execCcaAttempt m t s
  | .txFrameEnd returnLoss t => Sys2Proof.Machine.execTxFrameEnd returnLoss t s
  | .radioFrameReceived f t => Sys2Proof.Machine.execRadioFrameReceived f t s
  | .delayReqDue => Sys2Proof.Machine.execDelayReqDue s
  | .delayRespDue => Sys2Proof.Machine.execDelayRespDue s
  | .exchangeTimeout => Sys2Proof.Machine.execExchangeTimeout s
  | .beaconMissed t => Sys2Proof.Machine.execBeaconMissed t s
  | .carrierDetect m t => Sys2Proof.Machine.execCarrierDetect m t s
  | .diversityWindowEnd m sfd t => Sys2Proof.Machine.execDiversityWindowEnd m sfd t s
  | .rxBlock rssi sat peak sfd iq t => Sys2Proof.Machine.execRxBlock rssi sat peak sfd iq t s
  | .hopSettleComplete e t => Sys2Proof.Machine.execHopSettleComplete e t s
  | .synthUnlock t => Sys2Proof.Machine.execSynthUnlock t s
  | .radioCalDue cal => Sys2Proof.Machine.execRadioCalDue cal s
  | .radioCalibrationEnd inLimits f t => Sys2Proof.Machine.execRadioCalibrationEnd inLimits f t s
  | .npfailRise => Sys2Proof.Machine.execNpfailRise s
  | .flashEraseEnd t => Sys2Proof.Machine.execFlashEraseEnd t s
  | .pinInputLevelChange n level => Sys2Proof.Machine.execPinInputLevelChange n level s
  | .codeError t => Sys2Proof.Machine.execCodeError t s
  | .prbsCheckerLock bits errors => Sys2Proof.Machine.execPrbsCheckerLock bits errors s
  | .jtagTckEdge rising tms tdi pads => Sys2Proof.Machine.execJtagTckEdge rising tms tdi pads s

end Sys2Proof.Machine
end

