-- ==== Sys2Proof/Safety.lean ====
section
/-! DEFINITION. What statements about the device are phrased in: a command that the interpreter reaches at once, what it leaves for the boundary, the
books of the ledger, and the sets of commands that a whole-machine rule names. -/

namespace Sys2Proof.Machine

/-! ### A command that is interpreted at once (12 R282, R283; 13 R303) -/

/-- A packet queued ahead of one of class `cls` in the order of service: CONTROL with URGENT, then BULK, then MAINT (01 R22; 12 R283). -/
abbrev aheadOf (cls : BitVec 2) (k : Packet) : Prop := k.call.cls.toNat ≤ max 1 cls.toNat

/-- A packet of class `cls` that passes the hardware's checks and the interpreter's first ones, with nothing ahead of it: the interfaces are open, the
schedule runs and an interpreter slot of the fold is still to come, the pen is active, has a credit and does not serve the air, no pen's queue holds a
packet ahead of it, no long command stands begun where it is one itself, and FLAGS and the reserved bytes are zero. -/
abbrev Prompt (cls : BitVec 2) (q : Call) (s : State) : Prop :=
  s.ifaceOpen = true ∧ s.schedule = true ∧ s.clk.slot ≤ 14 ∧ ¬(q.pen = 3 ∧ s.cfg.com.mgmtEn = true) ∧ (s.penSt q.pen).state = .active ∧
    0 < (s.io q.pen).free ∧ (∀ p, ∀ k ∈ (s.io p).queue, ¬aheadOf cls k) ∧ (2 ≤ cls.toNat → s.host.begun = none) ∧ q.cls = cls ∧ q.flags = 0 ∧ q.rsv = 0

/-- The packet's credit is taken and it is counted (12 R285, R286); it stands in no queue any more, a PIN_LOCK step that waited is gone, and the turn has
passed to the next pen (01 R22). -/
def State.takeCredit (s : State) (q : Call) : State :=
  let s1 := s.updIo q.pen fun p => { p with free := p.free - 1, accepted := p.accepted + 1, pinStep := none }
  { s1 with host := { s1.host with order := s1.host.order + 1, robin := (q.pen.val + 1) % 4 } }

/-- A command interpreted: its result waits for the boundary (01 R21, 12 R283), and nothing else has changed. -/
def State.answered (s : State) (q : Call) (g : Staged) : State := (s.takeCredit q).stage (some g)

/-- The result of a command whose change the boundary commits. -/
abbrev changes (op : BitVec 16) (q : Call) (body : Body) : Staged := { opcode := op, call := q, status := St.ok, body := body, commit := true }

/-- The result of a command that only reads. -/
abbrev answers (op : BitVec 16) (q : Call) (body : Body) : Staged := { opcode := op, call := q, status := St.ok, body := body, commit := false }

/-- The result of a command refused with a status: it changes nothing (13 R303, R306). -/
abbrev refused (op : BitVec 16) (q : Call) (st : BitVec 16) : Staged := { opcode := op, call := q, status := st, body := .bytes [], commit := false }

/-- The result of a long command whose job an engine has taken (01 R24, 12 R284). -/
abbrev accepted (op : BitVec 16) (q : Call) (data : List Byte) : Staged := { opcode := op, call := q, status := St.accepted, body := .bytes data, commit := false }

/-! ### Reset (18 R411, R414) -/

/-- What a full restart with a cause leaves while reset is held: counters, queues, rings, settings and pins at their reset values, the straps as they
were, reset recorded with its cause, and the flash as it was but for a bank erase that it cut, whose pages are erased from the bank's first on, and but where a
loss of power cut an operation. -/
abbrev heldInReset (cause : Nat) (s t : State) : Prop :=
  t.pow.held = true ∧ t.pow.opened = false ∧ t.pow.cause = (if s.pow.held then min s.pow.cause cause else cause) ∧ t.clk = {} ∧ t.cfg = {} ∧
    t.tally = {} ∧ t.ev = {} ∧ t.sel = {} ∧ t.lp = {} ∧ t.tod = {} ∧ t.rel = {} ∧ t.outs = .replicate 16 {} ∧ t.crook = .replicate 4 {} ∧
    t.pens = .replicate 4 {} ∧ t.host = { straps := s.host.straps } ∧ t.ownLock = false ∧ (∀ n < 24, (t.pin n).latch = false ∧ (t.pin n).locked = false) ∧
    t.pow.npfail = s.pow.npfail ∧
    (cause ≠ 0 → (∀ b, s.store.phase ≠ .erasing false b false) → t.store.flash = s.store.flash) ∧
    (∀ b, cause ≠ 0 → s.store.phase = .erasing false b false →
      ∃ n ≤ 48, t.store.flash = flashErase s.store.flash (16 * bankWord (b = 1)) (16 * bankWord (b = 1) + 256 * n))

/-! ### Packets on the wire (12 R278) -/

/-- The bytes of a command packet: PEN, CLASS and FLAGS, TAG, OPCODE, LENGTH, the reserved bytes, the parameters, the CRC over all of them. -/
def packetBytes (op : BitVec 16) (q : Call) : List Byte :=
  let body := le 1 (q.pen.val * 64 + q.cls.toNat * 16 + q.flags.toNat) ++ [q.tag] ++ le 2 op.toNat ++ le 2 q.params.length ++ le 2 q.rsv.toNat ++ q.params
  body ++ le 2 (crc16 body)

/-! ### What some commands name -/

/-- The configuration that an OUT packet spells (06 R134). -/
def outOf (p : List Byte) : OutCfg := { config := BitVec.ofNat 32 (fld p 4 4), div := fld p 8 4, period := fld p 12 4, width := fld p 16 4 }

/-- The slots that an OUT_DELAY takes: none where the delay is the one the output will have (05 R123). -/
def outDelaySlots (q : Call) (s : State) : Nat :=
  if roundStep (fldI q.params 8 8) 2500 = s.delayAfter (fld q.params 0 1) + s.stagedDelay (fld q.params 0 1) then 0 else 1

/-- The delay that output `o` would have after a CROOK_STEP, without the step it replaces, loaded or staged (05 R124). -/
def crookDelay (q : Call) (s : State) (o : Nat) : Fs :=
  s.delayAfter o + s.stagedDelay o - (s.stagedDelays o).2.getD q.pen.val 0 + flockAmount (fldI q.params 8 8)

/-- The slots that a CROOK_STEP takes: none where it replaces its pen's loaded step (05 R124). -/
def crookSlots (q : Call) (s : State) : Nat :=
  if (s.crookEntry q.pen).isSome || s.host.staged.any fun g => g.commit && g.opcode = 0xF010 && g.call.pen = q.pen then 0 else 1

/-- The slots that a TIME_WRITE takes: none where the difference is whole seconds (07 R175). -/
def timeSlots (q : Call) (s : State) : Nat := if (timeSplit q.params 0 ((s.clk.inSec + 1) % 8000 * 125000)).2 = 0 then 0 else 1

/-- The background with the job of an RF_CAL last in the calibration queue: what each bit of WHICH names (16 R385). -/
def State.calQueued (s : State) (q : Call) : Background :=
  { s.bg with calQueue := s.bg.calQueue ++
      [{ owner := some { pen := q.pen, tag := q.tag, cls := q.cls, opcode := 0x601C }, which := (List.range 4).filter fun k => bit (fld q.params 0 1) k }] }

/-- One byte of EVT_STATUS, from the snapshot (13 R320). -/
def statusByte (p : Pen) (s : State) (i : Nat) : List Byte :=
  let e := s.snap.ev.srcs.getD i {}
  let c := s.snap.evCfg.getD i {}
  le 1 (b2n e.live + 2 * b2n e.sticky + 4 * b2n c.enable + 8 * c.cls + 32 * b2n (e.notify.getLsbD p.val))

/-- The result of EVT_QUEUE: the oldest entries of the snapshot's queue, which CONSUME removes at the boundary (14 R339). -/
def queuePage (q : Call) (s : State) : Staged :=
  let l := s.snap.ev.queue.take (fld q.params 0 1)
  { opcode := 0xA01A, call := q, status := St.ok, body := .bytes (le 1 l.length ++ le 3 0 ++ l.flatMap (·.bytes))
    commit := decide (fld q.params 1 1 = 1), mark := s.snap.ev.taken + l.length }

/-- The result of TELEM_READ: entries of the snapshot's ring, and how far they reach (16 R387). -/
def telemPage (q : Call) (s : State) : Staged :=
  let b := s.snap.bg
  let l := (b.ring.drop (fld q.params 0 1)).take (fld q.params 1 1)
  { opcode := 0xE010, call := q, status := St.ok
    body := .bytes (le 4 b.lost.toNat ++ le 1 b.ring.length ++ le 1 l.length ++ le 2 0 ++ l.flatten), commit := true
    mark := if l.isEmpty then 0 else b.ringBase + fld q.params 0 1 + l.length }

/-! ### Store commands (12 R284, 15 R357) -/

/-- The store engine takes a command of the pen: a journal buffer is free, no job of the pen is in the engine and no compaction runs
(12 R284, R297; 15 R359). -/
abbrev engineFree (q : Call) (s : State) : Prop :=
  s.store.journals < 4 ∧ (∀ j ∈ s.store.jobs, ∀ o ∈ j.owner, o.pen ≠ q.pen) ∧ s.store.compacting = false

/-- A store command accepted: its job is last in the engine's queue, a journal buffer is taken, and ACCEPTED follows with `data`. -/
def State.queuedJob (s : State) (q : Call) (op : BitVec 16) (data : List Byte) (job : StoreJob) : State :=
  let o : JobOwner := { pen := q.pen, tag := q.tag, cls := q.cls, opcode := op, params := q.params }
  ((s.takeCredit q).mapStore fun x => { x with jobs := x.jobs ++ [{ job with owner := some o }], journals := x.journals + 1 }).stage (some (accepted op q data))

/-- The engine runs and no timer of the store is due (15 R356, R361, R362; 04 R99). -/
abbrev storeQuiet (s : State) : Prop :=
  s.store.halted = false ∧ s.store.hourIn ≠ 0 ∧ s.mdl.saveIn ≠ 0 ∧ s.store.ageCheck = false ∧ s.store.retryDue = false

/-- The opcode and the class of the row that a command's constructor stands for, with its packet's fields (13 R308–R326). -/
def commandOf : Instr → Option (BitVec 16 × BitVec 2 × Call)
  | .nop q => some (0x0001, 1, q)
  | .audit q => some (0x0002, 2, q)
  | .outputsRelease q => some (0x0003, 1, q)
  | .powerState q => some (0x0004, 1, q)
  | .softReset q => some (0x0005, 1, q)
  | .resetInfo q => some (0x0006, 1, q)
  | .refInput q => some (0x1010, 1, q)
  | .refInputGroupRead q => some (0x1011, 1, q)
  | .refMon q => some (0x1012, 1, q)
  | .refMonGroupRead q => some (0x1013, 1, q)
  | .refRank q => some (0x1014, 1, q)
  | .refRankGroupRead q => some (0x1015, 1, q)
  | .refStatus q => some (0x1020, 1, q)
  | .tdcArm q => some (0x1030, 1, q)
  | .tdcResult q => some (0x1032, 1, q)
  | .force q => some (0x2010, 1, q)
  | .selStatus q => some (0x2012, 1, q)
  | .loop q => some (0x2020, 1, q)
  | .loopGroupRead q => some (0x2021, 1, q)
  | .stile q => some (0x2022, 1, q)
  | .stileGroupRead q => some (0x2023, 1, q)
  | .loopStatus q => some (0x2030, 1, q)
  | .hold q => some (0x2032, 1, q)
  | .newOsc q => some (0x2034, 1, q)
  | .modelRead q => some (0x2036, 1, q)
  | .modelWrite q => some (0x2038, 3, q)
  | .step q => some (0x2040, 1, q)
  | .tallyCancel q => some (0x2042, 1, q)
  | .tallyRead q => some (0x2044, 2, q)
  | .outDelay q => some (0x3016, 1, q)
  | .crookStep q => some (0xF010, 1, q)
  | .crookGather q => some (0xF012, 1, q)
  | .crookClear q => some (0xF014, 1, q)
  | .vco q => some (0x3010, 1, q)
  | .vcoGroupRead q => some (0x3011, 1, q)
  | .paddock q => some (0x3012, 1, q)
  | .paddockGroupRead q => some (0x3013, 1, q)
  | .out q => some (0x3014, 1, q)
  | .outGroupRead q => some (0x3015, 1, q)
  | .gateWindow q => some (0x3018, 1, q)
  | .gateFlush q => some (0x301A, 1, q)
  | .outStatus q => some (0x3020, 1, q)
  | .mon q => some (0x3022, 1, q)
  | .monGroupRead q => some (0x3023, 1, q)
  | .align q => some (0x4010, 1, q)
  | .alignGroupRead q => some (0x4011, 1, q)
  | .gather q => some (0x4012, 1, q)
  | .time q => some (0x4014, 1, q)
  | .timeGroupRead q => some (0x4015, 1, q)
  | .timeWrite q => some (0x4016, 1, q)
  | .timeRead q => some (0x4018, 1, q)
  | .ssct q => some (0x5010, 1, q)
  | .ssctGroupRead q => some (0x5011, 1, q)
  | .ssctLoad q => some (0x5012, 2, q)
  | .ssctRead q => some (0x5014, 2, q)
  | .ssctSave q => some (0x5016, 3, q)
  | .ssctStatus q => some (0x5018, 1, q)
  | .rf q => some (0x6010, 1, q)
  | .rfGroupRead q => some (0x6011, 1, q)
  | .chanWrite q => some (0x6012, 1, q)
  | .chanRead q => some (0x6014, 1, q)
  | .rfRx q => some (0x6016, 1, q)
  | .rfTx q => some (0x6018, 2, q)
  | .rfCapture q => some (0x601A, 2, q)
  | .rfCal q => some (0x601C, 3, q)
  | .rfStatus q => some (0x6020, 1, q)
  | .rfTone q => some (0xD01A, 1, q)
  | .commons q => some (0x7010, 1, q)
  | .commonsGroupRead q => some (0x7011, 1, q)
  | .mgmt q => some (0x7012, 1, q)
  | .mgmtGroupRead q => some (0x7013, 1, q)
  | .commonsKey q => some (0x7014, 3, q)
  | .commonsStatus q => some (0x7016, 1, q)
  | .drove q => some (0x8010, 1, q)
  | .droveGroupRead q => some (0x8011, 1, q)
  | .droveCmd q => some (0x8012, 1, q)
  | .droveStatus q => some (0x8014, 1, q)
  | .configSave q => some (0x9010, 3, q)
  | .pageWrite q => some (0x9012, 3, q)
  | .pageErase q => some (0x9014, 3, q)
  | .pageRead q => some (0x9016, 2, q)
  | .storeStatus q => some (0x9018, 1, q)
  | .pageWear q => some (0x901A, 2, q)
  | .patchWrite q => some (0x901C, 3, q)
  | .storeInject q => some (0xD014, 1, q)
  | .telemRead q => some (0xE010, 2, q)
  | .evtConfig q => some (0xA010, 2, q)
  | .evtNotify q => some (0xA012, 1, q)
  | .evtStatus q => some (0xA014, 2, q)
  | .evtClear q => some (0xA016, 1, q)
  | .evtCounters q => some (0xA018, 2, q)
  | .evtQueue q => some (0xA01A, 2, q)
  | .pin q => some (0xB010, 1, q)
  | .pinGroupRead q => some (0xB011, 1, q)
  | .pinLock q => some (0xB012, 1, q)
  | .pinStatus q => some (0xB014, 1, q)
  | .ownerSet q => some (0xC010, 1, q)
  | .ownerRead q => some (0xC012, 1, q)
  | .ownerLock q => some (0xC014, 1, q)
  | .penReset q => some (0xC016, 1, q)
  | .penDisable q => some (0xC018, 1, q)
  | .penEnable q => some (0xC01A, 1, q)
  | .inject q => some (0xD010, 1, q)
  | .refKill q => some (0xD012, 1, q)
  | .slotOverrun q => some (0xD016, 1, q)
  | .drvTest q => some (0xD018, 1, q)
  | .testStatus q => some (0xD01C, 1, q)
  | _ => none

/-! ### When each command is accepted (13 R303, R308–R326): its length, its pen, its fields and what it needs of the state -/

/-- When NOP (13 R308) is accepted. -/
abbrev NopTerms (q : Call) (s : State) : Prop :=
  q.params.length ≤ 16

/-- When AUDIT (13 R305, R309) is accepted. -/
abbrev AuditTerms (q : Call) (s : State) : Prop :=
  q.params.length = 0

/-- When OUTPUTS_RELEASE (13 R308) is accepted. -/
abbrev OutputsReleaseTerms (q : Call) (s : State) : Prop :=
  q.params.length = 0 ∧ q.pen = 0

/-- When POWER_STATE (13 R308; 18 R424) is accepted. -/
abbrev PowerStateTerms (q : Call) (s : State) : Prop :=
  q.params.length = 1 ∧ q.pen = 0 ∧ fld q.params 0 1 ≤ 2 ∧
  (fld q.params 0 1 = 2 → (∀ e ∈ s.tally.entries, e.status ≠ .applying) ∧ s.engineBusy = false)

/-- When SOFT_RESET (13 R308) is accepted. -/
abbrev SoftResetTerms (q : Call) (s : State) : Prop :=
  q.params.length = 2 ∧ q.pen = 0 ∧ fld q.params 0 2 = 0x5AFE

/-- When RESET_INFO (13 R308) is accepted. -/
abbrev ResetInfoTerms (q : Call) (s : State) : Prop :=
  q.params.length = 0

/-- When REF_INPUT (02 R34–R37, R45; 13 R310) is accepted. -/
abbrev RefInputTerms (q : Call) (s : State) : Prop :=
  q.params.length = 20 ∧ fld q.params 0 1 < 6 ∧ s.owns q.pen (0x10 + fld q.params 0 1) = true ∧ (fld q.params 0 1 < 4 → fld q.params 1 1 ≤ 3) ∧
  (4 ≤ fld q.params 0 1 → fld q.params 1 1 = 3 ∨ fld q.params 1 1 = 4) ∧ fld q.params 2 1 < 4 ∧ (fld q.params 2 1 % 2 = 1 → fld q.params 1 1 ≤ 1) ∧
  zeros q.params 3 1 = true ∧ zeros q.params 18 2 = true ∧ 1 ≤ fld q.params 8 4 ∧
  (fld q.params 0 1 < 4 → fld q.params 8 4 ≤ fld q.params 4 4 ∧ fld q.params 4 4 ≤ 800000000 * fld q.params 8 4) ∧
  (4 ≤ fld q.params 0 1 → fld q.params 8 4 ≤ 10 * fld q.params 4 4 ∧ fld q.params 4 4 ≤ 50000000 * fld q.params 8 4) ∧ 1 ≤ fld q.params 12 4 ∧
  fld q.params 4 4 ≤ 2000000 * fld q.params 8 4 * fld q.params 12 4 ∧ (fld q.params 0 1 < 4 → fld q.params 16 2 = 0) ∧ fld q.params 16 2 ≤ 1000 ∧
  pjFits (s.stagedRefs.refCfg (fld q.params 0 1)).pjThr (fld q.params 12 4 * fld q.params 8 4 * secondFs) (fld q.params 4 4) = true

/-- When REF_INPUT group read (13 R302) is accepted. -/
abbrev RefInputGroupReadTerms (q : Call) (s : State) : Prop :=
  q.params.length = 1 ∧ fld q.params 0 1 < 6

/-- When REF_MON (02 R38, R45; 13 R310) is accepted. -/
abbrev RefMonTerms (q : Call) (s : State) : Prop :=
  q.params.length = 36 ∧ fld q.params 0 1 < 8 ∧ s.owns q.pen (0x10 + fld q.params 0 1) = true ∧ fld q.params 1 1 < 16 ∧ fld q.params 2 1 < 16 ∧
  zeros q.params 3 1 = true ∧ zeros q.params 34 2 = true ∧ (100000 ≤ fldI q.params 4 8 ∧ fldI q.params 4 8 ≤ 1000000000000) ∧
  pjFits (roundStep (fldI q.params 4 8) 1000) (s.stagedRefs.divPeriod (fld q.params 0 1)).1 (s.stagedRefs.divPeriod (fld q.params 0 1)).2 = true ∧
  (fldI q.params 12 8 = 0 ∨ fld q.params 0 1 < 6 ∧ 100000 ≤ fldI q.params 12 8 ∧ fldI q.params 12 8 ≤ 1000000000000000) ∧
  (50000000000 ≤ fldI q.params 20 6 ∧ fldI q.params 20 6 ≤ 10000000000000) ∧ (10000000 ≤ fldI q.params 26 6 ∧ fldI q.params 26 6 ≤ 50000000000) ∧
  (1 ≤ fld q.params 32 2 ∧ fld q.params 32 2 ≤ 10000)

/-- When REF_MON group read (13 R302) is accepted. -/
abbrev RefMonGroupReadTerms (q : Call) (s : State) : Prop :=
  q.params.length = 1 ∧ fld q.params 0 1 < 8

/-- When REF_RANK (02 R52; 13 R310) is accepted. -/
abbrev RefRankTerms (q : Call) (s : State) : Prop :=
  q.params.length = 4 ∧ fld q.params 0 1 < 8 ∧ s.owns q.pen (0x10 + fld q.params 0 1) = true ∧ fld q.params 1 1 < 16 ∧
  (fld q.params 0 1 < 6 → fld q.params 2 1 < 16 ∧ fld q.params 3 1 = 255) ∧ (6 ≤ fld q.params 0 1 → fld q.params 2 1 = 255 ∧ fld q.params 3 1 < 16)

/-- When REF_RANK group read (13 R302) is accepted. -/
abbrev RefRankGroupReadTerms (q : Call) (s : State) : Prop :=
  q.params.length = 1 ∧ fld q.params 0 1 < 8

/-- When REF_STATUS (13 R310) is accepted. -/
abbrev RefStatusTerms (q : Call) (s : State) : Prop :=
  q.params.length = 0

/-- When TDC_ARM (13 R310) is accepted. -/
abbrev TdcArmTerms (q : Call) (s : State) : Prop :=
  q.params.length = 2 ∧ fld q.params 0 1 < 8 ∧ fld q.params 1 1 < 8

/-- When TDC_RESULT (02 R58; 13 R310) is accepted. -/
abbrev TdcResultTerms (q : Call) (s : State) : Prop :=
  q.params.length = 0

/-- When FORCE (03 R68; 13 R311) is accepted. -/
abbrev ForceTerms (q : Call) (s : State) : Prop :=
  q.params.length = 1 ∧ (fld q.params 0 1 < 8 ∨ fld q.params 0 1 = 255) ∧ (fld q.params 0 1 ≠ 255 → s.owns q.pen (0x10 + fld q.params 0 1) = true) ∧
  (fld q.params 0 1 = 255 → ∀ f ∈ s.standingForce, s.owns q.pen (0x10 + f) = true)

/-- When SEL_STATUS (13 R311) is accepted. -/
abbrev SelStatusTerms (q : Call) (s : State) : Prop :=
  q.params.length = 0

/-- When LOOP (04 R91; 13 R312) is accepted. -/
abbrev LoopTerms (q : Call) (s : State) : Prop :=
  q.params.length = 66 ∧ q.pen = 0 ∧ fld q.params 0 1 ≤ 1 ∧ fld q.params 1 1 ≤ 3 ∧ fld q.params 2 1 ≤ 2 ∧ fld q.params 3 1 ≤ 14 ∧
  (1 ≤ fld q.params 4 4 ∧ fld q.params 4 4 ≤ 4000000) ∧ (1 ≤ fld q.params 12 4 ∧ fld q.params 12 4 ≤ fld q.params 8 4 ∧ fld q.params 8 4 ≤ 4000000) ∧
  (10000 ≤ fldI q.params 16 8 ∧ fldI q.params 16 8 ≤ 1000000000000) ∧ (1000000 ≤ fldI q.params 24 6 ∧ fldI q.params 24 6 ≤ 10000000000) ∧
  (100000 ≤ fldI q.params 30 6 ∧ fldI q.params 30 6 ≤ 10000000000) ∧ (1000 ≤ fld q.params 36 4 ∧ fld q.params 36 4 ≤ 1000000) ∧
  (1000 ≤ fld q.params 40 2 ∧ fld q.params 40 2 ≤ 10000) ∧ (1 ≤ fld q.params 42 2 ∧ fld q.params 42 2 ≤ 1000) ∧ fld q.params 44 2 ≤ 36000 ∧
  (1 ≤ fld q.params 46 2 ∧ fld q.params 46 2 ≤ 365) ∧ (1 ≤ fld q.params 48 1 ∧ fld q.params 48 1 ≤ 168) ∧ zeros q.params 49 1 = true ∧
  (0 ≤ fldI q.params 50 8 ∧ fldI q.params 50 8 ≤ 1000000000000) ∧ (1000000 ≤ fldI q.params 58 8 ∧ fldI q.params 58 8 ≤ 1000000000000000)

/-- When LOOP group read (13 R302) is accepted. -/
abbrev LoopGroupReadTerms (q : Call) (s : State) : Prop :=
  q.params.length = 0

/-- When STILE (05 R105) is accepted. -/
abbrev StileTerms (q : Call) (s : State) : Prop :=
  q.params.length = 8 ∧ q.pen = 0 ∧ (10000000 ≤ fldI q.params 0 6 ∧ fldI q.params 0 6 ≤ 100000000000) ∧ fld q.params 6 1 ≤ 1 ∧
  zeros q.params 7 1 = true

/-- When STILE group read (13 R302) is accepted. -/
abbrev StileGroupReadTerms (q : Call) (s : State) : Prop :=
  q.params.length = 0

/-- When LOOP_STATUS (13 R311) is accepted. -/
abbrev LoopStatusTerms (q : Call) (s : State) : Prop :=
  q.params.length = 0

/-- When HOLD (04 R82; 13 R311) is accepted. -/
abbrev HoldTerms (q : Call) (s : State) : Prop :=
  q.params.length = 1 ∧ q.pen = 0 ∧ fld q.params 0 1 ≤ 1

/-- When NEW_OSC (04 R103; 13 R311) is accepted. -/
abbrev NewOscTerms (q : Call) (s : State) : Prop :=
  q.params.length = 1 ∧ q.pen = 0 ∧ fld q.params 0 1 ≤ 1

/-- When MODEL_READ (13 R311) is accepted. -/
abbrev ModelReadTerms (q : Call) (s : State) : Prop :=
  q.params.length = 0

/-- When MODEL_WRITE (04 R95, R99; 13 R311, R312) is accepted. -/
abbrev ModelWriteTerms (q : Call) (s : State) : Prop :=
  q.params.length = 48 ∧ q.pen = 0 ∧ fld q.params 46 1 < 4 ∧ zeros q.params 47 1 = true ∧
  (bit (fld q.params 46 1) 1 = true → fldI q.params 42 2 ≤ fldI q.params 44 2) ∧ (bit (fld q.params 46 1) 1 = false → zeros q.params 42 4 = true) ∧
  s.lp.state ≠ .holdover ∧ engineFree q s

/-- When STEP (05 R116, R122; 13 R311) is accepted. -/
abbrev StepTerms (q : Call) (s : State) : Prop :=
  q.params.length = 24 ∧ flockOwner q (BitVec.ofNat 16 (fld q.params 0 2)) s = true ∧ fld q.params 2 1 ≤ 1 ∧ zeros q.params 3 5 = true ∧
  stepAmount q.params ≠ 0 ∧ (fld q.params 8 8 = 0 ∨ s.clk.absFold.toNat + 1 < fld q.params 8 8) ∧
  (BitVec.ofNat 16 (fld q.params 0 2) = 0 → -500000000000000 ≤ stepAmount q.params ∧ stepAmount q.params ≤ 500000000000000 ∧ fld q.params 2 1 = 0) ∧
  (BitVec.ofNat 16 (fld q.params 0 2) ≠ 0 → s.delayFits (BitVec.ofNat 16 (fld q.params 0 2)) (stepAmount q.params) = true) ∧ 1 ≤ s.slotsLeft

/-- When TALLY_CANCEL (05 R125) is accepted. -/
abbrev TallyCancelTerms (q : Call) (s : State) : Prop :=
  q.params.length = 4 ∧
  (∃ e, s.tally.find (BitVec.ofNat 32 (fld q.params 0 4)) = some e ∧ e.isOpen = true ∧ e.src ≠ .ssct ∧ (q.pen = 0 ∨ q.pen = e.pen ∧ e.src ≠ .switch ∧ e.src ≠ .holdoverExit))

/-- When TALLY_READ (13 R305, R312) is accepted. -/
abbrev TallyReadTerms (q : Call) (s : State) : Prop :=
  q.params.length = 4 ∧ fld q.params 0 1 ≤ 1 ∧ zeros q.params 2 2 = true

/-- When OUT_DELAY (05 R123; 06 R143; 13 R313) is accepted. -/
abbrev OutDelayTerms (q : Call) (s : State) : Prop :=
  q.params.length = 16 ∧ fld q.params 0 1 < 16 ∧ s.owns q.pen (fld q.params 0 1) = true ∧ fld q.params 1 1 ≤ 1 ∧ zeros q.params 2 6 = true ∧
  0 ≤ fldI q.params 8 8 ∧ roundStep (fldI q.params 8 8) 2500 ≤ delayMax s.stagedOuts.fvco ∧ outDelaySlots q s ≤ s.slotsLeft

/-- When CROOK_STEP (05 R124; 13 R326) is accepted. -/
abbrev CrookStepTerms (q : Call) (s : State) : Prop :=
  q.params.length = 16 ∧ BitVec.ofNat 16 (fld q.params 0 2) ≠ 0 ∧ flockOwner q (BitVec.ofNat 16 (fld q.params 0 2)) s = true ∧
  zeros q.params 2 6 = true ∧ flockAmount (fldI q.params 8 8) ≠ 0 ∧
  (∀ o ∈ flockOuts (BitVec.ofNat 16 (fld q.params 0 2)), 0 ≤ crookDelay q s o ∧ crookDelay q s o ≤ delayMax s.stagedOuts.fvco) ∧
  crookSlots q s ≤ s.slotsLeft

/-- When CROOK_GATHER (07 R165; 13 R326) is accepted. -/
abbrev CrookGatherTerms (q : Call) (s : State) : Prop :=
  q.params.length = 16 ∧ s.ownsFlock q.pen (BitVec.ofNat 16 (fld q.params 0 2)) = true ∧ zeros q.params 2 6 = true ∧
  (0 ≤ fldI q.params 8 8 ∧ fldI q.params 8 8 ≤ 1000000000000000)

/-- When CROOK_CLEAR (13 R326) is accepted. -/
abbrev CrookClearTerms (q : Call) (s : State) : Prop :=
  q.params.length = 1 ∧ fld q.params 0 1 ≤ 3

/-- When VCO (06 R130, R143) is accepted. -/
abbrev VcoTerms (q : Call) (s : State) : Prop :=
  q.params.length = 8 ∧ q.pen = 0 ∧ (5600000000 ≤ fld q.params 0 8 ∧ fld q.params 0 8 ≤ 6400000000) ∧
  (fld q.params 0 8 = s.stagedOuts.fvco ∨ ∀ o < 16, s.stagedOuts.formatOf o = 0) ∧
  (∀ o < 16, (s.outCfg o).delay ≤ delayMax (fld q.params 0 8) ∧ s.delayAfter o + s.stagedDelay o ≤ delayMax (fld q.params 0 8) ∧
    (setVco q.params s.stagedOuts).freqOk o = true)

/-- When VCO group read (13 R302) is accepted. -/
abbrev VcoGroupReadTerms (q : Call) (s : State) : Prop :=
  q.params.length = 0

/-- When PADDOCK (06 R131, R133) is accepted. -/
abbrev PaddockTerms (q : Call) (s : State) : Prop :=
  q.params.length = 4 ∧ q.pen = 0 ∧ fld q.params 0 1 < 4 ∧ (fld q.params 0 1 = 0 → 2 ≤ fld q.params 1 1 ∧ fld q.params 1 1 ≤ 16) ∧
  (fld q.params 0 1 ≠ 0 → 4 ≤ fld q.params 1 1 ∧ fld q.params 1 1 ≤ 64) ∧ fld q.params 2 1 ≤ 2 ∧ zeros q.params 3 1 = true ∧
  (fld q.params 1 1 = (s.stagedOuts.pads.getD (fld q.params 0 1) {}).prediv ∨ ∀ i < 4, s.stagedOuts.formatOf (4 * fld q.params 0 1 + i) = 0) ∧
  (∀ i < 4, vddoAllows (s.stagedOuts.formatOf (4 * fld q.params 0 1 + i)) (fld q.params 2 1) = true ∧
    (setPaddock q.params s.stagedOuts).freqOk (4 * fld q.params 0 1 + i) = true)

/-- When PADDOCK group read (13 R302) is accepted. -/
abbrev PaddockGroupReadTerms (q : Call) (s : State) : Prop :=
  q.params.length = 1 ∧ fld q.params 0 1 < 4

/-- When OUT (06 R132–R137; 13 R313) is accepted. -/
abbrev OutTerms (q : Call) (s : State) : Prop :=
  q.params.length = 20 ∧ fld q.params 0 1 < 16 ∧ s.owns q.pen (fld q.params 0 1) = true ∧ zeros q.params 1 3 = true ∧ fld q.params 4 4 < 2 ^ 17 ∧
  fld q.params 4 4 / 8 % 4 = 0 ∧ fld q.params 4 4 / 2 ^ 13 % 4 ≤ 1 ∧ (outOf q.params).prst ≤ 2 ∧ (outOf q.params).mode ≤ 2 ∧
  (outOf q.params).format ≤ 5 ∧ driveOk (outOf q.params).format (fld q.params 4 4 / 2 ^ 10 % 4) = true ∧
  vddoAllows (outOf q.params).format (s.stagedOuts.pads.getD (fld q.params 0 1 / 4) {}).vddo = true ∧ 1 ≤ fld q.params 8 4 ∧
  ((outOf q.params).duty = true → fld q.params 8 4 ≠ 1) ∧
  (setOut q.params s.stagedOuts).freqOk (fld q.params 0 1) = true ∧
  ((outOf q.params).mode = 1 → 1 ≤ fld q.params 16 4 ∧ fld q.params 16 4 < (outOf q.params).periodCycles)

/-- When OUT group read (13 R302) is accepted. -/
abbrev OutGroupReadTerms (q : Call) (s : State) : Prop :=
  q.params.length = 1 ∧ fld q.params 0 1 < 16

/-- When GATE_WINDOW (06 R138, R139) is accepted. -/
abbrev GateWindowTerms (q : Call) (s : State) : Prop :=
  q.params.length = 24 ∧ fld q.params 0 1 < 16 ∧ s.owns q.pen (fld q.params 0 1) = true ∧ zeros q.params 1 7 = true ∧
  (s.stagedOuts.outs.getD (fld q.params 0 1) {}).mode = 2 ∧ (windowOf q.params).start < (windowOf q.params).stop ∧
  s.clk.absFold.toNat + 1 < (windowOf q.params).fold.toNat ∧ (s.stagedWindows (fld q.params 0 1)).length < 4 ∧
  (∀ v ∈ s.stagedWindows (fld q.params 0 1), v.overlaps (windowOf q.params) = false)

/-- When GATE_FLUSH (13 R313) is accepted. -/
abbrev GateFlushTerms (q : Call) (s : State) : Prop :=
  q.params.length = 1 ∧ fld q.params 0 1 < 16 ∧ s.owns q.pen (fld q.params 0 1) = true

/-- When OUT_STATUS (13 R313) is accepted. -/
abbrev OutStatusTerms (q : Call) (s : State) : Prop :=
  q.params.length = 1 ∧ fld q.params 0 1 < 16

/-- When MON (06 R152) is accepted. -/
abbrev MonTerms (q : Call) (s : State) : Prop :=
  q.params.length = 6 ∧ q.pen = 0 ∧ (1000000000 ≤ fldI q.params 0 6 ∧ fldI q.params 0 6 ≤ 1000000000000)

/-- When MON group read (13 R302) is accepted. -/
abbrev MonGroupReadTerms (q : Call) (s : State) : Prop :=
  q.params.length = 0

/-- When ALIGN (07 R154) is accepted. -/
abbrev AlignTerms (q : Call) (s : State) : Prop :=
  q.params.length = 12 ∧ fld q.params 0 1 < 16 ∧ s.owns q.pen (fld q.params 0 1) = true ∧ zeros q.params 1 1 = true ∧
  (250000000000 ≤ fldI q.params 4 8 ∧ fldI q.params 4 8 ≤ 10000000000000000)

/-- When ALIGN group read (13 R302) is accepted. -/
abbrev AlignGroupReadTerms (q : Call) (s : State) : Prop :=
  q.params.length = 1 ∧ fld q.params 0 1 < 16

/-- When GATHER (07 R159) is accepted. -/
abbrev GatherTerms (q : Call) (s : State) : Prop :=
  q.params.length = 24 ∧ s.ownsFlock q.pen (BitVec.ofNat 16 (fld q.params 0 2)) = true ∧ zeros q.params 2 6 = true ∧
  (∀ o ∈ flockOuts (BitVec.ofNat 16 (fld q.params 0 2)), (s.stagedOuts.outs.getD o {}).mode = 1 ∧ (s.stagedOuts.outs.getD o {}).onCommand = true) ∧
  s.clk.absFold.toNat + 1 < fld q.params 8 8 ∧ (125000000000 ≤ fldI q.params 16 8 ∧ fldI q.params 16 8 ≤ 1000000000000000) ∧
  (flockOuts (BitVec.ofNat 16 (fld q.params 0 2))).length ≤ s.slotsLeft

/-- When TIME (07 R168) is accepted. -/
abbrev TimeTerms (q : Call) (s : State) : Prop :=
  q.params.length = 12 ∧ q.pen = 0 ∧ fld q.params 0 1 ≤ 4 ∧ fld q.params 1 1 ≤ 2 ∧ fld q.params 3 1 ≤ 1 ∧ zeros q.params 10 2 = true ∧
  fld q.params 4 4 ∈ [4800, 9600, 19200, 38400, 57600, 115200]

/-- When TIME group read (13 R302) is accepted. -/
abbrev TimeGroupReadTerms (q : Call) (s : State) : Prop :=
  q.params.length = 0

/-- When TIME_WRITE (07 R175; 13 R314) is accepted. -/
abbrev TimeWriteTerms (q : Call) (s : State) : Prop :=
  q.params.length = 16 ∧ q.pen = 0 ∧ zeros q.params 6 2 = true ∧ fld q.params 8 4 < 1000000000 ∧ fld q.params 12 4 < 1000000 ∧
  timeSlots q s ≤ s.slotsLeft

/-- When TIME_READ (13 R314) is accepted. -/
abbrev TimeReadTerms (q : Call) (s : State) : Prop :=
  q.params.length = 0

/-- When SSCT (08 R181) is accepted. -/
abbrev SsctTerms (q : Call) (s : State) : Prop :=
  q.params.length = 4 ∧ q.pen = 0 ∧ fld q.params 0 1 ≤ 2 ∧ fld q.params 1 1 ≤ 1 ∧ (4 ≤ fld q.params 2 1 ∧ fld q.params 2 1 ≤ 16) ∧
  zeros q.params 3 1 = true

/-- When SSCT group read (13 R302) is accepted. -/
abbrev SsctGroupReadTerms (q : Call) (s : State) : Prop :=
  q.params.length = 0

/-- When SSCT_LOAD (08 R192) is accepted. -/
abbrev SsctLoadTerms (q : Call) (s : State) : Prop :=
  q.params.length = 512 ∧ q.pen = 0 ∧ (∀ b < 256, -20000 ≤ fldI q.params (2 * b) 2 ∧ fldI q.params (2 * b) 2 ≤ 20000) ∧
   s.ssctLoadable = true

/-- When SSCT_READ (13 R305, R315) is accepted. -/
abbrev SsctReadTerms (q : Call) (s : State) : Prop :=
  q.params.length = 0

/-- When SSCT_SAVE (08 R193) is accepted. -/
abbrev SsctSaveTerms (q : Call) (s : State) : Prop :=
  q.params.length = 0 ∧ q.pen = 0 ∧ engineFree q s

/-- When SSCT_STATUS (13 R315) is accepted. -/
abbrev SsctStatusTerms (q : Call) (s : State) : Prop :=
  q.params.length = 0

/-- When RF (09 R197, R198) is accepted. -/
abbrev RfTerms (q : Call) (s : State) : Prop :=
  q.params.length = 16 ∧ s.owns q.pen 0x30 = true ∧ fld q.params 0 1 ≤ 63 ∧ fld q.params 1 1 ≤ 2 ∧ fld q.params 2 1 ≤ 1 ∧ fld q.params 3 1 ≤ 1 ∧
  fld q.params 4 1 ≤ 5 ∧ fld q.params 5 1 ≤ 1 ∧ fld q.params 7 1 ≤ 3 ∧ fld q.params 8 1 ≤ 1 ∧ fld q.params 9 1 ≤ 31 ∧ fld q.params 10 1 ≤ 31 ∧
  fld q.params 12 1 ≤ 1 ∧ fld q.params 13 1 ≤ 1 ∧ fld q.params 14 1 ≤ 1 ∧ (-10 ≤ fldI q.params 6 1 ∧ fldI q.params 6 1 ≤ 14) ∧
  (3 ≤ fld q.params 11 1 ∧ fld q.params 11 1 ≤ 15) ∧ zeros q.params 15 1 = true ∧
  (fld q.params 0 1 = s.stagedRf.chan ∨ s.stagedFreq (fld q.params 0 1) ≠ 0) ∧ (s.stagedRole = 0 ∨ fld q.params 0 1 = s.stagedWant)

/-- When RF group read (13 R302) is accepted. -/
abbrev RfGroupReadTerms (q : Call) (s : State) : Prop :=
  q.params.length = 0

/-- When CHAN_WRITE (09 R198, R200) is accepted. -/
abbrev ChanWriteTerms (q : Call) (s : State) : Prop :=
  q.params.length = 8 ∧ s.owns q.pen 0x30 = true ∧ fld q.params 0 1 ≤ 63 ∧ zeros q.params 1 3 = true ∧
  (fld q.params 4 4 = 0 ∨ 770000000 ≤ fld q.params 4 4 ∧ fld q.params 4 4 ≤ 960000000) ∧
  (fld q.params 0 1 ≠ s.rf.chan ∧ s.rf.hop ≠ some (fld q.params 0 1) ∨ s.rf.state = .idle ∨ s.rf.state = .off)

/-- When CHAN_READ (13 R316) is accepted. -/
abbrev ChanReadTerms (q : Call) (s : State) : Prop :=
  q.params.length = 1 ∧ fld q.params 0 1 < 64

/-- When RF_RX (09 R197, R198) is accepted. -/
abbrev RfRxTerms (q : Call) (s : State) : Prop :=
  q.params.length = 1 ∧ s.owns q.pen 0x30 = true ∧ fld q.params 0 1 ≤ 1 ∧ (fld q.params 0 1 = 1 → s.stagedFreq s.stagedRf.chan ≠ 0) ∧ s.stagedRole = 0

/-- When RF_TX (13 R316) is accepted. -/
abbrev RfTxTerms (q : Call) (s : State) : Prop :=
  (1 ≤ q.params.length ∧ q.params.length ≤ 253) ∧ s.owns q.pen 0x30 = true ∧ q.params.length + s.stagedRf.fcsLen ≤ 255 ∧
  s.stagedFreq s.stagedRf.chan ≠ 0 ∧ s.stagedRole = 0 ∧ s.pow.state = .run ∧ s.rf.hostTx = none ∧ s.rf.tone = 0 ∧ s.rf.toneNext = none

/-- When RF_CAPTURE (13 R316) is accepted. -/
abbrev RfCaptureTerms (q : Call) (s : State) : Prop :=
  q.params.length = 4 ∧ s.owns q.pen 0x30 = true ∧ fld q.params 0 1 ≤ 1 ∧ zeros q.params 1 1 = true ∧
  (1 ≤ fld q.params 2 2 ∧ fld q.params 2 2 ≤ 255) ∧ s.rf.capture = none

/-- When RF_CAL (13 R316) is accepted. -/
abbrev RfCalTerms (q : Call) (s : State) : Prop :=
  q.params.length = 1 ∧ s.owns q.pen 0x30 = true ∧ (1 ≤ fld q.params 0 1 ∧ fld q.params 0 1 ≤ 15) ∧
  (∀ j ∈ s.bg.calQueue, ∀ o ∈ j.owner, o.pen ≠ q.pen)

/-- When RF_STATUS (13 R316) is accepted. -/
abbrev RfStatusTerms (q : Call) (s : State) : Prop :=
  q.params.length = 0

/-- When RF_TONE (19 R440) is accepted. -/
abbrev RfToneTerms (q : Call) (s : State) : Prop :=
  q.params.length = 1 ∧ s.owns q.pen 0x30 = true ∧ fld q.params 0 1 ≤ 2 ∧
  (fld q.params 0 1 ≠ 0 → s.stagedFreq s.stagedRf.chan ≠ 0 ∧ s.pow.state = .run) ∧ s.stagedRole = 0

/-- When COMMONS (10 R223–R225) is accepted. -/
abbrev CommonsTerms (q : Call) (s : State) : Prop :=
  q.params.length = 28 ∧ s.owns q.pen 0x30 = true ∧ (setCommons q.params s.stagedCom).role ≤ 3 ∧ (setCommons q.params s.stagedCom).beaconChan ≤ 63 ∧
  (setCommons q.params s.stagedCom).period ≤ 5 ∧ (setCommons q.params s.stagedCom).hopAdd ≤ 14 ∧ (setCommons q.params s.stagedCom).holdGrade ≤ 14 ∧
  (-100 ≤ (setCommons q.params s.stagedCom).ccaThr ∧ (setCommons q.params s.stagedCom).ccaThr ≤ -60) ∧
  (1 ≤ (setCommons q.params s.stagedCom).maxCca ∧ (setCommons q.params s.stagedCom).maxCca ≤ 8) ∧ zeros q.params 7 1 = true ∧
  (1 ≤ (setCommons q.params s.stagedCom).netId ∧ (setCommons q.params s.stagedCom).netId ≤ 0xFFFE) ∧
  (1 ≤ (setCommons q.params s.stagedCom).delayInterval ∧ (setCommons q.params s.stagedCom).delayInterval ≤ 1024) ∧
  (80 ≤ (setCommons q.params s.stagedCom).reqWindow ∧ (setCommons q.params s.stagedCom).reqWindow ≤ 4000) ∧
  (1 ≤ (setCommons q.params s.stagedCom).devId ∧ (setCommons q.params s.stagedCom).devId ≤ 0xFFFFFFFE) ∧
  (0 ≤ (setCommons q.params s.stagedCom).delayFixed ∧ (setCommons q.params s.stagedCom).delayFixed ≤ 10000000) ∧
  (setCommons q.params s.stagedCom).beaconFold < beaconFolds (setCommons q.params s.stagedCom).period ∧
  (s.stagedCom.role = 0 → (setCommons q.params s.stagedCom).role ≠ 0 → s.com.key.isSome = true ∧ s.stagedFreq (setCommons q.params s.stagedCom).beaconChan ≠ 0) ∧
  (s.stagedCom.role ≠ 0 → ((setCommons q.params s.stagedCom).role = s.stagedCom.role ∨ (setCommons q.params s.stagedCom).role = 0) ∧ (setCommons q.params s.stagedCom).netId = s.stagedCom.netId ∧ (setCommons q.params s.stagedCom).devId = s.stagedCom.devId ∧ (setCommons q.params s.stagedCom).beaconChan = s.stagedCom.beaconChan)

/-- When COMMONS group read (13 R302) is accepted. -/
abbrev CommonsGroupReadTerms (q : Call) (s : State) : Prop :=
  q.params.length = 0

/-- When MGMT (10 R240; 13 R317) is accepted. -/
abbrev MgmtTerms (q : Call) (s : State) : Prop :=
  q.params.length = 8 ∧ q.pen = 0 ∧ fld q.params 0 1 ≤ 1 ∧ zeros q.params 1 3 = true ∧ (1 ≤ fld q.params 4 4 ∧ fld q.params 4 4 ≤ 0xFFFFFFFE)

/-- When MGMT group read (13 R302) is accepted. -/
abbrev MgmtGroupReadTerms (q : Call) (s : State) : Prop :=
  q.params.length = 0

/-- When COMMONS_KEY (15 R371) is accepted. -/
abbrev CommonsKeyTerms (q : Call) (s : State) : Prop :=
  q.params.length = 16 ∧ q.pen = 0 ∧ engineFree q s

/-- When COMMONS_STATUS (13 R317) is accepted. -/
abbrev CommonsStatusTerms (q : Call) (s : State) : Prop :=
  q.params.length = 0

/-- When DROVE (11 R245; 13 R318) is accepted. -/
abbrev DroveTerms (q : Call) (s : State) : Prop :=
  q.params.length = 12 ∧ s.owns q.pen 0x31 = true ∧ (q.pen = 0 ∨ fld q.params 5 1 = s.cfg.drv.cmdEn.toNat) ∧ fld q.params 0 1 ≤ 1 ∧
  fld q.params 1 1 ≤ 1 ∧ (drvCfgOf q.params).hopAdd ≤ 14 ∧ (drvCfgOf q.params).holdGrade ≤ 14 ∧ fld q.params 5 1 ≤ 3 ∧ zeros q.params 6 2 = true ∧
  (1 ≤ (drvCfgOf q.params).id ∧ (drvCfgOf q.params).id ≤ 0xFFFFFFFE) ∧
  (s.stagedDrv.en = true → (drvCfgOf q.params).ring = s.stagedDrv.ring ∧ (drvCfgOf q.params).id = s.stagedDrv.id ∧ (drvCfgOf q.params).prio = s.stagedDrv.prio)

/-- When DROVE group read (13 R302) is accepted. -/
abbrev DroveGroupReadTerms (q : Call) (s : State) : Prop :=
  q.params.length = 0

/-- When DROVE_CMD (11 R261; 13 R318) is accepted. -/
abbrev DroveCmdTerms (q : Call) (s : State) : Prop :=
  q.params.length = 16 ∧ s.owns q.pen 0x31 = true ∧ (1 ≤ fld q.params 0 1 ∧ fld q.params 0 1 ≤ 3) ∧ zeros q.params 1 1 = true ∧
  (fld q.params 0 1 = 1 → 125000 ≤ fld q.params 12 4 ∧ fld q.params 12 4 ≤ 1000000000) ∧ (fld q.params 0 1 = 2 → zeros q.params 10 6 = true) ∧
  (fld q.params 0 1 = 3 → fld q.params 2 1 ≤ 15 ∧ zeros q.params 3 13 = true) ∧
  (fld q.params 0 1 ≠ 3 → fld q.params 2 8 = 0 ∨ s.clk.absFold.toNat + 33 ≤ fld q.params 2 8) ∧ s.drv.state = .lead ∧ s.drv.cast = none ∧
  (∀ g ∈ s.host.staged, g.commit = true → g.opcode ≠ 0x8012)

/-- When DROVE_STATUS (13 R318) is accepted. -/
abbrev DroveStatusTerms (q : Call) (s : State) : Prop :=
  q.params.length = 0

/-- When CONFIG_SAVE (15 R369) is accepted. -/
abbrev ConfigSaveTerms (q : Call) (s : State) : Prop :=
  q.params.length = 4 ∧ q.pen = 0 ∧ fld q.params 0 1 ≤ 1 ∧ zeros q.params 1 3 = true ∧ engineFree q s

/-- When PAGE_WRITE (15 R372; 17 R396) is accepted. -/
abbrev PageWriteTerms (q : Call) (s : State) : Prop :=
  (5 ≤ q.params.length ∧ q.params.length ≤ 260) ∧ fld q.params 0 1 < 32 ∧ s.owns q.pen (0x40 + fld q.params 0 1) = true ∧ zeros q.params 2 2 = true ∧
  s.writeProtect = false ∧ engineFree q s

/-- When PAGE_ERASE (15 R373; 17 R396) is accepted. -/
abbrev PageEraseTerms (q : Call) (s : State) : Prop :=
  q.params.length = 1 ∧ fld q.params 0 1 < 32 ∧ s.owns q.pen (0x40 + fld q.params 0 1) = true ∧ s.writeProtect = false ∧ engineFree q s

/-- When PAGE_READ (13 R305, R319) is accepted. -/
abbrev PageReadTerms (q : Call) (s : State) : Prop :=
  q.params.length = 4 ∧ fld q.params 0 1 < 32 ∧ s.owns q.pen (0x40 + fld q.params 0 1) = true ∧ (1 ≤ fld q.params 2 2 ∧ fld q.params 2 2 ≤ 256) ∧
  s.store.pageBusy (fld q.params 0 1) = false

/-- When STORE_STATUS (13 R319) is accepted. -/
abbrev StoreStatusTerms (q : Call) (s : State) : Prop :=
  q.params.length = 0

/-- When PAGE_WEAR (13 R305, R319) is accepted. -/
abbrev PageWearTerms (q : Call) (s : State) : Prop :=
  q.params.length = 0

/-- When PATCH_WRITE (15 R370) is accepted. -/
abbrev PatchWriteTerms (q : Call) (s : State) : Prop :=
  (5 ≤ q.params.length ∧ q.params.length ≤ 228) ∧ q.pen = 0 ∧ zeros q.params 2 2 = true ∧ (1 ≤ fld q.params 1 1 ∧ fld q.params 1 1 ≤ 16) ∧
  fld q.params 0 1 < fld q.params 1 1 ∧ (fld q.params 0 1 = 0 ∨ s.store.patchNext = some (fld q.params 0 1, fld q.params 1 1)) ∧
  (fld q.params 0 1 + 1 = fld q.params 1 1 ∨ q.params.length = 228) ∧ engineFree q s

/-- When STORE_INJECT (19 R436) is accepted. -/
abbrev StoreInjectTerms (q : Call) (s : State) : Prop :=
  q.params.length = 2 ∧ q.pen = 0 ∧ fld q.params 0 1 ≤ 2 ∧ (1 ≤ fld q.params 1 1 ∧ fld q.params 1 1 ≤ 17)

/-- When TELEM_READ (16 R387) is accepted. -/
abbrev TelemReadTerms (q : Call) (s : State) : Prop :=
  q.params.length = 2 ∧ fld q.params 0 1 ≤ 63 ∧ (1 ≤ fld q.params 1 1 ∧ fld q.params 1 1 ≤ 16)

/-- When EVT_CONFIG (14 R334; 13 R320) is accepted. -/
abbrev EvtConfigTerms (q : Call) (s : State) : Prop :=
  q.params.length = 4 + evCount q ∧ q.pen = 0 ∧ (1 ≤ evCount q ∧ evCount q ≤ 288) ∧ evFirst q + evCount q ≤ 288 ∧
  (∀ k < evCount q, fld q.params (4 + k) 1 < 8 ∧ fld q.params (4 + k) 1 / 2 ≠ 3 ∧ (fld q.params (4 + k) 1 = 0 ∨ evReserved (evFirst q + k) = false))

/-- When EVT_NOTIFY (14 R334; 13 R321) is accepted. -/
abbrev EvtNotifyTerms (q : Call) (s : State) : Prop :=
  4 ≤ q.params.length ∧ q.params.length = 4 + evCount q / 8 ∧ bitmapOk q = true ∧ bitmapPlain q = true

/-- When EVT_STATUS (13 R320) is accepted. -/
abbrev EvtStatusTerms (q : Call) (s : State) : Prop :=
  q.params.length = 4 ∧ evFirst q + evCount q ≤ 288

/-- When EVT_CLEAR (14 R333; 13 R321) is accepted. -/
abbrev EvtClearTerms (q : Call) (s : State) : Prop :=
  4 ≤ q.params.length ∧ q.params.length = 4 + evCount q / 8 ∧ bitmapOk q = true ∧
  (∀ k < evCount q, evBit q k = true → s.mayClear q.pen (evFirst q + k) = true) ∧ bitmapPlain q = true

/-- When EVT_COUNTERS (13 R305, R320) is accepted. -/
abbrev EvtCountersTerms (q : Call) (s : State) : Prop :=
  q.params.length = 4 ∧ (1 ≤ evCount q ∧ evCount q ≤ 256) ∧ evFirst q + evCount q ≤ 288

/-- When EVT_QUEUE (14 R339) is accepted. -/
abbrev EvtQueueTerms (q : Call) (s : State) : Prop :=
  q.params.length = 4 ∧ (1 ≤ fld q.params 0 1 ∧ fld q.params 0 1 ≤ 50) ∧ fld q.params 1 1 ≤ 1 ∧ (fld q.params 1 1 = 1 → q.pen = 0) ∧
  zeros q.params 2 2 = true

/-- When PIN (17 R389–R392, R403, R404) is accepted. -/
abbrev PinTerms (q : Call) (s : State) : Prop :=
  q.params.length = 8 ∧ fld q.params 0 1 < 24 ∧ s.owns q.pen (0x18 + fld q.params 0 1) = true ∧
  (q.pen = 0 ∨ fld q.params 1 1 ≠ 7 ∧ (fld q.params 1 1 = 3 → fld q.params 2 1 / 32 % 4 = q.pen.val) ∧ (fld q.params 1 1 = 6 → fld q.params 2 1 % 4 = 0)) ∧
  fld q.params 1 1 ≤ 7 ∧ subOk (fld q.params 1 1) (fld q.params 2 1) = true ∧ fld q.params 3 1 ≤ 3 ∧ fld q.params 4 1 ≤ 4 ∧
  zeros q.params 5 3 = true ∧ (fld q.params 1 1 = 4 → fld q.params 0 1 = 20 ∨ fld q.params 0 1 = 21) ∧
  (fld q.params 1 1 = 3 → ∀ m < 24, m ≠ fld q.params 0 1 → (s.stagedPins.pins.getD m {}).func = 3 → (s.stagedPins.pins.getD m {}).sub.toNat / 128 ≠ fld q.params 2 1 / 128) ∧
  s.pinLocked (fld q.params 0 1) = false

/-- When PIN group read (13 R302) is accepted. -/
abbrev PinGroupReadTerms (q : Call) (s : State) : Prop :=
  q.params.length = 1 ∧ fld q.params 0 1 < 24

/-- When PIN_LOCK, its first step (17 R404; 13 R322) is accepted. -/
abbrev PinLockTerms (q : Call) (s : State) : Prop :=
  q.params.length = 8 ∧ fld q.params 0 2 = 0x5EED ∧ (∀ n < 24, (fld q.params 4 4).testBit n = true → s.owns q.pen (0x18 + n) = true) ∧
  zeros q.params 2 2 = true ∧ fld q.params 4 4 ≠ 0 ∧ fld q.params 4 4 < 2 ^ 24 ∧ (s.io q.pen).pinStep = none

/-- When PIN_LOCK, its second step (17 R404; 13 R322) is accepted. -/
abbrev PinLockSecondTerms (q : Call) (s : State) : Prop :=
  q.params.length = 8 ∧ fld q.params 0 2 = 0xC0DE ∧ (∀ n < 24, (fld q.params 4 4).testBit n = true → s.owns q.pen (0x18 + n) = true) ∧
  zeros q.params 2 2 = true ∧ fld q.params 4 4 ≠ 0 ∧ fld q.params 4 4 < 2 ^ 24 ∧ (s.io q.pen).pinStep = some (BitVec.ofNat 32 (fld q.params 4 4))

/-- When PIN_STATUS (13 R322) is accepted. -/
abbrev PinStatusTerms (q : Call) (s : State) : Prop :=
  q.params.length = 0

/-- When OWNER_SET (12 R288, R290; 13 R323) is accepted. -/
abbrev OwnerSetTerms (q : Call) (s : State) : Prop :=
  (2 ≤ q.params.length ∧ q.params.length ≤ 164) ∧ q.params.length % 2 = 0 ∧ q.pen = 0 ∧
  (∀ p ∈ ownerPairs q.params, isResource p.1 = true ∧ p.2 ≤ 3) ∧ ((ownerPairs q.params).map (·.1)).Nodup ∧ s.ownersLocked = false

/-- When OWNER_READ (13 R323) is accepted. -/
abbrev OwnerReadTerms (q : Call) (s : State) : Prop :=
  q.params.length = 0

/-- When OWNER_LOCK (12 R290; 13 R323) is accepted. -/
abbrev OwnerLockTerms (q : Call) (s : State) : Prop :=
  q.params.length = 0 ∧ q.pen = 0

/-- When PEN_RESET (12 R291, R292; 13 R323) is accepted. -/
abbrev PenResetTerms (q : Call) (s : State) : Prop :=
  q.params.length = 1 ∧ q.pen = 0 ∧ (1 ≤ fld q.params 0 1 ∧ fld q.params 0 1 ≤ 3)

/-- When PEN_DISABLE (12 R291, R292; 13 R323) is accepted. -/
abbrev PenDisableTerms (q : Call) (s : State) : Prop :=
  q.params.length = 1 ∧ q.pen = 0 ∧ (1 ≤ fld q.params 0 1 ∧ fld q.params 0 1 ≤ 3)

/-- When PEN_ENABLE (12 R291, R292; 13 R323) is accepted. -/
abbrev PenEnableTerms (q : Call) (s : State) : Prop :=
  q.params.length = 1 ∧ q.pen = 0 ∧ (1 ≤ fld q.params 0 1 ∧ fld q.params 0 1 ≤ 3)

/-- When INJECT (19 R432; 13 R324) is accepted. -/
abbrev InjectTerms (q : Call) (s : State) : Prop :=
  q.params.length = 16 ∧ q.pen = 0 ∧ fld q.params 0 1 ≤ 1 ∧ fld q.params 1 1 ≤ 4 ∧ zeros q.params 4 4 = true ∧
  (fld q.params 1 1 = 4 → 1000 ≤ fldI q.params 8 8 ∧ fldI q.params 8 8 ≤ 10000000000 ∧ fldI q.params 8 8 % 1000 = 0) ∧
  (fld q.params 1 1 ≠ 4 → fldI q.params 8 8 = 0)

/-- When REF_KILL (19 R435) is accepted. -/
abbrev RefKillTerms (q : Call) (s : State) : Prop :=
  q.params.length = 2 ∧ q.pen = 0 ∧ fld q.params 0 1 ≤ 7 ∧ fld q.params 1 1 ≤ 1

/-- When SLOT_OVERRUN (19 R437) is accepted. -/
abbrev SlotOverrunTerms (q : Call) (s : State) : Prop :=
  q.params.length = 4 ∧ q.pen = 0 ∧ fld q.params 0 1 ≤ 15 ∧ zeros q.params 1 1 = true ∧ 1 ≤ fld q.params 2 2

/-- When DRV_TEST (19 R438) is accepted. -/
abbrev DrvTestTerms (q : Call) (s : State) : Prop :=
  q.params.length = 1 ∧ s.owns q.pen 0x31 = true ∧ fld q.params 0 1 ≤ 4

/-- When TEST_STATUS (19 R434) is accepted. -/
abbrev TestStatusTerms (q : Call) (s : State) : Prop :=
  q.params.length = 0

/-! ### The ledger's books (05 R127) -/

/-- What entered is what was applied, what was cancelled and what is open. -/
def Totals.balanced (t : Totals) : Prop := t.entered = t.applied + t.cancelled + t.opened

/-- Every source's and every target's totals balance. -/
def Tally.balanced (t : Tally) : Prop := (∀ x ∈ t.bySrc.toList, x.balanced) ∧ ∀ x ∈ t.byTarget.toList, x.balanced

/-! ### Received frames (09 R203; 10 R238) -/

/-- A frame with a good FCS, with no injection on its link. -/
abbrev frameHeard (s : State) (f : RxFrame) : Prop :=
  s.rf.state = .rx ∧ f.modeSwitch = false ∧ f.length ≤ 255 ∧ f.fcsOk = true ∧ s.test.commons.kind = 0 ∧ s.com.heldFrame = none

/-- Nothing but received frames is for slot 7 to do at `t`: no loss of REFC, no backoff, nothing due and nothing timed out. -/
abbrev macQuiet (s : State) (t : Nat) : Prop :=
  s.com.lost = false ∧ s.com.ccaFold = none ∧ (∀ e q, s.com.expect = some (e, q) → (s.setNow t).instant < e + 4000000000000) ∧
    (∀ r ∈ s.com.requests, s.clk.absFold.toNat < r.fold + 400) ∧
    (s.com.state ≠ .master ∨ s.deviceFold % s.periodFolds ≠ s.cfg.com.beaconFold) ∧ (∀ k ∈ s.com.reqFolds, s.clk.absFold.toNat < k) ∧
    (∀ o ∈ s.com.owed, s.clk.absFold.toNat < o.dueFold)

/-- Slot 7 finds one received frame. -/
abbrev frameMet (s : State) (t : Nat) (x : Inbound) : Prop := s.slotDue 7 t = true ∧ s.macRuns = true ∧ s.com.inbox = [x] ∧ macQuiet s t

/-- A frame of a TYPE and of this network, with the tag that the key gives. -/
abbrev frameTagged (s : State) (b : List Byte) (kind : Nat) : Prop :=
  fld b 0 1 = 16 * kind + 1 ∧ fld b 2 2 = s.cfg.com.netId ∧ frameMin kind ≤ b.length ∧
    ∃ k, s.com.key = some k ∧ (cmac k (b.take (b.length - 4))).take 4 = b.drop (b.length - 4)

/-- Slot 7 finds a frame of a TYPE that the first four checks pass. -/
abbrev frameTaken (s : State) (t : Nat) (x : Inbound) (kind : Nat) (secs : Option Nat) : Prop :=
  frameMet s t x ∧ frameTagged s x.frame.psdu kind ∧ s.com.fresh (fld x.frame.psdu 4 4) (fld x.frame.psdu 8 2) secs = true

/-! ### Commands by what they may do -/

/-- The commands that reset the device (18 R408, R410, R413, R415), or may: a hot-set save whose end lets a pin reset act (18 R416). -/
def mayReset : Instr → Bool
  | .powerOnReset | .pinReset _ | .watchdogExpiry | .softResetExecution _ | .hotsetSaveEnd _ _ => true
  | _ => false

end Sys2Proof.Machine
end

