-- ==== Sys2Proof/Certificates/Slice0/Obligations.lean ====
section
/-! DEFINITION. The statements for the provers. They follow the rules of spec/; where one rests on a choice of the model its docstring names the log entry. -/

section
open Sys2Proof Sys2Proof.Machine

/-- What each of the system commands does where it is interpreted at once and its checks hold: NOP, AUDIT, OUTPUTS_RELEASE, POWER_STATE, SOFT_RESET
and RESET_INFO (12 R282, R283; 13 R303). -/
def Obligations.SystemCommandsAnswered : Prop :=
  ∀ (q : Call) (s : State),
    (Prompt 1 q s → NopTerms q s →
      exec (.nop q) s = .next (s.answered q (answers 0x0001 q (.bytes q.params)))) ∧
    (Prompt 2 q s → AuditTerms q s →
      exec (.audit q) s = .next (s.answered q (answers 0x0002 q (.bytes s.auditBytes)))) ∧
    (Prompt 1 q s → OutputsReleaseTerms q s →
      exec (.outputsRelease q) s = .next (s.answered q (changes 0x0003 q (.bytes [])))) ∧
    (Prompt 1 q s → PowerStateTerms q s →
      exec (.powerState q) s = .next (s.answered q (changes 0x0004 q (.bytes [])))) ∧
    (Prompt 1 q s → SoftResetTerms q s →
      exec (.softReset q) s = .next (s.answered q (changes 0x0005 q (.bytes [])))) ∧
    (Prompt 1 q s → ResetInfoTerms q s →
      exec (.resetInfo q) s = .next (s.answered q (answers 0x0006 q (.read 0x0006 []))))

/-- What each of the reference and selector commands does where it is interpreted at once and its checks hold: the REF_INPUT, REF_MON and REF_RANK
groups with their reads, REF_STATUS, TDC_ARM, TDC_RESULT, FORCE and SEL_STATUS (12 R282, R283; 13 R303). -/
def Obligations.ReferenceCommandsAnswered : Prop :=
  ∀ (q : Call) (s : State),
    (Prompt 1 q s → RefInputTerms q s →
      exec (.refInput q) s = .next (s.answered q (changes 0x1010 q (.read 0x1011 (q.params.take 1))))) ∧
    (Prompt 1 q s → RefInputGroupReadTerms q s →
      exec (.refInputGroupRead q) s = .next (s.answered q (answers 0x1011 q (.read 0x1011 q.params)))) ∧
    (Prompt 1 q s → RefMonTerms q s →
      exec (.refMon q) s = .next (s.answered q (changes 0x1012 q (.read 0x1013 (q.params.take 1))))) ∧
    (Prompt 1 q s → RefMonGroupReadTerms q s →
      exec (.refMonGroupRead q) s = .next (s.answered q (answers 0x1013 q (.read 0x1013 q.params)))) ∧
    (Prompt 1 q s → RefRankTerms q s →
      exec (.refRank q) s = .next (s.answered q (changes 0x1014 q (.read 0x1015 (q.params.take 1))))) ∧
    (Prompt 1 q s → RefRankGroupReadTerms q s →
      exec (.refRankGroupRead q) s = .next (s.answered q (answers 0x1015 q (.read 0x1015 q.params)))) ∧
    (Prompt 1 q s → RefStatusTerms q s →
      exec (.refStatus q) s = .next (s.answered q (answers 0x1020 q (.read 0x1020 [])))) ∧
    (Prompt 1 q s → TdcArmTerms q s →
      exec (.tdcArm q) s = .next (s.answered q (changes 0x1030 q (.bytes [])))) ∧
    (Prompt 1 q s → TdcResultTerms q s →
      exec (.tdcResult q) s = .next (s.answered q (answers 0x1032 q (.read 0x1032 (le 1 q.pen.val)))))

/-- What each of the loop, stile and model commands does where it is interpreted at once and its checks hold: LOOP, STILE and their group reads,
LOOP_STATUS, HOLD, NEW_OSC, MODEL_READ and MODEL_WRITE (12 R282, R283; 13 R303). -/
def Obligations.LoopCommandsAnswered : Prop :=
  ∀ (q : Call) (s : State),
    (Prompt 1 q s → ForceTerms q s →
      exec (.force q) s = .next (s.answered q (changes 0x2010 q (.bytes [])))) ∧
    (Prompt 1 q s → SelStatusTerms q s →
      exec (.selStatus q) s = .next (s.answered q (answers 0x2012 q (.read 0x2012 [])))) ∧
    (Prompt 1 q s → LoopTerms q s →
      exec (.loop q) s = .next (s.answered q (changes 0x2020 q (.read 0x2021 [])))) ∧
    (Prompt 1 q s → LoopGroupReadTerms q s →
      exec (.loopGroupRead q) s = .next (s.answered q (answers 0x2021 q (.read 0x2021 [])))) ∧
    (Prompt 1 q s → StileTerms q s →
      exec (.stile q) s = .next (s.answered q (changes 0x2022 q (.read 0x2023 [])))) ∧
    (Prompt 1 q s → StileGroupReadTerms q s →
      exec (.stileGroupRead q) s = .next (s.answered q (answers 0x2023 q (.read 0x2023 [])))) ∧
    (Prompt 1 q s → LoopStatusTerms q s →
      exec (.loopStatus q) s = .next (s.answered q (answers 0x2030 q (.read 0x2030 [])))) ∧
    (Prompt 1 q s → HoldTerms q s →
      exec (.hold q) s = .next (s.answered q (changes 0x2032 q (.bytes [])))) ∧
    (Prompt 1 q s → NewOscTerms q s →
      exec (.newOsc q) s = .next (s.answered q (changes 0x2034 q (.bytes [])))) ∧
    (Prompt 1 q s → ModelReadTerms q s →
      exec (.modelRead q) s = .next (s.answered q (answers 0x2036 q (.read 0x2036 [])))) ∧
    (Prompt 3 q s → ModelWriteTerms q s →
      exec (.modelWrite q) s = .next (s.queuedJob q 0x2038 [] { kind := .records [{ type := 0x02, payload := s.modelPayload (s.mdl.written q.params) }] }))

/-- What each of the tally and crook-load commands does where it is interpreted at once and its checks hold: STEP, TALLY_CANCEL, TALLY_READ,
OUT_DELAY, CROOK_STEP, CROOK_GATHER and CROOK_CLEAR (12 R282, R283; 13 R303). -/
def Obligations.TallyCommandsAnswered : Prop :=
  ∀ (q : Call) (s : State),
    (Prompt 1 q s → StepTerms q s →
      exec (.step q) s = .next (s.answered q { changes 0x2040 q (.bytes []) with mark := 1 })) ∧
    (Prompt 1 q s → TallyCancelTerms q s →
      exec (.tallyCancel q) s = .next (s.answered q (changes 0x2042 q (.bytes [])))) ∧
    (Prompt 2 q s → TallyReadTerms q s →
      exec (.tallyRead q) s = .next (s.answered q (answers 0x2044 q (.bytes (tallyPage (if fld q.params 0 1 = 0 then s.snap.tally.entries else s.snap.tally.ring) (fld q.params 1 1)))))) ∧
    (Prompt 1 q s → OutDelayTerms q s →
      exec (.outDelay q) s = .next (s.answered q { changes 0x3016 q (.bytes []) with mark := (outDelaySlots q s) })) ∧
    (Prompt 1 q s → CrookStepTerms q s →
      exec (.crookStep q) s = .next (s.answered q { changes 0xF010 q (.bytes []) with mark := (crookSlots q s) })) ∧
    (Prompt 1 q s → CrookGatherTerms q s →
      exec (.crookGather q) s = .next (s.answered q (changes 0xF012 q (.bytes [])))) ∧
    (Prompt 1 q s → CrookClearTerms q s →
      exec (.crookClear q) s = .next (s.answered q (changes 0xF014 q (.bytes []))))

/-- What each of the output commands does where it is interpreted at once and its checks hold: VCO, PADDOCK, OUT, MON and their group reads,
GATE_WINDOW, GATE_FLUSH and OUT_STATUS (12 R282, R283; 13 R303). -/
def Obligations.OutputCommandsAnswered : Prop :=
  ∀ (q : Call) (s : State),
    (Prompt 1 q s → VcoTerms q s →
      exec (.vco q) s = .next (s.answered q (changes 0x3010 q (.read 0x3011 [])))) ∧
    (Prompt 1 q s → VcoGroupReadTerms q s →
      exec (.vcoGroupRead q) s = .next (s.answered q (answers 0x3011 q (.read 0x3011 [])))) ∧
    (Prompt 1 q s → PaddockTerms q s →
      exec (.paddock q) s = .next (s.answered q (changes 0x3012 q (.read 0x3013 (q.params.take 1))))) ∧
    (Prompt 1 q s → PaddockGroupReadTerms q s →
      exec (.paddockGroupRead q) s = .next (s.answered q (answers 0x3013 q (.read 0x3013 q.params)))) ∧
    (Prompt 1 q s → OutTerms q s →
      exec (.out q) s = .next (s.answered q (changes 0x3014 q (.read 0x3015 (q.params.take 1))))) ∧
    (Prompt 1 q s → OutGroupReadTerms q s →
      exec (.outGroupRead q) s = .next (s.answered q (answers 0x3015 q (.read 0x3015 q.params)))) ∧
    (Prompt 1 q s → GateWindowTerms q s →
      exec (.gateWindow q) s = .next (s.answered q (changes 0x3018 q (.bytes [])))) ∧
    (Prompt 1 q s → GateFlushTerms q s →
      exec (.gateFlush q) s = .next (s.answered q (changes 0x301A q (.bytes [])))) ∧
    (Prompt 1 q s → OutStatusTerms q s →
      exec (.outStatus q) s = .next (s.answered q (answers 0x3020 q (.read 0x3020 q.params)))) ∧
    (Prompt 1 q s → MonTerms q s →
      exec (.mon q) s = .next (s.answered q (changes 0x3022 q (.read 0x3023 [])))) ∧
    (Prompt 1 q s → MonGroupReadTerms q s →
      exec (.monGroupRead q) s = .next (s.answered q (answers 0x3023 q (.read 0x3023 []))))

/-- What each of the pulse, time and shaft commands does where it is interpreted at once and its checks hold: ALIGN, GATHER, TIME, TIME_WRITE,
TIME_READ, SSCT, SSCT_LOAD, SSCT_READ, SSCT_SAVE and SSCT_STATUS with the group reads (12 R282, R283; 13 R303). -/
def Obligations.TimeCommandsAnswered : Prop :=
  ∀ (q : Call) (s : State),
    (Prompt 1 q s → AlignTerms q s →
      exec (.align q) s = .next (s.answered q (changes 0x4010 q (.read 0x4011 (q.params.take 1))))) ∧
    (Prompt 1 q s → AlignGroupReadTerms q s →
      exec (.alignGroupRead q) s = .next (s.answered q (answers 0x4011 q (.read 0x4011 q.params)))) ∧
    (Prompt 1 q s → GatherTerms q s →
      exec (.gather q) s = .next (s.answered q { changes 0x4012 q (.bytes []) with mark := (flockOuts (BitVec.ofNat 16 (fld q.params 0 2))).length })) ∧
    (Prompt 1 q s → TimeTerms q s →
      exec (.time q) s = .next (s.answered q (changes 0x4014 q (.read 0x4015 [])))) ∧
    (Prompt 1 q s → TimeGroupReadTerms q s →
      exec (.timeGroupRead q) s = .next (s.answered q (answers 0x4015 q (.read 0x4015 [])))) ∧
    (Prompt 1 q s → TimeWriteTerms q s →
      exec (.timeWrite q) s = .next (s.answered q { changes 0x4016 q (.bytes []) with mark := (timeSlots q s) })) ∧
    (Prompt 1 q s → TimeReadTerms q s →
      exec (.timeRead q) s = .next (s.answered q (answers 0x4018 q (.read 0x4018 [])))) ∧
    (Prompt 1 q s → SsctTerms q s →
      exec (.ssct q) s = .next (s.answered q (changes 0x5010 q (.read 0x5011 [])))) ∧
    (Prompt 1 q s → SsctGroupReadTerms q s →
      exec (.ssctGroupRead q) s = .next (s.answered q (answers 0x5011 q (.read 0x5011 [])))) ∧
    (Prompt 2 q s → SsctLoadTerms q s →
      exec (.ssctLoad q) s = .next (s.answered q (changes 0x5012 q (.bytes [])))) ∧
    (Prompt 2 q s → SsctReadTerms q s →
      exec (.ssctRead q) s = .next (s.answered q (answers 0x5014 q (.bytes (tens s.snap.ssct.bins ++ tens s.snap.ssct.resid))))) ∧
    (Prompt 3 q s → SsctSaveTerms q s →
      exec (.ssctSave q) s = .next (s.queuedJob q 0x5016 ((le 4 (s.store.seqFor 188).toNat)) { kind := .records s.ssctRecords })) ∧
    (Prompt 1 q s → SsctStatusTerms q s →
      exec (.ssctStatus q) s = .next (s.answered q (answers 0x5018 q (.read 0x5018 []))))

/-- What each of the radio commands does where it is interpreted at once and its checks hold: RF, CHAN_WRITE, CHAN_READ, RF_RX, RF_TX, RF_CAPTURE,
RF_CAL, RF_STATUS and RF_TONE with the group read (12 R282, R283; 13 R303). -/
def Obligations.RadioCommandsAnswered : Prop :=
  ∀ (q : Call) (s : State),
    (Prompt 1 q s → RfTerms q s →
      exec (.rf q) s = .next (s.answered q (changes 0x6010 q (.read 0x6011 [])))) ∧
    (Prompt 1 q s → RfGroupReadTerms q s →
      exec (.rfGroupRead q) s = .next (s.answered q (answers 0x6011 q (.read 0x6011 [])))) ∧
    (Prompt 1 q s → ChanWriteTerms q s →
      exec (.chanWrite q) s = .next (s.answered q (changes 0x6012 q (.read 0x6014 (q.params.take 1))))) ∧
    (Prompt 1 q s → ChanReadTerms q s →
      exec (.chanRead q) s = .next (s.answered q (answers 0x6014 q (.read 0x6014 q.params)))) ∧
    (Prompt 1 q s → RfRxTerms q s →
      exec (.rfRx q) s = .next (s.answered q (changes 0x6016 q (.bytes [])))) ∧
    (Prompt 2 q s → RfTxTerms q s →
      exec (.rfTx q) s = .next ({ s.takeCredit q with rf := { s.rf with hostTx := some { pen := q.pen, tag := q.tag, cls := q.cls, psdu := q.params } } })) ∧
    (Prompt 2 q s → RfCaptureTerms q s →
      exec (.rfCapture q) s = .next ({ s.takeCredit q with rf := { s.rf with capture := some { pen := q.pen, tag := q.tag, cls := q.cls, iq := decide (fld q.params 0 1 = 1), want := fld q.params 2 2, got := [] } } })) ∧
    (Prompt 3 q s → RfCalTerms q s →
      exec (.rfCal q) s = .next (({ s.takeCredit q with bg := s.calQueued q } : State).stage (some (accepted 0x601C q [])))) ∧
    (Prompt 1 q s → RfStatusTerms q s →
      exec (.rfStatus q) s = .next (s.answered q (answers 0x6020 q (.read 0x6020 [])))) ∧
    (Prompt 1 q s → RfToneTerms q s →
      exec (.rfTone q) s = .next (s.answered q (changes 0xD01A q (.bytes []))))

/-- What each of the commons and drove commands does where it is interpreted at once and its checks hold: COMMONS, MGMT, COMMONS_KEY, COMMONS_STATUS,
DROVE, DROVE_CMD and DROVE_STATUS with the group reads (12 R282, R283; 13 R303). -/
def Obligations.NetworkCommandsAnswered : Prop :=
  ∀ (q : Call) (s : State),
    (Prompt 1 q s → CommonsTerms q s →
      exec (.commons q) s = .next (s.answered q (changes 0x7010 q (.read 0x7011 [])))) ∧
    (Prompt 1 q s → CommonsGroupReadTerms q s →
      exec (.commonsGroupRead q) s = .next (s.answered q (answers 0x7011 q (.read 0x7011 [])))) ∧
    (Prompt 1 q s → MgmtTerms q s →
      exec (.mgmt q) s = .next (s.answered q (changes 0x7012 q (.read 0x7013 [])))) ∧
    (Prompt 1 q s → MgmtGroupReadTerms q s →
      exec (.mgmtGroupRead q) s = .next (s.answered q (answers 0x7013 q (.read 0x7013 [])))) ∧
    (Prompt 3 q s → CommonsKeyTerms q s →
      exec (.commonsKey q) s = .next (s.queuedJob q 0x7014 [] { kind := .records [{ type := 0x05, payload := le 4 0 ++ q.params }] })) ∧
    (Prompt 1 q s → CommonsStatusTerms q s →
      exec (.commonsStatus q) s = .next (s.answered q (answers 0x7016 q (.read 0x7016 [])))) ∧
    (Prompt 1 q s → DroveTerms q s →
      exec (.drove q) s = .next (s.answered q (changes 0x8010 q (.read 0x8011 [])))) ∧
    (Prompt 1 q s → DroveGroupReadTerms q s →
      exec (.droveGroupRead q) s = .next (s.answered q (answers 0x8011 q (.read 0x8011 [])))) ∧
    (Prompt 1 q s → DroveCmdTerms q s →
      exec (.droveCmd q) s = .next (s.answered q (changes 0x8012 q (.bytes [])))) ∧
    (Prompt 1 q s → DroveStatusTerms q s →
      exec (.droveStatus q) s = .next (s.answered q (answers 0x8014 q (.read 0x8014 []))))

/-- What each of the store and telemetry commands does where it is interpreted at once and its checks hold: CONFIG_SAVE, PAGE_WRITE, PAGE_ERASE,
PAGE_READ, PAGE_WEAR, PATCH_WRITE, STORE_STATUS, STORE_INJECT and TELEM_READ (12 R282, R283; 13 R303). -/
def Obligations.StoreCommandsAnswered : Prop :=
  ∀ (q : Call) (s : State),
    (Prompt 3 q s → ConfigSaveTerms q s →
      exec (.configSave q) s = .next (s.queuedJob q 0x9010 [] { kind := .records configParts, snap := some { s.cfg with autostart := decide (fld q.params 0 1 = 1) } })) ∧
    (Prompt 3 q s → PageWriteTerms q s →
      exec (.pageWrite q) s = .next (s.queuedJob q 0x9012 [] { kind := .pageWrite (fld q.params 0 1) (fld q.params 1 1) (q.params.drop 4) })) ∧
    (Prompt 3 q s → PageEraseTerms q s →
      exec (.pageErase q) s = .next (s.queuedJob q 0x9014 [] { kind := .pageErase (fld q.params 0 1) })) ∧
    (Prompt 2 q s → PageReadTerms q s →
      exec (.pageRead q) s = .next (s.answered q (answers 0x9016 q (.bytes ((List.range (fld q.params 2 2)).map fun i => flashRead s.snap.flash (16 * pageWord (fld q.params 0 1) + (fld q.params 1 1 + i) % 256)))))) ∧
    (Prompt 1 q s → StoreStatusTerms q s →
      exec (.storeStatus q) s = .next (s.answered q (answers 0x9018 q (.read 0x9018 [])))) ∧
    (Prompt 2 q s → PageWearTerms q s →
      exec (.pageWear q) s = .next (s.answered q (answers 0x901A q (.bytes (s.snap.wear.toList.flatMap fun w => le 4 w.erases.toNat ++ le 4 w.raw.toNat))))) ∧
    (Prompt 3 q s → PatchWriteTerms q s →
      exec (.patchWrite q) s = .next ((s.queuedJob q 0x901C [] { kind := .records [patchRecord q s] }).mapStore fun x => { x with patchNext := patchAfter q })) ∧
    (Prompt 1 q s → StoreInjectTerms q s →
      exec (.storeInject q) s = .next (s.answered q (changes 0xD014 q (.bytes [])))) ∧
    (Prompt 2 q s → TelemReadTerms q s →
      exec (.telemRead q) s = .next (s.answered q (telemPage q s)))

/-- What each of the event commands does where it is interpreted at once and its checks hold: EVT_CONFIG, EVT_NOTIFY, EVT_STATUS, EVT_CLEAR,
EVT_COUNTERS and EVT_QUEUE (12 R282, R283; 13 R303). -/
def Obligations.EventCommandsAnswered : Prop :=
  ∀ (q : Call) (s : State),
    (Prompt 2 q s → EvtConfigTerms q s →
      exec (.evtConfig q) s = .next (s.answered q (changes 0xA010 q (.bytes [])))) ∧
    (Prompt 1 q s → EvtNotifyTerms q s →
      exec (.evtNotify q) s = .next (s.answered q (changes 0xA012 q (.bytes [])))) ∧
    (Prompt 2 q s → EvtStatusTerms q s →
      exec (.evtStatus q) s = .next (s.answered q (answers 0xA014 q (.bytes ((List.range (evCount q)).flatMap fun k => statusByte q.pen s (evFirst q + k)))))) ∧
    (Prompt 1 q s → EvtClearTerms q s →
      exec (.evtClear q) s = .next (s.answered q (changes 0xA016 q (.bytes [])))) ∧
    (Prompt 2 q s → EvtCountersTerms q s →
      exec (.evtCounters q) s = .next (s.answered q (answers 0xA018 q (.bytes ((List.range (evCount q)).flatMap fun k => le 4 (s.snap.ev.srcs.getD (evFirst q + k) {}).count.toNat))))) ∧
    (Prompt 2 q s → EvtQueueTerms q s →
      exec (.evtQueue q) s = .next (s.answered q (queuePage q s)))

/-- What each of the pin and pen commands does where it is interpreted at once and its checks hold: PIN, PIN_LOCK, PIN_STATUS, OWNER_SET, OWNER_READ,
OWNER_LOCK, PEN_RESET, PEN_DISABLE and PEN_ENABLE with the group read (12 R282, R283; 13 R303). -/
def Obligations.PinCommandsAnswered : Prop :=
  ∀ (q : Call) (s : State),
    (Prompt 1 q s → PinTerms q s →
      exec (.pin q) s = .next (s.answered q (changes 0xB010 q (.read 0xB011 (q.params.take 1))))) ∧
    (Prompt 1 q s → PinGroupReadTerms q s →
      exec (.pinGroupRead q) s = .next (s.answered q (answers 0xB011 q (.read 0xB011 q.params)))) ∧
    (Prompt 1 q s → PinLockTerms q s →
      exec (.pinLock q) s = .next (((s.takeCredit q).updIo q.pen fun c => { c with pinStep := some (BitVec.ofNat 32 (fld q.params 4 4)) }).stage (some (answers 0xB012 q (.bytes []))))) ∧
    (Prompt 1 q s → PinLockSecondTerms q s →
      exec (.pinLock q) s = .next (s.answered q (changes 0xB012 q (.bytes [])))) ∧
    (Prompt 1 q s → PinStatusTerms q s →
      exec (.pinStatus q) s = .next (s.answered q (answers 0xB014 q (.read 0xB014 [])))) ∧
    (Prompt 1 q s → OwnerSetTerms q s →
      exec (.ownerSet q) s = .next (s.answered q (changes 0xC010 q (.bytes [])))) ∧
    (Prompt 1 q s → OwnerReadTerms q s →
      exec (.ownerRead q) s = .next (s.answered q (answers 0xC012 q (.read 0xC012 [])))) ∧
    (Prompt 1 q s → OwnerLockTerms q s →
      exec (.ownerLock q) s = .next (s.answered q (changes 0xC014 q (.bytes [])))) ∧
    (Prompt 1 q s → PenResetTerms q s →
      exec (.penReset q) s = .next (s.answered q (changes 0xC016 q (.bytes [])))) ∧
    (Prompt 1 q s → PenDisableTerms q s →
      exec (.penDisable q) s = .next (s.answered q (changes 0xC018 q (.bytes [])))) ∧
    (Prompt 1 q s → PenEnableTerms q s →
      exec (.penEnable q) s = .next (s.answered q (changes 0xC01A q (.bytes []))))

/-- What each of the test commands does where it is interpreted at once and its checks hold: INJECT, REF_KILL, SLOT_OVERRUN, DRV_TEST and TEST_STATUS
(12 R282, R283; 13 R303). -/
def Obligations.TestCommandsAnswered : Prop :=
  ∀ (q : Call) (s : State),
    (Prompt 1 q s → InjectTerms q s →
      exec (.inject q) s = .next (s.answered q (changes 0xD010 q (.bytes [])))) ∧
    (Prompt 1 q s → RefKillTerms q s →
      exec (.refKill q) s = .next (s.answered q (changes 0xD012 q (.bytes [])))) ∧
    (Prompt 1 q s → SlotOverrunTerms q s →
      exec (.slotOverrun q) s = .next (s.answered q (changes 0xD016 q (.bytes [])))) ∧
    (Prompt 1 q s → DrvTestTerms q s →
      exec (.drvTest q) s = .next (s.answered q (changes 0xD018 q (.bytes [])))) ∧
    (Prompt 1 q s → TestStatusTerms q s →
      exec (.testStatus q) s = .next (s.answered q (answers 0xD01C q (.read 0xD01C []))))

/-- Taking the command at the front of the queue is running it with the rest of the queue; on an empty queue the block idles (log 25). -/
def Obligations.StepRunsTheFrontCommand : Prop :=
  (∀ (c : Instr) (r : List Instr) (s : State), s.pending = c :: r → step s = exec c { s with pending := r }) ∧
  (∀ s : State, s.pending = [] → step s = .next s) ∧
  (∀ (nbits w : Nat) (s : State), decodeTableWord nbits w = none ∧ s.withFetchWord nbits w = s)

/-- The interfaces are closed in reset, before the snapshot and asleep: a transaction, the packet of any opcode, or a crook pin's edge does nothing then, but for
the NACK of the device's own I2C address (12 R268; 18 R418, R425). -/
def Obligations.ClosedInterfacesIgnoreTheHost : Prop :=
  ∀ (s : State) (t : Nat), s.ifaceOpen = false →
    (∀ bs, exec (.writeCommandPacket bs t) s = .next (s.setNow t)) ∧
    (∀ sel w, exec (.readReply sel w t) s = .next (s.setNow t)) ∧
    (∀ bs, exec (.badInstructionTransaction (.spi bs) t) s = .next (s.setNow t)) ∧
    (∀ (a : BitVec 7) sent n, exec (.badInstructionTransaction (.i2c a sent n) t) s = .next (if a.toNat = s.i2cAddress
      then { s with clk := { s.clk with now := t }, host := { s.host with nack := true } } else s.setNow t)) ∧
    (∀ off d, exec (.gpioSet off d t) s = .next (s.setNow t) ∧ exec (.gpioClr off d t) s = .next (s.setNow t) ∧
      exec (.gpioTgl off d t) s = .next (s.setNow t)) ∧
    (∀ a d, exec (.directRegisterWrite a d t) s = .next (s.setNow t)) ∧
    (∀ src, exec (.stepFlock src t) s = .next (s.setNow t) ∧ exec (.gateOn src t) s = .next (s.setNow t) ∧
      exec (.gateOff src t) s = .next (s.setNow t) ∧ exec (.freeze src t) s = .next (s.setNow t) ∧ exec (.gatherNow src t) s = .next (s.setNow t)) ∧
    (∀ (c : Instr) (op : BitVec 16) (cls : BitVec 2) (q : Call), commandOf c = some (op, cls, q) → exec c s = .next s)

/-- A packet whose bytes, length and CRC are right joins its pen's queue with a credit taken; a wrong length or CRC, a pen that is not served and a
lack of credit are rejected; a reply is driven and, once read whole, frees its credit; a bad instruction byte is counted, a valid one is none, and
a direct-register read, which the table gives no row of its own, drives the window's bytes; over I2C other pointers are NACKed, and a read without one or with
that of a write gives zeros (12 R265–R268, R278, R282, R285). -/
def Obligations.HostTransactionsServed : Prop :=
  ∀ (s : State) (t : Nat), s.ifaceOpen = true →
    let away (op : BitVec 16) (q : Call) (st : BitVec 16) (s' : State) : Prop :=
      exec (.writeCommandPacket (packetBytes op q) t) s = .next s' ∧ s'.host.staged = s.host.staged ∧ s'.cfg = s.cfg ∧
        s'.host.rejectLost = (if s.host.reject = none then s.host.rejectLost else s.host.rejectLost + 1) ∧ (s'.io q.pen).queue = (s.io q.pen).queue ∧
        (s'.io q.pen).free = (s.io q.pen).free ∧ (s'.io q.pen).accepted = (s.io q.pen).accepted ∧
        ∃ r, s'.host.reject = some r ∧ r.status = st ∧ r.opcode = op ∧ r.tag = q.tag ∧ r.pen = q.pen ∧ r.cls = q.cls
    (∀ (op : BitVec 16) (q : Call), q.params.length ≤ 1024 →
      (q.pen = 3 → s.cfg.com.mgmtEn = true → ∃ s', away op q St.denied s' ∧ s'.host.pens = s.host.pens) ∧
      (¬(q.pen = 3 ∧ s.cfg.com.mgmtEn = true) → (s.penSt q.pen).state = .disabled → ∃ s', away op q St.denied s' ∧ s'.host.pens = s.host.pens) ∧
      (¬(q.pen = 3 ∧ s.cfg.com.mgmtEn = true) → (s.penSt q.pen).state = .resetting → ∃ s', away op q St.abandoned s' ∧ s'.host.pens = s.host.pens) ∧
      (¬(q.pen = 3 ∧ s.cfg.com.mgmtEn = true) → (s.penSt q.pen).state = .active → (s.io q.pen).free = 0 →
        ∃ s', away op q St.noCredit s' ∧ (s'.io q.pen).noCredit = (s.io q.pen).noCredit + 1)) ∧
    (∀ (op : BitVec 16) (q : Call), q.params.length ≤ 1024 → ¬(q.pen = 3 ∧ s.cfg.com.mgmtEn = true) → (s.penSt q.pen).state = .active →
      0 < (s.io q.pen).free →
      exec (.writeCommandPacket (packetBytes op q) t) s = .next (enqueue { opcode := op, call := q } (s.setNow t))) ∧
    (∀ bs : List Byte, bs.length ≠ 10 + fld bs 4 2 ∨ 1024 < fld bs 4 2 →
      exec (.writeCommandPacket bs t) s = .next (reject (parsePacket bs) St.badLength (s.setNow t))) ∧
    (∀ bs : List Byte, bs.length = 10 + fld bs 4 2 → fld bs 4 2 ≤ 1024 → crc16 (bs.take (bs.length - 2)) ≠ fld bs (bs.length - 2) 2 →
      exec (.writeCommandPacket bs t) s = .next (reject (parsePacket bs) St.badCrc (s.setNow t))) ∧
    (∀ (p : Pen) (r : Reply) (whole : Bool), (s.io p).oldest = some r →
      ∃ s', exec (.readReply (BitVec.ofNat 8 p.val) whole t) s = .next s' ∧ s'.host.out = r.bytes false ∧
        s'.io p = (if whole then (s.io p).take r else s.io p) ∧
        s' = { s with clk := { s.clk with now := t }, host := { s.host with out := s'.host.out, pens := s'.host.pens } }) ∧
    (∀ (i : Byte) (rest : List Byte), (i = 0 ∨ 5 < i.toNat ∨ i = 5 ∧ rest.length ≠ 12) →
      exec (.badInstructionTransaction (.spi (i :: rest)) t) s
        = .next { s with clk := { s.clk with now := t }, host := { s.host with badInstr := s.host.badInstr + 1 } }) ∧
    (∀ (a : Byte) (ds : List Byte),
      exec (.badInstructionTransaction (.spi (3 :: a :: ds)) t) s
        = .next { s with clk := { s.clk with now := t }, host := { s.host with out := (s.setNow t).windowRead a.toNat ds.length } }) ∧
    (∀ (i : Byte) (rest : List Byte), i = 1 ∨ i = 2 ∨ i = 4 ∨ (i = 5 ∧ rest.length = 12) →
      exec (.badInstructionTransaction (.spi (i :: rest)) t) s = .next (s.setNow t)) ∧
    (∀ (a : BitVec 7) (sent : List Byte) (n : Nat), a.toNat ≠ s.i2cAddress → exec (.badInstructionTransaction (.i2c a sent n) t) s = .next (s.setNow t)) ∧
    (∀ (a : BitVec 7) (n : Nat), a.toNat = s.i2cAddress →
      let bus (h : HostIo) : State := { s with clk := { s.clk with now := t }, host := h }
      (∀ (i : Byte) (rest : List Byte), i = 0 ∨ 4 < i.toNat →
        exec (.badInstructionTransaction (.i2c a (i :: rest) n) t) s = .next (bus { s.host with nack := true })) ∧
      (∀ (x : Byte) (rest : List Byte),
        exec (.badInstructionTransaction (.i2c a (3 :: x :: rest) n) t) s
          = .next (bus { s.host with nack := false, out := (s.setNow t).windowRead x.toNat n })) ∧
      (∀ sent : List Byte, sent = [] ∨ (0 < n ∧ ∃ rest, sent = 1 :: rest ∨ sent = 4 :: rest) →
        exec (.badInstructionTransaction (.i2c a sent n) t) s = .next (bus { s.host with nack := false, out := List.replicate n 0 })))

/-- A whole write to GPIO_SET, GPIO_CLR or GPIO_TGL sets, clears or toggles the output latches that its bits name, and no other state where no patch is loaded;
a loaded patch's own write through the private port comes after it, with a mask and values that the model leaves free (17 R400, R401; log 68). -/
def Obligations.GpioRegistersActOnLatches : Prop :=
  ∀ (s : State) (t : Nat) (b0 b1 b2 b3 : Byte), s.ifaceOpen = true →
    let v := ofLe [b0, b1, b2, b3]
    let acted (f : PinSt → PinSt) (n : Nat) : PinSt := if v.testBit n then f (s.pin n) else s.pin n
    let only (f : PinSt → PinSt) (s' : State) : Prop :=
      (s.host.patchLoaded = none → s' = { s with clk := { s.clk with now := t }, pins := s'.pins } ∧ ∀ n < 24, s'.pin n = acted f n) ∧
      (s.host.patchLoaded ≠ none → s' = { s with clk := { s.clk with now := t }, pins := s'.pins, freeN := s.freeN + 1 } ∧
        ∃ mask value : BitVec 24, ∀ n < 24, s'.pin n = if mask.getLsbD n then { acted f n with latch := value.getLsbD n } else acted f n)
    (∃ s', exec (.gpioSet 0 [b0, b1, b2, b3] t) s = .next s' ∧ only (fun p => { p with latch := true }) s') ∧
    (∃ s', exec (.gpioClr 0 [b0, b1, b2, b3] t) s = .next s' ∧ only (fun p => { p with latch := false }) s') ∧
    (∃ s', exec (.gpioTgl 0 [b0, b1, b2, b3] t) s = .next s' ∧ only (fun p => { p with latch := !p.latch }) s') ∧
    (∃ s', exec (.directRegisterWrite 0x14 [b0, b1, b2, b3] t) s = .next s' ∧ only (fun p => { p with latch := true }) s') ∧
    (∀ (a : Byte) (d : List Byte), a.toNat + d.length ≤ 0x14 ∨ (0x20 ≤ a.toNat ∧ a.toNat + d.length ≤ 256) →
      exec (.directRegisterWrite a d t) s = .next (s.setNow t))

/-- A crook action that no cause refuses is taken by the output logic within 160 ns of its decode: LAST names it, REFUSED is 0, CROOK_FIRED is raised at that
instant, and it has its effect: the loaded step is APPLYING and moves its outputs at their edges to come, gates open and close, the DPLL is held with HELD to
follow at the boundary, the loaded gather plans its starts and stays loaded (14 R346, R348; 05 R124; 06 R138, R147, R148; 04 R82; 07 R165). The flock of a gate
action and the pen come from the frame or the pin (14 R345); a pin asks only while pins have their functions (17 R405). The latency is free within its bound
(14 R349; log 103), and a fired step keeps its CROOK bit (log 101). -/
def Obligations.CrookActionsFire : Prop :=
  ∀ (s : State) (t : Nat) (src : CrookSrc) (c : CrookCmd), t < foldFs → s.ifaceOpen = true → (∀ b, src = .frame b → b.length = 12) →
    (∀ n l, src = .pin n l → s.pinsRun = true) →
    let s0 := s.setNow t
    let d := s0.crookDelay
    let u := s0.instant + d
    let fired (code : Nat) (s' : State) : Prop :=
      s'.clk = s0.clk ∧ s'.freeN = s.freeN + 1 ∧ (s'.crook.getD c.pen {}).refused = false ∧ (s'.crook.getD c.pen {}).last = code ∧
        (s'.crook.getD c.pen {}).busyTo = u ∧ (∀ n l, src = .pin n l → (s'.pin n).pad = l) ∧
        (let o : Occ := { id := Ev.crookFired, fold := s.clk.absFold, ns := s.nsAt (t + d), detail := BitVec.ofNat 32 (crookDetail c (s0.crookFlock c) 0) }
         if (s.setNow (t + d)).crossesLate then o ∈ s'.ev.late
         else (s'.ev.srcs.getD Ev.crookFired {}).count = (s.ev.srcs.getD Ev.crookFired {}).count + 1 ∧
           ((s.cfg.ev.getD Ev.crookFired {}).enable = true → o ∈ s'.ev.occs))
    d ≤ 160000000 ∧ t + d < foldFs ∧
    (∀ e : Entry, s0.crookCmd 1 src = some c → c.code = 1 → s0.crookCause c = 0 → s.crookEntry c.pen = some e → e.src = .step →
      e.prog = (flockOuts e.flock).map (fun o => (o, 0)) →
      let x (o : Nat) : Fs :=
        if (s.out o).running then immediateMove e.amount (s.risingEdges o u (s.foldStart + foldFs)) (s.halfLow o) else e.amount
      ∃ (s' : State) (e' : Entry), exec (.stepFlock src t) s = .next s' ∧ fired 1 s' ∧ (s'.crook.getD c.pen {}).step = none ∧
        s'.tally.find e.seq = some e' ∧ e'.status = .applying ∧ e'.immediate = true ∧ e'.crook = true ∧ e'.movedTo = s.foldStart + foldFs ∧
        e'.prog = (flockOuts e.flock).map (fun o => (o, x o)) ∧
        (∀ o < 16, s'.outCfg o = if e.flock.getLsbD o then { s.outCfg o with delay := (s.outCfg o).delay + x o } else s.outCfg o) ∧ s'.outs = s.outs ∧
        s'.lp = s.lp ∧ s'.tally.nextSeq = s.tally.nextSeq) ∧
    (s0.crookCmd 2 src = some c → c.code = 2 → s0.crookCause c = 0 →
      ∃ s', exec (.gateOn src t) s = .next s' ∧ fired 2 s' ∧
        (∀ o ∈ flockOuts c.flock, (s.outCfg o).mode = 2 → (s'.out o).gate = true ∧ ((s.out o).gate = false → (s'.out o).openAt = u)) ∧
        (∀ o < 16, c.flock.getLsbD o = false ∨ (s.outCfg o).mode ≠ 2 ∨ (s.out o).gate = true → s'.out o = s.out o) ∧
        s'.tally = s.tally ∧ s'.lp = s.lp ∧ s'.cfg = s.cfg) ∧
    (s0.crookCmd 3 src = some c → c.code = 3 → s0.crookCause c = 0 →
      ∃ s', exec (.gateOff src t) s = .next s' ∧ fired 3 s' ∧ (∀ o ∈ flockOuts c.flock, (s.outCfg o).mode = 2 → (s'.out o).gate = false) ∧
        (∀ o < 16, c.flock.getLsbD o = false ∨ (s.outCfg o).mode ≠ 2 ∨ (s.out o).gate = false → s'.out o = s.out o) ∧
        s'.tally = s.tally ∧ s'.lp = s.lp ∧ s'.cfg = s.cfg) ∧
    (s0.crookCmd 4 src = some c → c.code = 4 → s0.crookCause c = 0 →
      ∃ s', exec (.freeze src t) s = .next s' ∧ fired 4 s' ∧
        (s.lp.held = false → s'.lp = { s.lp with staged := none, loop := s.lp.dcoLoop, frozen := true, nextState := none, unmeasured := none, holdCmd := some true, crookHold := true }) ∧
        (s.lp.held = true → s'.lp = { s.lp with holdCmd := some true, crookHold := true }) ∧
        s'.tally = s.tally ∧ s'.outs = s.outs ∧ s'.cfg = s.cfg ∧ (∀ g ∈ s'.host.staged, g.opcode = 0x2032 → g.commit = false)) ∧
    (∀ (f : BitVec 16) (offset : Fs), s0.crookCmd 5 src = some c → c.code = 5 → s0.crookCause c = 0 → (s.crook.getD c.pen {}).gather = some (f, offset) →
      ∃ s', exec (.gatherNow src t) s = .next s' ∧ fired 5 s' ∧ (s'.crook.getD c.pen {}).gather = some (f, offset) ∧ s'.cfg = s.cfg ∧ s'.lp = s.lp ∧
        s'.tally.entries = s.tally.entries ∧
        ((s.gatherable f).length ≤ s.slotsLeft →
          ∃ es : List Entry, s'.tally.crookNew = s.tally.crookNew ++ es ∧ es.map (·.flock) = (s.gatherable f).map (fun o => BitVec.ofNat 16 (2 ^ o)) ∧
            (∀ e ∈ es, e.src = .gather ∧ e.status = .applying ∧ e.pen = c.pen ∧ e.target = some (u + offset.toNat)) ∧
            (∀ o ∈ s.gatherable f, ∃ k, { (s.settle o u).planGather o (u + offset.toNat) u 0 with crook := some k } ∈ (s'.out o).plans)) ∧
        (s.slotsLeft < (s.gatherable f).length → s'.tally = s.tally ∧ s'.outs = s.outs))

/-- When the hardware refuses a crook action, with which cause, and that the action then has no effect but REFUSED, LAST and CROOK_REFUSED; a frame of
another length is counted and is no refusal, and a pin asks nothing while pins do not have their functions, nor at the edge that its EDGE bit does not name (14 R345, R347,
R348; 17 R391, R405). -/
def Obligations.CrookActionsRefused : Prop :=
  ∀ (s : State) (t : Nat), s.ifaceOpen = true →
    let s0 := s.setNow t
    let seen (src : CrookSrc) : State := match src with
      | .frame _ => s0
      | .pin n l => s0.updPin n fun p => { p with pad := l }
    (∀ (src : CrookSrc) (c : CrookCmd), (∀ b, src = .frame b → b.length = 12) → (∀ n l, src = .pin n l → s.pinsRun = true) → s0.crookCause c ≠ 0 →
      let f := if s0.crookCause c = 1 ∨ s0.crookCause c = 2 then c.flock else s0.crookFlock c
      let r := ((seen src).updCrook c.pen fun k => { k with refused := true, last := if 1 ≤ c.code ∧ c.code ≤ 5 then c.code else k.last }).raiseFrom
        Ev.crookRefused (crookDetail c f (s0.crookCause c))
      (s0.crookCmd 1 src = some c → exec (.stepFlock src t) s = .next r) ∧ (s0.crookCmd 2 src = some c → exec (.gateOn src t) s = .next r) ∧
      (s0.crookCmd 3 src = some c → exec (.gateOff src t) s = .next r) ∧ (s0.crookCmd 4 src = some c → exec (.freeze src t) s = .next r) ∧
      (s0.crookCmd 5 src = some c → exec (.gatherNow src t) s = .next r)) ∧
    (∀ b : List Byte, b.length ≠ 12 →
      let r := { s0 with host := { s0.host with badInstr := s0.host.badInstr + 1 } }
      exec (.stepFlock (.frame b) t) s = .next r ∧ exec (.gateOn (.frame b) t) s = .next r ∧ exec (.gateOff (.frame b) t) s = .next r ∧
      exec (.freeze (.frame b) t) s = .next r ∧ exec (.gatherNow (.frame b) t) s = .next r) ∧
    (∀ (n : Fin 24) (l : Bool), s.pinsRun = false →
      exec (.stepFlock (.pin n l) t) s = .next s0 ∧ exec (.gateOn (.pin n l) t) s = .next s0 ∧ exec (.gateOff (.pin n l) t) s = .next s0 ∧
      exec (.freeze (.pin n l) t) s = .next s0 ∧ exec (.gatherNow (.pin n l) t) s = .next s0) ∧
    (∀ src : CrookSrc, (∀ b, src = .frame b → b.length = 12) → (∀ n l, src = .pin n l → s.pinsRun = true) →
      (s0.crookCmd 1 src = none → exec (.stepFlock src t) s = .next (seen src)) ∧ (s0.crookCmd 2 src = none → exec (.gateOn src t) s = .next (seen src)) ∧
      (s0.crookCmd 3 src = none → exec (.gateOff src t) s = .next (seen src)) ∧ (s0.crookCmd 4 src = none → exec (.freeze src t) s = .next (seen src)) ∧
      (s0.crookCmd 5 src = none → exec (.gatherNow src t) s = .next (seen src))) ∧
    (∀ (n : Fin 24) (l : Bool) (code : Nat), let p := s.pinCfg n
      (s0.crookCmd code (.pin n l)).isSome = true ↔ p.func = 3 ∧ p.sub.toNat % 16 = code ∧ p.sub.getLsbD 4 ≠ l) ∧
    (∀ b : List Byte, b.length = 12 →
      let c := decodeCrook b
      let reserved : Prop := fld b 0 1 / 16 % 4 ≠ 0 ∨ fld b 1 1 ≠ 0 ∨ fld b 4 6 ≠ 0 ∨ c.code = 0 ∨ 5 < c.code ∨ (fld b 2 2 ≠ 0 ∧ c.code ≠ 2 ∧ c.code ≠ 3)
      (s0.crookCause c = 1 ↔ crc16 (b.take 10) ≠ fld b 10 2) ∧
      (s0.crookCause c = 2 ↔ crc16 (b.take 10) = fld b 10 2 ∧ reserved) ∧
      (c.fault = 0 ↔ crc16 (b.take 10) = fld b 10 2 ∧ ¬reserved)) ∧
    (∀ (n : Fin 24) (l : Bool) (code : Nat) (c : CrookCmd), s0.crookCmd code (.pin n l) = some c →
      c.fault = 0 ∧ c.pin = true ∧ c.code = code ∧ c.pen = Fin.ofNat 4 ((s.pinCfg n).sub.toNat / 32)) ∧
    (∀ c : CrookCmd, c.fault = 0 →
      ((s0.penSt c.pen).state ≠ .active → s0.crookCause c = 3) ∧
      ((s0.penSt c.pen).state = .active →
        (s0.instant < (s0.crook.getD c.pen {}).busyTo → s0.crookCause c = 4) ∧
        ((s0.crook.getD c.pen {}).busyTo ≤ s0.instant →
          (c.code = 1 → (s0.crookCause c = 5 ↔ s0.crookEntry c.pen = none)) ∧
          (c.code = 5 → (s0.crookCause c = 5 ↔ (s0.crook.getD c.pen {}).gather = none)) ∧
          (c.code = 2 ∨ c.code = 3 → c.pin = false → (s0.crookCause c = 6 ↔ ∃ o ∈ flockOuts c.flock, s0.owner o ≠ c.pen)) ∧
          (c.code = 2 ∨ c.code = 3 → c.pin = true → (s0.crookCause c = 6 ↔ c.flock = 0)) ∧
          (c.code = 4 → (s0.crookCause c = 7 ↔ c.pen ≠ 0)))))

/-- A boundary of the running schedule advances the fold by one, takes every staged command, and latches the copies that later reads take, which show the
events that have crossed; one that commits no setting leaves the shadow alone (01 R15, R21, R31; 13 R305; 16 R377). While NPFAIL suspends the schedule, or the
firmware starts up, a boundary commits nothing: the word in force acts for another fold, and the fold marker is captured (01 R12, R25, R32; 02 R57; 18 R416, R417);
that what is staged is kept is the model's choice (log 93). -/
def Obligations.BoundaryTakesEffect : Prop :=
  ∀ (s : State) (m : BoundaryIn), s.pow.held = false → s.pow.state ≠ .sleep →
    let runs : Prop := (s.pow.suspended = false ∨ (s.pow.resume = true ∧ s.pow.npfail = false)) ∧ (s.pow.booting = true → s.pow.bootIn = 0)
    (runs →
      ∃ s', exec (.foldBoundary m) s = .next s' ∧ s'.clk.absFold = s.clk.absFold + 1 ∧ s'.host.staged = [] ∧ s'.snap.tally = s'.tally ∧
        s'.snap.pens = s'.pens ∧ s'.snap.ssct = s'.ssct ∧ s'.snap.bg = s'.bg ∧ s'.snap.flash = s'.store.flash ∧ s'.store.flash = s.store.flash ∧
        s'.ev.late = [] ∧ (s'.snap.ev.late = [] → s'.ev = s'.snap.ev) ∧ (s.host.staged = [] → s.bg.restore = [] → s'.shadow = s.shadow)) ∧
    (¬runs →
      ∃ s', exec (.foldBoundary m) s = .next s' ∧ s'.clk.absFold = s.clk.absFold + 1 ∧ s'.clk.now = 0 ∧ s'.host = s.host ∧ s'.cfg = s.cfg ∧ s'.sel = s.sel ∧
        s'.ev.late = [] ∧ (s.ev.late = [] → s'.ev = s.ev) ∧ s'.snap = s.snap ∧ s'.shadow = s.shadow ∧ s'.lp.staged = s.lp.staged ∧ s'.lp.dco = s.lp.dco ∧
        s'.lp.state = s.lp.state ∧ s'.lp.held = s.lp.held ∧ s'.lp.wordSum = s.lp.wordSum + s.lp.dco ∧ s'.ssct.net = s.ssct.net + s.lp.dcoSsct.tdiv 8000 ∧
        s'.tdc = s.tdc.map (tdcMeet 7 (tdcCode s'.foldStart)) ∧ s'.tally.nextSeq = s.tally.nextSeq ∧ (s.lp.dcoSeq = none → s'.tally = s.tally))

/-- Each cause of a full restart holds the device in reset with its state cleared; a pin reset waits for the end of a hot-set save, a soft reset for its outputs and
for a save that runs, a low pulse under 100 ns is none, and a bank erase that a reset cuts has erased pages from its page 0 on (01 R32; 15 R359; 18 R410–R416). -/
def Obligations.ResetsHoldTheDevice : Prop :=
  ∀ s : State,
    (∃ s', exec .powerOnReset s = .next s' ∧ heldInReset 0 s s') ∧
    (∀ ns, 1000 ≤ ns → s.store.saving = none → ∃ s', exec (.pinReset ns) s = .next s' ∧ heldInReset 1 s s') ∧
    (∀ ns, 1000 ≤ ns → s.store.saving ≠ none → exec (.pinReset ns) s = .next { s with pow := { s.pow with pinWait := true } }) ∧
    (∀ ns, ns < 100 → exec (.pinReset ns) s = .next s) ∧
    (s.pow.held = false → s.pow.npfail = false → s.pow.state ≠ .sleep → 62 ≤ s.pow.wdMissed →
      ∃ s', exec .watchdogExpiry s = .next s' ∧ heldInReset 2 s s') ∧
    (s.pow.npfail = true ∨ s.pow.state = .sleep → exec .watchdogExpiry s = .next s) ∧
    (∀ c t : Nat, s.pow.softReset = some c → s.store.saving = none → (s.setNow t).allLow = true ∨ c + secondFs ≤ (s.setNow t).instant →
      ∃ s', exec (.softResetExecution t) s = .next s' ∧ heldInReset 3 s s') ∧
    (∀ c t : Nat, s.pow.softReset = some c → s.store.saving ≠ none ∨ ((s.setNow t).allLow = false ∧ (s.setNow t).instant < c + secondFs) →
      exec (.softResetExecution t) s = .next (s.setNow t)) ∧
    (∀ t : Nat, s.pow.softReset = none → exec (.softResetExecution t) s = .next (s.setNow t)) ∧
    (∀ t : Nat, (s.setNow t).allLow = true ↔ ∀ o < 16, (s.out o).running = false ∧ (s.out o).lowAt ≤ (s.setNow t).instant)

/-- Reset is released into a device whose interfaces are still closed, in FREERUN at fold 0; the straps are sampled after a power-on or pin reset only
(18 R410, R417, R418, R420). How many boundaries the firmware's steps take is free, up to 64 (log 97); with NPFAIL low they commit nothing until it rises (log 96). -/
def Obligations.ResetReleaseStartsTheDevice : Prop :=
  ∀ (s : State) (a b : Bool),
    (s.pow.held = false → exec (.resetRelease a b) s = .next s) ∧
    (s.pow.held = true → ∃ s', exec (.resetRelease a b) s = .next s' ∧ s'.pow.held = false ∧ s'.ifaceOpen = false ∧ s'.pow.booting = true ∧
      s'.pow.bootIn ≤ 64 ∧ s'.pow.suspended = s.pow.npfail ∧ s'.pow.npfail = s.pow.npfail ∧
      s'.clk = s.clk ∧ s'.tally = s.tally ∧ s'.outs = s.outs ∧ s'.pens = s.pens ∧ s'.pins = s.pins ∧ s'.lp.state = s.lp.state ∧ s'.shadow = s'.cfg ∧
      s'.host.straps = (if s.pow.cause ≤ 1 then BitVec.ofNat 2 (b2n a + 2 * b2n b) else s.host.straps))

/-- NPFAIL, the hot-set save, SLEEP and the wake as events (01 R32; 04 R102; 15 R367; 18 R416, R424–R427). That a DPLL which HELD keeps stays in HOLDOVER is the
model's inference (log 96), and that a staged pass is kept its choice (log 93). -/
def Obligations.PowerEventsActOnTheSchedule : Prop :=
  ∀ (s : State) (t : Nat),
    (s.pow.held = false → s.pow.state ≠ .sleep → s.store.saving = none → s.pow.idle = false →
      ∃ s', exec (.npfailFall t) s = .next s' ∧ s'.pow.npfail = true ∧ s'.schedule = false ∧ s'.store.saving ≠ none ∧ s'.outs = s.outs ∧ s'.cfg = s.cfg) ∧
    (s.pow.held = false → s.pow.state ≠ .sleep → s.store.saving ≠ none ∨ s.pow.idle = true →
      ∃ s', exec (.npfailFall t) s = .next s' ∧ s'.pow.npfail = true ∧ s'.schedule = false ∧ s'.pow.resume = false ∧ s'.store = s.store ∧ s'.outs = s.outs ∧
        s'.cfg = s.cfg) ∧
    (s.pow.held = true ∨ s.pow.state = .sleep →
      exec (.npfailFall t) s = .next { s with clk := { s.clk with now := t }, pow := { s.pow with npfail := true } }) ∧
    (exec .npfailRise s = .next { s with pow := { s.pow with npfail := false, wdMissed := 0 } }) ∧
    (∀ (img : List (List Byte)) (bad : List Nat), s.store.saving = some img → s.pow.pinWait = false →
      ∃ s', exec (.hotsetSaveEnd bad t) s = .next s' ∧ s'.store.saving = none ∧ s'.pow.resume = (if s.pow.npfail then s.pow.resume else true) ∧
        s'.pow.idle = (if s.pow.npfail then true else s.pow.idle)) ∧
    (∀ (img : List (List Byte)) (bad : List Nat), s.store.saving = some img → s.pow.pinWait = true →
      ∃ s', exec (.hotsetSaveEnd bad t) s = .next s' ∧ s'.pow.held = true) ∧
    (∀ bad, s.store.saving = none → exec (.hotsetSaveEnd bad t) s = .next (s.setNow t)) ∧
    (∀ bad : List Nat, s.pow.sleepEntry = true → s.pow.suspended = false → s.rf.state = .off → (s.setNow t).allLow = true ∨ s.pow.sleepFrom + secondFs ≤ (s.setNow t).instant →
      ∃ s', exec (.sleepEntry ⟨bad, t⟩) s = .next s' ∧ s'.pow.state = .sleep ∧ s'.ifaceOpen = false ∧ s'.schedule = false ∧ s'.pow.sleepEntry = false ∧
        s'.pow.pinsAsleep = true ∧ s'.drv.state = .off ∧ s'.lp = s.lp ∧ s'.cfg = s.cfg ∧ (∀ o < 16, (s'.out o).lowAt ≤ (s.setNow t).instant)) ∧
    (∀ bad : List Nat, s.pow.sleepEntry = false ∨ s.pow.suspended = true ∨ s.rf.state ≠ .off ∨ ((s.setNow t).allLow = false ∧ (s.setNow t).instant < s.pow.sleepFrom + secondFs) →
      exec (.sleepEntry ⟨bad, t⟩) s = .next (s.setNow t)) ∧
    (∀ ns interval, s.pow.state = .sleep → s.pow.held = false → 62000 ≤ ns →
      ∃ s', exec (.wakeRequest ns interval) s = .next s' ∧ s'.pow.state = s.pow.from_ ∧ s'.pow.suspended = true ∧ s'.pow.resume = true ∧
        s'.clk.absFold = s.clk.absFold + BitVec.ofNat 64 ((s.clk.now + interval) / foldFs) ∧ (∀ i < 8, (s'.cand i).qualified = false) ∧
        s'.pow.relock = true ∧ s'.lp.aplLock = false ∧ s'.cfg = s.cfg ∧ s'.sel.staged = s.sel.staged ∧
        (s.lp.everLocked = true ∨ s.lp.held = true → s'.lp.state = .holdover ∧ s'.lp.unc = satFs (s.lp.unc + (interval / 50 : Nat))) ∧
        (s.lp.everLocked = false → s.lp.held = false → s'.lp.state = .freerun ∧ s'.lp.unc = fsMax)) ∧
    (∀ ns interval, s.pow.state ≠ .sleep ∨ s.pow.held = true ∨ ns < 62000 → exec (.wakeRequest ns interval) s = .next s)

/-- Outputs are released where OUTPUTS_RELEASE or AUTOSTART orders it and the APLL has been locked since a boundary before (log 90), and every divider restarts
after a wake once it has relocked, with a rising edge at that boundary and its shift as a DONE entry; both at a boundary (18 R419, R427, R428). -/
def Obligations.OutputsReleaseAndRestart : Prop :=
  ∀ s : State,
    (s.atBoundary = false → exec .outputReleaseTakesEffect s = .next s ∧ exec .wakeDividerRestart s = .next s) ∧
    (s.atBoundary = true → s.rel.released = false → s.rel.ordered = true ∨ s.cfg.autostart = true → s.lockStands = true →
      ∃ s', exec .outputReleaseTakesEffect s = .next s' ∧ s'.rel.released = true ∧ s'.cfg = s.cfg ∧ s'.tally = s.tally ∧ s'.lp = s.lp) ∧
    (s.rel.released = true ∨ (s.rel.ordered = false ∧ s.cfg.autostart = false) ∨ s.lp.aplLock = false → exec .outputReleaseTakesEffect s = .next s) ∧
    (s.lockStands = true ↔ s.lp.aplLock = true ∧ ∃ k, s.lp.lockFold = some k ∧ k < s.clk.absFold.toNat) ∧
    (s.atBoundary = true → s.pow.relock = true → s.lp.aplLock = true →
      ∃ s', exec .wakeDividerRestart s = .next s' ∧ s'.pow.relock = false ∧ s'.rel.stopping = false ∧ s'.tally.entries.length = s.tally.entries.length + 16 ∧
        s'.tally.nextSeq = s.tally.nextSeq + 16 ∧
        (∀ o < 16, (s'.out o).origin = some s.foldStart ∧ (s'.out o).plans = [] ∧ (s'.out o).index = none ∧
          ((s.outCfg o).mode = 1 → (s'.out o).frame = some s.foldStart)) ∧
        (∀ o < 16, ∃ e ∈ s'.tally.entries, e.wake = true ∧ e.src = .gather ∧ e.flock = BitVec.ofNat 16 (2 ^ o) ∧ e.pen = 0 ∧ e.slot = 31 ∧
          e.seq = s.tally.nextSeq + BitVec.ofNat 32 o ∧ e.amount = satFs (flockAmount (s.wakeShift o)) ∧
          ((∀ x ∈ s.tally.entries, ∀ k < 16, x.seq ≠ s.tally.nextSeq + BitVec.ofNat 32 k) → e.status = .done ∧ e.applied = e.amount)) ∧
        s'.cfg = s.cfg) ∧
    (s.pow.relock = false ∨ s.lp.aplLock = false → exec .wakeDividerRestart s = .next s)

/-- An edge of a reference input (02 R35–R37, R39, R46, R57; 19 R435): the deglitch filter removes a narrow phase, which it counts, and the edge that ends one;
what it passes is judged as a runt by the phase that it leaves, the wider of the operand's two (log 31), restarts the activity window where it is the edge that
the select names, and every DIV-th such edge is a divided edge. A killed input stops behind the filter. What crosses too late counts in the next snapshot
(01 R31). -/
def Obligations.ReferenceEdgesAreMeasured : Prop :=
  ∀ (s : State) (i : Fin 6) (rising : Bool) (phase : EdgePhase) (t : Nat),
    let active : Bool := rising != (s.refCfg i).falling
    let narrow : Bool := decide (phase.raw < (s.refCfg i).deglitch * 10000000)
    let width : Nat := max phase.raw phase.kept
    let m (c : Cand) : Meas := if (s.setNow t).crossesLate then c.late else c.meas
    ((s.refCfg i).mode = 3 ∨ s.pow.held = true ∨ s.pow.state = .sleep → exec (.refEdge i rising phase t) s = .next (s.setNow t)) ∧
    ((s.refCfg i).mode ≠ 3 → s.pow.held = false → s.pow.state ≠ .sleep →
      (narrow = true →
        ∃ s', exec (.refEdge i rising phase t) s = .next s' ∧ (m (s'.cand i)).removed = (m (s.cand i)).removed + 1 ∧
          (s'.cand i).inGlitch = !(s.cand i).inGlitch ∧ (s'.cand i).lastEdge = (s.cand i).lastEdge ∧ (s'.cand i).divCount = (s.cand i).divCount ∧
          s' = { s with clk := { s.clk with now := t }, cands := s'.cands }) ∧
      (narrow = false → (s.cand i).inGlitch = true ∨ (s.cand i).killed = true →
        exec (.refEdge i rising phase t) s = .next ((s.setNow t).updCand i fun c => { c with inGlitch := false })) ∧
      (narrow = false → (s.cand i).inGlitch = false → (s.cand i).killed = false →
        (width < (s.refCfg i).runtMin →
          ∃ s', exec (.refEdge i rising phase t) s = .next s' ∧ (m (s'.cand i)).runts = (m (s.cand i)).runts + 1 ∧
            (m (s'.cand i)).narrowest = some (min width ((m (s.cand i)).narrowest.getD width)) ∧ (s'.cand i).divCount = (s.cand i).divCount ∧
            (s'.cand i).lastEdge = (if active then some (s.setNow t).instant else (s.cand i).lastEdge) ∧
            s' = { s with clk := { s.clk with now := t }, cands := s'.cands }) ∧
        (((s.refCfg i).runtMin ≤ (width : Int)) → active = false →
          ∃ s', exec (.refEdge i rising phase t) s = .next s' ∧ (m (s'.cand i)).runts = (m (s.cand i)).runts ∧ (s'.cand i).divCount = (s.cand i).divCount ∧
            (s'.cand i).lastEdge = (s.cand i).lastEdge ∧ s' = { s with clk := { s.clk with now := t }, cands := s'.cands }) ∧
        (((s.refCfg i).runtMin ≤ (width : Int)) → active = true → (s.cand i).divCount + 1 < (s.refCfg i).div →
          ∃ s', exec (.refEdge i rising phase t) s = .next s' ∧ (s'.cand i).divCount = (s.cand i).divCount + 1 ∧ (s'.cand i).active = true ∧
            (s'.cand i).lastEdge = some (s.setNow t).instant ∧ (m (s'.cand i)).edges = (m (s.cand i)).edges ∧ s'.tdc = s.tdc ∧
            s' = { s with clk := { s.clk with now := t }, cands := s'.cands, tod := s.tod.notePps i (s.setNow t).instant }) ∧
        (((s.refCfg i).runtMin ≤ (width : Int)) → active = true → (s.refCfg i).div ≤ (s.cand i).divCount + 1 →
          ∃ s', exec (.refEdge i rising phase t) s = .next s' ∧ (s'.cand i).divCount = 0 ∧ (s'.cand i).active = true ∧
            (s'.cand i).lastEdge = some (s.setNow t).instant ∧ (m (s'.cand i)).edges = (m (s.cand i)).edges + 1 ∧
            (m (s'.cand i)).last = some (tdcCode (s.setNow t).instant) ∧
            (m (s'.cand i)).first = some ((m (s.cand i)).first.getD (tdcCode (s.setNow t).instant)) ∧
            s'.tdc = s.tdc.map (tdcMeet i (tdcCode (s.setNow t).instant)) ∧ s'.tod.ppsEdges = (s.tod.notePps i (s.setNow t).instant).ppsEdges ∧
            s'.cfg = s.cfg ∧ s'.lp = s.lp ∧ s'.sel = s.sel)))

/-- The activity window, the precise gate, the qualification timer, the interval measurement and a drove code error (02 R39, R43, R47, R48, R59; 11 R244). REFC's
expiry is noted for the commons MAC's slot (10 R225). While the schedule rests no gate reports (01 R32). A gate without an offset, of a monitor that is off or of an inactive candidate reports nothing (log 76); the timer's expiry is judged in the
reference-monitor slot, with the fold's trips. -/
def Obligations.ReferenceMonitorsReport : Prop :=
  ∀ (s : State) (t : Nat),
    let m (c : Cand) : Meas := if (s.setNow t).crossesLate then c.late else c.meas
    (∀ i : Fin 8, s.pow.held = false → s.pow.state ≠ .sleep → (s.setNow t).windowExpired i = true →
      ∃ s', exec (.activityWindowExpiry i t) s = .next s' ∧ (s'.cand i).active = false ∧ (m (s'.cand i)).trips.getLsbD 0 = true ∧
        ((s.setNow t).crossesLate = false → (s'.ev.srcs.getD (8 * i) {}).count = (s.ev.srcs.getD (8 * i) {}).count + 1) ∧
        (i = 7 → s'.com = { s.com with lost := true }) ∧ (i ≠ 7 → s'.com = s.com) ∧
        (s.sel.bell = some i.val → s.steering = true → s'.lp.frozen = true ∧ s'.lp.staged = none ∧ s'.lp.loop = s.lp.dcoLoop)) ∧
    (∀ i : Fin 8, (s.setNow t).windowExpired i = false ∨ s.pow.held = true ∨ s.pow.state = .sleep → exec (.activityWindowExpiry i t) s = .next (s.setNow t)) ∧
    (∀ (i : Fin 8) (start : Nat) (x : Fu), (s.cand i).gateEnd = some { start := start, offset := some x } → (s.refCfg i).en.getLsbD 1 = true →
      (s.cand i).active = true → s.schedule = true →
      let y := satFu (roundStep x 10000000)
      ∃ s', exec (.preciseGateEnd i .ofState t) s = .next s' ∧ (s'.cand i).precOffset = y ∧ (s'.cand i).gateEnd = none ∧
        ((m (s'.cand i)).trips.getLsbD 2 = true ↔ (m (s.cand i)).trips.getLsbD 2 = true ∨ (s.refCfg i).precThr < y ∨ (s.refCfg i).precThr < -y) ∧
        s'.cfg = s.cfg ∧ s'.sel = s.sel ∧ s'.lp = s.lp) ∧
    (s.schedule = false → ∀ i : Fin 8, exec (.preciseGateEnd i .ofState t) s = .next (s.setNow t)) ∧
    (∀ i : Fin 8, s.schedule = true →
      ((s.cand i).gateEnd.bind fun g => g.offset) = none ∨ (s.refCfg i).en.getLsbD 1 = false ∨ (s.cand i).active = false →
      exec (.preciseGateEnd i .ofState t) s = .next ((s.setNow t).updCand i fun c => { c with gateEnd := none })) ∧
    (∀ i : Fin 8, s.slotDue 4 t = true → (s.setNow t).qualifies i = true →
      let causes := (((s.setNow t).fastMonitor i (s.setNow t).model).runtMonitor i).dqTrips i
      ∃ s', exec (.qualificationTimerExpiry i t) s = .next s' ∧ s'.cfg = s.cfg ∧ s'.sel = s.sel ∧
        (causes = 0 → (s'.cand i).qualified = true ∧ (s'.cand i).dqCause = 0) ∧
        (causes ≠ 0 → (s'.cand i).qualified = false ∧ (s'.cand i).timer = 0 ∧ (s'.cand i).dqCause = (s.cand i).dqCause ||| causes)) ∧
    (∀ i : Fin 8, s.slotDue 4 t = false ∨ (s.setNow t).qualifies i = false → exec (.qualificationTimerExpiry i t) s = .next (s.setNow t)) ∧
    (∀ p : Pen, let m := s.tdc.getD p.val {}
      m.armed = true → m.armFold + 8000 ≤ s.clk.absFold.toNat →
      ∃ s', exec (.tdcIntervalTimeout p) s = .next s' ∧ s'.tdc.getD p.val {} = { m with armed := false, done := true, timeout := true, result := 0 } ∧
        s' = { s with tdc := s'.tdc }) ∧
    (s.drv.state ≠ .off →
      ∃ s', exec (.codeError t) s = .next s' ∧ s'.drv.codeErrors = s.drv.codeErrors + 1 ∧ (m (s'.cand 6)).runts = (m (s.cand 6)).runts + 1 ∧
        s' = { s with clk := { s.clk with now := t }, drv := { s.drv with codeErrors := s.drv.codeErrors + 1 }, cands := s'.cands }) ∧
    (s.drv.state = .off → exec (.codeError t) s = .next (s.setNow t))

/-- The stages of the auto bandwidth, lock exactly where the bandwidth is narrow and LOCK_T is clean, its loss, a learning observation, all in the DPLL update
slot of a loop that nothing has frozen, and the APLL's flags (04 R76, R79, R87–R89, R97, R98; 01 R18, R26). -/
def Obligations.LoopEventsMoveTheState : Prop :=
  ∀ (s : State) (t : Nat),
    (s.schedule = false ∨ s.clk.slot ≠ 1 →
      exec .lockAchieved s = .next s ∧ exec .lossOfLock s = .next s ∧ exec .bwStageEnd s = .next s ∧ exec .learningObservation s = .next s) ∧
    (s.schedule = true → s.clk.slot = 1 →
      (s.lp.state = .acquire ∧ s.lp.frozen = false ∧ (s.cfg.lp.auto = false ∨ s.atTrack = true) ∧ s.cfg.lp.lockT * 800 ≤ s.lp.cleanFolds →
        exec .lockAchieved s = .next { s with lp := { s.lp with nextState := some .locked } }) ∧
      (s.lp.state ≠ .acquire ∨ s.lp.frozen = true ∨ (s.cfg.lp.auto = true ∧ s.atTrack = false) ∨ s.lp.cleanFolds < s.cfg.lp.lockT * 800 →
        exec .lockAchieved s = .next s) ∧
      (s.lp.state = .locked ∧ s.lp.frozen = false ∧ 64 ≤ s.lp.outside →
        exec .lossOfLock s = .next { s with lp := { s.lp with nextState := some .acquire } }) ∧
      (s.lp.state ≠ .locked ∨ s.lp.frozen = true ∨ s.lp.outside < 64 → exec .lossOfLock s = .next s) ∧
      (s.lp.stageLeft = 0 → s.cfg.lp.trackBw * 2 ^ s.lp.stageK < s.lp.stageBw → s.lp.stageBw ≤ s.cfg.lp.trackBw * 2 ^ (s.lp.stageK + 1) →
        exec .bwStageEnd s = .next { s with lp := { s.lp with
          stageBw := s.cfg.lp.trackBw, stageK := 0, stageLeft := 0, cleanFolds := if s.cfg.lp.auto then 0 else s.lp.cleanFolds } }) ∧
      (s.lp.stageLeft = 0 → s.cfg.lp.trackBw * 2 ^ (s.lp.stageK + 1) < s.lp.stageBw →
        exec .bwStageEnd s = .next { s with lp := { s.lp with
          stageK := s.lp.stageK + 1, stageLeft := stageFolds s.lp.stageBw (s.lp.stageK + 1) } }) ∧
      (s.lp.stageLeft ≠ 0 ∨ s.lp.stageBw ≤ s.cfg.lp.trackBw * 2 ^ s.lp.stageK → exec .bwStageEnd s = .next s) ∧
      (s.mdl.closed = none → exec .learningObservation s = .next s) ∧
      (∀ a b : Int, s.mdl.closed = some (a, b) →
        ∃ s', exec .learningObservation s = .next s' ∧ s'.mdl.closed = none ∧
          s'.mdl.nObs = (if s.mdl.nObs.toNat = 2 ^ 32 - 1 then s.mdl.nObs else s.mdl.nObs + 1) ∧
          s'.mdl.valid = (s.mdl.valid || decide (3600 ≤ s'.mdl.nObs.toNat)) ∧
          s'.mdl.span = widen s.mdl.span (divNear (divNear b 8000) 10000000000) ∧
          s'.mdl.residuals = ((divNear a 8000 - s'.mdl.predict (divNear b 8000)) :: s.mdl.residuals).take 3600 ∧ s' = { s with mdl := s'.mdl })) ∧
    (s.ifaceOpen = true → exec .apllLockAcquired s = .next { s with lp := { s.lp with aplLock := true, apllUnlock := false, lockBy := none } }) ∧
    (s.ifaceOpen = false → exec .apllLockAcquired s = .next s) ∧
    (s.lp.aplLock = true → ∃ s', exec (.apllLossOfLock t) s = .next s' ∧ s'.lp = { s.lp with aplLock := false, apllUnlock := true } ∧
      s'.mdl = { s.mdl with spoiled := true } ∧
      ((s.setNow t).crossesLate = false → (s'.ev.srcs.getD Ev.apllUnlock {}).count = (s.ev.srcs.getD Ev.apllUnlock {}).count + 1) ∧
      ((s.setNow t).crossesLate = true → (s'.ev.late.map (·.id)) = s.ev.late.map (·.id) ++ [Ev.apllUnlock]) ∧ s'.cfg = s.cfg ∧ s'.outs = s.outs) ∧
    (s.lp.aplLock = false → exec (.apllLossOfLock t) s = .next (s.setNow t)) ∧
    (∀ d : Nat, s.lp.lockBy = some d → s.lp.aplLock = false → d ≤ (s.setNow t).instant →
      ∃ s', exec (.apllLockTimeout t) s = .next s' ∧ s'.lp = { s.lp with apllUnlock := true, lockBy := none } ∧
        (s'.ev.srcs.getD Ev.apllUnlock {}).count = (s.ev.srcs.getD Ev.apllUnlock {}).count + 1 ∧ s'.cfg = s.cfg ∧ s'.outs = s.outs) ∧
    (s.lp.lockBy = none ∨ s.lp.aplLock = true ∨ (∃ d, s.lp.lockBy = some d ∧ (s.setNow t).instant < d) →
      exec (.apllLockTimeout t) s = .next (s.setNow t))

/-- Slots have no task while the schedule does not run: in reset, before start-up, while NPFAIL suspends it, and in SLEEP; and a slot's task runs once in a
fold, in the table's order, within the slot (01 R17, R32; 18 R417, R424). -/
def Obligations.SlotsRestWithoutTheSchedule : Prop :=
  ∀ (s : State) (t : Nat),
    (∀ n : Nat, s.slotDue n t = true ↔ s.schedule = true ∧ s.clk.slot ≤ n ∧ slotHolds n t = true) ∧
    (s.slotDue 0 t = false → ∀ a b, exec (.dpllUpdateSlot a b t) s = .next (s.setNow t)) ∧
    (s.slotDue 1 t = false → exec (.stileAndTallySlot t) s = .next (s.setNow t)) ∧
    (s.slotDue 2 t = false → exec (.shaftTableSlot t) s = .next (s.setNow t)) ∧
    (s.slotDue 3 t = false → exec (.outputSchedulerSlot t) s = .next (s.setNow t)) ∧
    (s.slotDue 4 t = false → exec (.referenceMonitorsSlot t) s = .next (s.setNow t)) ∧
    (s.slotDue 5 t = false → exec (.eventEngineSlot t) s = .next (s.setNow t)) ∧
    (s.slotDue (interpAt t) t = false → ∀ n b, exec (.commandInterpreterSlot n b t) s = .next (s.setNow t)) ∧
    (s.slotDue 7 t = false → exec (.commonsMacSlot t) s = .next (s.setNow t)) ∧
    (s.slotDue 9 t = false → exec (.droveSlot .ofState t) s = .next (s.setNow t)) ∧
    (s.slotDue 10 t = false → ∀ b, exec (.storeEngineSlot b t) s = .next (s.setNow t)) ∧
    (s.slotDue 12 t = false → ∀ a b, exec (.calibrationSlot a b t) s = .next (s.setNow t)) ∧
    (s.slotDue 13 t = false → ∀ l b, exec (.scrubSlot l b t) s = .next (s.setNow t)) ∧
    (s.slotDue 15 t = false → ∀ x, exec (.telemetrySlot x t) s = .next (s.setNow t)) ∧
    (s.slotDue 16 t = false → ∀ b, exec (.reserveSlot b t) s = .next (s.setNow t)) ∧
    (s.schedule = false →
      (∀ n h, exec (.slotEnd n h t) s = .next (s.setNow t)) ∧ exec (.secondsComparison t) s = .next (s.setNow t) ∧
      (∀ p, exec (.deferredCommandServed p t) s = .next (s.setNow t) ∧ exec (.longCommandStart p t) s = .next (s.setNow t)))

/-- Slot 0 stages the word of the next fold from the loop term, the head's payout and the SSCT term, within ±500 ppm; after a freeze in the fold it stages
none; it commits nothing itself (04 R76, R84; 01 R26). -/
def Obligations.DpllSlotStagesTheWord : Prop :=
  ∀ (s : State) (onDie : Int) (code t : Nat), s.slotDue 0 t = true →
    (s.lp.frozen = true →
      ∃ s', exec (.dpllUpdateSlot onDie code t) s = .next s' ∧ s'.lp.staged = s.lp.staged ∧ s'.lp.loop = s.lp.loop ∧ s'.lp.integ = s.lp.integ ∧
        s'.lp.onDie = onDie ∧ (∀ i < 8, (s'.cand i).newSample = false) ∧ s'.clk.slot = 1 ∧ s'.tally = s.tally ∧ s'.cfg = s.cfg ∧ s'.outs = s.outs) ∧
    (s.lp.frozen = false →
      ∃ (s' : State) (d : Dco), exec (.dpllUpdateSlot onDie code t) s = .next s' ∧ s'.lp.staged = some d ∧
        d.total = clampI (-500000000000) 500000000000
          (s'.lp.loop + (match s.tally.payingDevice with
            | some e => 8000 * clampI (-(s.cfg.stile.slew / 8000)) (s.cfg.stile.slew / 8000) e.remaining
            | none => 0) + s.lp.ssctTerm) ∧
        s'.lp.onDie = onDie ∧ (∀ i < 8, (s'.cand i).newSample = false) ∧ s'.clk.slot = 1 ∧ s'.tally = s.tally ∧ s'.cfg = s.cfg ∧ s'.outs = s.outs ∧
        s'.lp.dco = s.lp.dco) ∧
    (s.lp.frozen = false → s.lp.state = .freerun →
      ∃ s', exec (.dpllUpdateSlot onDie code t) s = .next s' ∧
        s'.lp.loop = satFu (s.lp.loop + clampI (-(s.cfg.lp.freqRate / 8000)) (s.cfg.lp.freqRate / 8000) (0 - s.lp.loop)) ∧ s'.lp.integ = s.lp.integ)

/-- Slot 1: the stile measures a committed change at the bellwether's sample and enters what it measures in slot 0, under STILE_KEEP_PHASE cancelled whole with
cause KEEP; and a grazed head pays its output, only while the staged device payout is zero (04 R102; 05 R115, R119, R120; 06 R146, R148). -/
def Obligations.StileAndTallySlotMeasuresAndPays : Prop :=
  ∀ (s : State) (t : Nat), s.slotDue 1 t = true →
    let e1 := s.enterSlot 1 t
    (s.noDevicePayout = false →
      (s.lp.unmeasured = none ∨ s.sel.bell = none → exec (.stileAndTallySlot t) s = .next e1) ∧
      (∀ (src : TallySrc) (fold : BitVec 64) (b : Nat), s.lp.unmeasured = some (src, fold) → s.sel.bell = some b →
        ((s.cand b).sample = none ∨ s.lp.frozen = true ∨ s.lp.held = true → exec (.stileAndTallySlot t) s = .next e1) ∧
        (∀ p : Nat × Fs, (s.cand b).sample = some p → p.1 < foldAt fold.toNat → exec (.stileAndTallySlot t) s = .next e1) ∧
        (∀ p : Nat × Fs, (s.cand b).sample = some p → s.lp.frozen = false → s.lp.held = false → foldAt fold.toNat ≤ p.1 →
          let a : Fs := s.modPeriod b (satFs (s.tally.steer - p.2))
          let e : Entry := { src := src, flock := 0, pen := 0, slot := 0, seq := s.tally.nextSeq, amount := a, created := s.clk.absFold }
          (∃ s', exec (.stileAndTallySlot t) s = .next s' ∧ s'.lp.unmeasured = none ∧
            s'.lp.steerFrom = max (s.setNow t).instant (foldAt (fold.toNat + 1)) ∧ s'.tally.nextSeq = s.tally.nextSeq + 1 ∧
            s'.tally.entries.length = s.tally.entries.length + 1 ∧
            s'.lp.lastEpisode = (if src = .holdoverExit && s.lp.amountDue then (s.lp.lastEpisode.1, s.lp.lastEpisode.2.1, a) else s.lp.lastEpisode) ∧
            s'.cfg = s.cfg ∧ s'.outs = s.outs) ∧
          (src ≠ .switch ∨ s.cfg.stile.keep = false →
            ∃ s', exec (.stileAndTallySlot t) s = .next s' ∧ s'.tally.entries = s.tally.entries ++ [e] ∧ s'.tally.steer = s.tally.steer ∧ s'.ev = s.ev) ∧
          (src = .switch → s.cfg.stile.keep = true → (∀ x ∈ s.tally.entries, x.seq ≠ s.tally.nextSeq) →
            ∃ s', exec (.stileAndTallySlot t) s = .next s' ∧
              s'.tally.entries = s.tally.entries ++ [{ e with status := .cancelled, cause := 4, cancelled := a }] ∧
              s'.tally.steer = satFs (s.tally.steer + a) ∧
              (s'.ev.srcs.getD Ev.tallyCancelled {}).count = (s.ev.srcs.getD Ev.tallyCancelled {}).count + 1)))) ∧
    (∀ (o : Nat) (e : Entry), o < 16 → s.lp.unmeasured = none → s.noDevicePayout = true → (∀ n < 16, n ≠ o → e1.outHead n = none) →
      e1.outHead o = some e → e.status = .applying → e.src = .step → e.immediate = false → e.crook = false → e.outApplied o ≠ e.amount →
      (∀ x ∈ s.tally.entries, x.seq = e.seq → x = e) →
      let rest : Fs := e.amount - e.outApplied o
      let m := grazedMove rest (s.out o).grazed (slewFold s.cfg.stile.slew) (e1.risingEdges o s.foldStart (s.foldStart + foldFs))
      ((s.out o).running = false → exec (.stileAndTallySlot t) s = .next (e1.moveOut e o rest)) ∧
      ((s.out o).running = true → m.1 ≠ 0 →
        exec (.stileAndTallySlot t) s = .next ((e1.updOut o fun x => { x with grazed := if m.1 = rest then 0 else m.2 }).moveOut e o m.1)) ∧
      ((s.out o).running = true → m.1 = 0 → exec (.stileAndTallySlot t) s = .next (e1.updOut o fun x => { x with grazed := m.2 }))) ∧
    (s.lp.unmeasured = none → s.noDevicePayout = true → (∀ n < 16, e1.outHead n = none) → exec (.stileAndTallySlot t) s = .next e1)

/-- Slot 2 stages the SSCT term, whose closing angle the last index edge gives and whose terms chain (log 32), bins the fold's error only where learning is on
and applied, and passes one bin of a pass; slot 3 plans the starts of the index edges of the fold before and of gathers, and moves what moves at once (01 R17;
07 R156, R157, R161; 06 R147, R148; 08 R185, R186, R188, R189). -/
def Obligations.ShaftAndSchedulerSlots : Prop :=
  ∀ (s : State) (t : Nat),
    (s.slotDue 2 t = true →
      let term : Fu := 8000 * clampI (-643125) 643125 (s.ssct.applyAt (s.foldStart + 3 * foldFs) (s.ssct.scaleAfter 3) - s.ssctOpening)
      let ok : Bool := decide (s.cfg.ssct.mode = 2) && s.ssct.learnOk
      (∃ s', exec (.shaftTableSlot t) s = .next s' ∧ s'.lp.ssctTerm = s'.nextSsctTerm ∧ s'.lp.loop = s.lp.loop ∧ s'.lp.staged = s.lp.staged ∧
        s'.cfg = s.cfg ∧ s'.tally = s.tally ∧ s'.outs = s.outs) ∧
      (s.cfg.ssct.mode = 0 ∨ s.ssct.apply ≠ .active ∨ s.lp.state ≠ .locked ∨ s.lp.held = true →
        ∃ s', exec (.shaftTableSlot t) s = .next s' ∧ s'.ssct.acc = s.ssct.acc ∧ s'.ssct.wgt = s.ssct.wgt ∧ s'.ssct.gatherOk = false) ∧
      (s.cfg.ssct.mode ≠ 2 ∨ s.ssct.pass = none → ∃ s', exec (.shaftTableSlot t) s = .next s' ∧ s'.ssct.bins = s.ssct.bins) ∧
      (s.ssct.pass = none → s.gatherError = none →
        exec (.shaftTableSlot t) s
          = .next { s.enterSlot 2 t with ssct := { s.ssct with gatherOk := false, learnOk := ok }, lp := { s.lp with ssctTerm := term } }) ∧
      (∀ e : Fs, s.ssct.pass = none → s.gatherError = some e →
        exec (.shaftTableSlot t) s
          = .next { s.enterSlot 2 t with ssct := { s.ssct.gather (s.ssct.angle s.foldStart) e with learnOk := ok }, lp := { s.lp with ssctTerm := term } }) ∧
      (∀ (p : Pass) (x : Fs), s.ssct.pass = some p → p.fold ≠ s.clk.absFold.toNat → p.bin < 255 → p.ebar.getD p.bin none = some x → s.cfg.ssct.mode = 2 →
        p.learn = true →
        ∃ s', exec (.shaftTableSlot t) s = .next s' ∧ s'.ssct.pass = some { p with bin := p.bin + 1 } ∧
          s'.ssct.bins = upd s.ssct.bins p.bin (fun _ => clampI (-200000) 200000 (s.ssct.binAt p.bin + divNear (x - p.mean) (2 ^ s.cfg.ssct.shift))) ∧
          s'.ssct.resid = upd s.ssct.resid p.bin (fun _ => x - p.mean))) ∧
    (s.slotDue 3 t = true →
      let e3 := s.enterSlot 3 t
      (∃ s', exec (.outputSchedulerSlot t) s = .next s' ∧ (∀ o < 16, ∀ x ∈ (s'.out o).index, s.foldStart ≤ x) ∧ s'.lp = s.lp ∧ s'.sel = s.sel ∧
        s'.host = s.host) ∧
      ((∀ o < 16, (s.out o).index = none) → s.tally.entries = [] → exec (.outputSchedulerSlot t) s = .next e3) ∧
      (∀ o ti : Nat, o < 16 → (∀ n < 16, n ≠ o → (s.out n).index = none) → s.tally.entries = [] → (s.out o).index = some ti → ti < s.foldStart →
        let s1 := e3.settle o e3.instant
        exec (.outputSchedulerSlot t) s = .next (s1.updOut o fun x => { (x.addPlan (s1.indexPlan o ti)) with index := none }) ∧
        (s1.indexPlan o ti).target = ti + (s.outCfg o).alignOffset.toNat ∧
        (s1.lastStartBy o (s1.edgeFor o (s1.indexPlan o ti).target) = none →
          (s1.indexPlan o ti).start = s1.edgeFor o (s1.indexPlan o ti).target ∧ (s1.indexPlan o ti).deferred = false) ∧
        (∀ l, s1.lastStartBy o (s1.edgeFor o (s1.indexPlan o ti).target) = some l → s1.edgeFor o (s1.indexPlan o ti).target < s1.clearOf o l →
          (s1.indexPlan o ti).start = s1.edgeFrom o (s1.clearOf o l + 1) ∧ (s1.indexPlan o ti).deferred = true)) ∧
      (∀ (o : Nat) (e : Entry), o < 16 → (∀ n < 16, (s.out n).index = none) → s.tally.entries = [e] → flockOuts e.flock = [o] → e.src = .gather →
        e.status = .applying → e.fixed = false → e.crook = false → (∀ p ∈ (s.out o).plans, p.seq ≠ some e.seq) →
        exec (.outputSchedulerSlot t) s
          = .next (e3.updOut o fun x => x.addPlan (e3.planGather o (e.target.getD 0) (s.foldStart + foldFs) e.seq))) ∧
      (∀ (o : Nat) (e : Entry), o < 16 → (∀ n < 16, (s.out n).index = none) → s.tally.entries = [e] → flockOuts e.flock = [o] → e.src = .step →
        e.status = .applying → e.immediate = true → e.crook = false →
        let rest : Fs := e.amount - e.outApplied o
        let x : Fs := if (s.out o).running then
            immediateMove rest (e3.risingEdges o (max s.foldStart e.movedTo) (s.foldStart + foldFs)) (e3.halfLow o)
          else rest
        exec (.outputSchedulerSlot t) s = .next (if x = 0 then e3 else e3.moveOut e o x)))

/-- Slot 5 queues up to 64 occurrences, drops and counts what finds no room, and clears the pins' time stamps (14 R337, R338; 17 R395). -/
def Obligations.EventSlotQueuesOccurrences : Prop :=
  ∀ (s : State) (t : Nat), s.slotDue 5 t = true →
    (s.ev.queue.length ≤ 64 →
      ∃ s', exec (.eventEngineSlot t) s = .next s' ∧ s'.ev.queue.length ≤ 64 ∧ (∀ n < 24, (s'.pin n).stamps = [] ∧ (s'.pin n).beyond = []) ∧
        s'.cfg = s.cfg ∧ s'.snap = s.snap ∧ s'.tally = s.tally ∧ s'.lp = s.lp) ∧
    (∀ o : Occ, (∀ n < 24, (s.pin n).stamps = [] ∧ (s.pin n).beyond = []) → s.ev.occs = [o] → s.ev.dropped = 0 →
      (s.ev.queue.length < 64 →
        ∃ s', exec (.eventEngineSlot t) s = .next s' ∧ s'.ev = { s.ev with queue := s.ev.queue ++ [o], occs := [] }) ∧
      (64 ≤ s.ev.queue.length →
        ∃ s', exec (.eventEngineSlot t) s = .next s' ∧ s'.ev.queue = s.ev.queue ∧ s'.ev.dropped = 1 ∧ s'.ev.occs = [] ∧
          (s'.ev.srcs.getD Ev.queueOverflow {}).count = (s.ev.srcs.getD Ev.queueOverflow {}).count + 1 ∧
          (s'.ev.srcs.getD Ev.queueOverflow {}).sticky = true))

/-- Slot 12: in folds 0 to 7 one TDC step, until the eight of a calibration are there, the supervision of the tuning voltage, and one step of the calibration at
the head, which starts only where it may (16 R376, R382–R385; 09 R218). -/
def Obligations.CalibrationSlotRunsOneStep : Prop :=
  ∀ (s : State) (margin meas t : Nat), s.slotDue 12 t = true →
    (s.clk.inSec < 8 → s.bg.tdcMeas.length < 8 →
      ∃ s', exec (.calibrationSlot margin meas t) s = .next s' ∧ s'.bg.tdcMeas = s.bg.tdcMeas ++ [meas] ∧ s'.bg.tdcScale = s.bg.tdcScale ∧ s'.cfg = s.cfg) ∧
    (8 ≤ s.clk.inSec ∨ 8 ≤ s.bg.tdcMeas.length →
      ∃ s', exec (.calibrationSlot margin meas t) s = .next s' ∧ s'.bg.tdcMeas = s.bg.tdcMeas ∧ s'.bg.tdcScale = s.bg.tdcScale ∧ s'.cfg = s.cfg) ∧
    (8 ≤ s.clk.inSec → s.bg.calQueue = [] → 50 ≤ margin → exec (.calibrationSlot margin meas t) s = .next (s.enterSlot 12 t)) ∧
    (∃ s', exec (.calibrationSlot margin meas t) s = .next s' ∧ s'.bg.acc.vtuneLow = (s.bg.acc.vtuneLow || decide (margin < 50)) ∧ s'.outs = s.outs) ∧
    (∀ (j : CalJob) (r : List CalJob) (w : Nat) (ws : List Nat), s.bg.calQueue = j :: r → j.which = w :: ws →
      (j.started = true →
        ∃ s', exec (.calibrationSlot margin meas t) s = .next s' ∧ s'.bg.calQueue = { j with left := j.left - 1 } :: r ∧ s'.rf = s.rf) ∧
      (j.started = false → (s.enterSlot 12 t).calMayStart (calFolds w) = true →
        ∃ s', exec (.calibrationSlot margin meas t) s = .next s' ∧ s'.rf = { s.rf with state := .cal } ∧ s'.bg.acc.radioCal = true ∧
          s'.bg.calQueue = { j with started := true, begun := true, left := calFolds w - 1, entry := s.calEntry w } :: r) ∧
      (j.started = false → (s.enterSlot 12 t).calMayStart (calFolds w) = false →
        ∃ s', exec (.calibrationSlot margin meas t) s = .next s' ∧ s'.bg.calQueue = s.bg.calQueue ∧ s'.rf = s.rf))

/-- Slot 13 checks SRAM words 4n to 4n + 3 and shadow word n in fold n: one turned bit is corrected and written back, two are not correctable, a setting that
differs from its shadow is to be restored; a word read before the slot is checked on demand. Slot 15 takes one telemetry sample and appends the entry that
waits (16 R376, R378–R381, R386, R387). What the operands tell has happened since the slot before (log 21). -/
def Obligations.ScrubAndTelemetrySlots : Prop :=
  ∀ (s : State) (t : Nat),
    let n (x : State) (id : Nat) : BitVec 32 := (x.ev.srcs.getD id {}).count
    let differs : Bool := (s.enterSlot 13 t).pieceDiffers (shadowPieceOf s.clk.inSec)
    let met (w : Nat) : Bool := decide (w / 4 = s.clk.inSec ∨ Config.shadowWord s.clk.inSec = w)
    (s.slotDue 13 t = true →
      (s.bg.flips = [] →
        (∃ s', exec (.scrubSlot [] [] t) s = .next s' ∧ s'.bg = { s.bg with restore := s.bg.restore ++ (if differs then [s.clk.inSec] else []) } ∧
          n s' Ev.shadowMismatch = n s Ev.shadowMismatch + (if differs then 1 else 0) ∧ s' = { s.enterSlot 13 t with bg := s'.bg, ev := s'.ev }) ∧
        (∀ x : Nat × List Byte, ∃ s', exec (.scrubSlot [] [x] t) s = .next s' ∧ s'.cfg = ((s.enterSlot 13 t).strikeLive x).cfg ∧ s'.shadow = s.shadow) ∧
        (∀ w k : Nat, ∃ s', exec (.scrubSlot [.strike w k] [] t) s = .next s' ∧ s'.bg.flips = (if met w then [] else [(w, k)]) ∧
          n s' Ev.scrubCorrected = n s Ev.scrubCorrected + (if met w then 1 else 0) ∧ s'.cfg = s.cfg)) ∧
      (∀ w k : Nat, s.bg.flips = [(w, k)] →
        (∃ s', exec (.scrubSlot [.read w] [] t) s = .next s' ∧ s'.bg.flips = [] ∧ n s' Ev.scrubCorrected = n s Ev.scrubCorrected + 1 ∧ s'.cfg = s.cfg) ∧
        (∃ s', exec (.scrubSlot [] [] t) s = .next s' ∧ s'.bg.flips = (if met w then [] else [(w, k)]) ∧
          n s' Ev.scrubCorrected = n s Ev.scrubCorrected + (if met w then 1 else 0) ∧ s'.cfg = s.cfg)) ∧
      (∀ w j k : Nat, j ≠ k → w / 4 = s.clk.inSec → s.bg.flips = [(w, j), (w, k)] →
        ∃ s', exec (.scrubSlot [] [] t) s = .next s' ∧ s'.bg.flips = (if 2 ≤ sramRegionOf w then [] else s.bg.flips) ∧ s'.cfg = s.cfg ∧ s'.lp = s.lp ∧
          n s' Ev.scrubCorrected = n s Ev.scrubCorrected ∧
          n s' Ev.scrubUncorrectable = n s Ev.scrubUncorrectable + (if Config.shadowWord s.clk.inSec = w ∧ sramRegionOf w < 2 then 2 else 1))) ∧
    (s.slotDue 15 t = true → ∀ x : Int,
      (s.bg.closing = none →
        ∃ s', exec (.telemetrySlot x t) s = .next s' ∧ s'.bg.acc.turn = (s.bg.acc.turn + 1) % 11 ∧
          s'.bg.acc.sums = upd s.bg.acc.sums s.bg.acc.turn (· + x) ∧ s'.bg.acc.counts = upd s.bg.acc.counts s.bg.acc.turn (· + 1) ∧
          s'.bg.ring = s.bg.ring ∧ s' = { s.enterSlot 15 t with bg := s'.bg }) ∧
      (∀ e : List Byte, s.bg.closing = some e → s.bg.ring.length < 64 →
        ∃ s', exec (.telemetrySlot x t) s = .next s' ∧ s'.bg.ring = s.bg.ring ++ [e] ∧ s'.bg.closing = none ∧ s'.bg.lost = s.bg.lost ∧ s'.ev = s.ev) ∧
      (∀ e : List Byte, s.bg.closing = some e → 64 ≤ s.bg.ring.length →
        ∃ s', exec (.telemetrySlot x t) s = .next s' ∧ s'.bg.ring = s.bg.ring.drop 1 ++ [e] ∧ s'.bg.ringBase = s.bg.ringBase + 1 ∧ s'.bg.closing = none ∧
          s'.bg.lost = (if s.bg.readMark ≤ s.bg.ringBase then s.bg.lost + 1 else s.bg.lost)))

/-- The end of a slot, the reserve slot, and slot 9, which with no frame to process times a ring lead's own frame and stages the next fold's (01 R17, R19, R20;
19 R437; 11 R253, R256). A task whose row has not come in the fold and that still holds work is suspended with its context (log 91). -/
def Obligations.SlotEndsReserveAndDroveSlot : Prop :=
  ∀ (s : State) (t : Nat), s.schedule = true →
    (∀ (n : Fin 16) (h : Nat), n.val + 1 < s.clk.slot ∨ slotHolds n.val t = false → exec (.slotEnd n h t) s = .next (s.setNow t)) ∧
    (∀ n : Fin 16, s.clk.slot ≤ n.val + 1 → slotHolds n.val t = true →
      (∀ h : Nat, h ≠ 0 → s.clk.slot ≤ n.val →
        let r := (s.setNow t).raise Ev.foldOverrun (n.val + 256 * min h 16777215)
        exec (.slotEnd n h t) s = .next { r with clk := { r.clk with slot := n.val + 1, cut := n.val :: s.clk.cut.filter (· ≠ n.val) } }) ∧
      (∀ h : Nat, h = 0 ∨ s.clk.slot = n.val + 1 →
        ((∀ x ∈ s.test.overrun, x.1 ≠ n.val) → exec (.slotEnd n h t) s = .next (s.setNow t)) ∧
        (∀ c : Nat, s.test.overrun.find? (·.1 = n.val) = some (n.val, c) →
          exec (.slotEnd n h t) s = .next { (s.setNow t).raise Ev.foldOverrun (n.val + 256 * min c 16777215) with
            test := { s.test with overrun := s.test.overrun.filter (·.1 ≠ n.val) } }))) ∧
    (∀ n : Nat, s.slotDue n t = true → (s.enterSlot n t).clk.slot = n + 1 ∧ n ∉ (s.enterSlot n t).clk.cut) ∧
    (s.slotDue 16 t = true →
      (∀ g : Staged, s.host.begun = some g →
        exec (.reserveSlot true t) s
          = .next { s.enterSlot 16 t with host := { s.host with begun := none, staged := s.host.staged ++ [g.finished (s.enterSlot 16 t)] } }) ∧
      (s.host.begun = none → exec (.reserveSlot true t) s = .next (s.enterSlot 16 t)) ∧ exec (.reserveSlot false t) s = .next (s.enterSlot 16 t)) ∧
    (s.slotDue 9 t = true → s.drv.inbox = [] →
      (s.drv.state = .off ∨ s.drv.state = .member → s.drv.trip = none → exec (.droveSlot .ofState t) s = .next (s.enterSlot 9 t)) ∧
      (s.drv.state = .lead →
        ∃ s', exec (.droveSlot .ofState t) s = .next s' ∧ s'.drv.trip = none ∧ s'.drv.state = .lead ∧ s'.cfg = s.cfg ∧ s'.cands = s.cands ∧
          (s.drv.yield = true → s'.drv.next = s.drv.next) ∧
          (s.drv.yield = false → ∃ x, s'.drv.next = some x ∧ x.fold = s.clk.absFold.toNat + 1 ∧ x.cmd = s.drv.cast.isSome ∧ x.unc = s.uncNs)) ∧
      (∀ rt : Int, s.drv.state = .lead → s.drv.trip = some rt →
        let diff : Int := rt - (s.drv.acc * 1000 + s.drv.c)
        ∃ s', exec (.droveSlot .ofState t) s = .next s' ∧
          (s'.ev.srcs.getD Ev.drvDelayCheck {}).count = (s.ev.srcs.getD Ev.drvDelayCheck {}).count +
            (if s.cfg.drv.ring = true ∧ 1000000 * (s.drv.retHop + 1) < diff.natAbs then 1 else 0)))

/-- A gated window opens at its START and closes at its STOP; a planned start begins its train; MON reports a frequency beyond its tolerance at the end of a
device second, where the schedule runs (06 R138–R141, R152; 07 R156, R161; 01 R32). -/
def Obligations.OutputEventsActOnTheirOutput : Prop :=
  ∀ (s : State) (o : Fin 16) (t : Nat),
    (∀ (w : Window) (r : List Window), (s.out o).windows = w :: r → w.begun = false → w.from_ ≤ (s.setNow t).instant → (s.outCfg o).mode = 2 →
      (s.out o).gate = false →
      ∃ s', exec (.gateWindowStart o t) s = .next s' ∧ (s'.out o).gate = true ∧ (s'.out o).openAt = w.from_ ∧
        (s'.out o).windows = (w :: r).map (fun v => if v = w then { v with begun := true } else v) ∧
        (∀ n < 16, n ≠ o.val → s'.out n = s.out n) ∧ s'.cfg = s.cfg ∧ s'.tally = s.tally) ∧
    ((∀ w ∈ (s.out o).windows, w.begun = true ∨ (s.setNow t).instant < w.from_) → exec (.gateWindowStart o t) s = .next (s.setNow t)) ∧
    (∀ (w : Window) (r : List Window), (s.out o).windows = w :: r → w.begun = true → w.to ≤ (s.setNow t).instant → (s.outCfg o).mode = 2 →
      (s.out o).gate = true →
      ∃ s', exec (.gateWindowStop o t) s = .next s' ∧ (s'.out o).gate = false ∧ (s'.out o).windows = r.filter (· ≠ w) ∧
        (∀ n < 16, n ≠ o.val → s'.out n = s.out n) ∧ s'.cfg = s.cfg ∧ s'.tally = s.tally) ∧
    ((∀ w ∈ (s.out o).windows, w.begun = false ∨ (s.setNow t).instant < w.to) → exec (.gateWindowStop o t) s = .next (s.setNow t)) ∧
    (∀ (p : Plan) (r : List Plan), (s.out o).plans = p :: r →
      ∃ s', exec (.alignedStart o) s = .next s' ∧ (s'.out o).frame = some p.start ∧ (s'.out o).pulsesLeft = p.count ∧
        (s'.out o).plans = r.filter (· ≠ p) ∧ (s'.out o).aligns = (s.out o).aligns ++ [(p.crook, p.detail (s.outCfg o).delay false)] ∧
        (s'.out o).begun = (s.out o).begun ++ (p.seq.map fun q => (q, p.shift)).toList ∧
        (∀ n < 16, n ≠ o.val → s'.out n = s.out n) ∧ s' = { s with outs := s'.outs }) ∧
    ((s.out o).plans = [] → exec (.alignedStart o) s = .next s) ∧
    (exec (.monSecondEnd []) s = .next s) ∧
    (∀ l, s.clk.inSec ≠ 0 ∨ s.schedule = false → exec (.monSecondEnd l) s = .next s) ∧
    (∀ n aux : Nat, s.clk.inSec = 0 → s.schedule = true → n ≠ 0 → (s.out o).running = true → (s.outCfg o).mode ≠ 1 → s.cfg.monFtol < (s.freqError o n aux).natAbs →
      exec (.monSecondEnd [(o.val, n, aux)]) s = .next (s.raise (0x40 + 4 * o.val + 1) (detailSat (divNear (s.freqError o n aux) 1000000)))) ∧
    (∀ n aux : Nat, n = 0 ∨ (s.out o).running = false ∨ (s.outCfg o).mode = 1 ∨ (s.freqError o n aux).natAbs ≤ s.cfg.monFtol →
      exec (.monSecondEnd [(o.val, n, aux)]) s = .next s)

/-- The row of activation starts, at a boundary, an entry that heads the device's queue or an output's, and no other; a grazed head waits while a device entry
pays (01 R21; 05 R112, R113, R115; log 30). -/
def Obligations.TallyEntryActivates : Prop :=
  ∀ (s : State) (q : BitVec 32),
    (s.atBoundary = false → exec (.tallyEntryActivation q) s = .next s) ∧
    (s.tally.find q = none → exec (.tallyEntryActivation q) s = .next s) ∧
    (∀ e : Entry, s.tally.find q = some e →
      let headDev : Bool := (s.tally.deviceQueue.find? fun x => x.status = .applying || s.ready x).map (·.seq) = some q
      let headOut : Bool := (List.range 16).any fun o => (s.outHead o).map (·.seq) = some q
      let busy : Bool := s.tally.deviceQueue.any fun x => x.status = .applying && x.remaining ≠ 0
      let starts : Prop := ∃ s', exec (.tallyEntryActivation q) s = .next s' ∧ s'.tally.find q = some { e with status := .applying, movedTo := s.foldStart + 1 } ∧
        s'.tally.entries.length = s.tally.entries.length ∧ (∀ k, k ≠ q → s'.tally.find k = s.tally.find k) ∧
        s' = { s with tally := { s.tally with entries := s'.tally.entries } }
      (e.status ≠ .pending → exec (.tallyEntryActivation q) s = .next s) ∧
      (headDev = false → headOut = false → exec (.tallyEntryActivation q) s = .next s) ∧
      (∀ h, s.tally.deviceQueue.head? = some h → h.status = .applying → h.seq ≠ q → headOut = false → exec (.tallyEntryActivation q) s = .next s) ∧
      (s.atBoundary = true → e.status = .pending → e.isDevice = true → headDev = true → starts) ∧
      (s.atBoundary = true → e.status = .pending → headOut = true → e.grazed = false ∨ busy = false → starts) ∧
      (e.isDevice = false → e.grazed = true → busy = true → exec (.tallyEntryActivation q) s = .next s))

/-- Index edges, of an input that nothing kills, their absence, the comparison of seconds and a time sentence, whose edge may be either TOD_PPS input's latest
(08 R182, R185, R187, R189; 07 R170–R174; 19 R435). -/
def Obligations.ShaftAndTimeEvents : Prop :=
  ∀ (s : State) (t : Nat),
    let kill : Bool := (s.cand (if s.cfg.ssct.ref5 then 5 else 4)).killed
    let told (s' : State) : Prop := s'.tod = s.tod ∧ s'.clk = { s.clk with now := t } ∧
      ((s.setNow t).crossesLate = false → (s'.ev.srcs.getD Ev.todError {}).count = (s.ev.srcs.getD Ev.todError {}).count + 1) ∧
      ((s.setNow t).crossesLate = true → s'.ev.late.map (·.id) = s.ev.late.map (·.id) ++ [Ev.todError])
    (∀ r, r ≠ s.cfg.ssct.ref5 → exec (.shaftIndexEdge r t) s = .next (s.setNow t)) ∧
    (kill = true → exec (.shaftIndexEdge s.cfg.ssct.ref5 t) s = .next (s.setNow t)) ∧
    (kill = false → s.ssct.lastIdx = none →
      ∃ s', exec (.shaftIndexEdge s.cfg.ssct.ref5 t) s = .next s' ∧ s'.ssct.lastIdx = some (s.setNow t).instant ∧ s'.ssct.gatherOk = true ∧
        s'.ssct.period = s.ssct.period ∧ s'.ssct.net = 0 ∧ s'.ssct.settle = some (s.ssct.settle.getD 0 + s.ssct.net) ∧
        s'.ssct.bins = s.ssct.bins ∧ s'.lp = s.lp ∧ s'.tally = s.tally) ∧
    (∀ l, kill = false → s.ssct.lastIdx = some l → l < (s.setNow t).instant →
      let p := (s.setNow t).instant - l
      ∃ s', exec (.shaftIndexEdge s.cfg.ssct.ref5 t) s = .next s' ∧ s'.ssct.lastIdx = some (s.setNow t).instant ∧
        s'.ssct.period = some p ∧ s'.ssct.missing = false ∧ s'.ssct.net = 0 ∧ s'.ssct.apply = s.ssct.apply ∧
        (periodValid p = true → s.ssct.apply = .idle → s.cfg.ssct.mode ≠ 0 → s'.ssct.turn = some .fadeIn) ∧
        (periodValid p = false → s'.ssct.turn = if s.ssct.apply = .fadeIn ∨ s.ssct.apply = .active then some .fadeOut else none) ∧
        s'.ssct.settle = some (s.ssct.settle.getD 0 + s.ssct.net) ∧ s'.ssct.bins = s.ssct.bins ∧ s'.lp = s.lp ∧ s'.tally = s.tally) ∧
    (∀ l p, s.ssct.lastIdx = some l → s.ssct.period = some p → 3 * p ≤ 2 * ((s.setNow t).instant - l) →
      ∃ s', exec (.shaftIndexTimeout t) s = .next s' ∧ s'.ssct.missing = true ∧ s'.ssct.pauseIdx = true ∧ s'.ssct.gatherOk = false ∧
        s'.ssct.apply = s.ssct.apply ∧ s'.ssct.turn = (if s.ssct.apply = .fadeIn ∨ s.ssct.apply = .active then some .fadeOut else none) ∧
        s'.ssct.bins = s.ssct.bins ∧ s' = { s with clk := { s.clk with now := t }, ssct := s'.ssct }) ∧
    (∀ l p, s.ssct.lastIdx = some l → s.ssct.period = some p → 2 * ((s.setNow t).instant - l) < 3 * p →
      exec (.shaftIndexTimeout t) s = .next (s.setNow t)) ∧
    (s.schedule = true → slotHolds 4 t = false ∨ s.tod.compared = some s.clk.secIdx → exec (.secondsComparison t) s = .next (s.setNow t)) ∧
    (s.schedule = true → slotHolds 4 t = true → s.tod.compared ≠ some s.clk.secIdx →
      (s.todLabel = none →
        exec (.secondsComparison t) s = .next { s with clk := { s.clk with now := t }, tod := { s.tod with compared := some s.clk.secIdx } }) ∧
      (∀ l : Label, s.todLabel = some l → s.clk.secIdx ≤ l.at_ + 1 →
        (l.prev = some l.diffSec → l.diffSec ≠ 0 → s.tod.valid = true →
          ∃ s', exec (.secondsComparison t) s = .next s' ∧ s'.clk.seconds = s.clk.seconds ∧
            (if s.cfg.tod.accept then s'.tod.jump = some l.diffSec
             else s'.tod.jump = s.tod.jump ∧ s'.tod.conflict = true ∧ s'.tod.raisedSec = some l.diffSec)) ∧
        (l.prev = some l.diffSec → s.tod.valid = false →
          ∃ s', exec (.secondsComparison t) s = .next s' ∧ s'.tod.jump = some l.diffSec ∧ s'.clk.seconds = s.clk.seconds) ∧
        (l.prev ≠ some l.diffSec →
          ∃ s', exec (.secondsComparison t) s = .next s' ∧ s'.tod.jump = s.tod.jump ∧ s'.tod.valid = s.tod.valid ∧ s'.clk.seconds = s.clk.seconds))) ∧
    (∀ pin bytes span, (s.setNow t).uartListens pin = false ∨ s.pinsRun = false → exec (.uartSentence pin bytes span t) s = .next (s.setNow t)) ∧
    (∀ pin bytes span c, (s.setNow t).uartListens pin = true → s.pinsRun = true → readSentence bytes = .error c →
      ∃ s', exec (.uartSentence pin bytes span t) s = .next s' ∧ told s') ∧
    (∀ pin bytes span utc, (s.setNow t).uartListens pin = true → s.pinsRun = true → readSentence bytes = .ok utc → s.cfg.tod.pps ≠ 0 →
      let e := if s.cfg.tod.pps = 1 then s.tod.ppsEdges.1 else s.tod.ppsEdges.2
      let fits (x : Nat) : Bool := 10000000000000 ≤ (s.setNow t).instant - x && (s.setNow t).instant - x ≤ 990000000000000
      (e = none ∨ (∃ x, e = some x ∧ fits x = false) → ∃ s', exec (.uartSentence pin bytes span t) s = .next s' ∧ told s') ∧
      (∀ x, e = some x → fits x = true →
        ∃ (s' : State) (l : Label), exec (.uartSentence pin bytes span t) s = .next s' ∧ s'.tod.uart = some l ∧ l.diffFold = 0 ∧ l.at_ = s.clk.secIdx ∧
          l.diffSec = (utc : Int) + s.cfg.tod.taiUtc - (s.clk.seconds.toNat + divNear ((x : Int) - (s.setNow t).secondStart) secondFs) ∧
          s' = { s with clk := { s.clk with now := t }, tod := { s.tod with uart := some l } })) ∧
    (∀ pin bytes span utc, (s.setNow t).uartListens pin = true → s.pinsRun = true → readSentence bytes = .ok utc → s.cfg.tod.pps = 0 →
      ∃ (s' : State) (l : Label), exec (.uartSentence pin bytes span t) s = .next s' ∧ s'.tod.uart = some l ∧ l.diffFold = 0 ∧ l.at_ = s.clk.secIdx ∧
        l.time = (s.setNow t).instant ∧
        l.diffSec = (utc : Int) + s.cfg.tod.taiUtc - (s.clk.seconds.toNat + (((s.setNow t).instant : Int) - span - (s.setNow t).secondStart) / secondFs) ∧
        s' = { s with clk := { s.clk with now := t }, tod := { s.tod with uart := some l } })

/-- GPIO edges, pen-reset pins, pin levels, the PRBS checker and the boundary-scan port (17 R395, R397, R405; 12 R292; 01 R31; 19 R439, R441). The stamp's
grid is the model's choice (log 94). -/
def Obligations.PinAndTestPortEvents : Prop :=
  ∀ (s : State) (n : Fin 24) (level : Bool) (t : Nat),
    (let p := s.pin n
     let k := if p.stampFold = s.clk.absFold then p.stamped else 0
     (s.pinCfg n).countsEdge level = true → s.pinsRun = true →
      (k < 8 → exec (.gpioEdge n level t) s = .next ((s.setNow t).updPin n fun p =>
        { p with pad := level, edges := p.edges + 1, stamps := p.stamps ++ [(level, gpsStamp (s.setNow t).instant)], stamped := k + 1,
                 stampFold := s.clk.absFold })) ∧
      (8 ≤ k → exec (.gpioEdge n level t) s = .next ((s.setNow t).updPin n fun p =>
        { p with pad := level, edges := p.edges + 1, beyond := p.beyond ++ [level] }))) ∧
    ((s.pinCfg n).countsEdge level = false ∨ s.pinsRun = false →
      exec (.gpioEdge n level t) s = .next ((s.setNow t).updPin n fun p => { p with pad := level })) ∧
    (∀ k : Fin 4, k ≠ 0 → s.pinsRun = true → (s.pinCfg n).func = 6 → (s.pinCfg n).sub.toNat / 4 % 4 = k.val → (s.pinCfg n).sub.toNat % 4 = 2 →
      (s.pinCfg n).sub.getLsbD 4 = !level →
      exec (.penResetPinEdge n level t) s
        = .next (((s.setNow t).updPin n fun p => { p with pad := level }).updPen k fun p =>
            if (s.setNow t).crossesLate then { p with pinLate := p.pinLate + 1 } else { p with pinReset := p.pinReset + 1 })) ∧
    ((s.pinCfg n).func ≠ 6 ∨ (s.pinCfg n).sub.toNat % 4 ≠ 2 ∨ (s.pinCfg n).sub.getLsbD 4 = level ∨ s.pinsRun = false →
      exec (.penResetPinEdge n level t) s = .next ((s.setNow t).updPin n fun p => { p with pad := level })) ∧
    (exec (.pinInputLevelChange n level) s = .next (s.updPin n fun p => { p with pad := level })) ∧
    (∀ bits errors, 1 ≤ s.test.drvTest → s.test.drvTest ≤ 3 →
      exec (.prbsCheckerLock bits errors) s
        = .next { s with test := { s.test with prbsLock := true, prbsBits := s.test.prbsBits + BitVec.ofNat 64 bits,
                                               prbsErrors := s.test.prbsErrors + BitVec.ofNat 32 errors } }) ∧
    (∀ bits errors, s.test.drvTest = 0 ∨ 3 < s.test.drvTest → exec (.prbsCheckerLock bits errors) s = .next s) ∧
    (∀ tms tdi pads, ∃ s', exec (.jtagTckEdge true tms tdi pads) s = .next s' ∧ s'.test.tap = s.test.tap.next tms ∧ s'.test.cells = s.test.cells ∧
      s'.test.ir = s.test.ir ∧ (s.test.tap = .shDr → s'.test.drShift = s.test.drShift.drop 1 ++ [tdi]) ∧
      (s.test.tap = .capDr → s.test.ir = 1 → s'.test.drShift = bitsOf 32 idcode) ∧
      (s.test.tap = .capDr → s.test.ir = 2 ∨ s.test.ir = 3 → s'.test.drShift = scanOrder.map fun k => pads.getD k false) ∧
      (s.test.tap = .capDr → s.test.ir = 0 → s'.test.drShift = [false]) ∧ s' = { s with test := s'.test }) ∧
    (∀ tms tdi pads, ∃ s', exec (.jtagTckEdge false tms tdi pads) s = .next s' ∧ s'.test.tap = s.test.tap ∧ (s.test.tap = .reset → s'.test.ir = 1) ∧
      (s.test.tap = .shDr → s'.test.tdo = s.test.drShift.headD false) ∧
      (s.test.tap = .upIr → ofBits s.test.irShift = 2 ^ irLength - 1 → s'.test.ir = 0) ∧
      (s.test.tap = .upDr → s.test.ir = 2 ∨ s.test.ir = 3 → s'.test.cells = s.test.drShift) ∧ s' = { s with test := s'.test })

/-- The interpreter's slots take packets from the pens' queues: a served one leaves its queue and stages its result, one that must wait stays; one that waited
is served in its turn in a later slot (01 R18, R22; 12 R282–R284, R297). -/
def Obligations.InterpreterSlotsServeQueues : Prop :=
  ∀ (s : State) (t : Nat),
    let e := s.enterSlot (interpAt t) t
    let result (k : Packet) (sv : Serve) : Staged :=
      { opcode := k.opcode, call := k.call, status := sv.status, body := sv.body, commit := sv.commit, mark := sv.mark }
    (s.slotDue (interpAt t) t = true →
      ((∀ p, (s.io p).queue = []) → s.host.begun = none → ∀ done b, exec (.commandInterpreterSlot done b t) s = .next e) ∧
      (∀ (k : Packet) (b : Bool) (done : Nat), let sv := e.decide_ k
        (s.io k.call.pen).queue = [k] → (∀ p, p ≠ k.call.pen → (s.io p).queue = []) → s.host.begun = none → k.call.cls.toNat ≤ 1 → k.air = false →
        sv.wait = false → sv.act = id → sv.later = false →
        ∃ s', exec (.commandInterpreterSlot done b t) s = .next s' ∧ (s'.io k.call.pen).queue = [] ∧
          s' = { e with host := { s.host with
            pens := s'.host.pens, robin := (k.call.pen.val + 1) % 4, staged := s.host.staged ++ [result k sv] } }) ∧
      (∀ (k : Packet), let sv := e.decide_ k
        (s.io k.call.pen).queue = [k] → (∀ p, p ≠ k.call.pen → (s.io p).queue = []) → s.host.begun = none → k.call.cls = 2 ∨ k.call.cls = 3 → k.air = false →
        sv.wait = false → sv.act = id → sv.later = false →
        exec (.commandInterpreterSlot 0 false t) s = .next e ∧
        (∃ s', exec (.commandInterpreterSlot 0 true t) s = .next s' ∧ (s'.io k.call.pen).queue = [] ∧ s'.host.staged = s.host.staged ∧
          s'.host.begun = some (result k sv)) ∧
        (∃ s', exec (.commandInterpreterSlot 1 false t) s = .next s' ∧ (s'.io k.call.pen).queue = [] ∧ s'.host.begun = none ∧
          s'.host.staged = s.host.staged ++ [result k sv]))) ∧
    (∀ p, s.interpreting = false ∨ (∀ k ∈ (s.io p).queue, k.waits = false) →
      exec (.deferredCommandServed p t) s = .next (s.setNow t) ∧ exec (.longCommandStart p t) s = .next (s.setNow t)) ∧
    (∀ (k : Packet), let p := k.call.pen; let sv := (s.setNow t).decide_ k
      s.interpreting = true → (s.io p).queue = [k] → (∀ n, n ≠ p → (s.io n).queue = []) → s.host.begun = none → k.waits = true → k.air = false →
      sv.wait = false → sv.act = id → sv.later = false →
      ∃ s', exec (.deferredCommandServed p t) s = .next s' ∧ exec (.longCommandStart p t) s = .next s' ∧ (s'.io p).queue = [] ∧
        s'.host.staged = s.host.staged ++ [result k sv] ∧ s'.cfg = s.cfg ∧ s'.store = s.store ∧ s'.tally = s.tally) ∧
    (∀ (k : Packet) (r : List Packet), let p := k.call.pen
      (s.io p).queue = k :: r → k.waits = true → ((s.setNow t).decide_ k).wait = true →
      exec (.deferredCommandServed p t) s = .next (s.setNow t) ∧ exec (.longCommandStart p t) s = .next (s.setNow t))

/-- Ends of jobs, which the schedule reports, and of pen resets, at a boundary (12 R284, R291; 01 R32). -/
def Obligations.JobsAndPenResetsEnd : Prop :=
  ∀ (s : State) (p : Pen) (t : Nat),
    (∀ (o : JobOwner) (st : BitVec 16) (r : List (JobOwner × BitVec 16)), s.schedule = true → s.store.ended = (o, st) :: r → o.pen = p →
      exec (.jobEnd p o.engine t) s
        = .next ({ s.setNow t with store := { s.store with ended := r } }.raise Ev.cmdDone (st.toNat * 2 ^ 16 + o.tag.toNat * 2 ^ 8 + p.val))) ∧
    (∀ e, s.schedule = false ∨ (∀ x ∈ s.store.ended, x.1.pen ≠ p ∨ x.1.engine ≠ e) → exec (.jobEnd p e t) s = .next (s.setNow t)) ∧
    (s.atBoundary = false → exec (.penResetEnd p) s = .next s) ∧
    ((s.penSt p).state ≠ .resetting → exec (.penResetEnd p) s = .next s) ∧
    (s.storeHolds p = true → exec (.penResetEnd p) s = .next s) ∧
    (s.atBoundary = true → (s.penSt p).state = .resetting → (s.penSt p).since.toNat < s.clk.absFold.toNat → s.storeHolds p = false →
      (∀ j ∈ s.bg.calQueue, ∀ o, j.owner = some o → o.pen ≠ p) →
      ∃ s', exec (.penResetEnd p) s = .next s' ∧ (s'.penSt p).state = (if (s.penSt p).toDisabled then .disabled else .active) ∧
        (s'.penSt p).toDisabled = false ∧ (s'.ev.srcs.getD Ev.penState {}).count = (s.ev.srcs.getD Ev.penState {}).count + 1 ∧ s'.cfg = s.cfg ∧
        s'.host = s.host ∧ s'.store = s.store)

/-- The store engine's slot and the flash's own ends: word by word, page by page (15 R358, R367, R372–R375; 01 R17). A record whose COMMIT word fails is left
without one (log 95). -/
def Obligations.StoreEngineProgramsAndErases : Prop :=
  ∀ (s : State) (t : Nat),
    (s.slotDue 10 t = true →
      (∀ ok, s.store.halted = true → exec (.storeEngineSlot ok t) s = .next (s.enterSlot 10 t)) ∧
      (∀ ok, storeQuiet s → s.store.phase = .idle → s.store.jobs = [] → exec (.storeEngineSlot ok t) s = .next (s.enterSlot 10 t)) ∧
      (∀ (ok : Bool) (j : StoreJob) (p off : Nat) (data : List Byte), storeQuiet s → s.store.phase = .idle → s.store.jobs = [j] →
        j.kind = .pageWrite p off data →
        ∃ s', exec (.storeEngineSlot ok t) s = .next s' ∧ s'.store.phase = .erasing true p false ∧
          s'.store.buffer = flashBytes s.store.flash (16 * pageWord p) 256 ∧ s'.store.flash = s.store.flash) ∧
      (∀ w : Writing, storeQuiet s → s.store.phase = .writing w → w.issued = true → w.done = true → w.fault = none → w.idx + 1 < w.words.length →
        ∃ s', exec (.storeEngineSlot true t) s = .next s' ∧ s'.store.phase = .writing { w with idx := w.idx + 1, issued := true, done := false } ∧
          s'.store.flash = s.store.flash ∧ s'.ev = s.ev) ∧
      (∀ w : Writing, storeQuiet s → s.store.phase = .writing w → w.issued = true → w.done = true → w.fault = none → w.kind = 3 →
        s.store.restoring = false →
        ∃ s', exec (.storeEngineSlot false t) s = .next s' ∧ s'.store.restoring = true ∧ s'.store.phase = .erasing true ((w.base - 1536) / 16) false ∧
          (s'.ev.srcs.getD Ev.storeVerifyFail {}).count = (s.ev.srcs.getD Ev.storeVerifyFail {}).count + 1) ∧
      (∀ w : Writing, storeQuiet s → s.store.phase = .writing w → w.issued = true → w.done = true → w.fault = none → w.kind = 0 →
        w.idx + 1 = w.words.length →
        ∃ s', exec (.storeEngineSlot false t) s = .next s' ∧
          s'.store.flash = flashErase s.store.flash (16 * (w.base + w.idx)) (16 * (w.base + w.idx) + 16) ∧
          (s'.ev.srcs.getD Ev.storeVerifyFail {}).count = (s.ev.srcs.getD Ev.storeVerifyFail {}).count + 1)) ∧
    (∀ w : Writing, s.store.phase = .writing w → w.issued = true → w.done = false →
      exec (.flashWordProgramEnd t) s = .next { s with clk := { s.clk with now := t }, store := { s.store with
        flash := flashProgram s.store.flash (16 * (w.base + w.idx)) (w.words.getD w.idx []), phase := .writing { w with done := true } } }) ∧
    (s.store.phase = .idle → exec (.flashWordProgramEnd t) s = .next (s.setNow t) ∧ exec (.flashEraseEnd t) s = .next (s.setNow t)) ∧
    (s.store.saving ≠ none → exec (.flashEraseEnd t) s = .next (s.setNow t)) ∧
    (∀ p, p < 32 → s.store.saving = none → s.store.phase = .erasing true p false → s.store.restoring = false →
      ∃ s', exec (.flashEraseEnd t) s = .next s' ∧ s'.store.phase = .erasing true p true ∧
        s'.store.flash = flashErase s.store.flash (16 * pageWord p) (16 * pageWord p + 256) ∧
        (s'.store.wear.getD p {}).erases = (s.store.wear.getD p {}).erases + 1 ∧ s'.cfg = s.cfg) ∧
    (flashOk s.store.flash = true → ∀ p, p < 32 → s.store.saving = none → s.store.phase = .erasing true p false →
      ∃ s', exec (.flashEraseEnd t) s = .next s' ∧ ∀ a, flashRead s'.store.flash a =
        if 16 * pageWord p ≤ a ∧ a < 16 * pageWord p + 256 then flashErased else flashRead s.store.flash a)

/-- The store's timers, in the store engine's slot: model saves, hourly records, the age check, compaction and its retry (04 R99; 15 R356, R359, R361, R362;
01 R18). -/
def Obligations.StoreTimersQueueTheirJobs : Prop :=
  ∀ (s : State) (t : Nat),
    (s.schedule = false ∨ s.clk.slot ≠ 11 →
      exec .modelSaveTimer s = .next s ∧ exec (.hourlyRecord t) s = .next (s.setNow t) ∧ exec .refreshCheck s = .next s ∧ exec .compaction s = .next s ∧
      exec .compactionRetry s = .next s) ∧
    (s.mdl.saveIn ≠ 0 → exec .modelSaveTimer s = .next s) ∧
    (s.store.hourIn ≠ 0 → exec (.hourlyRecord t) s = .next (s.setNow t)) ∧
    (s.store.ageCheck = false → exec .refreshCheck s = .next s) ∧
    (s.compactionDue = false → exec .compaction s = .next s) ∧
    (s.store.phase ≠ .idle → exec .compactionRetry s = .next s) ∧
    (s.store.retryDue = false → exec .compactionRetry s = .next s) ∧
    (s.schedule = true → s.clk.slot = 11 →
      (s.mdl.saveIn = 0 →
        ∃ s', exec .modelSaveTimer s = .next s' ∧ s'.mdl = { s.mdl with saveIn := 3600 * s.cfg.lp.modelSave } ∧
          s'.store = { s.store with jobs := s.store.jobs ++ [{ kind := .records [{ type := 2, payload := s'.modelPayload s'.mdl }] }] } ∧
          s' = { s with mdl := s'.mdl, store := s'.store }) ∧
      (s.store.hourIn = 0 →
        ∃ (s' : State) (r : List RecReq), exec (.hourlyRecord t) s = .next s' ∧ s'.store.hourIn = 3600 ∧ s'.store.ageCheck = true ∧
          s'.store.jobs = s.store.jobs ++ [{ kind := .records ({ type := 3, payload := s.store.life.bytes } :: r) }] ∧ (∀ x ∈ r, x.type = 7) ∧
          s' = { s with clk := { s.clk with now := t }, store := s'.store }) ∧
      (s.store.ageCheck = true → s.bankAge < 126144000 ∨ s.store.compacting = true →
        exec .refreshCheck s = .next { s with store := { s.store with ageCheck := false } }) ∧
      (s.store.ageCheck = true → 126144000 ≤ s.bankAge → s.store.compacting = false →
        exec .refreshCheck s = .next { s with store := { s.store with ageCheck := false, jobs := s.store.jobs ++ [{ kind := .compaction true }] } }) ∧
      (∀ (j : StoreJob) (r : List StoreJob) (b : Bool), s.store.jobs = j :: r → j.kind = .compaction b → s.store.phase = .idle → s.store.halted = false →
        s.store.comp = none → s.store.append + 3 ≤ 768 →
        ∃ (s' : State) (w : Writing), exec .compaction s = .next s' ∧ s'.store.comp = some .intent ∧ s'.store.phase = .writing w ∧
          w.base = bankWord s.store.bankB + s.store.append ∧ w.kind = 1 ∧ w.type = 8 ∧ s'.store.maxSeq = s.store.maxSeq + 1 ∧
          s'.store.flash = s.store.flash) ∧
      (s.store.phase = .idle → s.store.retryDue = true → s.store.failing = true → s.store.compacting = false →
        exec .compactionRetry s
          = .next { s with store := { s.store with retryDue := false, jobs := { kind := .compaction false } :: s.store.jobs } }))

/-- Carrier detection by a valid block, the diversity window, blocks and their gain, the end of a hop's calibration, after which the hop settles (log 102), and
of the hop, and the loss of the synthesiser's lock (09 R202, R206–R212, R215, R219, R222; 01 R31, R32). -/
def Obligations.FrontEndReceives : Prop :=
  ∀ (s : State) (t : Nat),
    (∀ x : Int, s.rf.state = .rx → s.rf.inFrame = false → s.rf.hop = none → s.rf.run.getLast? = some ((s.setNow t).instant, x) → 2 * s.cfg.com.ccaThr < x →
      exec (.carrierDetect .ofState t) s = .next { s with clk := { s.clk with now := t }, rf := { s.rf with
        inFrame := true, divShort := false, win := if s.rf.act.diversity then some { openAt := (s.setNow t).instant } else none } }) ∧
    (s.rf.state ≠ .rx ∨ s.rf.inFrame = true ∨ s.rf.hop ≠ none ∨ (∀ x : Int, s.rf.run.getLast? = some ((s.setNow t).instant, x) → x ≤ 2 * s.cfg.com.ccaThr) →
      exec (.carrierDetect .ofState t) s = .next (s.setNow t)) ∧
    (∀ (w : DivWin) (sfd : Bool), s.rf.win = some w → sfd = true ∨ w.openAt + 16 * bitFs s.rf.act.rate ≤ (s.setNow t).instant →
      ∃ s', exec (.diversityWindowEnd .ofState sfd t) s = .next s' ∧ s'.rf.win = none ∧ s'.rf.divShort = sfd ∧
        s'.rf.kept = (if w.otherWins then !s.rf.kept else s.rf.kept) ∧ s'.rf.gain = s.rf.gain ∧
        s' = { s with clk := { s.clk with now := t }, rf := s'.rf }) ∧
    (∀ w : DivWin, s.rf.win = some w → (s.setNow t).instant < w.openAt + 16 * bitFs s.rf.act.rate →
      exec (.diversityWindowEnd .ofState false t) s = .next (s.setNow t)) ∧
    (∀ sfd : Bool, s.rf.win = none → exec (.diversityWindowEnd .ofState sfd t) s = .next ((s.setNow t).seeSfd sfd)) ∧
    (∀ rssi sat peak sfd iq, (s.setNow t).blockForms = false → exec (.rxBlock rssi sat peak sfd iq t) s = .next ((s.setNow t).seeSfd sfd)) ∧
    (∀ rssi sat peak iq, (s.setNow t).blockForms = true → s.rf.act.fixedGain = false → s.rf.frozen = false →
      ∃ s', exec (.rxBlock rssi sat peak false iq t) s = .next s' ∧ s'.rf.shadowGain = s'.rf.gain ∧
        s'.rf.gain = (if sat ∨ -30 < peak then s.rf.gain - 1 else if peak < -250 ∧ s.rf.gain < 5 then s.rf.gain + 1 else s.rf.gain) ∧
        s'.rf.satBlocks = (if sat then s.rf.satBlocks + 1 else s.rf.satBlocks) ∧ s'.rf.run = (s.rf.run ++ [((s.setNow t).instant, rssi)]).drop (s.rf.run.length - 5) ∧
        s'.cfg = s.cfg ∧ s'.com = s.com) ∧
    (∀ rssi sat peak iq, (s.setNow t).blockForms = true → s.rf.act.fixedGain = true → s.rf.frozen = false →
      ∃ s', exec (.rxBlock rssi sat peak false iq t) s = .next s' ∧ s'.rf.gain = s.rf.gain ∧ s'.rf.invalid = s.rf.invalid ∧
        s'.rf.shadowGain = agcNext s.rf.shadowGain sat peak ∧ s'.cfg = s.cfg) ∧
    (∀ rssi sat peak sfd iq, (s.setNow t).blockForms = true → s.rf.frozen = true ∨ (sfd = true ∧ s.rf.inFrame = true) →
      ∃ s', exec (.rxBlock rssi sat peak sfd iq t) s = .next s' ∧ s'.rf.frozen = true ∧ s'.rf.gain = s.rf.gain ∧ s'.rf.shadowGain = s.rf.shadowGain) ∧
    (∀ ok cal, s.rf.hop = none → exec (.hopSettleComplete ⟨ok, cal⟩ t) s = .next (s.setNow t)) ∧
    (∀ (c : Nat) (ok : Bool) (cal : SynthCal), s.rf.hop = some c → s.rf.hopCal = true → s.schedule = false →
      exec (.hopSettleComplete ⟨ok, cal⟩ t) s = .next (s.setNow t)) ∧
    (∀ (c : Nat) (ok : Bool) (cal : SynthCal), s.rf.hop = some c → c < 64 → s.rf.hopCal = true → s.schedule = true →
      ∃ s', exec (.hopSettleComplete ⟨ok, cal⟩ t) s = .next s' ∧ s'.rf.hop = some c ∧ s'.rf.hopCal = false ∧ s'.rf.chan = s.rf.chan ∧
        s'.rf.hops = s.rf.hops ∧ s'.rf.invalid = max s.rf.invalid ((s.setNow t).instant + basebandFs 48) ∧
        (ok = true →
          (s'.chan c).calValid = true ∧ (s'.chan c).band = cal.band ∧ (s'.chan c).calTemp = s.dieDegrees ∧ (s'.chan c).freq = (s.chan c).freq) ∧
        (ok = false → s'.cfg = s.cfg) ∧
        (s'.ev.srcs.getD Ev.rcalDone {}).count = (s.ev.srcs.getD Ev.rcalDone {}).count + 1 ∧
        (s'.ev.srcs.getD Ev.rcalFail {}).count = (s.ev.srcs.getD Ev.rcalFail {}).count + (if ok then 0 else 1)) ∧
    (∀ (c : Nat) (ok : Bool) (cal : SynthCal), s.rf.hop = some c → s.rf.hopCal = false → s.rf.hops = [] →
      ∃ s', exec (.hopSettleComplete ⟨ok, cal⟩ t) s = .next s' ∧ s'.rf.chan = c ∧ s'.rf.hop = none ∧ s'.rf.lock = true ∧ s'.cfg = s.cfg ∧ s'.ev = s.ev) ∧
    (∀ (c d : Nat) (r : List Nat) (ok : Bool) (cal : SynthCal), s.rf.hop = some c → s.rf.hopCal = false → s.rf.hops = d :: r → s.rfBusy = false →
      s.calRunning = false → s.pow.state = .run → s.pow.sleepEntry = false →
      ∃ s', exec (.hopSettleComplete ⟨ok, cal⟩ t) s = .next s' ∧ s'.rf.chan = c ∧ s'.rf.hop = some d ∧ s'.rf.hops = r) ∧
    (s.rf.state ≠ .tx → s.rf.inFrame = false →
      exec (.synthUnlock t) s = .next ({ s.setNow t with rf := { s.rf with lock := false } }.raiseFrom Ev.synthUnlock s.rf.chan)) ∧
    (s.rf.state ≠ .tx → s.rf.inFrame = true →
      ∃ s', exec (.synthUnlock t) s = .next s' ∧ s'.rf.inFrame = false ∧ s'.rf.dropped = s.rf.dropped + 1 ∧
        ((s.setNow t).crossesLate = false → (s'.ev.srcs.getD Ev.synthUnlock {}).count = (s.ev.srcs.getD Ev.synthUnlock {}).count + 1) ∧
        (s'.ev.srcs.getD Ev.rxDropped {}).count = (s.ev.srcs.getD Ev.rxDropped {}).count + 1) ∧
    (s.rf.state = .tx →
      ∃ s', exec (.synthUnlock t) s = .next s' ∧ s'.rf = { s.rf with lock := false, cut := true, tone := 0 } ∧ s'.com = s.com ∧
        ((s.setNow t).crossesLate = false → (s'.ev.srcs.getD Ev.synthUnlock {}).count = (s.ev.srcs.getD Ev.synthUnlock {}).count + 1))

/-- A transmission ends, whole or abandoned, radio calibrations fall due in the calibration slot, and one that ends leaves its result to the next boundary
(09 R213, R215–R219; 10 R241; 12 R284; 01 R18, R24, R32). -/
def Obligations.TransmissionsAndCalibrationsEnd : Prop :=
  ∀ (s : State) (t : Nat),
    (∀ rl, s.rf.state ≠ .tx → exec (.txFrameEnd rl t) s = .next (s.setNow t)) ∧
    (∀ rl, s.rf.state = .tx → s.rf.tone ≠ 0 → 10 * s.cfg.rf.rlThr ≤ rl → exec (.txFrameEnd rl t) s = .next (s.setNow t)) ∧
    (∀ (rl : Nat) (a : AirFrame), s.rf.state = .tx → s.rf.tone = 0 → s.rf.air = some a → s.rf.cut = false → s.rf.hostTx = none → s.com.onAir = none →
      ∃ s', exec (.txFrameEnd rl t) s = .next s' ∧ s'.rf.state ≠ .tx ∧ s'.rf.sent = s.rf.sent + 1 ∧
        s'.rf.txTime = s.rf.txTime + BitVec.ofNat 32 s.rf.airUs ∧ s'.rf.lastRl = some rl ∧ s'.host.staged = s.host.staged ∧ s'.com = s.com) ∧
    (∀ rl, s.rf.state = .tx → s.rf.tone = 0 → s.rf.air = none ∨ s.rf.cut = true → s.com.onAir = none →
      ∃ s', exec (.txFrameEnd rl t) s = .next s' ∧ s'.rf.state ≠ .tx ∧ s'.rf.sent = s.rf.sent ∧ s'.rf.lastRl = s.rf.lastRl ∧ s'.cfg = s.cfg ∧ s'.com = s.com) ∧
    (∀ (rl : Nat) (f : TxFrame) (a : AirFrame), s.rf.state = .tx → s.rf.tone = 0 → s.rf.air = some a → s.com.onAir = some f → f.kind = 1 →
      ∃ s', exec (.txFrameEnd rl t) s = .next s' ∧ s'.com.onAir = none ∧
        s'.com.cnt = { s.com.cnt with sent := if s.rf.cut then s.com.cnt.sent else s.com.cnt.sent + 1 } ∧
        s'.rf.sent = (if s.rf.cut then s.rf.sent else s.rf.sent + 1)) ∧
    (∀ (rl : Nat) (h : HostTx), s.rf.state = .tx → s.rf.tone = 0 → s.rf.hostTx = some h →
      ∃ (s' : State) (g : Staged), exec (.txFrameEnd rl t) s = .next s' ∧ s'.rf.hostTx = none ∧ s'.host.staged = s.host.staged ++ [g] ∧
        g.opcode = 0x6018 ∧ g.call.pen = h.pen ∧ g.call.tag = h.tag ∧ g.status = St.ok ∧ g.body = .bytes h.stamp) ∧
    (∀ c : Fin 4, s.schedule = false ∨ s.clk.slot ≠ 13 → exec (.radioCalDue c) s = .next s) ∧
    (∀ c : Fin 4, s.schedule = true → s.clk.slot = 13 → s.rf.lastCal.getD c.val none = none → (∀ j ∈ s.bg.calQueue, j.owner ≠ none ∨ c.val ∉ j.which) →
      exec (.radioCalDue c) s = .next { s with bg := { s.bg with calQueue := s.bg.calQueue ++ [{ which := [c.val] }] } }) ∧
    (∀ (c : Fin 4) (p : Int × Nat), s.rf.lastCal.getD c.val none = some p → (s.lp.onDie - p.1).natAbs < 1000 → s.clk.secIdx < p.2 + 900 →
      exec (.radioCalDue c) s = .next s) ∧
    (∀ (c : Fin 4) (p : Int × Nat), s.schedule = true → s.clk.slot = 13 → s.rf.lastCal.getD c.val none = some p →
      1000 ≤ (s.lp.onDie - p.1).natAbs ∨ p.2 + 900 ≤ s.clk.secIdx → (∀ j ∈ s.bg.calQueue, j.owner ≠ none ∨ c.val ∉ j.which) →
      exec (.radioCalDue c) s = .next { s with bg := { s.bg with calQueue := s.bg.calQueue ++ [{ which := [c.val] }] } }) ∧
    (∀ ok cal trim, s.schedule = false ∨ s.bg.calQueue = [] → exec (.radioCalibrationEnd ok ⟨cal, trim⟩ t) s = .next (s.setNow t)) ∧
    (∀ (ok : Bool) (cal : SynthCal) (trim : List Int) (j : CalJob) (r : List CalJob) (w : Nat), s.schedule = true → s.bg.calQueue = j :: r → j.which = [w] →
      j.started = true → j.left = 0 →
      ∃ s', exec (.radioCalibrationEnd ok ⟨cal, trim⟩ t) s = .next s' ∧ s'.bg.calQueue = r ∧
        s'.store.settling = s.store.settling ++ (j.owner.map fun o => (o, St.ok)).toList ∧
        s'.bg.calDone = s.bg.calDone ++ [{ kind := calKind w, entry := j.entry, ok := ok, cal := cal, trim := trim }] ∧
        s'.rf.lastCal = s.rf.lastCal ∧ s'.rf.trims = s.rf.trims ∧ s'.cfg = s.cfg ∧ s'.ev = s.ev) ∧
    (∀ (ok : Bool) (cal : SynthCal) (trim : List Int) (j : CalJob) (r : List CalJob) (w v : Nat) (ws : List Nat), s.schedule = true →
      s.bg.calQueue = j :: r → j.which = w :: v :: ws → j.started = true → j.left = 0 →
      ∃ s', exec (.radioCalibrationEnd ok ⟨cal, trim⟩ t) s = .next s' ∧ s'.bg.calQueue = { j with which := v :: ws, started := false } :: r ∧
        s'.bg.calDone = s.bg.calDone ++ [{ kind := calKind w, entry := j.entry, ok := ok, cal := cal, trim := trim }] ∧ s'.store = s.store ∧ s'.cfg = s.cfg) ∧
    (∀ (ok : Bool) (cal : SynthCal) (trim : List Int) (j : CalJob) (r : List CalJob), s.bg.calQueue = j :: r → j.started = false ∨ j.left ≠ 0 →
      exec (.radioCalibrationEnd ok ⟨cal, trim⟩ t) s = .next (s.setNow t))

/-- The commons MAC: what falls due in its slot, the loss of REFC, the channel assessment of the head of the queue, whose failure slot 7 answers with a backoff
or a skip, and what times out (10 R225, R226, R230, R232, R233, R241; 01 R17, R18). -/
def Obligations.CommonsMacQueuesAndTimesOut : Prop :=
  ∀ (s : State) (t : Nat),
    let n := s.clk.absFold.toNat
    let queued (c : Commons) (f : TxFrame) : Commons :=
      { c with queue := c.queue ++ [{ f with attempt := 1, fold := n, due := n, seq := c.seq.toNat }], seq := c.seq + 1 }
    let beacon : TxFrame := { kind := 1, body := [], attempt := 1, fold := 0, seq := 0 }
    let request (m : Nat) : TxFrame := { kind := 2, body := [], attempt := 1, fold := 0, seq := 0, dst := m }
    let response (o : Owed) : TxFrame :=
      { kind := 3, body := [], attempt := 1, fold := 0, seq := 0, dst := o.dst, reqSeq := o.reqSeq, t2 := o.t2Sec * 1000000000 + o.t2Ns }
    (s.slotDue 7 t = true → s.macRuns = false → exec (.commonsMacSlot t) s = .next (s.enterSlot 7 t)) ∧
    (s.slotDue 7 t = true → s.macRuns = true → s.com.inbox = [] → macQuiet s t → exec (.commonsMacSlot t) s = .next (s.enterSlot 7 t)) ∧
    (s.slotDue 7 t = true → s.macRuns = true → s.com.inbox = [] → s.com.lost = false → s.com.expect = none → s.com.requests = [] →
      s.com.ccaFold = none →
      (s.com.state = .master → s.deviceFold % s.periodFolds = s.cfg.com.beaconFold → s.com.reqFolds = [] → s.com.owed = [] →
        (∀ f ∈ s.com.queue ++ s.com.onAir.toList, f.kind = 1 → f.due ≠ n) →
        exec (.commonsMacSlot t) s = .next { s.enterSlot 7 t with com := queued s.com beacon }) ∧
      (∀ k m : Nat, s.com.state = .track → s.com.tracked = some m → s.com.reqFolds = [k] → k ≤ n → s.com.owed = [] →
        exec (.commonsMacSlot t) s = .next { s.enterSlot 7 t with com := { queued s.com (request m) with reqFolds := [] } }) ∧
      (∀ o : Owed, s.com.state ≠ .master ∨ s.deviceFold % s.periodFolds ≠ s.cfg.com.beaconFold → s.com.reqFolds = [] → s.com.owed = [o] → o.dueFold ≤ n →
        exec (.commonsMacSlot t) s = .next { s.enterSlot 7 t with com := { queued s.com (response o) with owed := [] } })) ∧
    (∀ (k : Nat) (f : TxFrame) (r : List TxFrame), s.slotDue 7 t = true → s.macRuns = true → s.com.inbox = [] →
      macQuiet { s with com := { s.com with ccaFold := none } } t → s.com.ccaFold = some k → s.com.queue = f :: r →
      (f.attempt < s.cfg.com.maxCca →
        ∃ (s' : State) (j : Nat), exec (.commonsMacSlot t) s = .next s' ∧ k < j ∧ j ≤ k + 31 ∧ s'.freeN = s.freeN + 1 ∧
          s'.com = { s.com with ccaFold := none, queue := { f with attempt := f.attempt + 1, fold := j } :: r }) ∧
      (s.cfg.com.maxCca ≤ f.attempt → f.kind = 1 →
        ∃ s', exec (.commonsMacSlot t) s = .next s' ∧
          s'.com = { s.com with ccaFold := none, queue := r, cnt := { s.com.cnt with skipped := s.com.cnt.skipped + 1 } } ∧
          (s'.ev.srcs.getD Ev.beaconSkipped {}).count = (s.ev.srcs.getD Ev.beaconSkipped {}).count + 1)) ∧
    (s.slotDue 7 t = true → s.macRuns = true → s.com.lost = true → s.com.state = .track → s.com.inbox = [] → s.com.ccaFold = none →
      (∀ h ∈ s.com.heard, s.com.tracked = some h.id ∨ s.stillHeard h = false) →
      ∃ s', exec (.commonsMacSlot t) s = .next s' ∧ s'.com.state = .search ∧ s'.com.tracked = none ∧ s'.com.lost = false ∧ s'.com.expect = none ∧
        (s'.cand 7).advNew = some 15 ∧ s'.cfg = s.cfg) ∧
    (s.schedule = false ∨ s.clk.slot ≠ 8 ∨ s.macRuns = false →
      exec .beaconDue s = .next s ∧ exec .delayReqDue s = .next s ∧ exec .delayRespDue s = .next s ∧ exec .exchangeTimeout s = .next s ∧
      exec (.beaconMissed t) s = .next (s.setNow t)) ∧
    (s.clk.slot = 8 → s.macRuns = true →
      (s.com.state = .master → s.deviceFold % s.periodFolds = s.cfg.com.beaconFold → (∀ f ∈ s.com.queue ++ s.com.onAir.toList, f.kind = 1 → f.due ≠ n) →
        exec .beaconDue s = .next { s with com := queued s.com beacon }) ∧
      (∀ k m, s.com.reqFolds = [k] → s.com.tracked = some m → k ≤ n → s.com.state = .track ∨ s.com.state = .master →
        exec .delayReqDue s = .next { s with com := { queued s.com (request m) with reqFolds := [] } }) ∧
      (∀ o : Owed, s.com.owed = [o] → o.dueFold ≤ n → exec .delayRespDue s = .next { s with com := { queued s.com (response o) with owed := [] } }) ∧
      (∀ r : Request, s.com.requests = [r] → r.fold + 400 ≤ n →
        exec .exchangeTimeout s
          = .next { s with com := { s.com with requests := [], cnt := { s.com.cnt with exRejected := s.com.cnt.exRejected + 1 } } })) ∧
    (s.com.state ≠ .master ∨ s.deviceFold % s.periodFolds ≠ s.cfg.com.beaconFold → exec .beaconDue s = .next s) ∧
    (s.com.reqFolds = [] → exec .delayReqDue s = .next s) ∧
    ((∀ o ∈ s.com.owed, n < o.dueFold) → exec .delayRespDue s = .next s) ∧
    ((∀ r ∈ s.com.requests, n < r.fold + 400) → exec .exchangeTimeout s = .next s) ∧
    (s.com.queue = [] ∨ (s.setNow t).ccaBlocks = none ∨ s.com.ccaFold ≠ none → exec (.ccaAttempt .ofState t) s = .next (s.setNow t)) ∧
    (∀ (f : TxFrame) (r : List TxFrame), s.com.queue = f :: r → (s.setNow t).mayCca f = false → exec (.ccaAttempt .ofState t) s = .next (s.setNow t)) ∧
    (∀ (sum : Int) (f : TxFrame) (r : List TxFrame), s.com.queue = f :: r → (s.setNow t).mayCca f = true → (s.setNow t).ccaBlocks = some sum →
      s.com.ccaFold = none →
      (sum < 12 * s.cfg.com.ccaThr →
        ∃ (s' : State) (g : TxFrame), exec (.ccaAttempt .ofState t) s = .next s' ∧ s'.com.queue = r ∧ s'.com.onAir = some g ∧ g.kind = f.kind ∧ g.seq = f.seq ∧
          s'.com.cnt = s.com.cnt ∧ s'.freeN = s.freeN ∧ (f.kind ≠ 2 → s'.com.requests = s.com.requests) ∧
          (f.kind = 2 → ∃ q, s'.com.requests = s.com.requests ++ [q] ∧ q.seq = f.seq ∧ q.master = f.dst) ∧
          s' = { s with clk := { s.clk with now := t }, com := s'.com }) ∧
      (12 * s.cfg.com.ccaThr ≤ sum →
        exec (.ccaAttempt .ofState t) s = .next { s.setNow t with com := { s.com with
          ccaFold := some n, cnt := { s.com.cnt with ccaFail := s.com.cnt.ccaFail + 1 } } })) ∧
    (∀ e q : Nat, s.com.expect = some (e, q) → s.macRuns = true → s.clk.slot = 8 → e + 4000000000000 ≤ (s.setNow t).instant →
      ∃ s', exec (.beaconMissed t) s = .next s' ∧ s'.com.cnt.missed = s.com.cnt.missed + 1 ∧
        s'.com.expect = some (e + s.periodFolds * foldFs, (q + 1) % 65536) ∧
        (s'.ev.srcs.getD Ev.beaconMissed {}).count = (s.ev.srcs.getD Ev.beaconMissed {}).count + 1) ∧
    ((∀ e q : Nat, s.com.expect = some (e, q) → (s.setNow t).instant < e + 4000000000000) → exec (.beaconMissed t) s = .next (s.setNow t))

/-- A received frame: header faults and a bad FCS end it, a good one is counted and waits for slot 7 (01 R17, R18), where the MAC's checks reject in their order,
and a frame that they take does what its TYPE says: a beacon is heard and its replay state kept, a request to a MASTER is owed a response, a matched response
gives D, and a management packet of MGMT_PEER joins pen 3's queue (09 R203, R220; 10 R232, R233, R236, R238–R240; 19 R432). -/
def Obligations.ReceivedFramesAreChecked : Prop :=
  ∀ (s : State) (t : Nat),
    (∀ f : RxFrame,
      (s.rf.state ≠ .rx → exec (.radioFrameReceived f t) s = .next (s.setNow t)) ∧
      (s.rf.state = .rx → f.modeSwitch = true ∨ 255 < f.length →
        ∃ s', exec (.radioFrameReceived f t) s = .next s' ∧ s'.rf.dropped = s.rf.dropped + 1 ∧ s'.rf.received = s.rf.received ∧ s'.com = s.com ∧
          s'.rf.inFrame = false) ∧
      (s.rf.state = .rx → f.modeSwitch = false → f.length ≤ 255 → f.fcsOk = false →
        ∃ s', exec (.radioFrameReceived f t) s = .next s' ∧ s'.rf.received = s.rf.received ∧ s'.rf.dropped = s.rf.dropped ∧ s'.com = s.com ∧ s'.ev = s.ev) ∧
      (frameHeard s f →
        ∃ s', exec (.radioFrameReceived f t) s = .next s' ∧ s'.rf.received = s.rf.received + 1 ∧ s'.ev = s.ev ∧ s'.host = s.host ∧
          (s.macListens = false → s'.com = s.com) ∧
          (s.macListens = true → s'.com = { s.com with inbox := s.com.inbox ++ [(s.setNow t).inbound ((s.setNow t).rxStamped f)] })) ∧
      (s.rf.state = .rx → f.modeSwitch = false → f.length ≤ 255 → f.fcsOk = true → s.test.commons.kind = 1 → s.test.commons.every = 0 →
        s.com.heldFrame = none →
        ∃ s', exec (.radioFrameReceived f t) s = .next s' ∧ s'.rf.received = s.rf.received ∧ s'.com = s.com ∧
          s'.test.commons.drop = s.test.commons.drop + 1 ∧ s'.test.commons.kind = 0)) ∧
    (∀ x : Inbound,
      let b := x.frame.psdu
      let src := fld b 4 4
      let seq := fld b 8 2
      let rx := x.rxFs / 1000000
      let empty : Commons := { s.com with inbox := [] }
      (frameMet s t x →
        (fld b 0 1 % 16 ≠ 1 ∨ fld b 0 1 < 16 ∨ 96 ≤ fld b 0 1 →
          exec (.commonsMacSlot t) s = .next { s.enterSlot 7 t with com := { empty with cnt := { s.com.cnt with badFrame := s.com.cnt.badFrame + 1 } } }) ∧
        (fld b 0 1 % 16 = 1 → 16 ≤ fld b 0 1 → fld b 0 1 < 96 →
          (fld b 2 2 ≠ s.cfg.com.netId →
            exec (.commonsMacSlot t) s = .next { s.enterSlot 7 t with com := { empty with cnt := { s.com.cnt with stranger := s.com.cnt.stranger + 1 } } }) ∧
          (fld b 2 2 = s.cfg.com.netId → s.com.key = none ∨ b.length < frameMin (fld b 0 1 / 16) →
            ∃ s', exec (.commonsMacSlot t) s = .next s' ∧ s'.com = { empty with cnt := { s.com.cnt with forged := s.com.cnt.forged + 1 } } ∧
              (s'.ev.srcs.getD Ev.forged {}).count = (s.ev.srcs.getD Ev.forged {}).count + 1 ∧ s'.cands = s.cands ∧ s'.host = s.host) ∧
          (∀ kind, frameTagged s b kind → s.com.fresh src seq (if kind = 1 then some (fld b 10 6) else none) = false →
            ∃ s', exec (.commonsMacSlot t) s = .next s' ∧ s'.com = { empty with cnt := { s.com.cnt with replay := s.com.cnt.replay + 1 } } ∧
              (s'.ev.srcs.getD Ev.replay {}).count = (s.ev.srcs.getD Ev.replay {}).count + 1 ∧ s'.cands = s.cands ∧ s'.host = s.host))) ∧
      (∀ kind, 2 ≤ kind → kind ≤ 5 → frameTaken s t x kind none → fld b 10 4 ≠ s.cfg.com.devId →
        exec (.commonsMacSlot t) s = .next { s.enterSlot 7 t with com := empty }) ∧
      (frameTaken s t x 1 (some (fld b 10 6)) → s.replayRoom src = true →
        ∃ s', exec (.commonsMacSlot t) s = .next s' ∧ s'.com.inbox = [] ∧ s'.com.rssi = some (divNear x.frame.rssi 2) ∧
          s'.com.cnt.accepted = s.com.cnt.accepted + 1 ∧
          (∃ h ∈ s'.com.heard, h.id = src ∧ h.grade = fld b 1 1 / 16 ∧ h.fold = s.clk.absFold.toNat ∧ h.unc = fld b 20 4) ∧
          (∃ r ∈ s'.com.replay, r.id = src ∧ r.seq = seq ∧ r.secs = some (fld b 10 6)) ∧
          (s'.com.tracked = some src → (s'.cand 7).advNew = some (fld b 1 1 / 16)) ∧ s'.host = s.host ∧ s'.cfg = s.cfg) ∧
      (frameTaken s t x 2 none → fld b 10 4 = s.cfg.com.devId → s.cfg.com.role = 1 → s.clk.absFold.toNat < x.at_.toNat / foldFs + 8 →
        (s.com.owed.length + ((s.com.queue ++ s.com.onAir.toList).filter fun y => y.kind = 3).length < 4 →
          ∃ (s' : State) (o : Owed), exec (.commonsMacSlot t) s = .next s' ∧ s'.com.owed = s.com.owed ++ [o] ∧ o.dst = src ∧ o.reqSeq = seq ∧
            o.t2Sec * 1000000000 + o.t2Ns = rx ∧ o.dueFold = x.at_.toNat / foldFs + 8 ∧ s'.com.cnt = s.com.cnt ∧ s'.com.queue = s.com.queue ∧
            s'.host = s.host ∧ s'.cfg = s.cfg) ∧
        (4 ≤ s.com.owed.length + ((s.com.queue ++ s.com.onAir.toList).filter fun y => y.kind = 3).length →
          ∃ s', exec (.commonsMacSlot t) s = .next s' ∧ s'.com.owed = s.com.owed ∧
            s'.com.cnt = { s.com.cnt with reqDropped := s.com.cnt.reqDropped + 1 })) ∧
      (∀ r : Request, frameTaken s t x 3 none → fld b 10 4 = s.cfg.com.devId → s.com.requests = [r] → r.seq = fld b 14 2 → r.master = src →
        let d : Fs := satFs (((x.rxFs : Int) - ((r.t1 + fld b 26 4) * 1000000 : Nat)) / 2)
        let far : Prop := s.com.dvals.length = 8 ∧ 50000 < (d - meanI s.com.dvals).natAbs
        (0 ≤ d → d ≤ 10000000 → ¬far →
          ∃ s', exec (.commonsMacSlot t) s = .next s' ∧ s'.com.requests = [] ∧ s'.com.dvals = (s.com.dvals ++ [d]).drop (s.com.dvals.length - 7) ∧
            s'.com.offset = satFs ((x.rxFs : Int) - ((fld b 16 6 * 1000000000 + fld b 22 4 + fld b 26 4) * 1000000 : Nat) - d) ∧
            s'.com.cnt = { s.com.cnt with exAccepted := s.com.cnt.exAccepted + 1 } ∧ s'.host = s.host) ∧
        (d < 0 ∨ 10000000 < d ∨ far →
          ∃ s', exec (.commonsMacSlot t) s = .next s' ∧ s'.com.requests = [] ∧ s'.com.dvals = s.com.dvals ∧
            s'.com.cnt = { s.com.cnt with exRejected := s.com.cnt.exRejected + 1 } ∧ s'.host = s.host)) ∧
      (let pkt := (b.drop 14).take (b.length - 18)
       frameTaken s t x 4 none → fld b 10 4 = s.cfg.com.devId → s.cfg.com.mgmtEn = true → s.cfg.com.role ≠ 3 → src = s.cfg.com.mgmtPeer →
       pkt.length = 10 + fld pkt 4 2 → crc16 (pkt.take (pkt.length - 2)) = fld pkt (pkt.length - 2) 2 → (s.penSt 3).state = .active → 0 < (s.io 3).free →
        ∃ (s' : State) (k : Packet), exec (.commonsMacSlot t) s = .next s' ∧ (s'.io 3).queue = (s.io 3).queue ++ [k] ∧ k.air = true ∧
          k.opcode = (parsePacket pkt).opcode ∧ k.call.params = (parsePacket pkt).call.params ∧ (s'.io 3).free = (s.io 3).free - 1 ∧
          s'.com.cnt = { s.com.cnt with mgmtServed := s.com.cnt.mgmtServed + 1 } ∧ s'.cfg = s.cfg ∧ s'.host.staged = s.host.staged))

/-- Frames of the drove sent and received: what leaves and when, what is forwarded, what waits for the drove slot, and how that slot judges and uses it (01
R17, R32; 11 R246–R252, R261; 19 R432). -/
def Obligations.DroveFramesAreSentAndJudged : Prop :=
  ∀ (s : State) (t : Nat),
    (∀ x, s.drv.state = .claim ∨ s.drv.state = .lead → t = markLag s.clk.inSec → s.drv.next = some x → x.fold = s.clk.absFold.toNat →
      ∃ s', exec (.leadFrameTransmit t) s = .next s' ∧ s'.drv.frame = (s.setNow t).ownFrame x ∧ s'.drv.tx = .own ∧ s'.drv.after = [] ∧ s'.drv.next = none ∧
        s'.drv.sentAt = (s.setNow t).instant ∧
        (∀ c, s.drv.cast = some c → s'.drv.cast =
          if x.cmd = false then some c else if 1 < c.left then some { c with left := c.left - 1 } else none) ∧
        (∃ a, s'.drv.sent = some (a, s.clk.absFold.toNat)) ∧ s' = { s with clk := { s.clk with now := t }, drv := s'.drv }) ∧
    ((s.drv.state ≠ .claim ∧ s.drv.state ≠ .lead) ∨ t ≠ markLag s.clk.inSec ∨ (∀ x ∈ s.drv.next, x.fold ≠ s.clk.absFold.toNat) →
      exec (.leadFrameTransmit t) s = .next (s.setNow t)) ∧
    (∀ w ok, s.drv.state = .off ∨ s.pow.held = true → exec (.droveFrameReceived w ok t) s = .next (s.setNow t)) ∧
    (∀ (w : List Sym) (ok : Bool), s.drv.state ≠ .off → s.pow.held = false →
      ∃ s', exec (.droveFrameReceived w ok t) s = .next s' ∧ s'.drv.state = s.drv.state ∧ s'.drv.accepted = s.drv.accepted ∧
        s'.drv.crcErrors = s.drv.crcErrors ∧ s'.cands = s.cands ∧ s'.ev = s.ev ∧ s'.tod = s.tod ∧ s'.lp = s.lp ∧ s'.drv.markIn = (s.setNow t).instant ∧
        (s.drv.tx = .forward →
          s'.drv.forwarded = forwardWords w s.drv.hopPs ∧ s'.drv.sentAt = (s.setNow t).instant + droveL * 1000 ∧ s'.drv.after = []) ∧
        (s.drv.tx ≠ .forward → s'.drv.forwarded = s.drv.forwarded ∧ s'.drv.sentAt = s.drv.sentAt ∧ s'.drv.after = s.drv.after) ∧
        (s.schedule = false → s'.drv.inbox = s.drv.inbox) ∧
        (s.schedule = true → s.test.drove.kind = 0 →
          let f : DrvRx := { words := w, codesOk := ok, tc := tdcCode (s.setNow t).instant }
          s'.drv.inbox = s.drv.inbox ++ [f] ++ (match s.drv.heldFrame with | some h => [{ h with fresh := false }] | none => []) ∧
            s'.drv.heldFrame = none)) ∧
    (∀ x : DrvRx, s.slotDue 9 t = true → s.drv.inbox = [x] → s.drv.trip = none →
      let w := symBytes x.words
      let empty := { s.enterSlot 9 t with drv := { s.drv with inbox := [] } }
      let good : Prop := framed x.words = true ∧ crcFault w = none ∧ x.codesOk = true ∧ (fld w 1 1 / 16 = 1 ∨ fld w 1 1 / 16 = 2)
      (s.drv.state = .member ∨ (s.drv.state = .listen ∧ (s.cfg.drv.prio = 255 ∨ s.drv.quiet < 16 + 4 * s.cfg.drv.prio)) →
        (framed x.words = false ∨ (crcFault w = none ∧ (x.codesOk = false ∨ (fld w 1 1 / 16 ≠ 1 ∧ fld w 1 1 / 16 ≠ 2))) →
          exec (.droveSlot .ofState t) s = .next empty) ∧
        (∀ k, framed x.words = true → crcFault w = some k →
          exec (.droveSlot .ofState t) s
            = .next (({ empty with drv := { empty.drv with crcErrors := s.drv.crcErrors + 1, crcRaised := true } }).raiseIf (!s.drv.crcRaised)
                Ev.drvCrcError k))) ∧
      (s.drv.state = .member ∨ s.drv.state = .listen → good →
        ∃ s', exec (.droveSlot .ofState t) s = .next s' ∧ s'.drv.state = .member ∧ s'.drv.accepted = s.drv.accepted + 1 ∧ s'.drv.lock = true ∧
          s'.drv.inbox = [] ∧ s'.drv.quiet = 0 ∧ s'.drv.hop = min 255 (fld w 49 1 + 1) ∧ s'.drv.leadId = fld w 4 4 ∧ s'.drv.grade = fld w 2 1 / 16 ∧
          s'.drv.acc = fld w 50 4 ∧ s'.drv.ringBroken = bit (fld w 1 1) 1 ∧ (s'.cand 6).advNew = some (fld w 2 1 / 16) ∧ s'.cfg = s.cfg ∧
          s'.tally = s.tally ∧ s'.outs = s.outs) ∧
      (s.drv.state = .claim ∨ s.drv.state = .lead → good →
        (fld w 4 4 ≠ s.cfg.drv.id →
          ∃ s', exec (.droveSlot .ofState t) s = .next s' ∧ s'.drv.state = s.drv.state ∧ s'.drv.forwarded = s.drv.forwarded ∧
            s'.drv.accepted = s.drv.accepted + 1 ∧ s'.drv.inbox = [] ∧
            (s'.drv.yield = true ↔ s.drv.yield = true ∨ s.cfg.drv.ring = false ∨
              rankOf (fld w 2 1 / 16) (fld w 3 1) (fld w 4 4) < rankOf s.leadGrade s.cfg.drv.prio s.cfg.drv.id)) ∧
        (∀ a b, fld w 4 4 = s.cfg.drv.id → s.drv.sent = some (a, b) →
          (a ≤ fld w 33 8 → fld w 33 8 ≤ b → s.drv.gotOwn = false →
            ∃ s', exec (.droveSlot .ofState t) s = .next s' ∧ s'.drv.returned = s.drv.returned + 1 ∧ s'.drv.sinceReturn = 0 ∧ s'.drv.acc = fld w 50 4 ∧
              s'.drv.state = (if s.cfg.drv.ring = true ∧ 7 ≤ s.drv.returned then .lead else s.drv.state)) ∧
          (fld w 33 8 < a ∨ b < fld w 33 8 →
            ∃ s', exec (.droveSlot .ofState t) s = .next s' ∧ s'.drv.returned = s.drv.returned ∧ s'.drv.state = s.drv.state ∧
              (s'.ev.srcs.getD Ev.drvIdClash {}).count = (s.ev.srcs.getD Ev.drvIdClash {}).count + 1))))

/-- Loss of word lock, from which REFD's window runs, and the timers of CLAIM, LEAD and the ring, which the drove task judges while the sequencer stands in
slot 9 (11 R250–R253; 02 R39; 01 R17, R18, R32). -/
def Obligations.DroveStatesTimeOut : Prop :=
  ∀ (s : State) (t : Nat),
    (∀ c, s.drv.lock = false → exec (.wordLockLoss ⟨c, t⟩) s = .next (s.setNow t)) ∧
    (s.drv.quiet < 16 → exec (.wordLockLoss ⟨.silence, t⟩) s = .next (s.setNow t)) ∧
    (∀ c, s.drv.lock = true → c ≠ .silence ∨ 16 ≤ s.drv.quiet → s.drv.state = .member →
      ∃ s', exec (.wordLockLoss ⟨c, t⟩) s = .next s' ∧ s'.drv.state = .listen ∧ s'.drv.tx = .breakWords ∧ s'.drv.lock = false ∧ s'.drv.quiet = 0 ∧
        (s'.ev.srcs.getD Ev.droveState {}).count = (s.ev.srcs.getD Ev.droveState {}).count + 1 ∧ (s'.cand 6).lastEdge = some (s.setNow t).instant) ∧
    (∀ c, s.drv.lock = true → c ≠ .silence ∨ 16 ≤ s.drv.quiet → s.drv.state = .claim ∨ s.drv.state = .lead →
      exec (.wordLockLoss ⟨c, t⟩) s
        = .next (({ s.setNow t with drv := { s.drv with lock := false } }).updCand 6 fun c => { c with lastEdge := some (s.setNow t).instant })) ∧
    (s.schedule = false ∨ s.clk.slot ≠ 10 →
      exec .claimTimeout s = .next s ∧ exec .leadTimeout s = .next s ∧ exec .ringReturnTimeout s = .next s) ∧
    (s.schedule = true → s.clk.slot = 10 → s.drv.state = .listen → s.cfg.drv.prio ≠ 255 → 16 + 4 * s.cfg.drv.prio ≤ s.drv.quiet →
      ∃ s', exec .claimTimeout s = .next s' ∧ s'.drv.state = .claim ∧ s'.drv.tx = .own ∧ s'.drv.hop = 0 ∧ s'.drv.quiet = 0 ∧
        s'.drv.ringBroken = false ∧ (s'.cand 6).advNew = some 15) ∧
    (s.drv.state ≠ .listen ∨ s.cfg.drv.prio = 255 ∨ s.drv.quiet < 16 + 4 * s.cfg.drv.prio → exec .claimTimeout s = .next s) ∧
    (s.schedule = true → s.clk.slot = 10 → s.drv.state = .claim → 64 ≤ s.drv.quiet →
      ∃ s', exec .leadTimeout s = .next s' ∧ s'.drv.state = .lead ∧ s'.drv.tx = .own ∧ s'.drv.hop = 0 ∧ (s'.cand 6).advNew = some 15 ∧
        (s'.ev.srcs.getD Ev.droveState {}).count = (s.ev.srcs.getD Ev.droveState {}).count + 1) ∧
    (s.drv.state ≠ .claim ∨ s.drv.quiet < 64 → exec .leadTimeout s = .next s) ∧
    (s.schedule = true → s.clk.slot = 10 → s.drv.state = .lead → s.cfg.drv.ring = true → s.drv.ringBroken = false → 16 ≤ s.drv.sinceReturn →
      exec .ringReturnTimeout s = .next ({ s with drv := { s.drv with ringBroken := true } }.raise Ev.drvRingBroken 0)) ∧
    (s.drv.state ≠ .lead ∨ s.cfg.drv.ring = false ∨ s.drv.ringBroken = true ∨ s.drv.sinceReturn < 16 → exec .ringReturnTimeout s = .next s)

/-- An echo is accepted within its bounds, in the folds of the own HOP, with one K28.7 sent at DRV_IN± and idle forwarded through its window, eight of them make
C, and each drove FREEZE due at the next boundary sets HELD there, over a HOLD staged before it (11 R254, R255, R262; 04 R82; 01 R21, R32). -/
def Obligations.EchoesAndDroveFreezes : Prop :=
  ∀ (s : State) (rt : Nat), let v : Int := divNear ((rt : Int) - 512000000) 2
    let out : Drove := { s.drv with
      inWords := [Sym.echo], after := if s.drv.tx = .forward then s.drv.after ++ idleWords 256 else s.drv.after }
    let mine : Prop := s.drv.state ≠ .off ∧ (s.drv.state ≠ .lead ∨ s.cfg.drv.ring = true) ∧ s.clk.inSec % 256 = s.drv.hop
    (s.drv.state = .off ∨ (s.drv.state = .lead ∧ s.cfg.drv.ring = false) ∨ s.clk.inSec % 256 ≠ s.drv.hop → exec (.echoMeasurement rt) s = .next s) ∧
    (mine → 0 ≤ v → v ≤ 500000000 → s.drv.echo.length < 8 →
      exec (.echoMeasurement rt) s
        = .next { s with drv := { out with echoOk := s.drv.echoOk + 1, echo := s.drv.echo ++ [v.toNat] } }) ∧
    (mine → 0 ≤ v → v ≤ 500000000 → s.drv.echo.length = 8 → (v - s.drv.c).natAbs ≤ 2000000 →
      exec (.echoMeasurement rt) s
        = .next { s with drv := { out with echoOk := s.drv.echoOk + 1, echo := s.drv.echo.drop 1 ++ [v.toNat] } }) ∧
    (mine → v < 0 ∨ 500000000 < v ∨ (s.drv.echo.length = 8 ∧ 2000000 < (v - s.drv.c).natAbs) →
      exec (.echoMeasurement rt) s
        = .next ({ s with drv := { out with echoBad := s.drv.echoBad + 1 } }.raise Ev.drvEchoFault (min (2 ^ 32 - 1) (rt / 1000000)))) ∧
    (∀ k ∈ s.drv.freezes, s.schedule = true → k ≤ s.clk.absFold.toNat + 1 →
      exec .droveFreezeTakesEffect s
        = .next { s with
            lp := { s.lp with holdCmd := some true, crookHold := true }
            drv := { s.drv with freezes := s.drv.freezes.filter fun k => s.clk.absFold.toNat + 1 < k }
            host := { s.host with staged := s.host.staged.map fun g => if g.opcode = 0x2032 then { g with commit := false } else g } }) ∧
    ((∀ k ∈ s.drv.freezes, s.clk.absFold.toNat + 1 < k) ∨ s.schedule = false → exec .droveFreezeTakesEffect s = .next s)

/-- A packet that the hardware passes and that comes to the interpreter at once is refused with BAD_PARAM where FLAGS or the reserved bytes are not zero, and
with BAD_OPCODE where its class is not its opcode's; it changes nothing but its credit (12 R278, R280; 13 R303). -/
def Obligations.WrongClassIsRefused : Prop :=
  ∀ (c : Instr) (op : BitVec 16) (cls : BitVec 2) (q : Call) (s : State), commandOf c = some (op, cls, q) →
    s.ifaceOpen = true → s.schedule = true → s.clk.slot ≤ 14 → ¬(q.pen = 3 ∧ s.cfg.com.mgmtEn = true) → (s.penSt q.pen).state = .active →
    0 < (s.io q.pen).free → (∀ p, (s.io p).queue = []) → s.host.begun = none →
    (q.flags ≠ 0 ∨ q.rsv ≠ 0 → exec c s = .next (s.answered q (refused op q St.badParam))) ∧
    (q.flags = 0 → q.rsv = 0 → q.cls ≠ cls → exec c s = .next (s.answered q (refused op q St.badOpcode)))

/-- The pass chooses among the eligible candidates by effective grade, then priority, keeps the bellwether on a tie, and takes the lowest index
otherwise; a force looks at its candidate only (03 R60–R62, R66–R70). -/
def Obligations.SelectorPassChoosesTheBest : Prop :=
  ∀ (s : State) (t : Nat), s.slotDue 4 t = true → ∃ s' r, exec (.referenceMonitorsSlot t) s = .next s' ∧ s'.sel.staged = some r ∧
    s'.sel.bell = s.sel.bell ∧ s'.sel.force = s.sel.force ∧ s'.cfg = s.cfg ∧ (s.sel.bell = none → s'.lp = s.lp) ∧ s'.tally = s.tally ∧ s'.outs = s.outs ∧
    (r.shadow = none ↔ ∀ i < 8, s'.eligible i = false) ∧
    (∀ b, r.shadow = some b → b < 8 ∧ s'.eligible b = true ∧
      (∀ i < 8, s'.eligible i = true → s'.egrade b < s'.egrade i ∨ (s'.egrade b = s'.egrade i ∧ (s'.refCfg b).prio ≤ (s'.refCfg i).prio)) ∧
      (∀ w, s.sel.bell = some w → s'.eligible w = true → s'.egrade w = s'.egrade b → (s'.refCfg w).prio = (s'.refCfg b).prio → b = w) ∧
      (s.sel.bell ≠ some b → ∀ i < b, s'.eligible i = true → ¬(s'.egrade i = s'.egrade b ∧ (s'.refCfg i).prio = (s'.refCfg b).prio))) ∧
    (s.sel.force = none → r.bell = r.shadow ∧ r.force = none ∧ (r.state = .auto ↔ r.bell ≠ none) ∧ (r.state = .none ↔ r.bell = none)) ∧
    (∀ f, s.sel.force = some f → r.force = some f ∧ (s'.eligible f = true → r.bell = some f ∧ r.state = .forced) ∧
      (s'.eligible f = false → r.bell = none ∧ r.state = .forcedInvalid))

/-- The group read above a settings opcode gives back the parameters that were committed (13 R302). -/
def Obligations.GroupWritesReadBack : Prop :=
  ∀ (q : Call) (s : State),
    let back (op rd : Nat) : Prop := readBytes rd q.params (commitOp (changes (BitVec.ofNat 16 op) q (.bytes [])) s).1 = q.params
    (VcoTerms q s → back 0x3010 0x3011) ∧ (PaddockTerms q s → back 0x3012 0x3013) ∧ (OutTerms q s → back 0x3014 0x3015) ∧ (MonTerms q s → back 0x3022 0x3023) ∧
    (AlignTerms q s → back 0x4010 0x4011) ∧ (TimeTerms q s → back 0x4014 0x4015) ∧ (SsctTerms q s → back 0x5010 0x5011) ∧ (RfTerms q s → back 0x6010 0x6011) ∧
    (CommonsTerms q s → back 0x7010 0x7011) ∧ (MgmtTerms q s → back 0x7012 0x7013) ∧ (DroveTerms q s → back 0x8010 0x8011) ∧ (PinTerms q s → back 0xB010 0xB011) ∧
    (RefInputTerms q s → back 0x1010 0x1011) ∧ (RefRankTerms q s → back 0x1014 0x1015)

/-- At a boundary of the running schedule the one staged command is posted: its reply stands last among its pen's replies, with the
command's tag, class and opcode, and for a command that only reads or is refused with its status (01 R23; 12 R283, R285). -/
def Obligations.StagedResultsArePosted : Prop :=
  ∀ (s : State) (m : BoundaryIn) (g : Staged), s.pow.held = false → s.pow.state ≠ .sleep → (s.pow.suspended = false ∨ (s.pow.resume = true ∧ s.pow.npfail = false)) →
    (s.pow.booting = true → s.pow.bootIn = 0) →
    s.host.staged = [g] → g.commit = false → g.air = false → (s.penSt g.call.pen).pinReset = 0 →
    ∃ s' r pre, exec (.foldBoundary m) s = .next s' ∧ s'.host.staged = [] ∧ (s'.io g.call.pen).replies = pre ++ [r] ∧
      r.tag = g.call.tag ∧ r.cls = g.call.cls ∧ r.opcode = g.opcode ∧ r.pen = g.call.pen ∧ r.status = g.status ∧
      (0x100 ≤ g.status.toNat → g.status.toNat ≠ 0x500 → r.data = []) ∧
      (∀ l, g.body = .bytes l → g.status.toNat < 0x100 → r.data = l)

/-- Settings that a packet staged are live after the boundary: the lock, the force, the monitor threshold, the locked pins, the
hold, the order to release the outputs, which go out where the APLL has been locked since an earlier boundary (01 R21, R23; 18 R419, log 90). -/
def Obligations.StagedChangesTakeEffect : Prop :=
  ∀ (s : State) (m : BoundaryIn) (q : Call), s.pow.held = false → s.pow.state ≠ .sleep → (s.pow.suspended = false ∨ (s.pow.resume = true ∧ s.pow.npfail = false)) →
    (s.pow.booting = true → s.pow.bootIn = 0) →
    (s.penSt q.pen).pinReset = 0 →
    let after (op : BitVec 16) (p : State → Prop) : Prop :=
      s.host.staged = [changes op q (.bytes [])] → ∃ s', exec (.foldBoundary m) s = .next s' ∧ p s'
    after 0xC014 (fun s' => s'.ownLock = true) ∧
    after 0x3022 (fun s' => s'.cfg.monFtol = fldI q.params 0 6 ∧ s'.shadow.monFtol = fldI q.params 0 6) ∧
    after 0x2010 (fun s' => s'.sel.force = if fld q.params 0 1 = 255 then none else some (fld q.params 0 1)) ∧
    after 0xB012 (fun s' => ∀ n < 24, (fld q.params 4 4).testBit n = true → (s'.pin n).locked = true) ∧
    after 0x2032 (fun s' => fld q.params 0 1 = 1 → s'.lp.held = true ∧ s'.lp.state = .holdover) ∧
    after 0x0003 (fun s' => s'.rel.ordered = true ∧
      (s.lp.aplLock = true → (∃ k, s.lp.lockFold = some k ∧ k < (s.clk.absFold + 1).toNat) → s'.rel.released = true))

/-- Every command is one step to a next state, and no command adds to the queue of waiting commands or takes from it (log 22, 25). -/
def Obligations.CommandsAnswerANextState : Prop :=
  ∀ (c : Instr) (s : State), ∃ s', exec c s = .next s' ∧ s'.pending = s.pending

/-- Every step keeps the flash in its canonical form: addresses strictly rise and no listed byte is the erased value. -/
def Obligations.StepKeepsFlashCanonical : Prop :=
  ∀ s s' : State, flashOk s.store.flash = true → step s = .next s' → flashOk s'.store.flash = true

/-- Every step keeps the ledger balanced: ENTERED = APPLIED + CANCELLED + OPEN modulo 2^64 for every source and every target (05 R127). -/
def Obligations.StepKeepsLedgerBalanced : Prop :=
  ∀ s s' : State, s.tally.balanced → step s = .next s' → s'.tally.balanced

/-- The absolute fold advances by one at a boundary and by the folds slept at a wake, returns to zero at a reset, and moves in no other way (01 R15). -/
def Obligations.OnlyBoundariesWakesAndResetsMoveTheFold : Prop :=
  ∀ (c : Instr) (s s' : State), exec c s = .next s' →
    (mayReset c = false → (∀ m, c ≠ .foldBoundary m) → (∀ ns x, c ≠ .wakeRequest ns x) → s'.clk.absFold = s.clk.absFold) ∧
    (mayReset c = true → s'.clk.absFold = s.clk.absFold ∨ s'.clk.absFold = 0) ∧
    (∀ m, c = .foldBoundary m → s'.clk.absFold = if s.pow.held || s.pow.state = .sleep then s.clk.absFold else s.clk.absFold + 1) ∧
    (∀ ns x, c = .wakeRequest ns x → s'.clk.absFold = s.clk.absFold ∨
      (s.pow.state = .sleep ∧ s.pow.held = false ∧ s'.clk.absFold = s.clk.absFold + BitVec.ofNat 64 ((s.clk.now + x) / foldFs)))

/-- Once the ownership table is locked, it stays locked through every command but a reset of the device (12 R290). -/
def Obligations.OwnershipLockLastsUntilReset : Prop :=
  ∀ (c : Instr) (s s' : State), s.ownLock = true → exec c s = .next s' → s'.ownLock = true ∨ (mayReset c = true ∧ s'.pow.held = true)

/-- The machine right after reset: what the chapters give as reset values (01 R15, 03 R66, 04 R78, 12 R285, R288, 14 R333, 18 R414). -/
def Obligations.ResetValues : Prop :=
  let s := State.reset
  s.clk.absFold = 0 ∧ s.pending = [] ∧ s.ownLock = false ∧ s.pow.held = false ∧ s.pow.state = .run ∧ s.sel.bell = none ∧ s.sel.state = .none ∧ s.sel.force = none ∧
    s.lp.state = .freerun ∧ s.lp.dco = 0 ∧ s.tally.entries = [] ∧ (∀ p : Pen, (s.io p).free = 8 ∧ (s.io p).queue = [] ∧ (s.io p).replies = [] ∧ (s.penSt p).state = .active) ∧
    (∀ i < 0x60, s.owner i = 0) ∧ (∀ i < 8, (s.cand i).qualified = false) ∧ flashOk s.store.flash = true ∧ s.tally.balanced

end
end

