-- ==== Sys2Proof/Laws/Flash.lean ====
section
/-! SUPPORT. The cells of the flash: reading after writing, and the canonical form that every operation keeps. -/

namespace Sys2Proof.Machine

/-- Every address of a list of cells lies above `a`. -/
def above (a : Nat) (m : List Host.Cell) : Prop := ∀ c ∈ m, a < c.1

/-- The form, one cell at a time. -/
theorem flashOk_cons (c : Host.Cell) (r : List Host.Cell) : flashOk (c :: r) = true ↔ c.2 ≠ flashErased ∧ above c.1 r ∧ flashOk r = true := by
  induction r generalizing c with
  | nil => simp [flashOk, above]
  | cons d t ih =>
    simp only [flashOk, Bool.and_eq_true, decide_eq_true_eq]
    rw [ih d]
    constructor
    · rintro ⟨⟨h1, h2⟩, h3, h4, h5⟩
      refine ⟨h1, ?_, h3, h4, h5⟩
      intro x hx
      rcases List.mem_cons.1 hx with rfl | hx
      · exact h2
      · exact Nat.lt_trans h2 (h4 x hx)
    · rintro ⟨h1, h2, h3, h4, h5⟩
      exact ⟨⟨h1, h2 d (List.mem_cons_self ..)⟩, h3, h4, h5⟩

@[simp] theorem flashOk_nil : flashOk [] = true := rfl

/-- A write adds no address but its own. -/
theorem flashWrite_mem (m : List Host.Cell) (a : Nat) (b : Byte) : ∀ c ∈ flashWrite m a b, c = (a, b) ∨ c ∈ m := by
  induction m with
  | nil => intro c; simp only [flashWrite]; split <;> simp
  | cons d r ih =>
    intro c hc
    simp only [flashWrite] at hc
    split at hc
    · split at hc
      · exact .inr hc
      · rcases List.mem_cons.1 hc with h | h
        · exact .inl h
        · exact .inr h
    · split at hc
      · split at hc
        · exact .inr (List.mem_cons_of_mem _ hc)
        · rcases List.mem_cons.1 hc with h | h
          · exact .inl h
          · exact .inr (List.mem_cons_of_mem _ h)
      · rcases List.mem_cons.1 hc with h | h
        · exact .inr (h ▸ List.mem_cons_self ..)
        · rcases ih c h with h | h
          · exact .inl h
          · exact .inr (List.mem_cons_of_mem _ h)

/-- A write keeps the form. -/
theorem flashWrite_ok (m : List Host.Cell) (a : Nat) (b : Byte) (h : flashOk m = true) : flashOk (flashWrite m a b) = true := by
  induction m with
  | nil =>
    simp only [flashWrite]
    split
    · rfl
    · simpa [flashOk_cons, above]
  | cons d r ih =>
    obtain ⟨h1, h2, h3⟩ := (flashOk_cons d r).1 h
    simp only [flashWrite]
    split
    · rename_i ha
      split
      · exact h
      · refine (flashOk_cons _ _).2 ⟨by simpa, ?_, h⟩
        intro x hx
        rcases List.mem_cons.1 hx with rfl | hx
        · exact ha
        · exact Nat.lt_trans ha (h2 x hx)
    · split
      · rename_i ha he
        split
        · exact h3
        · exact (flashOk_cons _ _).2 ⟨by simpa, fun x hx => he ▸ h2 x hx, h3⟩
      · rename_i ha he
        refine (flashOk_cons _ _).2 ⟨h1, ?_, ih h3⟩
        intro x hx
        rcases flashWrite_mem r a b x hx with rfl | hx
        · exact by show d.1 < a; omega
        · exact h2 x hx

/-- Programming keeps the form. -/
@[simp] theorem flashProgram_ok (l : List Byte) (m : List Host.Cell) (a : Nat) (h : flashOk m = true) : flashOk (flashProgram m a l) = true := by
  induction l generalizing m a with
  | nil => exact h
  | cons b r ih => exact ih _ _ (flashWrite_ok m a b h)

/-- Erasing keeps the form. -/
@[simp] theorem flashErase_ok (m : List Host.Cell) (lo hi : Nat) (h : flashOk m = true) : flashOk (flashErase m lo hi) = true := by
  induction m with
  | nil => rfl
  | cons c r ih =>
    obtain ⟨h1, h2, h3⟩ := (flashOk_cons c r).1 h
    unfold flashErase at ih ⊢
    rw [List.filter_cons]
    split
    · exact (flashOk_cons _ _).2 ⟨h1, fun x hx => h2 x (List.mem_of_mem_filter hx), ih h3⟩
    · exact ih h3

/-- An address below every cell reads as erased. -/
theorem flashRead_above (m : List Host.Cell) (a : Nat) (h : above a m) : flashRead m a = flashErased := by
  induction m with
  | nil => rfl
  | cons c r ih =>
    have hc : a < c.1 := h c (List.mem_cons_self ..)
    simp only [flashRead]
    rw [if_neg (by omega)]
    exact ih fun x hx => h x (List.mem_cons_of_mem _ hx)

/-- What a byte reads as after a write: the byte written at its address, what stood there elsewhere. -/
theorem flashRead_write (m : List Host.Cell) (a x : Nat) (b : Byte) (h : flashOk m = true) :
    flashRead (flashWrite m a b) x = if x = a then b else flashRead m x := by
  induction m with
  | nil =>
    simp only [flashWrite]
    split
    · rename_i hb; subst hb; simp only [flashRead]; split <;> rfl
    · simp only [flashRead]
      by_cases hx : x = a
      · subst hx; simp
      · rw [if_neg (fun e => hx e.symm), if_neg hx]
  | cons d r ih =>
    obtain ⟨h1, h2, h3⟩ := (flashOk_cons d r).1 h
    have above_d : ∀ y, y < d.1 → flashRead (d :: r) y = flashErased := fun y hy =>
      flashRead_above _ _ fun c hc => by
        rcases List.mem_cons.1 hc with rfl | hc
        · exact hy
        · exact Nat.lt_trans hy (h2 c hc)
    simp only [flashWrite]
    split
    · rename_i ha
      split
      · rename_i hb
        split
        · rename_i hx; subst hx; rw [hb]; exact above_d _ ha
        · rfl
      · simp only [flashRead]
        by_cases hx : x = a
        · subst hx; simp
        · rw [if_neg (fun e => hx e.symm), if_neg hx]
    · split
      · rename_i ha he
        split
        · rename_i hb
          by_cases hx : x = a
          · rw [if_pos hx, hb]; exact flashRead_above _ _ (by rw [hx, he]; exact h2)
          · rw [if_neg hx]; simp only [flashRead]; rw [if_neg (by omega)]
        · simp only [flashRead]
          by_cases hx : x = a
          · subst hx; simp
          · rw [if_neg (fun e => hx e.symm), if_neg hx, if_neg (by omega)]
      · rename_i ha he
        simp only [flashRead]
        by_cases hd : d.1 = x
        · rw [if_pos hd, if_neg (by omega), if_pos hd]
        · rw [if_neg hd, ih h3, if_neg hd]

/-- What a byte reads as after consecutive bytes are programmed: they stand at their addresses, and nothing else changes. -/
theorem flashRead_program (l : List Byte) (m : List Host.Cell) (a x : Nat) (h : flashOk m = true) :
    flashRead (flashProgram m a l) x = if a ≤ x ∧ x < a + l.length then l.getD (x - a) 0 else flashRead m x := by
  induction l generalizing m a with
  | nil => simp only [flashProgram, List.length_nil]; rw [if_neg (by omega)]
  | cons b r ih =>
    simp only [flashProgram, List.length_cons]
    rw [ih _ _ (flashWrite_ok m a b h), flashRead_write m a x b h]
    by_cases hx : x = a
    · subst hx; simp
    · by_cases h1 : a + 1 ≤ x ∧ x < a + 1 + r.length
      · rw [if_pos h1, if_pos (by omega)]
        obtain ⟨k, hk⟩ : ∃ k, x - a = k + 1 := ⟨x - a - 1, by omega⟩
        rw [hk, List.getD_cons_succ]; congr 1; omega
      · rw [if_neg h1, if_neg hx, if_neg (by omega)]

/-- An erased range reads as erased, and nothing else changes. -/
theorem flashRead_erase (m : List Host.Cell) (lo hi x : Nat) (h : flashOk m = true) :
    flashRead (flashErase m lo hi) x = if lo ≤ x ∧ x < hi then flashErased else flashRead m x := by
  induction m with
  | nil => simp [flashErase, flashRead]
  | cons c r ih =>
    obtain ⟨h1, h2, h3⟩ := (flashOk_cons c r).1 h
    unfold flashErase at ih ⊢
    rw [List.filter_cons]
    have ih := ih h3
    by_cases hk : c.1 < lo ∨ hi ≤ c.1
    · rw [if_pos (by simpa using hk)]
      simp only [flashRead]
      by_cases hc : c.1 = x
      · rw [if_pos hc, if_pos hc, if_neg (by omega)]
      · rw [if_neg hc, if_neg hc, ih]
    · rw [if_neg (by simpa using hk), ih]
      by_cases hx : lo ≤ x ∧ x < hi
      · rw [if_pos hx, if_pos hx]
      · rw [if_neg hx, if_neg hx]; simp only [flashRead]; rw [if_neg (by omega)]

end Sys2Proof.Machine
end

