-- ==== Sys2Proof/Laws/State.lean ====
section
/-! SUPPORT. What each update of a place leaves alone: one lemma per field per update, so that no later proof unfolds a record update. -/

namespace Sys2Proof.Machine

/-! ### setNow -/

@[simp] theorem State.setNow_pending (s : State) (t : Nat) : (s.setNow t).pending = s.pending := rfl
@[simp] theorem State.setNow_cfg (s : State) (t : Nat) : (s.setNow t).cfg = s.cfg := rfl
@[simp] theorem State.setNow_shadow (s : State) (t : Nat) : (s.setNow t).shadow = s.shadow := rfl
@[simp] theorem State.setNow_cands (s : State) (t : Nat) : (s.setNow t).cands = s.cands := rfl
@[simp] theorem State.setNow_tdc (s : State) (t : Nat) : (s.setNow t).tdc = s.tdc := rfl
@[simp] theorem State.setNow_sel (s : State) (t : Nat) : (s.setNow t).sel = s.sel := rfl
@[simp] theorem State.setNow_lp (s : State) (t : Nat) : (s.setNow t).lp = s.lp := rfl
@[simp] theorem State.setNow_mdl (s : State) (t : Nat) : (s.setNow t).mdl = s.mdl := rfl
@[simp] theorem State.setNow_tally (s : State) (t : Nat) : (s.setNow t).tally = s.tally := rfl
@[simp] theorem State.setNow_outs (s : State) (t : Nat) : (s.setNow t).outs = s.outs := rfl
@[simp] theorem State.setNow_rel (s : State) (t : Nat) : (s.setNow t).rel = s.rel := rfl
@[simp] theorem State.setNow_tod (s : State) (t : Nat) : (s.setNow t).tod = s.tod := rfl
@[simp] theorem State.setNow_ssct (s : State) (t : Nat) : (s.setNow t).ssct = s.ssct := rfl
@[simp] theorem State.setNow_rf (s : State) (t : Nat) : (s.setNow t).rf = s.rf := rfl
@[simp] theorem State.setNow_com (s : State) (t : Nat) : (s.setNow t).com = s.com := rfl
@[simp] theorem State.setNow_drv (s : State) (t : Nat) : (s.setNow t).drv = s.drv := rfl
@[simp] theorem State.setNow_host (s : State) (t : Nat) : (s.setNow t).host = s.host := rfl
@[simp] theorem State.setNow_pens (s : State) (t : Nat) : (s.setNow t).pens = s.pens := rfl
@[simp] theorem State.setNow_ownLock (s : State) (t : Nat) : (s.setNow t).ownLock = s.ownLock := rfl
@[simp] theorem State.setNow_ev (s : State) (t : Nat) : (s.setNow t).ev = s.ev := rfl
@[simp] theorem State.setNow_crook (s : State) (t : Nat) : (s.setNow t).crook = s.crook := rfl
@[simp] theorem State.setNow_store (s : State) (t : Nat) : (s.setNow t).store = s.store := rfl
@[simp] theorem State.setNow_bg (s : State) (t : Nat) : (s.setNow t).bg = s.bg := rfl
@[simp] theorem State.setNow_pins (s : State) (t : Nat) : (s.setNow t).pins = s.pins := rfl
@[simp] theorem State.setNow_pow (s : State) (t : Nat) : (s.setNow t).pow = s.pow := rfl
@[simp] theorem State.setNow_test (s : State) (t : Nat) : (s.setNow t).test = s.test := rfl
@[simp] theorem State.setNow_snap (s : State) (t : Nat) : (s.setNow t).snap = s.snap := rfl
@[simp] theorem State.setNow_freeN (s : State) (t : Nat) : (s.setNow t).freeN = s.freeN := rfl

/-! ### draw -/

@[simp] theorem State.draw_pending (s : State) : (s.draw).pending = s.pending := rfl
@[simp] theorem State.draw_clk (s : State) : (s.draw).clk = s.clk := rfl
@[simp] theorem State.draw_cfg (s : State) : (s.draw).cfg = s.cfg := rfl
@[simp] theorem State.draw_shadow (s : State) : (s.draw).shadow = s.shadow := rfl
@[simp] theorem State.draw_cands (s : State) : (s.draw).cands = s.cands := rfl
@[simp] theorem State.draw_tdc (s : State) : (s.draw).tdc = s.tdc := rfl
@[simp] theorem State.draw_sel (s : State) : (s.draw).sel = s.sel := rfl
@[simp] theorem State.draw_lp (s : State) : (s.draw).lp = s.lp := rfl
@[simp] theorem State.draw_mdl (s : State) : (s.draw).mdl = s.mdl := rfl
@[simp] theorem State.draw_tally (s : State) : (s.draw).tally = s.tally := rfl
@[simp] theorem State.draw_outs (s : State) : (s.draw).outs = s.outs := rfl
@[simp] theorem State.draw_rel (s : State) : (s.draw).rel = s.rel := rfl
@[simp] theorem State.draw_tod (s : State) : (s.draw).tod = s.tod := rfl
@[simp] theorem State.draw_ssct (s : State) : (s.draw).ssct = s.ssct := rfl
@[simp] theorem State.draw_rf (s : State) : (s.draw).rf = s.rf := rfl
@[simp] theorem State.draw_com (s : State) : (s.draw).com = s.com := rfl
@[simp] theorem State.draw_drv (s : State) : (s.draw).drv = s.drv := rfl
@[simp] theorem State.draw_host (s : State) : (s.draw).host = s.host := rfl
@[simp] theorem State.draw_pens (s : State) : (s.draw).pens = s.pens := rfl
@[simp] theorem State.draw_ownLock (s : State) : (s.draw).ownLock = s.ownLock := rfl
@[simp] theorem State.draw_ev (s : State) : (s.draw).ev = s.ev := rfl
@[simp] theorem State.draw_crook (s : State) : (s.draw).crook = s.crook := rfl
@[simp] theorem State.draw_store (s : State) : (s.draw).store = s.store := rfl
@[simp] theorem State.draw_bg (s : State) : (s.draw).bg = s.bg := rfl
@[simp] theorem State.draw_pins (s : State) : (s.draw).pins = s.pins := rfl
@[simp] theorem State.draw_pow (s : State) : (s.draw).pow = s.pow := rfl
@[simp] theorem State.draw_test (s : State) : (s.draw).test = s.test := rfl
@[simp] theorem State.draw_snap (s : State) : (s.draw).snap = s.snap := rfl

/-! ### updCand -/

@[simp] theorem State.updCand_pending (s : State) (i : Nat) (f : Cand → Cand) : (s.updCand i f).pending = s.pending := rfl
@[simp] theorem State.updCand_clk (s : State) (i : Nat) (f : Cand → Cand) : (s.updCand i f).clk = s.clk := rfl
@[simp] theorem State.updCand_cfg (s : State) (i : Nat) (f : Cand → Cand) : (s.updCand i f).cfg = s.cfg := rfl
@[simp] theorem State.updCand_shadow (s : State) (i : Nat) (f : Cand → Cand) : (s.updCand i f).shadow = s.shadow := rfl
@[simp] theorem State.updCand_tdc (s : State) (i : Nat) (f : Cand → Cand) : (s.updCand i f).tdc = s.tdc := rfl
@[simp] theorem State.updCand_sel (s : State) (i : Nat) (f : Cand → Cand) : (s.updCand i f).sel = s.sel := rfl
@[simp] theorem State.updCand_lp (s : State) (i : Nat) (f : Cand → Cand) : (s.updCand i f).lp = s.lp := rfl
@[simp] theorem State.updCand_mdl (s : State) (i : Nat) (f : Cand → Cand) : (s.updCand i f).mdl = s.mdl := rfl
@[simp] theorem State.updCand_tally (s : State) (i : Nat) (f : Cand → Cand) : (s.updCand i f).tally = s.tally := rfl
@[simp] theorem State.updCand_outs (s : State) (i : Nat) (f : Cand → Cand) : (s.updCand i f).outs = s.outs := rfl
@[simp] theorem State.updCand_rel (s : State) (i : Nat) (f : Cand → Cand) : (s.updCand i f).rel = s.rel := rfl
@[simp] theorem State.updCand_tod (s : State) (i : Nat) (f : Cand → Cand) : (s.updCand i f).tod = s.tod := rfl
@[simp] theorem State.updCand_ssct (s : State) (i : Nat) (f : Cand → Cand) : (s.updCand i f).ssct = s.ssct := rfl
@[simp] theorem State.updCand_rf (s : State) (i : Nat) (f : Cand → Cand) : (s.updCand i f).rf = s.rf := rfl
@[simp] theorem State.updCand_com (s : State) (i : Nat) (f : Cand → Cand) : (s.updCand i f).com = s.com := rfl
@[simp] theorem State.updCand_drv (s : State) (i : Nat) (f : Cand → Cand) : (s.updCand i f).drv = s.drv := rfl
@[simp] theorem State.updCand_host (s : State) (i : Nat) (f : Cand → Cand) : (s.updCand i f).host = s.host := rfl
@[simp] theorem State.updCand_pens (s : State) (i : Nat) (f : Cand → Cand) : (s.updCand i f).pens = s.pens := rfl
@[simp] theorem State.updCand_ownLock (s : State) (i : Nat) (f : Cand → Cand) : (s.updCand i f).ownLock = s.ownLock := rfl
@[simp] theorem State.updCand_ev (s : State) (i : Nat) (f : Cand → Cand) : (s.updCand i f).ev = s.ev := rfl
@[simp] theorem State.updCand_crook (s : State) (i : Nat) (f : Cand → Cand) : (s.updCand i f).crook = s.crook := rfl
@[simp] theorem State.updCand_store (s : State) (i : Nat) (f : Cand → Cand) : (s.updCand i f).store = s.store := rfl
@[simp] theorem State.updCand_bg (s : State) (i : Nat) (f : Cand → Cand) : (s.updCand i f).bg = s.bg := rfl
@[simp] theorem State.updCand_pins (s : State) (i : Nat) (f : Cand → Cand) : (s.updCand i f).pins = s.pins := rfl
@[simp] theorem State.updCand_pow (s : State) (i : Nat) (f : Cand → Cand) : (s.updCand i f).pow = s.pow := rfl
@[simp] theorem State.updCand_test (s : State) (i : Nat) (f : Cand → Cand) : (s.updCand i f).test = s.test := rfl
@[simp] theorem State.updCand_snap (s : State) (i : Nat) (f : Cand → Cand) : (s.updCand i f).snap = s.snap := rfl
@[simp] theorem State.updCand_freeN (s : State) (i : Nat) (f : Cand → Cand) : (s.updCand i f).freeN = s.freeN := rfl

/-! ### updOut -/

@[simp] theorem State.updOut_pending (s : State) (o : Nat) (f : Out → Out) : (s.updOut o f).pending = s.pending := rfl
@[simp] theorem State.updOut_clk (s : State) (o : Nat) (f : Out → Out) : (s.updOut o f).clk = s.clk := rfl
@[simp] theorem State.updOut_cfg (s : State) (o : Nat) (f : Out → Out) : (s.updOut o f).cfg = s.cfg := rfl
@[simp] theorem State.updOut_shadow (s : State) (o : Nat) (f : Out → Out) : (s.updOut o f).shadow = s.shadow := rfl
@[simp] theorem State.updOut_cands (s : State) (o : Nat) (f : Out → Out) : (s.updOut o f).cands = s.cands := rfl
@[simp] theorem State.updOut_tdc (s : State) (o : Nat) (f : Out → Out) : (s.updOut o f).tdc = s.tdc := rfl
@[simp] theorem State.updOut_sel (s : State) (o : Nat) (f : Out → Out) : (s.updOut o f).sel = s.sel := rfl
@[simp] theorem State.updOut_lp (s : State) (o : Nat) (f : Out → Out) : (s.updOut o f).lp = s.lp := rfl
@[simp] theorem State.updOut_mdl (s : State) (o : Nat) (f : Out → Out) : (s.updOut o f).mdl = s.mdl := rfl
@[simp] theorem State.updOut_tally (s : State) (o : Nat) (f : Out → Out) : (s.updOut o f).tally = s.tally := rfl
@[simp] theorem State.updOut_rel (s : State) (o : Nat) (f : Out → Out) : (s.updOut o f).rel = s.rel := rfl
@[simp] theorem State.updOut_tod (s : State) (o : Nat) (f : Out → Out) : (s.updOut o f).tod = s.tod := rfl
@[simp] theorem State.updOut_ssct (s : State) (o : Nat) (f : Out → Out) : (s.updOut o f).ssct = s.ssct := rfl
@[simp] theorem State.updOut_rf (s : State) (o : Nat) (f : Out → Out) : (s.updOut o f).rf = s.rf := rfl
@[simp] theorem State.updOut_com (s : State) (o : Nat) (f : Out → Out) : (s.updOut o f).com = s.com := rfl
@[simp] theorem State.updOut_drv (s : State) (o : Nat) (f : Out → Out) : (s.updOut o f).drv = s.drv := rfl
@[simp] theorem State.updOut_host (s : State) (o : Nat) (f : Out → Out) : (s.updOut o f).host = s.host := rfl
@[simp] theorem State.updOut_pens (s : State) (o : Nat) (f : Out → Out) : (s.updOut o f).pens = s.pens := rfl
@[simp] theorem State.updOut_ownLock (s : State) (o : Nat) (f : Out → Out) : (s.updOut o f).ownLock = s.ownLock := rfl
@[simp] theorem State.updOut_ev (s : State) (o : Nat) (f : Out → Out) : (s.updOut o f).ev = s.ev := rfl
@[simp] theorem State.updOut_crook (s : State) (o : Nat) (f : Out → Out) : (s.updOut o f).crook = s.crook := rfl
@[simp] theorem State.updOut_store (s : State) (o : Nat) (f : Out → Out) : (s.updOut o f).store = s.store := rfl
@[simp] theorem State.updOut_bg (s : State) (o : Nat) (f : Out → Out) : (s.updOut o f).bg = s.bg := rfl
@[simp] theorem State.updOut_pins (s : State) (o : Nat) (f : Out → Out) : (s.updOut o f).pins = s.pins := rfl
@[simp] theorem State.updOut_pow (s : State) (o : Nat) (f : Out → Out) : (s.updOut o f).pow = s.pow := rfl
@[simp] theorem State.updOut_test (s : State) (o : Nat) (f : Out → Out) : (s.updOut o f).test = s.test := rfl
@[simp] theorem State.updOut_snap (s : State) (o : Nat) (f : Out → Out) : (s.updOut o f).snap = s.snap := rfl
@[simp] theorem State.updOut_freeN (s : State) (o : Nat) (f : Out → Out) : (s.updOut o f).freeN = s.freeN := rfl

/-! ### updPin -/

@[simp] theorem State.updPin_pending (s : State) (n : Nat) (f : PinSt → PinSt) : (s.updPin n f).pending = s.pending := rfl
@[simp] theorem State.updPin_clk (s : State) (n : Nat) (f : PinSt → PinSt) : (s.updPin n f).clk = s.clk := rfl
@[simp] theorem State.updPin_cfg (s : State) (n : Nat) (f : PinSt → PinSt) : (s.updPin n f).cfg = s.cfg := rfl
@[simp] theorem State.updPin_shadow (s : State) (n : Nat) (f : PinSt → PinSt) : (s.updPin n f).shadow = s.shadow := rfl
@[simp] theorem State.updPin_cands (s : State) (n : Nat) (f : PinSt → PinSt) : (s.updPin n f).cands = s.cands := rfl
@[simp] theorem State.updPin_tdc (s : State) (n : Nat) (f : PinSt → PinSt) : (s.updPin n f).tdc = s.tdc := rfl
@[simp] theorem State.updPin_sel (s : State) (n : Nat) (f : PinSt → PinSt) : (s.updPin n f).sel = s.sel := rfl
@[simp] theorem State.updPin_lp (s : State) (n : Nat) (f : PinSt → PinSt) : (s.updPin n f).lp = s.lp := rfl
@[simp] theorem State.updPin_mdl (s : State) (n : Nat) (f : PinSt → PinSt) : (s.updPin n f).mdl = s.mdl := rfl
@[simp] theorem State.updPin_tally (s : State) (n : Nat) (f : PinSt → PinSt) : (s.updPin n f).tally = s.tally := rfl
@[simp] theorem State.updPin_outs (s : State) (n : Nat) (f : PinSt → PinSt) : (s.updPin n f).outs = s.outs := rfl
@[simp] theorem State.updPin_rel (s : State) (n : Nat) (f : PinSt → PinSt) : (s.updPin n f).rel = s.rel := rfl
@[simp] theorem State.updPin_tod (s : State) (n : Nat) (f : PinSt → PinSt) : (s.updPin n f).tod = s.tod := rfl
@[simp] theorem State.updPin_ssct (s : State) (n : Nat) (f : PinSt → PinSt) : (s.updPin n f).ssct = s.ssct := rfl
@[simp] theorem State.updPin_rf (s : State) (n : Nat) (f : PinSt → PinSt) : (s.updPin n f).rf = s.rf := rfl
@[simp] theorem State.updPin_com (s : State) (n : Nat) (f : PinSt → PinSt) : (s.updPin n f).com = s.com := rfl
@[simp] theorem State.updPin_drv (s : State) (n : Nat) (f : PinSt → PinSt) : (s.updPin n f).drv = s.drv := rfl
@[simp] theorem State.updPin_host (s : State) (n : Nat) (f : PinSt → PinSt) : (s.updPin n f).host = s.host := rfl
@[simp] theorem State.updPin_pens (s : State) (n : Nat) (f : PinSt → PinSt) : (s.updPin n f).pens = s.pens := rfl
@[simp] theorem State.updPin_ownLock (s : State) (n : Nat) (f : PinSt → PinSt) : (s.updPin n f).ownLock = s.ownLock := rfl
@[simp] theorem State.updPin_ev (s : State) (n : Nat) (f : PinSt → PinSt) : (s.updPin n f).ev = s.ev := rfl
@[simp] theorem State.updPin_crook (s : State) (n : Nat) (f : PinSt → PinSt) : (s.updPin n f).crook = s.crook := rfl
@[simp] theorem State.updPin_store (s : State) (n : Nat) (f : PinSt → PinSt) : (s.updPin n f).store = s.store := rfl
@[simp] theorem State.updPin_bg (s : State) (n : Nat) (f : PinSt → PinSt) : (s.updPin n f).bg = s.bg := rfl
@[simp] theorem State.updPin_pow (s : State) (n : Nat) (f : PinSt → PinSt) : (s.updPin n f).pow = s.pow := rfl
@[simp] theorem State.updPin_test (s : State) (n : Nat) (f : PinSt → PinSt) : (s.updPin n f).test = s.test := rfl
@[simp] theorem State.updPin_snap (s : State) (n : Nat) (f : PinSt → PinSt) : (s.updPin n f).snap = s.snap := rfl
@[simp] theorem State.updPin_freeN (s : State) (n : Nat) (f : PinSt → PinSt) : (s.updPin n f).freeN = s.freeN := rfl

/-! ### updIo -/

@[simp] theorem State.updIo_pending (s : State) (p : Pen) (f : PenIo → PenIo) : (s.updIo p f).pending = s.pending := rfl
@[simp] theorem State.updIo_clk (s : State) (p : Pen) (f : PenIo → PenIo) : (s.updIo p f).clk = s.clk := rfl
@[simp] theorem State.updIo_cfg (s : State) (p : Pen) (f : PenIo → PenIo) : (s.updIo p f).cfg = s.cfg := rfl
@[simp] theorem State.updIo_shadow (s : State) (p : Pen) (f : PenIo → PenIo) : (s.updIo p f).shadow = s.shadow := rfl
@[simp] theorem State.updIo_cands (s : State) (p : Pen) (f : PenIo → PenIo) : (s.updIo p f).cands = s.cands := rfl
@[simp] theorem State.updIo_tdc (s : State) (p : Pen) (f : PenIo → PenIo) : (s.updIo p f).tdc = s.tdc := rfl
@[simp] theorem State.updIo_sel (s : State) (p : Pen) (f : PenIo → PenIo) : (s.updIo p f).sel = s.sel := rfl
@[simp] theorem State.updIo_lp (s : State) (p : Pen) (f : PenIo → PenIo) : (s.updIo p f).lp = s.lp := rfl
@[simp] theorem State.updIo_mdl (s : State) (p : Pen) (f : PenIo → PenIo) : (s.updIo p f).mdl = s.mdl := rfl
@[simp] theorem State.updIo_tally (s : State) (p : Pen) (f : PenIo → PenIo) : (s.updIo p f).tally = s.tally := rfl
@[simp] theorem State.updIo_outs (s : State) (p : Pen) (f : PenIo → PenIo) : (s.updIo p f).outs = s.outs := rfl
@[simp] theorem State.updIo_rel (s : State) (p : Pen) (f : PenIo → PenIo) : (s.updIo p f).rel = s.rel := rfl
@[simp] theorem State.updIo_tod (s : State) (p : Pen) (f : PenIo → PenIo) : (s.updIo p f).tod = s.tod := rfl
@[simp] theorem State.updIo_ssct (s : State) (p : Pen) (f : PenIo → PenIo) : (s.updIo p f).ssct = s.ssct := rfl
@[simp] theorem State.updIo_rf (s : State) (p : Pen) (f : PenIo → PenIo) : (s.updIo p f).rf = s.rf := rfl
@[simp] theorem State.updIo_com (s : State) (p : Pen) (f : PenIo → PenIo) : (s.updIo p f).com = s.com := rfl
@[simp] theorem State.updIo_drv (s : State) (p : Pen) (f : PenIo → PenIo) : (s.updIo p f).drv = s.drv := rfl
@[simp] theorem State.updIo_pens (s : State) (p : Pen) (f : PenIo → PenIo) : (s.updIo p f).pens = s.pens := rfl
@[simp] theorem State.updIo_ownLock (s : State) (p : Pen) (f : PenIo → PenIo) : (s.updIo p f).ownLock = s.ownLock := rfl
@[simp] theorem State.updIo_ev (s : State) (p : Pen) (f : PenIo → PenIo) : (s.updIo p f).ev = s.ev := rfl
@[simp] theorem State.updIo_crook (s : State) (p : Pen) (f : PenIo → PenIo) : (s.updIo p f).crook = s.crook := rfl
@[simp] theorem State.updIo_store (s : State) (p : Pen) (f : PenIo → PenIo) : (s.updIo p f).store = s.store := rfl
@[simp] theorem State.updIo_bg (s : State) (p : Pen) (f : PenIo → PenIo) : (s.updIo p f).bg = s.bg := rfl
@[simp] theorem State.updIo_pins (s : State) (p : Pen) (f : PenIo → PenIo) : (s.updIo p f).pins = s.pins := rfl
@[simp] theorem State.updIo_pow (s : State) (p : Pen) (f : PenIo → PenIo) : (s.updIo p f).pow = s.pow := rfl
@[simp] theorem State.updIo_test (s : State) (p : Pen) (f : PenIo → PenIo) : (s.updIo p f).test = s.test := rfl
@[simp] theorem State.updIo_snap (s : State) (p : Pen) (f : PenIo → PenIo) : (s.updIo p f).snap = s.snap := rfl
@[simp] theorem State.updIo_freeN (s : State) (p : Pen) (f : PenIo → PenIo) : (s.updIo p f).freeN = s.freeN := rfl

/-! ### updPen -/

@[simp] theorem State.updPen_pending (s : State) (p : Pen) (f : PenSt → PenSt) : (s.updPen p f).pending = s.pending := rfl
@[simp] theorem State.updPen_clk (s : State) (p : Pen) (f : PenSt → PenSt) : (s.updPen p f).clk = s.clk := rfl
@[simp] theorem State.updPen_cfg (s : State) (p : Pen) (f : PenSt → PenSt) : (s.updPen p f).cfg = s.cfg := rfl
@[simp] theorem State.updPen_shadow (s : State) (p : Pen) (f : PenSt → PenSt) : (s.updPen p f).shadow = s.shadow := rfl
@[simp] theorem State.updPen_cands (s : State) (p : Pen) (f : PenSt → PenSt) : (s.updPen p f).cands = s.cands := rfl
@[simp] theorem State.updPen_tdc (s : State) (p : Pen) (f : PenSt → PenSt) : (s.updPen p f).tdc = s.tdc := rfl
@[simp] theorem State.updPen_sel (s : State) (p : Pen) (f : PenSt → PenSt) : (s.updPen p f).sel = s.sel := rfl
@[simp] theorem State.updPen_lp (s : State) (p : Pen) (f : PenSt → PenSt) : (s.updPen p f).lp = s.lp := rfl
@[simp] theorem State.updPen_mdl (s : State) (p : Pen) (f : PenSt → PenSt) : (s.updPen p f).mdl = s.mdl := rfl
@[simp] theorem State.updPen_tally (s : State) (p : Pen) (f : PenSt → PenSt) : (s.updPen p f).tally = s.tally := rfl
@[simp] theorem State.updPen_outs (s : State) (p : Pen) (f : PenSt → PenSt) : (s.updPen p f).outs = s.outs := rfl
@[simp] theorem State.updPen_rel (s : State) (p : Pen) (f : PenSt → PenSt) : (s.updPen p f).rel = s.rel := rfl
@[simp] theorem State.updPen_tod (s : State) (p : Pen) (f : PenSt → PenSt) : (s.updPen p f).tod = s.tod := rfl
@[simp] theorem State.updPen_ssct (s : State) (p : Pen) (f : PenSt → PenSt) : (s.updPen p f).ssct = s.ssct := rfl
@[simp] theorem State.updPen_rf (s : State) (p : Pen) (f : PenSt → PenSt) : (s.updPen p f).rf = s.rf := rfl
@[simp] theorem State.updPen_com (s : State) (p : Pen) (f : PenSt → PenSt) : (s.updPen p f).com = s.com := rfl
@[simp] theorem State.updPen_drv (s : State) (p : Pen) (f : PenSt → PenSt) : (s.updPen p f).drv = s.drv := rfl
@[simp] theorem State.updPen_host (s : State) (p : Pen) (f : PenSt → PenSt) : (s.updPen p f).host = s.host := rfl
@[simp] theorem State.updPen_ownLock (s : State) (p : Pen) (f : PenSt → PenSt) : (s.updPen p f).ownLock = s.ownLock := rfl
@[simp] theorem State.updPen_ev (s : State) (p : Pen) (f : PenSt → PenSt) : (s.updPen p f).ev = s.ev := rfl
@[simp] theorem State.updPen_crook (s : State) (p : Pen) (f : PenSt → PenSt) : (s.updPen p f).crook = s.crook := rfl
@[simp] theorem State.updPen_store (s : State) (p : Pen) (f : PenSt → PenSt) : (s.updPen p f).store = s.store := rfl
@[simp] theorem State.updPen_bg (s : State) (p : Pen) (f : PenSt → PenSt) : (s.updPen p f).bg = s.bg := rfl
@[simp] theorem State.updPen_pins (s : State) (p : Pen) (f : PenSt → PenSt) : (s.updPen p f).pins = s.pins := rfl
@[simp] theorem State.updPen_pow (s : State) (p : Pen) (f : PenSt → PenSt) : (s.updPen p f).pow = s.pow := rfl
@[simp] theorem State.updPen_test (s : State) (p : Pen) (f : PenSt → PenSt) : (s.updPen p f).test = s.test := rfl
@[simp] theorem State.updPen_snap (s : State) (p : Pen) (f : PenSt → PenSt) : (s.updPen p f).snap = s.snap := rfl
@[simp] theorem State.updPen_freeN (s : State) (p : Pen) (f : PenSt → PenSt) : (s.updPen p f).freeN = s.freeN := rfl

/-! ### updCrook -/

@[simp] theorem State.updCrook_pending (s : State) (p : Pen) (f : CrookPen → CrookPen) : (s.updCrook p f).pending = s.pending := rfl
@[simp] theorem State.updCrook_clk (s : State) (p : Pen) (f : CrookPen → CrookPen) : (s.updCrook p f).clk = s.clk := rfl
@[simp] theorem State.updCrook_cfg (s : State) (p : Pen) (f : CrookPen → CrookPen) : (s.updCrook p f).cfg = s.cfg := rfl
@[simp] theorem State.updCrook_shadow (s : State) (p : Pen) (f : CrookPen → CrookPen) : (s.updCrook p f).shadow = s.shadow := rfl
@[simp] theorem State.updCrook_cands (s : State) (p : Pen) (f : CrookPen → CrookPen) : (s.updCrook p f).cands = s.cands := rfl
@[simp] theorem State.updCrook_tdc (s : State) (p : Pen) (f : CrookPen → CrookPen) : (s.updCrook p f).tdc = s.tdc := rfl
@[simp] theorem State.updCrook_sel (s : State) (p : Pen) (f : CrookPen → CrookPen) : (s.updCrook p f).sel = s.sel := rfl
@[simp] theorem State.updCrook_lp (s : State) (p : Pen) (f : CrookPen → CrookPen) : (s.updCrook p f).lp = s.lp := rfl
@[simp] theorem State.updCrook_mdl (s : State) (p : Pen) (f : CrookPen → CrookPen) : (s.updCrook p f).mdl = s.mdl := rfl
@[simp] theorem State.updCrook_tally (s : State) (p : Pen) (f : CrookPen → CrookPen) : (s.updCrook p f).tally = s.tally := rfl
@[simp] theorem State.updCrook_outs (s : State) (p : Pen) (f : CrookPen → CrookPen) : (s.updCrook p f).outs = s.outs := rfl
@[simp] theorem State.updCrook_rel (s : State) (p : Pen) (f : CrookPen → CrookPen) : (s.updCrook p f).rel = s.rel := rfl
@[simp] theorem State.updCrook_tod (s : State) (p : Pen) (f : CrookPen → CrookPen) : (s.updCrook p f).tod = s.tod := rfl
@[simp] theorem State.updCrook_ssct (s : State) (p : Pen) (f : CrookPen → CrookPen) : (s.updCrook p f).ssct = s.ssct := rfl
@[simp] theorem State.updCrook_rf (s : State) (p : Pen) (f : CrookPen → CrookPen) : (s.updCrook p f).rf = s.rf := rfl
@[simp] theorem State.updCrook_com (s : State) (p : Pen) (f : CrookPen → CrookPen) : (s.updCrook p f).com = s.com := rfl
@[simp] theorem State.updCrook_drv (s : State) (p : Pen) (f : CrookPen → CrookPen) : (s.updCrook p f).drv = s.drv := rfl
@[simp] theorem State.updCrook_host (s : State) (p : Pen) (f : CrookPen → CrookPen) : (s.updCrook p f).host = s.host := rfl
@[simp] theorem State.updCrook_pens (s : State) (p : Pen) (f : CrookPen → CrookPen) : (s.updCrook p f).pens = s.pens := rfl
@[simp] theorem State.updCrook_ownLock (s : State) (p : Pen) (f : CrookPen → CrookPen) : (s.updCrook p f).ownLock = s.ownLock := rfl
@[simp] theorem State.updCrook_ev (s : State) (p : Pen) (f : CrookPen → CrookPen) : (s.updCrook p f).ev = s.ev := rfl
@[simp] theorem State.updCrook_store (s : State) (p : Pen) (f : CrookPen → CrookPen) : (s.updCrook p f).store = s.store := rfl
@[simp] theorem State.updCrook_bg (s : State) (p : Pen) (f : CrookPen → CrookPen) : (s.updCrook p f).bg = s.bg := rfl
@[simp] theorem State.updCrook_pins (s : State) (p : Pen) (f : CrookPen → CrookPen) : (s.updCrook p f).pins = s.pins := rfl
@[simp] theorem State.updCrook_pow (s : State) (p : Pen) (f : CrookPen → CrookPen) : (s.updCrook p f).pow = s.pow := rfl
@[simp] theorem State.updCrook_test (s : State) (p : Pen) (f : CrookPen → CrookPen) : (s.updCrook p f).test = s.test := rfl
@[simp] theorem State.updCrook_snap (s : State) (p : Pen) (f : CrookPen → CrookPen) : (s.updCrook p f).snap = s.snap := rfl
@[simp] theorem State.updCrook_freeN (s : State) (p : Pen) (f : CrookPen → CrookPen) : (s.updCrook p f).freeN = s.freeN := rfl

/-! ### updRefCfg -/

@[simp] theorem State.updRefCfg_pending (s : State) (i : Nat) (f : RefCfg → RefCfg) : (s.updRefCfg i f).pending = s.pending := rfl
@[simp] theorem State.updRefCfg_clk (s : State) (i : Nat) (f : RefCfg → RefCfg) : (s.updRefCfg i f).clk = s.clk := rfl
@[simp] theorem State.updRefCfg_shadow (s : State) (i : Nat) (f : RefCfg → RefCfg) : (s.updRefCfg i f).shadow = s.shadow := rfl
@[simp] theorem State.updRefCfg_cands (s : State) (i : Nat) (f : RefCfg → RefCfg) : (s.updRefCfg i f).cands = s.cands := rfl
@[simp] theorem State.updRefCfg_tdc (s : State) (i : Nat) (f : RefCfg → RefCfg) : (s.updRefCfg i f).tdc = s.tdc := rfl
@[simp] theorem State.updRefCfg_sel (s : State) (i : Nat) (f : RefCfg → RefCfg) : (s.updRefCfg i f).sel = s.sel := rfl
@[simp] theorem State.updRefCfg_lp (s : State) (i : Nat) (f : RefCfg → RefCfg) : (s.updRefCfg i f).lp = s.lp := rfl
@[simp] theorem State.updRefCfg_mdl (s : State) (i : Nat) (f : RefCfg → RefCfg) : (s.updRefCfg i f).mdl = s.mdl := rfl
@[simp] theorem State.updRefCfg_tally (s : State) (i : Nat) (f : RefCfg → RefCfg) : (s.updRefCfg i f).tally = s.tally := rfl
@[simp] theorem State.updRefCfg_outs (s : State) (i : Nat) (f : RefCfg → RefCfg) : (s.updRefCfg i f).outs = s.outs := rfl
@[simp] theorem State.updRefCfg_rel (s : State) (i : Nat) (f : RefCfg → RefCfg) : (s.updRefCfg i f).rel = s.rel := rfl
@[simp] theorem State.updRefCfg_tod (s : State) (i : Nat) (f : RefCfg → RefCfg) : (s.updRefCfg i f).tod = s.tod := rfl
@[simp] theorem State.updRefCfg_ssct (s : State) (i : Nat) (f : RefCfg → RefCfg) : (s.updRefCfg i f).ssct = s.ssct := rfl
@[simp] theorem State.updRefCfg_rf (s : State) (i : Nat) (f : RefCfg → RefCfg) : (s.updRefCfg i f).rf = s.rf := rfl
@[simp] theorem State.updRefCfg_com (s : State) (i : Nat) (f : RefCfg → RefCfg) : (s.updRefCfg i f).com = s.com := rfl
@[simp] theorem State.updRefCfg_drv (s : State) (i : Nat) (f : RefCfg → RefCfg) : (s.updRefCfg i f).drv = s.drv := rfl
@[simp] theorem State.updRefCfg_host (s : State) (i : Nat) (f : RefCfg → RefCfg) : (s.updRefCfg i f).host = s.host := rfl
@[simp] theorem State.updRefCfg_pens (s : State) (i : Nat) (f : RefCfg → RefCfg) : (s.updRefCfg i f).pens = s.pens := rfl
@[simp] theorem State.updRefCfg_ownLock (s : State) (i : Nat) (f : RefCfg → RefCfg) : (s.updRefCfg i f).ownLock = s.ownLock := rfl
@[simp] theorem State.updRefCfg_ev (s : State) (i : Nat) (f : RefCfg → RefCfg) : (s.updRefCfg i f).ev = s.ev := rfl
@[simp] theorem State.updRefCfg_crook (s : State) (i : Nat) (f : RefCfg → RefCfg) : (s.updRefCfg i f).crook = s.crook := rfl
@[simp] theorem State.updRefCfg_store (s : State) (i : Nat) (f : RefCfg → RefCfg) : (s.updRefCfg i f).store = s.store := rfl
@[simp] theorem State.updRefCfg_bg (s : State) (i : Nat) (f : RefCfg → RefCfg) : (s.updRefCfg i f).bg = s.bg := rfl
@[simp] theorem State.updRefCfg_pins (s : State) (i : Nat) (f : RefCfg → RefCfg) : (s.updRefCfg i f).pins = s.pins := rfl
@[simp] theorem State.updRefCfg_pow (s : State) (i : Nat) (f : RefCfg → RefCfg) : (s.updRefCfg i f).pow = s.pow := rfl
@[simp] theorem State.updRefCfg_test (s : State) (i : Nat) (f : RefCfg → RefCfg) : (s.updRefCfg i f).test = s.test := rfl
@[simp] theorem State.updRefCfg_snap (s : State) (i : Nat) (f : RefCfg → RefCfg) : (s.updRefCfg i f).snap = s.snap := rfl
@[simp] theorem State.updRefCfg_freeN (s : State) (i : Nat) (f : RefCfg → RefCfg) : (s.updRefCfg i f).freeN = s.freeN := rfl

/-! ### updOutCfg -/

@[simp] theorem State.updOutCfg_pending (s : State) (o : Nat) (f : OutCfg → OutCfg) : (s.updOutCfg o f).pending = s.pending := rfl
@[simp] theorem State.updOutCfg_clk (s : State) (o : Nat) (f : OutCfg → OutCfg) : (s.updOutCfg o f).clk = s.clk := rfl
@[simp] theorem State.updOutCfg_shadow (s : State) (o : Nat) (f : OutCfg → OutCfg) : (s.updOutCfg o f).shadow = s.shadow := rfl
@[simp] theorem State.updOutCfg_cands (s : State) (o : Nat) (f : OutCfg → OutCfg) : (s.updOutCfg o f).cands = s.cands := rfl
@[simp] theorem State.updOutCfg_tdc (s : State) (o : Nat) (f : OutCfg → OutCfg) : (s.updOutCfg o f).tdc = s.tdc := rfl
@[simp] theorem State.updOutCfg_sel (s : State) (o : Nat) (f : OutCfg → OutCfg) : (s.updOutCfg o f).sel = s.sel := rfl
@[simp] theorem State.updOutCfg_lp (s : State) (o : Nat) (f : OutCfg → OutCfg) : (s.updOutCfg o f).lp = s.lp := rfl
@[simp] theorem State.updOutCfg_mdl (s : State) (o : Nat) (f : OutCfg → OutCfg) : (s.updOutCfg o f).mdl = s.mdl := rfl
@[simp] theorem State.updOutCfg_tally (s : State) (o : Nat) (f : OutCfg → OutCfg) : (s.updOutCfg o f).tally = s.tally := rfl
@[simp] theorem State.updOutCfg_outs (s : State) (o : Nat) (f : OutCfg → OutCfg) : (s.updOutCfg o f).outs = s.outs := rfl
@[simp] theorem State.updOutCfg_rel (s : State) (o : Nat) (f : OutCfg → OutCfg) : (s.updOutCfg o f).rel = s.rel := rfl
@[simp] theorem State.updOutCfg_tod (s : State) (o : Nat) (f : OutCfg → OutCfg) : (s.updOutCfg o f).tod = s.tod := rfl
@[simp] theorem State.updOutCfg_ssct (s : State) (o : Nat) (f : OutCfg → OutCfg) : (s.updOutCfg o f).ssct = s.ssct := rfl
@[simp] theorem State.updOutCfg_rf (s : State) (o : Nat) (f : OutCfg → OutCfg) : (s.updOutCfg o f).rf = s.rf := rfl
@[simp] theorem State.updOutCfg_com (s : State) (o : Nat) (f : OutCfg → OutCfg) : (s.updOutCfg o f).com = s.com := rfl
@[simp] theorem State.updOutCfg_drv (s : State) (o : Nat) (f : OutCfg → OutCfg) : (s.updOutCfg o f).drv = s.drv := rfl
@[simp] theorem State.updOutCfg_host (s : State) (o : Nat) (f : OutCfg → OutCfg) : (s.updOutCfg o f).host = s.host := rfl
@[simp] theorem State.updOutCfg_pens (s : State) (o : Nat) (f : OutCfg → OutCfg) : (s.updOutCfg o f).pens = s.pens := rfl
@[simp] theorem State.updOutCfg_ownLock (s : State) (o : Nat) (f : OutCfg → OutCfg) : (s.updOutCfg o f).ownLock = s.ownLock := rfl
@[simp] theorem State.updOutCfg_ev (s : State) (o : Nat) (f : OutCfg → OutCfg) : (s.updOutCfg o f).ev = s.ev := rfl
@[simp] theorem State.updOutCfg_crook (s : State) (o : Nat) (f : OutCfg → OutCfg) : (s.updOutCfg o f).crook = s.crook := rfl
@[simp] theorem State.updOutCfg_store (s : State) (o : Nat) (f : OutCfg → OutCfg) : (s.updOutCfg o f).store = s.store := rfl
@[simp] theorem State.updOutCfg_bg (s : State) (o : Nat) (f : OutCfg → OutCfg) : (s.updOutCfg o f).bg = s.bg := rfl
@[simp] theorem State.updOutCfg_pins (s : State) (o : Nat) (f : OutCfg → OutCfg) : (s.updOutCfg o f).pins = s.pins := rfl
@[simp] theorem State.updOutCfg_pow (s : State) (o : Nat) (f : OutCfg → OutCfg) : (s.updOutCfg o f).pow = s.pow := rfl
@[simp] theorem State.updOutCfg_test (s : State) (o : Nat) (f : OutCfg → OutCfg) : (s.updOutCfg o f).test = s.test := rfl
@[simp] theorem State.updOutCfg_snap (s : State) (o : Nat) (f : OutCfg → OutCfg) : (s.updOutCfg o f).snap = s.snap := rfl
@[simp] theorem State.updOutCfg_freeN (s : State) (o : Nat) (f : OutCfg → OutCfg) : (s.updOutCfg o f).freeN = s.freeN := rfl

/-! ### setCfg -/

@[simp] theorem State.setCfg_pending (s : State) (c : Settings) : (s.setCfg c).pending = s.pending := rfl
@[simp] theorem State.setCfg_clk (s : State) (c : Settings) : (s.setCfg c).clk = s.clk := rfl
@[simp] theorem State.setCfg_shadow (s : State) (c : Settings) : (s.setCfg c).shadow = s.shadow := rfl
@[simp] theorem State.setCfg_cands (s : State) (c : Settings) : (s.setCfg c).cands = s.cands := rfl
@[simp] theorem State.setCfg_tdc (s : State) (c : Settings) : (s.setCfg c).tdc = s.tdc := rfl
@[simp] theorem State.setCfg_sel (s : State) (c : Settings) : (s.setCfg c).sel = s.sel := rfl
@[simp] theorem State.setCfg_lp (s : State) (c : Settings) : (s.setCfg c).lp = s.lp := rfl
@[simp] theorem State.setCfg_mdl (s : State) (c : Settings) : (s.setCfg c).mdl = s.mdl := rfl
@[simp] theorem State.setCfg_tally (s : State) (c : Settings) : (s.setCfg c).tally = s.tally := rfl
@[simp] theorem State.setCfg_outs (s : State) (c : Settings) : (s.setCfg c).outs = s.outs := rfl
@[simp] theorem State.setCfg_rel (s : State) (c : Settings) : (s.setCfg c).rel = s.rel := rfl
@[simp] theorem State.setCfg_tod (s : State) (c : Settings) : (s.setCfg c).tod = s.tod := rfl
@[simp] theorem State.setCfg_ssct (s : State) (c : Settings) : (s.setCfg c).ssct = s.ssct := rfl
@[simp] theorem State.setCfg_rf (s : State) (c : Settings) : (s.setCfg c).rf = s.rf := rfl
@[simp] theorem State.setCfg_com (s : State) (c : Settings) : (s.setCfg c).com = s.com := rfl
@[simp] theorem State.setCfg_drv (s : State) (c : Settings) : (s.setCfg c).drv = s.drv := rfl
@[simp] theorem State.setCfg_host (s : State) (c : Settings) : (s.setCfg c).host = s.host := rfl
@[simp] theorem State.setCfg_pens (s : State) (c : Settings) : (s.setCfg c).pens = s.pens := rfl
@[simp] theorem State.setCfg_ownLock (s : State) (c : Settings) : (s.setCfg c).ownLock = s.ownLock := rfl
@[simp] theorem State.setCfg_ev (s : State) (c : Settings) : (s.setCfg c).ev = s.ev := rfl
@[simp] theorem State.setCfg_crook (s : State) (c : Settings) : (s.setCfg c).crook = s.crook := rfl
@[simp] theorem State.setCfg_store (s : State) (c : Settings) : (s.setCfg c).store = s.store := rfl
@[simp] theorem State.setCfg_bg (s : State) (c : Settings) : (s.setCfg c).bg = s.bg := rfl
@[simp] theorem State.setCfg_pins (s : State) (c : Settings) : (s.setCfg c).pins = s.pins := rfl
@[simp] theorem State.setCfg_pow (s : State) (c : Settings) : (s.setCfg c).pow = s.pow := rfl
@[simp] theorem State.setCfg_test (s : State) (c : Settings) : (s.setCfg c).test = s.test := rfl
@[simp] theorem State.setCfg_snap (s : State) (c : Settings) : (s.setCfg c).snap = s.snap := rfl
@[simp] theorem State.setCfg_freeN (s : State) (c : Settings) : (s.setCfg c).freeN = s.freeN := rfl

/-! ### raiseAt -/

@[simp] theorem State.raiseAt_pending (s : State) (id detail fold ns : Nat) : (s.raiseAt id detail fold ns).pending = s.pending := rfl
@[simp] theorem State.raiseAt_clk (s : State) (id detail fold ns : Nat) : (s.raiseAt id detail fold ns).clk = s.clk := rfl
@[simp] theorem State.raiseAt_cfg (s : State) (id detail fold ns : Nat) : (s.raiseAt id detail fold ns).cfg = s.cfg := rfl
@[simp] theorem State.raiseAt_shadow (s : State) (id detail fold ns : Nat) : (s.raiseAt id detail fold ns).shadow = s.shadow := rfl
@[simp] theorem State.raiseAt_cands (s : State) (id detail fold ns : Nat) : (s.raiseAt id detail fold ns).cands = s.cands := rfl
@[simp] theorem State.raiseAt_tdc (s : State) (id detail fold ns : Nat) : (s.raiseAt id detail fold ns).tdc = s.tdc := rfl
@[simp] theorem State.raiseAt_sel (s : State) (id detail fold ns : Nat) : (s.raiseAt id detail fold ns).sel = s.sel := rfl
@[simp] theorem State.raiseAt_lp (s : State) (id detail fold ns : Nat) : (s.raiseAt id detail fold ns).lp = s.lp := rfl
@[simp] theorem State.raiseAt_mdl (s : State) (id detail fold ns : Nat) : (s.raiseAt id detail fold ns).mdl = s.mdl := rfl
@[simp] theorem State.raiseAt_tally (s : State) (id detail fold ns : Nat) : (s.raiseAt id detail fold ns).tally = s.tally := rfl
@[simp] theorem State.raiseAt_outs (s : State) (id detail fold ns : Nat) : (s.raiseAt id detail fold ns).outs = s.outs := rfl
@[simp] theorem State.raiseAt_rel (s : State) (id detail fold ns : Nat) : (s.raiseAt id detail fold ns).rel = s.rel := rfl
@[simp] theorem State.raiseAt_tod (s : State) (id detail fold ns : Nat) : (s.raiseAt id detail fold ns).tod = s.tod := rfl
@[simp] theorem State.raiseAt_ssct (s : State) (id detail fold ns : Nat) : (s.raiseAt id detail fold ns).ssct = s.ssct := rfl
@[simp] theorem State.raiseAt_rf (s : State) (id detail fold ns : Nat) : (s.raiseAt id detail fold ns).rf = s.rf := rfl
@[simp] theorem State.raiseAt_com (s : State) (id detail fold ns : Nat) : (s.raiseAt id detail fold ns).com = s.com := rfl
@[simp] theorem State.raiseAt_drv (s : State) (id detail fold ns : Nat) : (s.raiseAt id detail fold ns).drv = s.drv := rfl
@[simp] theorem State.raiseAt_host (s : State) (id detail fold ns : Nat) : (s.raiseAt id detail fold ns).host = s.host := rfl
@[simp] theorem State.raiseAt_pens (s : State) (id detail fold ns : Nat) : (s.raiseAt id detail fold ns).pens = s.pens := rfl
@[simp] theorem State.raiseAt_ownLock (s : State) (id detail fold ns : Nat) : (s.raiseAt id detail fold ns).ownLock = s.ownLock := rfl
@[simp] theorem State.raiseAt_crook (s : State) (id detail fold ns : Nat) : (s.raiseAt id detail fold ns).crook = s.crook := rfl
@[simp] theorem State.raiseAt_store (s : State) (id detail fold ns : Nat) : (s.raiseAt id detail fold ns).store = s.store := rfl
@[simp] theorem State.raiseAt_bg (s : State) (id detail fold ns : Nat) : (s.raiseAt id detail fold ns).bg = s.bg := rfl
@[simp] theorem State.raiseAt_pins (s : State) (id detail fold ns : Nat) : (s.raiseAt id detail fold ns).pins = s.pins := rfl
@[simp] theorem State.raiseAt_pow (s : State) (id detail fold ns : Nat) : (s.raiseAt id detail fold ns).pow = s.pow := rfl
@[simp] theorem State.raiseAt_test (s : State) (id detail fold ns : Nat) : (s.raiseAt id detail fold ns).test = s.test := rfl
@[simp] theorem State.raiseAt_snap (s : State) (id detail fold ns : Nat) : (s.raiseAt id detail fold ns).snap = s.snap := rfl
@[simp] theorem State.raiseAt_freeN (s : State) (id detail fold ns : Nat) : (s.raiseAt id detail fold ns).freeN = s.freeN := rfl

/-! ### raise -/

@[simp] theorem State.raise_pending (s : State) (id detail : Nat) : (s.raise id detail).pending = s.pending := rfl
@[simp] theorem State.raise_clk (s : State) (id detail : Nat) : (s.raise id detail).clk = s.clk := rfl
@[simp] theorem State.raise_cfg (s : State) (id detail : Nat) : (s.raise id detail).cfg = s.cfg := rfl
@[simp] theorem State.raise_shadow (s : State) (id detail : Nat) : (s.raise id detail).shadow = s.shadow := rfl
@[simp] theorem State.raise_cands (s : State) (id detail : Nat) : (s.raise id detail).cands = s.cands := rfl
@[simp] theorem State.raise_tdc (s : State) (id detail : Nat) : (s.raise id detail).tdc = s.tdc := rfl
@[simp] theorem State.raise_sel (s : State) (id detail : Nat) : (s.raise id detail).sel = s.sel := rfl
@[simp] theorem State.raise_lp (s : State) (id detail : Nat) : (s.raise id detail).lp = s.lp := rfl
@[simp] theorem State.raise_mdl (s : State) (id detail : Nat) : (s.raise id detail).mdl = s.mdl := rfl
@[simp] theorem State.raise_tally (s : State) (id detail : Nat) : (s.raise id detail).tally = s.tally := rfl
@[simp] theorem State.raise_outs (s : State) (id detail : Nat) : (s.raise id detail).outs = s.outs := rfl
@[simp] theorem State.raise_rel (s : State) (id detail : Nat) : (s.raise id detail).rel = s.rel := rfl
@[simp] theorem State.raise_tod (s : State) (id detail : Nat) : (s.raise id detail).tod = s.tod := rfl
@[simp] theorem State.raise_ssct (s : State) (id detail : Nat) : (s.raise id detail).ssct = s.ssct := rfl
@[simp] theorem State.raise_rf (s : State) (id detail : Nat) : (s.raise id detail).rf = s.rf := rfl
@[simp] theorem State.raise_com (s : State) (id detail : Nat) : (s.raise id detail).com = s.com := rfl
@[simp] theorem State.raise_drv (s : State) (id detail : Nat) : (s.raise id detail).drv = s.drv := rfl
@[simp] theorem State.raise_host (s : State) (id detail : Nat) : (s.raise id detail).host = s.host := rfl
@[simp] theorem State.raise_pens (s : State) (id detail : Nat) : (s.raise id detail).pens = s.pens := rfl
@[simp] theorem State.raise_ownLock (s : State) (id detail : Nat) : (s.raise id detail).ownLock = s.ownLock := rfl
@[simp] theorem State.raise_crook (s : State) (id detail : Nat) : (s.raise id detail).crook = s.crook := rfl
@[simp] theorem State.raise_store (s : State) (id detail : Nat) : (s.raise id detail).store = s.store := rfl
@[simp] theorem State.raise_bg (s : State) (id detail : Nat) : (s.raise id detail).bg = s.bg := rfl
@[simp] theorem State.raise_pins (s : State) (id detail : Nat) : (s.raise id detail).pins = s.pins := rfl
@[simp] theorem State.raise_pow (s : State) (id detail : Nat) : (s.raise id detail).pow = s.pow := rfl
@[simp] theorem State.raise_test (s : State) (id detail : Nat) : (s.raise id detail).test = s.test := rfl
@[simp] theorem State.raise_snap (s : State) (id detail : Nat) : (s.raise id detail).snap = s.snap := rfl
@[simp] theorem State.raise_freeN (s : State) (id detail : Nat) : (s.raise id detail).freeN = s.freeN := rfl

/-! ### capture -/

@[simp] theorem State.capture_pending (s : State) (ch t : Nat) : (s.capture ch t).pending = s.pending := rfl
@[simp] theorem State.capture_clk (s : State) (ch t : Nat) : (s.capture ch t).clk = s.clk := rfl
@[simp] theorem State.capture_cfg (s : State) (ch t : Nat) : (s.capture ch t).cfg = s.cfg := rfl
@[simp] theorem State.capture_shadow (s : State) (ch t : Nat) : (s.capture ch t).shadow = s.shadow := rfl
@[simp] theorem State.capture_cands (s : State) (ch t : Nat) : (s.capture ch t).cands = s.cands := rfl
@[simp] theorem State.capture_sel (s : State) (ch t : Nat) : (s.capture ch t).sel = s.sel := rfl
@[simp] theorem State.capture_lp (s : State) (ch t : Nat) : (s.capture ch t).lp = s.lp := rfl
@[simp] theorem State.capture_mdl (s : State) (ch t : Nat) : (s.capture ch t).mdl = s.mdl := rfl
@[simp] theorem State.capture_tally (s : State) (ch t : Nat) : (s.capture ch t).tally = s.tally := rfl
@[simp] theorem State.capture_outs (s : State) (ch t : Nat) : (s.capture ch t).outs = s.outs := rfl
@[simp] theorem State.capture_rel (s : State) (ch t : Nat) : (s.capture ch t).rel = s.rel := rfl
@[simp] theorem State.capture_tod (s : State) (ch t : Nat) : (s.capture ch t).tod = s.tod := rfl
@[simp] theorem State.capture_ssct (s : State) (ch t : Nat) : (s.capture ch t).ssct = s.ssct := rfl
@[simp] theorem State.capture_rf (s : State) (ch t : Nat) : (s.capture ch t).rf = s.rf := rfl
@[simp] theorem State.capture_com (s : State) (ch t : Nat) : (s.capture ch t).com = s.com := rfl
@[simp] theorem State.capture_drv (s : State) (ch t : Nat) : (s.capture ch t).drv = s.drv := rfl
@[simp] theorem State.capture_host (s : State) (ch t : Nat) : (s.capture ch t).host = s.host := rfl
@[simp] theorem State.capture_pens (s : State) (ch t : Nat) : (s.capture ch t).pens = s.pens := rfl
@[simp] theorem State.capture_ownLock (s : State) (ch t : Nat) : (s.capture ch t).ownLock = s.ownLock := rfl
@[simp] theorem State.capture_ev (s : State) (ch t : Nat) : (s.capture ch t).ev = s.ev := rfl
@[simp] theorem State.capture_crook (s : State) (ch t : Nat) : (s.capture ch t).crook = s.crook := rfl
@[simp] theorem State.capture_store (s : State) (ch t : Nat) : (s.capture ch t).store = s.store := rfl
@[simp] theorem State.capture_bg (s : State) (ch t : Nat) : (s.capture ch t).bg = s.bg := rfl
@[simp] theorem State.capture_pins (s : State) (ch t : Nat) : (s.capture ch t).pins = s.pins := rfl
@[simp] theorem State.capture_pow (s : State) (ch t : Nat) : (s.capture ch t).pow = s.pow := rfl
@[simp] theorem State.capture_test (s : State) (ch t : Nat) : (s.capture ch t).test = s.test := rfl
@[simp] theorem State.capture_snap (s : State) (ch t : Nat) : (s.capture ch t).snap = s.snap := rfl
@[simp] theorem State.capture_freeN (s : State) (ch t : Nat) : (s.capture ch t).freeN = s.freeN := rfl

/-! ### freezeInFold -/

@[simp] theorem State.freezeInFold_pending (s : State) : (s.freezeInFold).pending = s.pending := rfl
@[simp] theorem State.freezeInFold_clk (s : State) : (s.freezeInFold).clk = s.clk := rfl
@[simp] theorem State.freezeInFold_cfg (s : State) : (s.freezeInFold).cfg = s.cfg := rfl
@[simp] theorem State.freezeInFold_shadow (s : State) : (s.freezeInFold).shadow = s.shadow := rfl
@[simp] theorem State.freezeInFold_cands (s : State) : (s.freezeInFold).cands = s.cands := rfl
@[simp] theorem State.freezeInFold_tdc (s : State) : (s.freezeInFold).tdc = s.tdc := rfl
@[simp] theorem State.freezeInFold_sel (s : State) : (s.freezeInFold).sel = s.sel := rfl
@[simp] theorem State.freezeInFold_mdl (s : State) : (s.freezeInFold).mdl = s.mdl := rfl
@[simp] theorem State.freezeInFold_tally (s : State) : (s.freezeInFold).tally = s.tally := rfl
@[simp] theorem State.freezeInFold_outs (s : State) : (s.freezeInFold).outs = s.outs := rfl
@[simp] theorem State.freezeInFold_rel (s : State) : (s.freezeInFold).rel = s.rel := rfl
@[simp] theorem State.freezeInFold_tod (s : State) : (s.freezeInFold).tod = s.tod := rfl
@[simp] theorem State.freezeInFold_ssct (s : State) : (s.freezeInFold).ssct = s.ssct := rfl
@[simp] theorem State.freezeInFold_rf (s : State) : (s.freezeInFold).rf = s.rf := rfl
@[simp] theorem State.freezeInFold_com (s : State) : (s.freezeInFold).com = s.com := rfl
@[simp] theorem State.freezeInFold_drv (s : State) : (s.freezeInFold).drv = s.drv := rfl
@[simp] theorem State.freezeInFold_host (s : State) : (s.freezeInFold).host = s.host := rfl
@[simp] theorem State.freezeInFold_pens (s : State) : (s.freezeInFold).pens = s.pens := rfl
@[simp] theorem State.freezeInFold_ownLock (s : State) : (s.freezeInFold).ownLock = s.ownLock := rfl
@[simp] theorem State.freezeInFold_ev (s : State) : (s.freezeInFold).ev = s.ev := rfl
@[simp] theorem State.freezeInFold_crook (s : State) : (s.freezeInFold).crook = s.crook := rfl
@[simp] theorem State.freezeInFold_store (s : State) : (s.freezeInFold).store = s.store := rfl
@[simp] theorem State.freezeInFold_bg (s : State) : (s.freezeInFold).bg = s.bg := rfl
@[simp] theorem State.freezeInFold_pins (s : State) : (s.freezeInFold).pins = s.pins := rfl
@[simp] theorem State.freezeInFold_pow (s : State) : (s.freezeInFold).pow = s.pow := rfl
@[simp] theorem State.freezeInFold_test (s : State) : (s.freezeInFold).test = s.test := rfl
@[simp] theorem State.freezeInFold_snap (s : State) : (s.freezeInFold).snap = s.snap := rfl
@[simp] theorem State.freezeInFold_freeN (s : State) : (s.freezeInFold).freeN = s.freeN := rfl

/-! ### raiseFrom -/

@[simp] theorem State.raiseFrom_pending (s : State) (id detail : Nat) : (s.raiseFrom id detail).pending = s.pending := by unfold State.raiseFrom; split <;> rfl
@[simp] theorem State.raiseFrom_clk (s : State) (id detail : Nat) : (s.raiseFrom id detail).clk = s.clk := by unfold State.raiseFrom; split <;> rfl
@[simp] theorem State.raiseFrom_cfg (s : State) (id detail : Nat) : (s.raiseFrom id detail).cfg = s.cfg := by unfold State.raiseFrom; split <;> rfl
@[simp] theorem State.raiseFrom_shadow (s : State) (id detail : Nat) : (s.raiseFrom id detail).shadow = s.shadow := by unfold State.raiseFrom; split <;> rfl
@[simp] theorem State.raiseFrom_cands (s : State) (id detail : Nat) : (s.raiseFrom id detail).cands = s.cands := by unfold State.raiseFrom; split <;> rfl
@[simp] theorem State.raiseFrom_tdc (s : State) (id detail : Nat) : (s.raiseFrom id detail).tdc = s.tdc := by unfold State.raiseFrom; split <;> rfl
@[simp] theorem State.raiseFrom_sel (s : State) (id detail : Nat) : (s.raiseFrom id detail).sel = s.sel := by unfold State.raiseFrom; split <;> rfl
@[simp] theorem State.raiseFrom_lp (s : State) (id detail : Nat) : (s.raiseFrom id detail).lp = s.lp := by unfold State.raiseFrom; split <;> rfl
@[simp] theorem State.raiseFrom_mdl (s : State) (id detail : Nat) : (s.raiseFrom id detail).mdl = s.mdl := by unfold State.raiseFrom; split <;> rfl
@[simp] theorem State.raiseFrom_tally (s : State) (id detail : Nat) : (s.raiseFrom id detail).tally = s.tally := by unfold State.raiseFrom; split <;> rfl
@[simp] theorem State.raiseFrom_outs (s : State) (id detail : Nat) : (s.raiseFrom id detail).outs = s.outs := by unfold State.raiseFrom; split <;> rfl
@[simp] theorem State.raiseFrom_rel (s : State) (id detail : Nat) : (s.raiseFrom id detail).rel = s.rel := by unfold State.raiseFrom; split <;> rfl
@[simp] theorem State.raiseFrom_tod (s : State) (id detail : Nat) : (s.raiseFrom id detail).tod = s.tod := by unfold State.raiseFrom; split <;> rfl
@[simp] theorem State.raiseFrom_ssct (s : State) (id detail : Nat) : (s.raiseFrom id detail).ssct = s.ssct := by unfold State.raiseFrom; split <;> rfl
@[simp] theorem State.raiseFrom_rf (s : State) (id detail : Nat) : (s.raiseFrom id detail).rf = s.rf := by unfold State.raiseFrom; split <;> rfl
@[simp] theorem State.raiseFrom_com (s : State) (id detail : Nat) : (s.raiseFrom id detail).com = s.com := by unfold State.raiseFrom; split <;> rfl
@[simp] theorem State.raiseFrom_drv (s : State) (id detail : Nat) : (s.raiseFrom id detail).drv = s.drv := by unfold State.raiseFrom; split <;> rfl
@[simp] theorem State.raiseFrom_host (s : State) (id detail : Nat) : (s.raiseFrom id detail).host = s.host := by unfold State.raiseFrom; split <;> rfl
@[simp] theorem State.raiseFrom_pens (s : State) (id detail : Nat) : (s.raiseFrom id detail).pens = s.pens := by unfold State.raiseFrom; split <;> rfl
@[simp] theorem State.raiseFrom_ownLock (s : State) (id detail : Nat) : (s.raiseFrom id detail).ownLock = s.ownLock := by unfold State.raiseFrom; split <;> rfl
@[simp] theorem State.raiseFrom_crook (s : State) (id detail : Nat) : (s.raiseFrom id detail).crook = s.crook := by unfold State.raiseFrom; split <;> rfl
@[simp] theorem State.raiseFrom_store (s : State) (id detail : Nat) : (s.raiseFrom id detail).store = s.store := by unfold State.raiseFrom; split <;> rfl
@[simp] theorem State.raiseFrom_bg (s : State) (id detail : Nat) : (s.raiseFrom id detail).bg = s.bg := by unfold State.raiseFrom; split <;> rfl
@[simp] theorem State.raiseFrom_pins (s : State) (id detail : Nat) : (s.raiseFrom id detail).pins = s.pins := by unfold State.raiseFrom; split <;> rfl
@[simp] theorem State.raiseFrom_pow (s : State) (id detail : Nat) : (s.raiseFrom id detail).pow = s.pow := by unfold State.raiseFrom; split <;> rfl
@[simp] theorem State.raiseFrom_test (s : State) (id detail : Nat) : (s.raiseFrom id detail).test = s.test := by unfold State.raiseFrom; split <;> rfl
@[simp] theorem State.raiseFrom_snap (s : State) (id detail : Nat) : (s.raiseFrom id detail).snap = s.snap := by unfold State.raiseFrom; split <;> rfl
@[simp] theorem State.raiseFrom_freeN (s : State) (id detail : Nat) : (s.raiseFrom id detail).freeN = s.freeN := by unfold State.raiseFrom; split <;> rfl

/-! ### chooseBand -/

@[simp] theorem State.chooseBand_pending (s : State) : s.chooseBand.pending = s.pending := rfl
@[simp] theorem State.chooseBand_clk (s : State) : s.chooseBand.clk = s.clk := rfl
@[simp] theorem State.chooseBand_cfg (s : State) : s.chooseBand.cfg = s.cfg := rfl
@[simp] theorem State.chooseBand_shadow (s : State) : s.chooseBand.shadow = s.shadow := rfl
@[simp] theorem State.chooseBand_cands (s : State) : s.chooseBand.cands = s.cands := rfl
@[simp] theorem State.chooseBand_tdc (s : State) : s.chooseBand.tdc = s.tdc := rfl
@[simp] theorem State.chooseBand_sel (s : State) : s.chooseBand.sel = s.sel := rfl
@[simp] theorem State.chooseBand_mdl (s : State) : s.chooseBand.mdl = s.mdl := rfl
@[simp] theorem State.chooseBand_tally (s : State) : s.chooseBand.tally = s.tally := rfl
@[simp] theorem State.chooseBand_outs (s : State) : s.chooseBand.outs = s.outs := rfl
@[simp] theorem State.chooseBand_rel (s : State) : s.chooseBand.rel = s.rel := rfl
@[simp] theorem State.chooseBand_tod (s : State) : s.chooseBand.tod = s.tod := rfl
@[simp] theorem State.chooseBand_ssct (s : State) : s.chooseBand.ssct = s.ssct := rfl
@[simp] theorem State.chooseBand_rf (s : State) : s.chooseBand.rf = s.rf := rfl
@[simp] theorem State.chooseBand_com (s : State) : s.chooseBand.com = s.com := rfl
@[simp] theorem State.chooseBand_drv (s : State) : s.chooseBand.drv = s.drv := rfl
@[simp] theorem State.chooseBand_host (s : State) : s.chooseBand.host = s.host := rfl
@[simp] theorem State.chooseBand_pens (s : State) : s.chooseBand.pens = s.pens := rfl
@[simp] theorem State.chooseBand_ownLock (s : State) : s.chooseBand.ownLock = s.ownLock := rfl
@[simp] theorem State.chooseBand_crook (s : State) : s.chooseBand.crook = s.crook := rfl
@[simp] theorem State.chooseBand_store (s : State) : s.chooseBand.store = s.store := rfl
@[simp] theorem State.chooseBand_bg (s : State) : s.chooseBand.bg = s.bg := rfl
@[simp] theorem State.chooseBand_pins (s : State) : s.chooseBand.pins = s.pins := rfl
@[simp] theorem State.chooseBand_pow (s : State) : s.chooseBand.pow = s.pow := rfl
@[simp] theorem State.chooseBand_test (s : State) : s.chooseBand.test = s.test := rfl
@[simp] theorem State.chooseBand_snap (s : State) : s.chooseBand.snap = s.snap := rfl
@[simp] theorem State.chooseBand_ev (s : State) : s.chooseBand.ev = s.ev := rfl

/-! ### raiseIf -/

@[simp] theorem State.raiseIf_pending (s : State) (c : Bool) (id detail : Nat) : (s.raiseIf c id detail).pending = s.pending := by cases c <;> rfl
@[simp] theorem State.raiseIf_clk (s : State) (c : Bool) (id detail : Nat) : (s.raiseIf c id detail).clk = s.clk := by cases c <;> rfl
@[simp] theorem State.raiseIf_cfg (s : State) (c : Bool) (id detail : Nat) : (s.raiseIf c id detail).cfg = s.cfg := by cases c <;> rfl
@[simp] theorem State.raiseIf_shadow (s : State) (c : Bool) (id detail : Nat) : (s.raiseIf c id detail).shadow = s.shadow := by cases c <;> rfl
@[simp] theorem State.raiseIf_cands (s : State) (c : Bool) (id detail : Nat) : (s.raiseIf c id detail).cands = s.cands := by cases c <;> rfl
@[simp] theorem State.raiseIf_tdc (s : State) (c : Bool) (id detail : Nat) : (s.raiseIf c id detail).tdc = s.tdc := by cases c <;> rfl
@[simp] theorem State.raiseIf_sel (s : State) (c : Bool) (id detail : Nat) : (s.raiseIf c id detail).sel = s.sel := by cases c <;> rfl
@[simp] theorem State.raiseIf_lp (s : State) (c : Bool) (id detail : Nat) : (s.raiseIf c id detail).lp = s.lp := by cases c <;> rfl
@[simp] theorem State.raiseIf_mdl (s : State) (c : Bool) (id detail : Nat) : (s.raiseIf c id detail).mdl = s.mdl := by cases c <;> rfl
@[simp] theorem State.raiseIf_tally (s : State) (c : Bool) (id detail : Nat) : (s.raiseIf c id detail).tally = s.tally := by cases c <;> rfl
@[simp] theorem State.raiseIf_outs (s : State) (c : Bool) (id detail : Nat) : (s.raiseIf c id detail).outs = s.outs := by cases c <;> rfl
@[simp] theorem State.raiseIf_rel (s : State) (c : Bool) (id detail : Nat) : (s.raiseIf c id detail).rel = s.rel := by cases c <;> rfl
@[simp] theorem State.raiseIf_tod (s : State) (c : Bool) (id detail : Nat) : (s.raiseIf c id detail).tod = s.tod := by cases c <;> rfl
@[simp] theorem State.raiseIf_ssct (s : State) (c : Bool) (id detail : Nat) : (s.raiseIf c id detail).ssct = s.ssct := by cases c <;> rfl
@[simp] theorem State.raiseIf_rf (s : State) (c : Bool) (id detail : Nat) : (s.raiseIf c id detail).rf = s.rf := by cases c <;> rfl
@[simp] theorem State.raiseIf_com (s : State) (c : Bool) (id detail : Nat) : (s.raiseIf c id detail).com = s.com := by cases c <;> rfl
@[simp] theorem State.raiseIf_drv (s : State) (c : Bool) (id detail : Nat) : (s.raiseIf c id detail).drv = s.drv := by cases c <;> rfl
@[simp] theorem State.raiseIf_host (s : State) (c : Bool) (id detail : Nat) : (s.raiseIf c id detail).host = s.host := by cases c <;> rfl
@[simp] theorem State.raiseIf_pens (s : State) (c : Bool) (id detail : Nat) : (s.raiseIf c id detail).pens = s.pens := by cases c <;> rfl
@[simp] theorem State.raiseIf_ownLock (s : State) (c : Bool) (id detail : Nat) : (s.raiseIf c id detail).ownLock = s.ownLock := by cases c <;> rfl
@[simp] theorem State.raiseIf_crook (s : State) (c : Bool) (id detail : Nat) : (s.raiseIf c id detail).crook = s.crook := by cases c <;> rfl
@[simp] theorem State.raiseIf_store (s : State) (c : Bool) (id detail : Nat) : (s.raiseIf c id detail).store = s.store := by cases c <;> rfl
@[simp] theorem State.raiseIf_bg (s : State) (c : Bool) (id detail : Nat) : (s.raiseIf c id detail).bg = s.bg := by cases c <;> rfl
@[simp] theorem State.raiseIf_pins (s : State) (c : Bool) (id detail : Nat) : (s.raiseIf c id detail).pins = s.pins := by cases c <;> rfl
@[simp] theorem State.raiseIf_pow (s : State) (c : Bool) (id detail : Nat) : (s.raiseIf c id detail).pow = s.pow := by cases c <;> rfl
@[simp] theorem State.raiseIf_test (s : State) (c : Bool) (id detail : Nat) : (s.raiseIf c id detail).test = s.test := by cases c <;> rfl
@[simp] theorem State.raiseIf_snap (s : State) (c : Bool) (id detail : Nat) : (s.raiseIf c id detail).snap = s.snap := by cases c <;> rfl
@[simp] theorem State.raiseIf_freeN (s : State) (c : Bool) (id detail : Nat) : (s.raiseIf c id detail).freeN = s.freeN := by cases c <;> rfl

/-! ### What the updates write -/

@[simp] theorem State.setNow_now (s : State) (t : Nat) : (s.setNow t).clk.now = t := rfl
@[simp] theorem State.setNow_absFold (s : State) (t : Nat) : (s.setNow t).clk.absFold = s.clk.absFold := rfl
@[simp] theorem State.setNow_inSec (s : State) (t : Nat) : (s.setNow t).clk.inSec = s.clk.inSec := rfl
@[simp] theorem State.setNow_seconds (s : State) (t : Nat) : (s.setNow t).clk.seconds = s.clk.seconds := rfl
@[simp] theorem State.setNow_secIdx (s : State) (t : Nat) : (s.setNow t).clk.secIdx = s.clk.secIdx := rfl
@[simp] theorem State.setNow_schedule (s : State) (t : Nat) : (s.setNow t).schedule = s.schedule := rfl
@[simp] theorem State.setNow_ifaceOpen (s : State) (t : Nat) : (s.setNow t).ifaceOpen = s.ifaceOpen := rfl
@[simp] theorem State.setCfg_cfg (s : State) (c : Settings) : (s.setCfg c).cfg = c := rfl
@[simp] theorem State.updIo_staged (s : State) (p : Pen) (f : PenIo → PenIo) : (s.updIo p f).host.staged = s.host.staged := rfl

/-- Reading a place of a fixed-length list after a change of a place. -/
theorem Vec_getD_upd {α : Type} {n : Nat} (v : Vec α n) (i j : Nat) (f : α → α) (d : α) :
    (v.upd i f).getD j d = if i = j ∧ j < n then f (v.getD j d) else v.getD j d := by
  have h := v.length_eq
  by_cases hj : j < n
  · have hl : j < v.toList.length := by omega
    simp only [Vec.getD, Vec.upd, List.getD_eq_getElem?_getD, List.getElem?_modify, List.getElem?_eq_getElem hl]
    by_cases hi : i = j <;> simp [hi, hj]
  · have hl : v.toList.length ≤ j := by omega
    have hm : (v.toList.modify i f).length ≤ j := by simpa using hl
    simp [Vec.getD, Vec.upd, List.getD_eq_getElem?_getD, List.getElem?_eq_none hl, List.getElem?_eq_none hm, hj]

/-- The place that an update names. -/
theorem Vec_getD_upd_same {α : Type} {n : Nat} (v : Vec α n) (i : Nat) (f : α → α) (d : α) (h : i < n) : (v.upd i f).getD i d = f (v.getD i d) := by
  simp [Vec_getD_upd, h]

/-- Any other place. -/
theorem Vec_getD_upd_ne {α : Type} {n : Nat} (v : Vec α n) (i j : Nat) (f : α → α) (d : α) (h : i ≠ j) : (v.upd i f).getD j d = v.getD j d := by
  simp [Vec_getD_upd, h]

theorem State.io_updIo (s : State) (p q : Pen) (f : PenIo → PenIo) : (s.updIo p f).io q = if p = q then f (s.io q) else s.io q := by
  simp [State.io, State.updIo, Vec_getD_upd, Fin.ext_iff, q.isLt]

theorem State.out_updOut (s : State) (o k : Nat) (f : Out → Out) : (s.updOut o f).out k = if o = k ∧ k < 16 then f (s.out k) else s.out k := by
  simp [State.out, State.updOut, Vec_getD_upd]

theorem State.cand_updCand (s : State) (i k : Nat) (f : Cand → Cand) : (s.updCand i f).cand k = if i = k ∧ k < 8 then f (s.cand k) else s.cand k := by
  simp [State.cand, State.updCand, Vec_getD_upd]

theorem State.pin_updPin (s : State) (n k : Nat) (f : PinSt → PinSt) : (s.updPin n f).pin k = if n = k ∧ k < 24 then f (s.pin k) else s.pin k := by
  simp [State.pin, State.updPin, Vec_getD_upd]

/-- A raised source's counter and sticky bit (14 R331, R332); every other source keeps both. -/
theorem State.raise_source (s : State) (id detail k : Nat) :
    ((s.raise id detail).ev.srcs.getD k {}) =
      if id = k ∧ k < 288 then { s.ev.srcs.getD k {} with count := (s.ev.srcs.getD k {}).count + 1, sticky := true, raised := true }
      else s.ev.srcs.getD k {} := by
  simp [State.raise, State.raiseAt, Vec_getD_upd]

end Sys2Proof.Machine
end

