-- ==== Sys2Proof/Laws/Ledger.lean ====
section
/-! SUPPORT. The ledger of the tally (05 R127): no operation on the tally changes what a total has entered less applied, cancelled and open. -/

namespace Sys2Proof.Machine

/-- Entered less applied, cancelled and open, modulo 2^64: 0 in a ledger that balances. -/
def Totals.resid (t : Totals) : BitVec 64 := t.entered - t.applied - t.cancelled - t.opened

/-- The residues of every source and of every target. -/
def Tally.resids (t : Tally) : Vec (BitVec 64) 5 × Vec (BitVec 64) 17 := (t.bySrc.map Totals.resid, t.byTarget.map Totals.resid)

theorem addT_eq (b : BitVec 64) (x : Fs) : addT b x = b + BitVec.ofInt 64 x := rfl

@[simp] theorem Totals.resid_enter (x : Fs) (t : Totals) : (t.enter x).resid = t.resid := by
  simp only [Totals.resid, Totals.enter, addT_eq]; generalize BitVec.ofInt 64 x = y; ring

@[simp] theorem Totals.resid_pay (x : Fs) (t : Totals) : (t.pay x).resid = t.resid := by
  simp only [Totals.resid, Totals.pay, addT_eq, BitVec.ofInt_neg]; generalize BitVec.ofInt 64 x = y; ring

@[simp] theorem Totals.resid_cancel (x : Fs) (t : Totals) : (t.cancel x).resid = t.resid := by
  simp only [Totals.resid, Totals.cancel, addT_eq, BitVec.ofInt_neg]; generalize BitVec.ofInt 64 x = y; ring

/-- A change of one place that keeps a figure keeps the figures of all. -/
theorem Vec_map_upd {α β : Type} {n : Nat} (v : Vec α n) (i : Nat) (f : α → α) (g : α → β) (h : ∀ x, g (f x) = g x) : (v.upd i f).map g = v.map g := by
  cases v with
  | mk l hl =>
    simp only [Vec.map, Vec.upd, Vec.mk.injEq]
    apply List.ext_getElem?
    intro j
    simp only [List.getElem?_map, List.getElem?_modify]
    cases l[j]? with
    | none => rfl
    | some a => by_cases hij : i = j <;> simp [hij, h]

@[simp] theorem Vec_resid_enter {n : Nat} (v : Vec Totals n) (i : Nat) (x : Fs) : (v.upd i (Totals.enter x)).map Totals.resid = v.map Totals.resid :=
  Vec_map_upd v i _ _ (by simp)

@[simp] theorem Vec_resid_pay {n : Nat} (v : Vec Totals n) (i : Nat) (x : Fs) : (v.upd i (Totals.pay x)).map Totals.resid = v.map Totals.resid :=
  Vec_map_upd v i _ _ (by simp)

@[simp] theorem Vec_resid_cancel {n : Nat} (v : Vec Totals n) (i : Nat) (x : Fs) : (v.upd i (Totals.cancel x)).map Totals.resid = v.map Totals.resid :=
  Vec_map_upd v i _ _ (by simp)

/-- Changes of several places, one after another. -/
theorem Vec_resid_foldl {α : Type} {n : Nat} (l : List α) (g : Vec Totals n → α → Vec Totals n)
    (h : ∀ v a, (g v a).map Totals.resid = v.map Totals.resid) (v : Vec Totals n) : (l.foldl g v).map Totals.resid = v.map Totals.resid := by
  induction l generalizing v with
  | nil => rfl
  | cons a r ih => simp only [List.foldl_cons, ih, h]

theorem Tally.resids_updTotals (t : Tally) (e : Entry) (f : Totals → Totals) (h : ∀ x, (f x).resid = x.resid) : (t.updTotals e f).resids = t.resids := by
  simp only [Tally.resids, Tally.updTotals, Prod.mk.injEq]
  exact ⟨Vec_map_upd _ _ _ _ h, Vec_resid_foldl _ _ (fun v a => Vec_map_upd _ _ _ _ h) _⟩

@[simp] theorem Tally.resids_enter (t : Tally) (e : Entry) (x : Fs) : (t.updTotals e (Totals.enter x)).resids = t.resids :=
  Tally.resids_updTotals t e _ (by simp)

@[simp] theorem Tally.resids_updEntry (t : Tally) (q : BitVec 32) (f : Entry → Entry) : (t.updEntry q f).resids = t.resids := rfl

@[simp] theorem Tally.resids_add (t : Tally) (e : Entry) : (t.add e).resids = t.resids :=
  Tally.resids_updTotals t _ _ (by simp)

@[simp] theorem Tally.resids_payDevice (t : Tally) (e : Entry) (x : Fs) : (t.payDevice e x).resids = t.resids := by
  have h : ((t.updTotals e (Totals.pay x)).updEntry e.seq fun e => { e with applied := e.applied + x }).resids = t.resids := by
    rw [Tally.resids_updEntry]; exact Tally.resids_updTotals t e _ (by simp)
  unfold Tally.payDevice
  by_cases hs : e.src = .step
  · simp only [hs, if_true]; exact h
  · simp only [hs, if_false]; exact h

@[simp] theorem Tally.resids_payOut (t : Tally) (e : Entry) (o : Nat) (x : Fs) : (t.payOut e o x).resids = t.resids := by
  simp [Tally.payOut, Tally.resids, Tally.updEntry]

@[simp] theorem Tally.resids_cancelEntry (t : Tally) (e : Entry) (c : Nat) : (t.cancelEntry e c).resids = t.resids := by
  have k (v : Vec Totals 17) : (e.prog.foldl (fun l p => l.upd (p.1 + 1) (Totals.cancel (e.amount - p.2))) v).map Totals.resid = v.map Totals.resid :=
    Vec_resid_foldl _ _ (fun v a => by simp) _
  unfold Tally.cancelEntry
  split <;> split <;> simp [Tally.resids, Tally.updEntry, k]

@[simp] theorem Tally.resids_retire (t : Tally) : t.retire.resids = t.resids := rfl

end Sys2Proof.Machine
end

