-- ==== Sys2Proof/Laws/FrameBase.lean ====
section
/-! SUPPORT. How a field that a family of operations leaves alone is carried through a loop over a list. -/

namespace Sys2Proof.Machine

/-- A figure of the state that each round of a loop leaves alone, the loop leaves alone. -/
theorem forEach_keeps {α β : Type} (g : State → β) (l : List α) (f : α → State → State) (h : ∀ x s, g (f x s) = g s) (s : State) :
    g (forEach l f s) = g s := by
  unfold forEach
  induction l generalizing s with
  | nil => rfl
  | cons a r ih => simp only [List.foldl_cons, ih, h]

/-- A property that each round keeps, the loop keeps. -/
theorem forEach_inv {α : Type} (p : State → Prop) (l : List α) (f : α → State → State) (h : ∀ x s, p s → p (f x s)) (s : State) (hs : p s) :
    p (forEach l f s) := by
  unfold forEach
  induction l generalizing s with
  | nil => exact hs
  | cons a r ih => exact ih _ (h a s hs)

@[simp] theorem forEach_pending {α : Type} (l : List α) (f : α → State → State) (h : ∀ x s, (f x s).pending = s.pending) (s : State) :
    (forEach l f s).pending = s.pending := forEach_keeps (·.pending) l f h s

@[simp] theorem forEach_flash {α : Type} (l : List α) (f : α → State → State) (h : ∀ x s, (f x s).store.flash = s.store.flash) (s : State) :
    (forEach l f s).store.flash = s.store.flash := forEach_keeps (·.store.flash) l f h s

@[simp] theorem forEach_absFold {α : Type} (l : List α) (f : α → State → State) (h : ∀ x s, (f x s).clk.absFold = s.clk.absFold) (s : State) :
    (forEach l f s).clk.absFold = s.clk.absFold := forEach_keeps (·.clk.absFold) l f h s

@[simp] theorem forEach_ownLock {α : Type} (l : List α) (f : α → State → State) (h : ∀ x s, (f x s).ownLock = s.ownLock) (s : State) :
    (forEach l f s).ownLock = s.ownLock := forEach_keeps (·.ownLock) l f h s

@[simp] theorem forEach_resids {α : Type} (l : List α) (f : α → State → State) (h : ∀ x s, (f x s).tally.resids = s.tally.resids) (s : State) :
    (forEach l f s).tally.resids = s.tally.resids := forEach_keeps (·.tally.resids) l f h s

/-- A slot's task leaves alone what entering the slot and its work leave alone. -/
theorem inSlot_keeps {β : Type} (g : State → β) (s : State) (n t : Nat) (f : State → State) (hn : ∀ s, g (State.setNow s t) = g s)
    (he : ∀ s, g (State.enterSlot s n t) = g s) (h : ∀ s, g (f s) = g s) : g (s.inSlot n t f) = g s := by
  simp only [State.inSlot]; split
  · rw [h, he]
  · exact hn s

/-- So does a part of a slot's task. -/
theorem inTask_keeps {β : Type} (g : State → β) (s : State) (n : Nat) (f : State → State) (h : ∀ s, g (f s) = g s) : g (s.inTask n f) = g s := by
  simp only [State.inTask]; split
  · exact h s
  · rfl

/-- And work that the schedule carries. -/
theorem ifScheduled_keeps {β : Type} (g : State → β) (s : State) (f : State → State) (h : ∀ s, g (f s) = g s) : g (s.ifScheduled f) = g s := by
  simp only [State.ifScheduled]; split
  · exact h s
  · rfl

theorem whileScheduled_keeps {β : Type} (g : State → β) (s : State) (t : Nat) (f : State → State) (hn : ∀ s, g (State.setNow s t) = g s)
    (h : ∀ s, g (f s) = g s) : g (s.whileScheduled t f) = g s := by
  simp only [State.whileScheduled]; split
  · rw [h, hn]
  · exact hn s

@[simp] theorem inSlot_pending (s : State) (n t : Nat) (f : State → State) (h : ∀ s, (f s).pending = s.pending) : (s.inSlot n t f).pending = s.pending :=
  inSlot_keeps (·.pending) s n t f (fun _ => rfl) (fun _ => rfl) h
@[simp] theorem inTask_pending (s : State) (n : Nat) (f : State → State) (h : ∀ s, (f s).pending = s.pending) : (s.inTask n f).pending = s.pending :=
  inTask_keeps (·.pending) s n f h
@[simp] theorem ifScheduled_pending (s : State) (f : State → State) (h : ∀ s, (f s).pending = s.pending) : (s.ifScheduled f).pending = s.pending :=
  ifScheduled_keeps (·.pending) s f h
@[simp] theorem whileScheduled_pending (s : State) (t : Nat) (f : State → State) (h : ∀ s, (f s).pending = s.pending) : (s.whileScheduled t f).pending = s.pending :=
  whileScheduled_keeps (·.pending) s t f (fun _ => rfl) h

@[simp] theorem inSlot_flash (s : State) (n t : Nat) (f : State → State) (h : ∀ s, (f s).store.flash = s.store.flash) : (s.inSlot n t f).store.flash = s.store.flash :=
  inSlot_keeps (·.store.flash) s n t f (fun _ => rfl) (fun _ => rfl) h
@[simp] theorem inTask_flash (s : State) (n : Nat) (f : State → State) (h : ∀ s, (f s).store.flash = s.store.flash) : (s.inTask n f).store.flash = s.store.flash :=
  inTask_keeps (·.store.flash) s n f h
@[simp] theorem ifScheduled_flash (s : State) (f : State → State) (h : ∀ s, (f s).store.flash = s.store.flash) : (s.ifScheduled f).store.flash = s.store.flash :=
  ifScheduled_keeps (·.store.flash) s f h
@[simp] theorem whileScheduled_flash (s : State) (t : Nat) (f : State → State) (h : ∀ s, (f s).store.flash = s.store.flash) : (s.whileScheduled t f).store.flash = s.store.flash :=
  whileScheduled_keeps (·.store.flash) s t f (fun _ => rfl) h

@[simp] theorem inSlot_absFold (s : State) (n t : Nat) (f : State → State) (h : ∀ s, (f s).clk.absFold = s.clk.absFold) : (s.inSlot n t f).clk.absFold = s.clk.absFold :=
  inSlot_keeps (·.clk.absFold) s n t f (fun _ => rfl) (fun _ => rfl) h
@[simp] theorem inTask_absFold (s : State) (n : Nat) (f : State → State) (h : ∀ s, (f s).clk.absFold = s.clk.absFold) : (s.inTask n f).clk.absFold = s.clk.absFold :=
  inTask_keeps (·.clk.absFold) s n f h
@[simp] theorem ifScheduled_absFold (s : State) (f : State → State) (h : ∀ s, (f s).clk.absFold = s.clk.absFold) : (s.ifScheduled f).clk.absFold = s.clk.absFold :=
  ifScheduled_keeps (·.clk.absFold) s f h
@[simp] theorem whileScheduled_absFold (s : State) (t : Nat) (f : State → State) (h : ∀ s, (f s).clk.absFold = s.clk.absFold) : (s.whileScheduled t f).clk.absFold = s.clk.absFold :=
  whileScheduled_keeps (·.clk.absFold) s t f (fun _ => rfl) h

@[simp] theorem inSlot_ownLock (s : State) (n t : Nat) (f : State → State) (h : ∀ s, (f s).ownLock = s.ownLock) : (s.inSlot n t f).ownLock = s.ownLock :=
  inSlot_keeps (·.ownLock) s n t f (fun _ => rfl) (fun _ => rfl) h
@[simp] theorem inTask_ownLock (s : State) (n : Nat) (f : State → State) (h : ∀ s, (f s).ownLock = s.ownLock) : (s.inTask n f).ownLock = s.ownLock :=
  inTask_keeps (·.ownLock) s n f h
@[simp] theorem ifScheduled_ownLock (s : State) (f : State → State) (h : ∀ s, (f s).ownLock = s.ownLock) : (s.ifScheduled f).ownLock = s.ownLock :=
  ifScheduled_keeps (·.ownLock) s f h
@[simp] theorem whileScheduled_ownLock (s : State) (t : Nat) (f : State → State) (h : ∀ s, (f s).ownLock = s.ownLock) : (s.whileScheduled t f).ownLock = s.ownLock :=
  whileScheduled_keeps (·.ownLock) s t f (fun _ => rfl) h

@[simp] theorem inSlot_resids (s : State) (n t : Nat) (f : State → State) (h : ∀ s, (f s).tally.resids = s.tally.resids) : (s.inSlot n t f).tally.resids = s.tally.resids :=
  inSlot_keeps (·.tally.resids) s n t f (fun _ => rfl) (fun _ => rfl) h
@[simp] theorem inTask_resids (s : State) (n : Nat) (f : State → State) (h : ∀ s, (f s).tally.resids = s.tally.resids) : (s.inTask n f).tally.resids = s.tally.resids :=
  inTask_keeps (·.tally.resids) s n f h
@[simp] theorem ifScheduled_resids (s : State) (f : State → State) (h : ∀ s, (f s).tally.resids = s.tally.resids) : (s.ifScheduled f).tally.resids = s.tally.resids :=
  ifScheduled_keeps (·.tally.resids) s f h
@[simp] theorem whileScheduled_resids (s : State) (t : Nat) (f : State → State) (h : ∀ s, (f s).tally.resids = s.tally.resids) : (s.whileScheduled t f).tally.resids = s.tally.resids :=
  whileScheduled_keeps (·.tally.resids) s t f (fun _ => rfl) h

/-! ### A choice between two states -/

theorem ite_pending (c : Prop) [Decidable c] (a b : State) : (if c then a else b).pending = if c then a.pending else b.pending := by split <;> rfl
theorem ite_flash (c : Prop) [Decidable c] (a b : State) : (if c then a else b).store.flash = if c then a.store.flash else b.store.flash := by split <;> rfl
theorem ite_absFold (c : Prop) [Decidable c] (a b : State) : (if c then a else b).clk.absFold = if c then a.clk.absFold else b.clk.absFold := by split <;> rfl
theorem ite_ownLock (c : Prop) [Decidable c] (a b : State) : (if c then a else b).ownLock = if c then a.ownLock else b.ownLock := by split <;> rfl
theorem ite_resids (c : Prop) [Decidable c] (a b : State) : (if c then a else b).tally.resids = if c then a.tally.resids else b.tally.resids := by split <;> rfl

/-- Setting all settings at once leaves alone what is no setting. -/
theorem setCfg_after {β : Type} (g : State → β) (hg : ∀ (s : State) (c : Settings), g (s.setCfg c) = g s) (s a : State) (c : Settings) (h : g a = g s) :
    g (a.setCfg c) = g s := (hg a c).trans h

/-- A figure kept on one side of a choice whose other side changes nothing. -/
theorem ite_after {β : Type} (g : State → β) (p : Prop) [Decidable p] (s a : State) (h : g a = g s) : g (if p then s else a) = g s := by
  split
  · rfl
  · exact h

end Sys2Proof.Machine
end

