-- ==== Sys2Proof/Laws/Frame1.lean ====
section
/-! SUPPORT. What every operation of Ops, Flags, Operands, Refs, Loops, Outputs leaves alone: the queue of commands, the flash, the fold counter, the ownership
lock and the balance of each total of the ledger. -/

namespace Sys2Proof.Machine

@[simp] theorem State.capture_frame (s : State) (ch t : Nat) :
    (State.capture s ch t).pending = s.pending ∧ (State.capture s ch t).store.flash = s.store.flash ∧ (State.capture s ch t).clk.absFold = s.clk.absFold ∧ (State.capture s ch t).ownLock = s.ownLock ∧ (State.capture s ch t).tally.resids = s.tally.resids := by
  refine ⟨?_, ?_, ?_, ?_, ?_⟩ <;> simp only [State.capture] <;> (repeat' split) <;> first | (simp; done) | rfl

@[simp] theorem State.cancelEntry_frame (s : State) (e : Entry) (cause : Nat) :
    (State.cancelEntry s e cause).pending = s.pending ∧ (State.cancelEntry s e cause).store.flash = s.store.flash ∧ (State.cancelEntry s e cause).clk.absFold = s.clk.absFold ∧ (State.cancelEntry s e cause).ownLock = s.ownLock ∧ (State.cancelEntry s e cause).tally.resids = s.tally.resids := by
  refine ⟨?_, ?_, ?_, ?_, ?_⟩ <;> simp only [State.cancelEntry] <;> (repeat' split) <;> first | (simp; done) | rfl

@[simp] theorem State.finishEntry_frame (s : State) (e : Entry) :
    (State.finishEntry s e).pending = s.pending ∧ (State.finishEntry s e).store.flash = s.store.flash ∧ (State.finishEntry s e).clk.absFold = s.clk.absFold ∧ (State.finishEntry s e).ownLock = s.ownLock ∧ (State.finishEntry s e).tally.resids = s.tally.resids := by
  refine ⟨?_, ?_, ?_, ?_, ?_⟩ <;> simp only [State.finishEntry] <;> (repeat' split) <;> first | (simp; done) | rfl

@[simp] theorem State.cancelSwitches_frame (s : State) (cause : Nat) :
    (State.cancelSwitches s cause).pending = s.pending ∧ (State.cancelSwitches s cause).store.flash = s.store.flash ∧ (State.cancelSwitches s cause).clk.absFold = s.clk.absFold ∧ (State.cancelSwitches s cause).ownLock = s.ownLock ∧ (State.cancelSwitches s cause).tally.resids = s.tally.resids := by
  refine ⟨?_, ?_, ?_, ?_, ?_⟩ <;> simp only [State.cancelSwitches] <;> (repeat' split) <;> first | (simp; done) | rfl

@[simp] theorem State.askHold_frame (s : State) :
    (State.askHold s).pending = s.pending ∧ (State.askHold s).store.flash = s.store.flash ∧ (State.askHold s).clk.absFold = s.clk.absFold ∧ (State.askHold s).ownLock = s.ownLock ∧ (State.askHold s).tally.resids = s.tally.resids := by
  refine ⟨?_, ?_, ?_, ?_, ?_⟩ <;> simp only [State.askHold] <;> (repeat' split) <;> first | (simp; done) | rfl

@[simp] theorem State.freezeInFold_frame (s : State) :
    (State.freezeInFold s).pending = s.pending ∧ (State.freezeInFold s).store.flash = s.store.flash ∧ (State.freezeInFold s).clk.absFold = s.clk.absFold ∧ (State.freezeInFold s).ownLock = s.ownLock ∧ (State.freezeInFold s).tally.resids = s.tally.resids := by
  refine ⟨?_, ?_, ?_, ?_, ?_⟩ <;> simp only [State.freezeInFold] <;> (repeat' split) <;> first | (simp; done) | rfl

@[simp] theorem State.freezeAtBoundary_frame (s : State) :
    (State.freezeAtBoundary s).pending = s.pending ∧ (State.freezeAtBoundary s).store.flash = s.store.flash ∧ (State.freezeAtBoundary s).clk.absFold = s.clk.absFold ∧ (State.freezeAtBoundary s).ownLock = s.ownLock ∧ (State.freezeAtBoundary s).tally.resids = s.tally.resids := by
  refine ⟨?_, ?_, ?_, ?_, ?_⟩ <;> simp only [State.freezeAtBoundary] <;> (repeat' split) <;> first | (simp; done) | rfl

@[simp] theorem reject_frame (k : Packet) (st : BitVec 16) (s : State) :
    (reject k st s).pending = s.pending ∧ (reject k st s).store.flash = s.store.flash ∧ (reject k st s).clk.absFold = s.clk.absFold ∧ (reject k st s).ownLock = s.ownLock ∧ (reject k st s).tally.resids = s.tally.resids := by
  refine ⟨?_, ?_, ?_, ?_, ?_⟩ <;> simp only [reject] <;> (repeat' split) <;> first | (simp; done) | rfl

@[simp] theorem enqueue_frame (k : Packet) (s : State) :
    (enqueue k s).pending = s.pending ∧ (enqueue k s).store.flash = s.store.flash ∧ (enqueue k s).clk.absFold = s.clk.absFold ∧ (enqueue k s).ownLock = s.ownLock ∧ (enqueue k s).tally.resids = s.tally.resids := by
  refine ⟨?_, ?_, ?_, ?_, ?_⟩ <;> simp only [enqueue] <;> (repeat' split) <;> first | (simp; done) | rfl

@[simp] theorem admit_frame (k : Packet) (s : State) :
    (admitPacket k s).pending = s.pending ∧ (admitPacket k s).store.flash = s.store.flash ∧ (admitPacket k s).clk.absFold = s.clk.absFold ∧ (admitPacket k s).ownLock = s.ownLock ∧ (admitPacket k s).tally.resids = s.tally.resids := by
  refine ⟨?_, ?_, ?_, ?_, ?_⟩ <;> simp only [admitPacket] <;> (repeat' split) <;> first | (simp; done) | rfl

@[simp] theorem State.gather_frame (s : State) (i : Nat) (f : Meas → Meas) :
    (State.gather s i f).pending = s.pending ∧ (State.gather s i f).store.flash = s.store.flash ∧ (State.gather s i f).clk.absFold = s.clk.absFold ∧ (State.gather s i f).ownLock = s.ownLock ∧ (State.gather s i f).tally.resids = s.tally.resids := by
  refine ⟨?_, ?_, ?_, ?_, ?_⟩ <;> simp only [State.gather] <;> (repeat' split) <;> first | (simp; done) | rfl

@[simp] theorem State.setActive_frame (s : State) (i : Nat) (b : Bool) :
    (State.setActive s i b).pending = s.pending ∧ (State.setActive s i b).store.flash = s.store.flash ∧ (State.setActive s i b).clk.absFold = s.clk.absFold ∧ (State.setActive s i b).ownLock = s.ownLock ∧ (State.setActive s i b).tally.resids = s.tally.resids := by
  refine ⟨?_, ?_, ?_, ?_, ?_⟩ <;> simp only [State.setActive] <;> (repeat' split) <;> first | (simp; done) | rfl

@[simp] theorem State.touch_frame (s : State) (i t : Nat) :
    (State.touch s i t).pending = s.pending ∧ (State.touch s i t).store.flash = s.store.flash ∧ (State.touch s i t).clk.absFold = s.clk.absFold ∧ (State.touch s i t).ownLock = s.ownLock ∧ (State.touch s i t).tally.resids = s.tally.resids := by
  refine ⟨?_, ?_, ?_, ?_, ?_⟩ <;> simp only [State.touch] <;> (repeat' split) <;> first | (simp; done) | rfl

@[simp] theorem State.trip_frame (s : State) (i k : Nat) :
    (State.trip s i k).pending = s.pending ∧ (State.trip s i k).store.flash = s.store.flash ∧ (State.trip s i k).clk.absFold = s.clk.absFold ∧ (State.trip s i k).ownLock = s.ownLock ∧ (State.trip s i k).tally.resids = s.tally.resids := by
  refine ⟨?_, ?_, ?_, ?_, ?_⟩ <;> simp only [State.trip] <;> (repeat' split) <;> first | (simp; done) | rfl

@[simp] theorem State.gateEvent_frame (s : State) (i t : Nat) (v : Fs) :
    (State.gateEvent s i t v).pending = s.pending ∧ (State.gateEvent s i t v).store.flash = s.store.flash ∧ (State.gateEvent s i t v).clk.absFold = s.clk.absFold ∧ (State.gateEvent s i t v).ownLock = s.ownLock ∧ (State.gateEvent s i t v).tally.resids = s.tally.resids := by
  refine ⟨?_, ?_, ?_, ?_, ?_⟩ <;> simp only [State.gateEvent] <;> (repeat' split) <;> first | (simp; done) | rfl

@[simp] theorem State.acceptSample_frame (s : State) (i t : Nat) (v : Fs) :
    (State.acceptSample s i t v).pending = s.pending ∧ (State.acceptSample s i t v).store.flash = s.store.flash ∧ (State.acceptSample s i t v).clk.absFold = s.clk.absFold ∧ (State.acceptSample s i t v).ownLock = s.ownLock ∧ (State.acceptSample s i t v).tally.resids = s.tally.resids := by
  refine ⟨?_, ?_, ?_, ?_, ?_⟩ <;> simp only [State.acceptSample] <;> (repeat' split) <;> first | (simp; done) | rfl

@[simp] theorem State.sampleAt_frame (s : State) (i t : Nat) (v : Fs) :
    (State.sampleAt s i t v).pending = s.pending ∧ (State.sampleAt s i t v).store.flash = s.store.flash ∧ (State.sampleAt s i t v).clk.absFold = s.clk.absFold ∧ (State.sampleAt s i t v).ownLock = s.ownLock ∧ (State.sampleAt s i t v).tally.resids = s.tally.resids := by
  refine ⟨?_, ?_, ?_, ?_, ?_⟩ <;> simp only [State.sampleAt] <;> (repeat' split) <;> first | (simp; done) | rfl

@[simp] theorem State.freezeIfSteering_frame (s : State) :
    (State.freezeIfSteering s).pending = s.pending ∧ (State.freezeIfSteering s).store.flash = s.store.flash ∧ (State.freezeIfSteering s).clk.absFold = s.clk.absFold ∧ (State.freezeIfSteering s).ownLock = s.ownLock ∧ (State.freezeIfSteering s).tally.resids = s.tally.resids := by
  refine ⟨?_, ?_, ?_, ?_, ?_⟩ <;> simp only [State.freezeIfSteering] <;> (repeat' split) <;> first | (simp; done) | rfl

@[simp] theorem State.loseActivity_frame (s : State) (i : Nat) :
    (State.loseActivity s i).pending = s.pending ∧ (State.loseActivity s i).store.flash = s.store.flash ∧ (State.loseActivity s i).clk.absFold = s.clk.absFold ∧ (State.loseActivity s i).ownLock = s.ownLock ∧ (State.loseActivity s i).tally.resids = s.tally.resids := by
  refine ⟨?_, ?_, ?_, ?_, ?_⟩ <;> simp only [State.loseActivity] <;> (repeat' split) <;> first | (simp; done) | rfl

@[simp] theorem State.qualify_frame (s : State) (i : Nat) :
    (State.qualify s i).pending = s.pending ∧ (State.qualify s i).store.flash = s.store.flash ∧ (State.qualify s i).clk.absFold = s.clk.absFold ∧ (State.qualify s i).ownLock = s.ownLock ∧ (State.qualify s i).tally.resids = s.tally.resids := by
  refine ⟨?_, ?_, ?_, ?_, ?_⟩ <;> simp only [State.qualify] <;> (repeat' split) <;> first | (simp; done) | rfl

@[simp] theorem State.gateBoundary_frame (s : State) (model : Fu) :
    (State.gateBoundary s model).pending = s.pending ∧ (State.gateBoundary s model).store.flash = s.store.flash ∧ (State.gateBoundary s model).clk.absFold = s.clk.absFold ∧ (State.gateBoundary s model).ownLock = s.ownLock ∧ (State.gateBoundary s model).tally.resids = s.tally.resids := by
  refine ⟨?_, ?_, ?_, ?_, ?_⟩
  · unfold State.gateBoundary; (repeat' split) <;> first | exact forEach_pending _ _ (fun _ _ => by (repeat' split) <;> simp) _ | rfl
  · unfold State.gateBoundary; (repeat' split) <;> first | exact forEach_flash _ _ (fun _ _ => by (repeat' split) <;> simp) _ | rfl
  · unfold State.gateBoundary; (repeat' split) <;> first | exact forEach_absFold _ _ (fun _ _ => by (repeat' split) <;> simp) _ | rfl
  · unfold State.gateBoundary; (repeat' split) <;> first | exact forEach_ownLock _ _ (fun _ _ => by (repeat' split) <;> simp) _ | rfl
  · unfold State.gateBoundary; (repeat' split) <;> first | exact forEach_resids _ _ (fun _ _ => by (repeat' split) <;> simp) _ | rfl

@[simp] theorem State.freqEvent_frame (s : State) (i mon : Nat) (x : Fu) (dir : Int) :
    (State.freqEvent s i mon x dir).pending = s.pending ∧ (State.freqEvent s i mon x dir).store.flash = s.store.flash ∧ (State.freqEvent s i mon x dir).clk.absFold = s.clk.absFold ∧ (State.freqEvent s i mon x dir).ownLock = s.ownLock ∧ (State.freqEvent s i mon x dir).tally.resids = s.tally.resids := by
  refine ⟨?_, ?_, ?_, ?_, ?_⟩ <;> simp only [State.freqEvent] <;> (repeat' split) <;> first | (simp; done) | rfl

@[simp] theorem State.fastMonitor_frame (s : State) (i : Nat) (model : Fu) :
    (State.fastMonitor s i model).pending = s.pending ∧ (State.fastMonitor s i model).store.flash = s.store.flash ∧ (State.fastMonitor s i model).clk.absFold = s.clk.absFold ∧ (State.fastMonitor s i model).ownLock = s.ownLock ∧ (State.fastMonitor s i model).tally.resids = s.tally.resids := by
  refine ⟨?_, ?_, ?_, ?_, ?_⟩ <;> simp only [State.fastMonitor] <;> (repeat' split) <;> first | (simp; done) | rfl

@[simp] theorem State.runtMonitor_frame (s : State) (i : Nat) :
    (State.runtMonitor s i).pending = s.pending ∧ (State.runtMonitor s i).store.flash = s.store.flash ∧ (State.runtMonitor s i).clk.absFold = s.clk.absFold ∧ (State.runtMonitor s i).ownLock = s.ownLock ∧ (State.runtMonitor s i).tally.resids = s.tally.resids := by
  refine ⟨?_, ?_, ?_, ?_, ?_⟩ <;> simp only [State.runtMonitor] <;> (repeat' split) <;> first | (simp; done) | rfl

@[simp] theorem State.disqualify_frame (s : State) (i : Nat) (causes : BitVec 6) :
    (State.disqualify s i causes).pending = s.pending ∧ (State.disqualify s i causes).store.flash = s.store.flash ∧ (State.disqualify s i causes).clk.absFold = s.clk.absFold ∧ (State.disqualify s i causes).ownLock = s.ownLock ∧ (State.disqualify s i causes).tally.resids = s.tally.resids := by
  refine ⟨?_, ?_, ?_, ?_, ?_⟩ <;> simp only [State.disqualify] <;> (repeat' split) <;> first | (simp; done) | rfl

@[simp] theorem State.qualTimer_frame (s : State) (i : Nat) :
    (State.qualTimer s i).pending = s.pending ∧ (State.qualTimer s i).store.flash = s.store.flash ∧ (State.qualTimer s i).clk.absFold = s.clk.absFold ∧ (State.qualTimer s i).ownLock = s.ownLock ∧ (State.qualTimer s i).tally.resids = s.tally.resids := by
  refine ⟨?_, ?_, ?_, ?_, ?_⟩ <;> simp only [State.qualTimer] <;> (repeat' split) <;> first | (simp; done) | rfl

@[simp] theorem State.judge_frame (s : State) (model : Fu) (i : Nat) :
    (State.judge s model i).pending = s.pending ∧ (State.judge s model i).store.flash = s.store.flash ∧ (State.judge s model i).clk.absFold = s.clk.absFold ∧ (State.judge s model i).ownLock = s.ownLock ∧ (State.judge s model i).tally.resids = s.tally.resids := by
  refine ⟨?_, ?_, ?_, ?_, ?_⟩ <;> simp only [State.judge] <;> (repeat' split) <;> first | (simp; done) | rfl

@[simp] theorem State.stagedRefs_frame (s : State) :
    (State.stagedRefs s).pending = s.pending ∧ (State.stagedRefs s).store.flash = s.store.flash ∧ (State.stagedRefs s).clk.absFold = s.clk.absFold ∧ (State.stagedRefs s).ownLock = s.ownLock ∧ (State.stagedRefs s).tally.resids = s.tally.resids := by
  refine ⟨?_, ?_, ?_, ?_, ?_⟩ <;> simp only [State.stagedRefs] <;> (repeat' split) <;> first | (simp; done) | rfl

@[simp] theorem State.configChange_frame (s : State) (i : Nat) :
    (State.configChange s i).pending = s.pending ∧ (State.configChange s i).store.flash = s.store.flash ∧ (State.configChange s i).clk.absFold = s.clk.absFold ∧ (State.configChange s i).ownLock = s.ownLock ∧ (State.configChange s i).tally.resids = s.tally.resids := by
  refine ⟨?_, ?_, ?_, ?_, ?_⟩ <;> simp only [State.configChange] <;> (repeat' split) <;> first | (simp; done) | rfl

@[simp] theorem State.configFrames_frame (s : State) :
    (State.configFrames s).pending = s.pending ∧ (State.configFrames s).store.flash = s.store.flash ∧ (State.configFrames s).clk.absFold = s.clk.absFold ∧ (State.configFrames s).ownLock = s.ownLock ∧ (State.configFrames s).tally.resids = s.tally.resids := by
  refine ⟨?_, ?_, ?_, ?_, ?_⟩ <;> simp [State.configFrames, ite_pending, ite_flash, ite_absFold, ite_ownLock, ite_resids]

@[simp] theorem commitRefInput_frame (q : Call) (s : State) :
    (commitRefInput q s).pending = s.pending ∧ (commitRefInput q s).store.flash = s.store.flash ∧ (commitRefInput q s).clk.absFold = s.clk.absFold ∧ (commitRefInput q s).ownLock = s.ownLock ∧ (commitRefInput q s).tally.resids = s.tally.resids := by
  refine ⟨?_, ?_, ?_, ?_, ?_⟩ <;> simp only [commitRefInput] <;> (repeat' split) <;> first | (simp; done) | rfl

@[simp] theorem State.inputChanges_frame (s : State) (old : Settings) :
    (State.inputChanges s old).pending = s.pending ∧ (State.inputChanges s old).store.flash = s.store.flash ∧ (State.inputChanges s old).clk.absFold = s.clk.absFold ∧ (State.inputChanges s old).ownLock = s.ownLock ∧ (State.inputChanges s old).tally.resids = s.tally.resids := by
  have h : ∀ (i : Nat) (s : State), (if (s.refCfg i).input = (old.refs.getD i {}).input then s else s.configChange i).pending = s.pending ∧ (if (s.refCfg i).input = (old.refs.getD i {}).input then s else s.configChange i).store.flash = s.store.flash ∧ (if (s.refCfg i).input = (old.refs.getD i {}).input then s else s.configChange i).clk.absFold = s.clk.absFold ∧ (if (s.refCfg i).input = (old.refs.getD i {}).input then s else s.configChange i).ownLock = s.ownLock ∧ (if (s.refCfg i).input = (old.refs.getD i {}).input then s else s.configChange i).tally.resids = s.tally.resids := by
    intro i s; split <;> simp
  simp only [State.inputChanges]
  split
  · refine ⟨?_, ?_, ?_, ?_, ?_⟩
    · exact forEach_pending _ _ (fun i s => (h i s).1) _
    · exact forEach_flash _ _ (fun i s => (h i s).2.1) _
    · exact forEach_absFold _ _ (fun i s => (h i s).2.2.1) _
    · exact forEach_ownLock _ _ (fun i s => (h i s).2.2.2.1) _
    · exact forEach_resids _ _ (fun i s => (h i s).2.2.2.2) _
  · refine ⟨?_, ?_, ?_, ?_, ?_⟩
    · rw [(State.configChange_frame _ _).1]; exact forEach_pending _ _ (fun i s => (h i s).1) _
    · rw [(State.configChange_frame _ _).2.1]; exact forEach_flash _ _ (fun i s => (h i s).2.1) _
    · rw [(State.configChange_frame _ _).2.2.1]; exact forEach_absFold _ _ (fun i s => (h i s).2.2.1) _
    · rw [(State.configChange_frame _ _).2.2.2.1]; exact forEach_ownLock _ _ (fun i s => (h i s).2.2.2.1) _
    · rw [(State.configChange_frame _ _).2.2.2.2]; exact forEach_resids _ _ (fun i s => (h i s).2.2.2.2) _

@[simp] theorem commitRefMon_frame (q : Call) (s : State) :
    (commitRefMon q s).pending = s.pending ∧ (commitRefMon q s).store.flash = s.store.flash ∧ (commitRefMon q s).clk.absFold = s.clk.absFold ∧ (commitRefMon q s).ownLock = s.ownLock ∧ (commitRefMon q s).tally.resids = s.tally.resids := by
  refine ⟨?_, ?_, ?_, ?_, ?_⟩ <;> simp only [commitRefMon] <;> (repeat' split) <;> first | (simp; done) | rfl

@[simp] theorem commitRefRank_frame (q : Call) (s : State) :
    (commitRefRank q s).pending = s.pending ∧ (commitRefRank q s).store.flash = s.store.flash ∧ (commitRefRank q s).clk.absFold = s.clk.absFold ∧ (commitRefRank q s).ownLock = s.ownLock ∧ (commitRefRank q s).tally.resids = s.tally.resids := by
  refine ⟨?_, ?_, ?_, ?_, ?_⟩ <;> simp only [commitRefRank] <;> (repeat' split) <;> first | (simp; done) | rfl

@[simp] theorem commitTdcArm_frame (q : Call) (s : State) :
    (commitTdcArm q s).pending = s.pending ∧ (commitTdcArm q s).store.flash = s.store.flash ∧ (commitTdcArm q s).clk.absFold = s.clk.absFold ∧ (commitTdcArm q s).ownLock = s.ownLock ∧ (commitTdcArm q s).tally.resids = s.tally.resids := by
  refine ⟨?_, ?_, ?_, ?_, ?_⟩ <;> simp only [commitTdcArm] <;> (repeat' split) <;> first | (simp; done) | rfl

@[simp] theorem commitForce_frame (q : Call) (s : State) :
    (commitForce q s).pending = s.pending ∧ (commitForce q s).store.flash = s.store.flash ∧ (commitForce q s).clk.absFold = s.clk.absFold ∧ (commitForce q s).ownLock = s.ownLock ∧ (commitForce q s).tally.resids = s.tally.resids := by
  refine ⟨?_, ?_, ?_, ?_, ?_⟩ <;> simp only [commitForce] <;> (repeat' split) <;> first | (simp; done) | rfl

@[simp] theorem State.convertTsense_frame (s : State) (code : Nat) :
    (State.convertTsense s code).pending = s.pending ∧ (State.convertTsense s code).store.flash = s.store.flash ∧ (State.convertTsense s code).clk.absFold = s.clk.absFold ∧ (State.convertTsense s code).ownLock = s.ownLock ∧ (State.convertTsense s code).tally.resids = s.tally.resids := by
  refine ⟨?_, ?_, ?_, ?_, ?_⟩ <;> simp only [State.convertTsense] <;> (repeat' split) <;> first | (simp; done) | rfl

@[simp] theorem State.takeTemp_frame (s : State) (onDie : Int) (code : Nat) :
    (State.takeTemp s onDie code).pending = s.pending ∧ (State.takeTemp s onDie code).store.flash = s.store.flash ∧ (State.takeTemp s onDie code).clk.absFold = s.clk.absFold ∧ (State.takeTemp s onDie code).ownLock = s.ownLock ∧ (State.takeTemp s onDie code).tally.resids = s.tally.resids := by
  refine ⟨?_, ?_, ?_, ?_, ?_⟩ <;> simp only [State.takeTemp] <;> (repeat' split) <;> first | (simp; done) | rfl

@[simp] theorem State.trimExtrap_frame (s : State) :
    (State.trimExtrap s).pending = s.pending ∧ (State.trimExtrap s).store.flash = s.store.flash ∧ (State.trimExtrap s).clk.absFold = s.clk.absFold ∧ (State.trimExtrap s).ownLock = s.ownLock ∧ (State.trimExtrap s).tally.resids = s.tally.resids := by
  refine ⟨?_, ?_, ?_, ?_, ?_⟩ <;> simp only [State.trimExtrap] <;> (repeat' split) <;> first | (simp; done) | rfl

@[simp] theorem State.judgeSpan_frame (s : State) :
    (State.judgeSpan s).pending = s.pending ∧ (State.judgeSpan s).store.flash = s.store.flash ∧ (State.judgeSpan s).clk.absFold = s.clk.absFold ∧ (State.judgeSpan s).ownLock = s.ownLock ∧ (State.judgeSpan s).tally.resids = s.tally.resids := by
  refine ⟨?_, ?_, ?_, ?_, ?_⟩ <;> simp only [State.judgeSpan] <;> (repeat' split) <;> first | (simp; done) | rfl

@[simp] theorem State.endStage_frame (s : State) :
    (State.endStage s).pending = s.pending ∧ (State.endStage s).store.flash = s.store.flash ∧ (State.endStage s).clk.absFold = s.clk.absFold ∧ (State.endStage s).ownLock = s.ownLock ∧ (State.endStage s).tally.resids = s.tally.resids := by
  refine ⟨?_, ?_, ?_, ?_, ?_⟩ <;> simp only [State.endStage] <;> (repeat' split) <;> first | (simp; done) | rfl

@[simp] theorem State.checkLock_frame (s : State) :
    (State.checkLock s).pending = s.pending ∧ (State.checkLock s).store.flash = s.store.flash ∧ (State.checkLock s).clk.absFold = s.clk.absFold ∧ (State.checkLock s).ownLock = s.ownLock ∧ (State.checkLock s).tally.resids = s.tally.resids := by
  refine ⟨?_, ?_, ?_, ?_, ?_⟩ <;> simp only [State.checkLock] <;> (repeat' split) <;> first | (simp; done) | rfl

@[simp] theorem State.checkLoss_frame (s : State) :
    (State.checkLoss s).pending = s.pending ∧ (State.checkLoss s).store.flash = s.store.flash ∧ (State.checkLoss s).clk.absFold = s.clk.absFold ∧ (State.checkLoss s).ownLock = s.ownLock ∧ (State.checkLoss s).tally.resids = s.tally.resids := by
  refine ⟨?_, ?_, ?_, ?_, ?_⟩ <;> simp only [State.checkLoss] <;> (repeat' split) <;> first | (simp; done) | rfl

@[simp] theorem State.stageWord_frame (s : State) :
    (State.stageWord s).pending = s.pending ∧ (State.stageWord s).store.flash = s.store.flash ∧ (State.stageWord s).clk.absFold = s.clk.absFold ∧ (State.stageWord s).ownLock = s.ownLock ∧ (State.stageWord s).tally.resids = s.tally.resids := by
  refine ⟨?_, ?_, ?_, ?_, ?_⟩ <;> simp only [State.stageWord] <;> (repeat' split) <;> first | (simp; done) | rfl

@[simp] theorem State.filterStep_frame (s : State) (b t : Nat) (e : Fs) :
    (State.filterStep s b t e).pending = s.pending ∧ (State.filterStep s b t e).store.flash = s.store.flash ∧ (State.filterStep s b t e).clk.absFold = s.clk.absFold ∧ (State.filterStep s b t e).ownLock = s.ownLock ∧ (State.filterStep s b t e).tally.resids = s.tally.resids := by
  refine ⟨?_, ?_, ?_, ?_, ?_⟩ <;> simp only [State.filterStep] <;> (repeat' split) <;> first | (simp; done) | rfl

@[simp] theorem State.trackCounts_frame (s : State) (e : Option Fs) (win : List (Nat × Fs)) :
    (State.trackCounts s e win).pending = s.pending ∧ (State.trackCounts s e win).store.flash = s.store.flash ∧ (State.trackCounts s e win).clk.absFold = s.clk.absFold ∧ (State.trackCounts s e win).ownLock = s.ownLock ∧ (State.trackCounts s e win).tally.resids = s.tally.resids := by
  refine ⟨?_, ?_, ?_, ?_, ?_⟩ <;> simp only [State.trackCounts] <;> (repeat' split) <;> first | (simp; done) | rfl

@[simp] theorem State.trackLocked_frame (s : State) (win : List (Nat × Fs)) :
    (State.trackLocked s win).pending = s.pending ∧ (State.trackLocked s win).store.flash = s.store.flash ∧ (State.trackLocked s win).clk.absFold = s.clk.absFold ∧ (State.trackLocked s win).ownLock = s.ownLock ∧ (State.trackLocked s win).tally.resids = s.tally.resids := by
  refine ⟨?_, ?_, ?_, ?_, ?_⟩ <;> simp only [State.trackLocked] <;> (repeat' split) <;> first | (simp; done) | rfl

@[simp] theorem State.track_frame (s : State) (e : Option Fs) :
    (State.track s e).pending = s.pending ∧ (State.track s e).store.flash = s.store.flash ∧ (State.track s e).clk.absFold = s.clk.absFold ∧ (State.track s e).ownLock = s.ownLock ∧ (State.track s e).tally.resids = s.tally.resids := by
  refine ⟨?_, ?_, ?_, ?_, ?_⟩ <;> simp only [State.track] <;> (repeat' split) <;> first | (simp; done) | rfl

@[simp] theorem State.growUnc_frame (s : State) :
    (State.growUnc s).pending = s.pending ∧ (State.growUnc s).store.flash = s.store.flash ∧ (State.growUnc s).clk.absFold = s.clk.absFold ∧ (State.growUnc s).ownLock = s.ownLock ∧ (State.growUnc s).tally.resids = s.tally.resids := by
  refine ⟨?_, ?_, ?_, ?_, ?_⟩ <;> simp only [State.growUnc] <;> (repeat' split) <;> first | (simp; done) | rfl

@[simp] theorem State.observe_frame (s : State) :
    (State.observe s).pending = s.pending ∧ (State.observe s).store.flash = s.store.flash ∧ (State.observe s).clk.absFold = s.clk.absFold ∧ (State.observe s).ownLock = s.ownLock ∧ (State.observe s).tally.resids = s.tally.resids := by
  refine ⟨?_, ?_, ?_, ?_, ?_⟩ <;> simp only [State.observe] <;> (repeat' split) <;> first | (simp; done) | rfl

@[simp] theorem State.closeSecond_frame (s : State) :
    (State.closeSecond s).pending = s.pending ∧ (State.closeSecond s).store.flash = s.store.flash ∧ (State.closeSecond s).clk.absFold = s.clk.absFold ∧ (State.closeSecond s).ownLock = s.ownLock ∧ (State.closeSecond s).tally.resids = s.tally.resids := by
  refine ⟨?_, ?_, ?_, ?_, ?_⟩ <;> simp only [State.closeSecond] <;> (repeat' split) <;> first | (simp; done) | rfl

@[simp] theorem State.loopStep_frame (s : State) :
    (State.loopStep s).pending = s.pending ∧ (State.loopStep s).store.flash = s.store.flash ∧ (State.loopStep s).clk.absFold = s.clk.absFold ∧ (State.loopStep s).ownLock = s.ownLock ∧ (State.loopStep s).tally.resids = s.tally.resids := by
  refine ⟨?_, ?_, ?_, ?_, ?_⟩ <;> simp only [State.loopStep] <;> (repeat' split) <;> first | (simp; done) | rfl

@[simp] theorem State.consumeSamples_frame (s : State) :
    (State.consumeSamples s).pending = s.pending ∧ (State.consumeSamples s).store.flash = s.store.flash ∧ (State.consumeSamples s).clk.absFold = s.clk.absFold ∧ (State.consumeSamples s).ownLock = s.ownLock ∧ (State.consumeSamples s).tally.resids = s.tally.resids := by
  refine ⟨?_, ?_, ?_, ?_, ?_⟩ <;> simp only [State.consumeSamples] <;> (repeat' split) <;> first | (simp; done) | rfl

@[simp] theorem State.dpllSlot_frame (s : State) (onDie : Int) (tsense : Nat) :
    (State.dpllSlot s onDie tsense).pending = s.pending ∧ (State.dpllSlot s onDie tsense).store.flash = s.store.flash ∧ (State.dpllSlot s onDie tsense).clk.absFold = s.clk.absFold ∧ (State.dpllSlot s onDie tsense).ownLock = s.ownLock ∧ (State.dpllSlot s onDie tsense).tally.resids = s.tally.resids := by
  refine ⟨?_, ?_, ?_, ?_, ?_⟩ <;> simp only [State.dpllSlot] <;> (repeat' split) <;> first | (simp; done) | rfl

@[simp] theorem State.learn_frame (s : State) (sumLoop sumD : Int) :
    (State.learn s sumLoop sumD).pending = s.pending ∧ (State.learn s sumLoop sumD).store.flash = s.store.flash ∧ (State.learn s sumLoop sumD).clk.absFold = s.clk.absFold ∧ (State.learn s sumLoop sumD).ownLock = s.ownLock ∧ (State.learn s sumLoop sumD).tally.resids = s.tally.resids := by
  refine ⟨?_, ?_, ?_, ?_, ?_⟩ <;> simp only [State.learn] <;> (repeat' split) <;> first | (simp; done) | rfl

@[simp] theorem State.newOscillator_frame (s : State) (resetTemp : Bool) :
    (State.newOscillator s resetTemp).pending = s.pending ∧ (State.newOscillator s resetTemp).store.flash = s.store.flash ∧ (State.newOscillator s resetTemp).clk.absFold = s.clk.absFold ∧ (State.newOscillator s resetTemp).ownLock = s.ownLock ∧ (State.newOscillator s resetTemp).tally.resids = s.tally.resids := by
  refine ⟨?_, ?_, ?_, ?_, ?_⟩ <;> simp only [State.newOscillator] <;> (repeat' split) <;> first | (simp; done) | rfl

@[simp] theorem State.loseLock_frame (s : State) :
    (State.loseLock s).pending = s.pending ∧ (State.loseLock s).store.flash = s.store.flash ∧ (State.loseLock s).clk.absFold = s.clk.absFold ∧ (State.loseLock s).ownLock = s.ownLock ∧ (State.loseLock s).tally.resids = s.tally.resids := by
  refine ⟨?_, ?_, ?_, ?_, ?_⟩ <;> simp only [State.loseLock] <;> (repeat' split) <;> first | (simp; done) | rfl

@[simp] theorem State.awaitLock_frame (s : State) (t : Nat) :
    (State.awaitLock s t).pending = s.pending ∧ (State.awaitLock s t).store.flash = s.store.flash ∧ (State.awaitLock s t).clk.absFold = s.clk.absFold ∧ (State.awaitLock s t).ownLock = s.ownLock ∧ (State.awaitLock s t).tally.resids = s.tally.resids := by
  refine ⟨?_, ?_, ?_, ?_, ?_⟩ <;> simp only [State.awaitLock] <;> (repeat' split) <;> first | (simp; done) | rfl

@[simp] theorem State.lockBoundary_frame (s : State) :
    (State.lockBoundary s).pending = s.pending ∧ (State.lockBoundary s).store.flash = s.store.flash ∧ (State.lockBoundary s).clk.absFold = s.clk.absFold ∧ (State.lockBoundary s).ownLock = s.ownLock ∧ (State.lockBoundary s).tally.resids = s.tally.resids := by
  refine ⟨?_, ?_, ?_, ?_, ?_⟩ <;> simp only [State.lockBoundary] <;> (repeat' split) <;> first | (simp; done) | rfl

@[simp] theorem State.enterAcquire_frame (s : State) (bw : Nat) :
    (State.enterAcquire s bw).pending = s.pending ∧ (State.enterAcquire s bw).store.flash = s.store.flash ∧ (State.enterAcquire s bw).clk.absFold = s.clk.absFold ∧ (State.enterAcquire s bw).ownLock = s.ownLock ∧ (State.enterAcquire s bw).tally.resids = s.tally.resids := by
  refine ⟨?_, ?_, ?_, ?_, ?_⟩ <;> simp only [State.enterAcquire] <;> (repeat' split) <;> first | (simp; done) | rfl

@[simp] theorem State.acquireNew_frame (s : State) (src : TallySrc) (cause : Nat) :
    (State.acquireNew s src cause).pending = s.pending ∧ (State.acquireNew s src cause).store.flash = s.store.flash ∧ (State.acquireNew s src cause).clk.absFold = s.clk.absFold ∧ (State.acquireNew s src cause).ownLock = s.ownLock ∧ (State.acquireNew s src cause).tally.resids = s.tally.resids := by
  refine ⟨?_, ?_, ?_, ?_, ?_⟩ <;> simp only [State.acquireNew] <;> (repeat' split) <;> first | (simp; done) | rfl

@[simp] theorem State.enterHoldover_frame (s : State) :
    (State.enterHoldover s).pending = s.pending ∧ (State.enterHoldover s).store.flash = s.store.flash ∧ (State.enterHoldover s).clk.absFold = s.clk.absFold ∧ (State.enterHoldover s).ownLock = s.ownLock ∧ (State.enterHoldover s).tally.resids = s.tally.resids := by
  refine ⟨?_, ?_, ?_, ?_, ?_⟩ <;> simp only [State.enterHoldover] <;> (repeat' split) <;> first | (simp; done) | rfl

@[simp] theorem State.endEpisode_frame (s : State) (old : DpllState) :
    (State.endEpisode s old).pending = s.pending ∧ (State.endEpisode s old).store.flash = s.store.flash ∧ (State.endEpisode s old).clk.absFold = s.clk.absFold ∧ (State.endEpisode s old).ownLock = s.ownLock ∧ (State.endEpisode s old).tally.resids = s.tally.resids := by
  refine ⟨?_, ?_, ?_, ?_, ?_⟩ <;> simp only [State.endEpisode] <;> (repeat' split) <;> first | (simp; done) | rfl

@[simp] theorem State.resolveNone_frame (s : State) (frozen graded : Bool) (oldBell : Option Nat) :
    (State.resolveNone s frozen graded oldBell).pending = s.pending ∧ (State.resolveNone s frozen graded oldBell).store.flash = s.store.flash ∧ (State.resolveNone s frozen graded oldBell).clk.absFold = s.clk.absFold ∧ (State.resolveNone s frozen graded oldBell).ownLock = s.ownLock ∧ (State.resolveNone s frozen graded oldBell).tally.resids = s.tally.resids := by
  refine ⟨?_, ?_, ?_, ?_, ?_⟩ <;> simp only [State.resolveNone] <;> (repeat' split) <;> first | (simp; done) | rfl

@[simp] theorem State.resolveNext_frame (s : State) (old : DpllState) (next : Option DpllState) :
    (State.resolveNext s old next).pending = s.pending ∧ (State.resolveNext s old next).store.flash = s.store.flash ∧ (State.resolveNext s old next).clk.absFold = s.clk.absFold ∧ (State.resolveNext s old next).ownLock = s.ownLock ∧ (State.resolveNext s old next).tally.resids = s.tally.resids := by
  refine ⟨?_, ?_, ?_, ?_, ?_⟩ <;> simp only [State.resolveNext] <;> (repeat' split) <;> first | (simp; done) | rfl

@[simp] theorem State.resolveBell_frame (s : State) (b : Nat) (released frozen : Bool) (next : Option DpllState) (oldBell : Option Nat) (oldSel : SelState) :
    (State.resolveBell s b released frozen next oldBell oldSel).pending = s.pending ∧ (State.resolveBell s b released frozen next oldBell oldSel).store.flash = s.store.flash ∧ (State.resolveBell s b released frozen next oldBell oldSel).clk.absFold = s.clk.absFold ∧ (State.resolveBell s b released frozen next oldBell oldSel).ownLock = s.ownLock ∧ (State.resolveBell s b released frozen next oldBell oldSel).tally.resids = s.tally.resids := by
  refine ⟨?_, ?_, ?_, ?_, ?_⟩ <;> simp only [State.resolveBell] <;> (repeat' split) <;> first | (simp; done) | rfl

@[simp] theorem State.resolveDpll_frame (s : State) (oldBell : Option Nat) (oldSel : SelState) (graded : Bool) :
    (State.resolveDpll s oldBell oldSel graded).pending = s.pending ∧ (State.resolveDpll s oldBell oldSel graded).store.flash = s.store.flash ∧ (State.resolveDpll s oldBell oldSel graded).clk.absFold = s.clk.absFold ∧ (State.resolveDpll s oldBell oldSel graded).ownLock = s.ownLock ∧ (State.resolveDpll s oldBell oldSel graded).tally.resids = s.tally.resids := by
  refine ⟨?_, ?_, ?_, ?_, ?_⟩ <;> simp only [State.resolveDpll] <;> (repeat' split) <;> first | (simp; done) | rfl

@[simp] theorem State.judgeBandwidth_frame (s : State) :
    (State.judgeBandwidth s).pending = s.pending ∧ (State.judgeBandwidth s).store.flash = s.store.flash ∧ (State.judgeBandwidth s).clk.absFold = s.clk.absFold ∧ (State.judgeBandwidth s).ownLock = s.ownLock ∧ (State.judgeBandwidth s).tally.resids = s.tally.resids := by
  refine ⟨?_, ?_, ?_, ?_, ?_⟩ <;> simp only [State.judgeBandwidth] <;> (repeat' split) <;> first | (simp; done) | rfl

@[simp] theorem State.commitWord_frame (s : State) :
    (State.commitWord s).pending = s.pending ∧ (State.commitWord s).store.flash = s.store.flash ∧ (State.commitWord s).clk.absFold = s.clk.absFold ∧ (State.commitWord s).ownLock = s.ownLock ∧ (State.commitWord s).tally.resids = s.tally.resids := by
  refine ⟨?_, ?_, ?_, ?_, ?_⟩ <;> simp only [State.commitWord] <;> (repeat' split) <;> first | (simp; done) | rfl

@[simp] theorem State.limitStage_frame (s : State) :
    (State.limitStage s).pending = s.pending ∧ (State.limitStage s).store.flash = s.store.flash ∧ (State.limitStage s).clk.absFold = s.clk.absFold ∧ (State.limitStage s).ownLock = s.ownLock ∧ (State.limitStage s).tally.resids = s.tally.resids := by
  refine ⟨?_, ?_, ?_, ?_, ?_⟩ <;> simp only [State.limitStage] <;> (repeat' split) <;> first | (simp; done) | rfl

@[simp] theorem commitLoop_frame (q : Call) (s : State) :
    (commitLoop q s).pending = s.pending ∧ (commitLoop q s).store.flash = s.store.flash ∧ (commitLoop q s).clk.absFold = s.clk.absFold ∧ (commitLoop q s).ownLock = s.ownLock ∧ (commitLoop q s).tally.resids = s.tally.resids := by
  refine ⟨?_, ?_, ?_, ?_, ?_⟩ <;> simp only [commitLoop] <;> (repeat' split) <;> first | (simp; done) | rfl

@[simp] theorem State.limitNew_frame (s : State) :
    (State.limitNew s).pending = s.pending ∧ (State.limitNew s).store.flash = s.store.flash ∧ (State.limitNew s).clk.absFold = s.clk.absFold ∧ (State.limitNew s).ownLock = s.ownLock ∧ (State.limitNew s).tally.resids = s.tally.resids := by
  refine ⟨?_, ?_, ?_, ?_, ?_⟩ <;> simp only [State.limitNew] <;> (repeat' split) <;> first | (simp; done) | rfl

@[simp] theorem commitHold_frame (q : Call) (s : State) :
    (commitHold q s).pending = s.pending ∧ (commitHold q s).store.flash = s.store.flash ∧ (commitHold q s).clk.absFold = s.clk.absFold ∧ (commitHold q s).ownLock = s.ownLock ∧ (commitHold q s).tally.resids = s.tally.resids := by
  refine ⟨?_, ?_, ?_, ?_, ?_⟩ <;> simp only [commitHold] <;> (repeat' split) <;> first | (simp; done) | rfl

@[simp] theorem commitNewOsc_frame (q : Call) (s : State) :
    (commitNewOsc q s).pending = s.pending ∧ (commitNewOsc q s).store.flash = s.store.flash ∧ (commitNewOsc q s).clk.absFold = s.clk.absFold ∧ (commitNewOsc q s).ownLock = s.ownLock ∧ (commitNewOsc q s).tally.resids = s.tally.resids := by
  refine ⟨?_, ?_, ?_, ?_, ?_⟩ <;> simp only [commitNewOsc] <;> (repeat' split) <;> first | (simp; done) | rfl

@[simp] theorem State.settleTo_frame (s : State) (o t : Nat) :
    (State.settleTo s o t).pending = s.pending ∧ (State.settleTo s o t).store.flash = s.store.flash ∧ (State.settleTo s o t).clk.absFold = s.clk.absFold ∧ (State.settleTo s o t).ownLock = s.ownLock ∧ (State.settleTo s o t).tally.resids = s.tally.resids := by
  refine ⟨?_, ?_, ?_, ?_, ?_⟩ <;> simp only [State.settleTo] <;> (repeat' split) <;> first | (simp; done) | rfl

@[simp] theorem State.settleSeg_frame (s : State) (o t : Nat) :
    (State.settleSeg s o t).pending = s.pending ∧ (State.settleSeg s o t).store.flash = s.store.flash ∧ (State.settleSeg s o t).clk.absFold = s.clk.absFold ∧ (State.settleSeg s o t).ownLock = s.ownLock ∧ (State.settleSeg s o t).tally.resids = s.tally.resids := by
  simp only [State.settleSeg]; split <;> simp

@[simp] theorem State.startTrain_frame (s : State) (o : Nat) (p : Plan) :
    (State.startTrain s o p).pending = s.pending ∧ (State.startTrain s o p).store.flash = s.store.flash ∧ (State.startTrain s o p).clk.absFold = s.clk.absFold ∧ (State.startTrain s o p).ownLock = s.ownLock ∧ (State.startTrain s o p).tally.resids = s.tally.resids := by
  simp -implicitDefEqProofs [State.startTrain]

@[simp] theorem State.settle_frame (s : State) (o t : Nat) :
    (State.settle s o t).pending = s.pending ∧ (State.settle s o t).store.flash = s.store.flash ∧ (State.settle s o t).clk.absFold = s.clk.absFold ∧ (State.settle s o t).ownLock = s.ownLock ∧ (State.settle s o t).tally.resids = s.tally.resids := by
  refine ⟨?_, ?_, ?_, ?_, ?_⟩ <;> simp only [State.settle] <;> (repeat' split) <;> first | (simp; done) | rfl

@[simp] theorem State.openGate_frame (s : State) (o t : Nat) :
    (State.openGate s o t).pending = s.pending ∧ (State.openGate s o t).store.flash = s.store.flash ∧ (State.openGate s o t).clk.absFold = s.clk.absFold ∧ (State.openGate s o t).ownLock = s.ownLock ∧ (State.openGate s o t).tally.resids = s.tally.resids := by
  simp only [State.openGate]; split <;> simp -implicitDefEqProofs

@[simp] theorem State.closeGate_frame (s : State) (o t : Nat) (crook : Bool) :
    (State.closeGate s o t crook).pending = s.pending ∧ (State.closeGate s o t crook).store.flash = s.store.flash ∧ (State.closeGate s o t crook).clk.absFold = s.clk.absFold ∧ (State.closeGate s o t crook).ownLock = s.ownLock ∧ (State.closeGate s o t crook).tally.resids = s.tally.resids := by
  simp only [State.closeGate]; split; · simp
  split <;> simp -implicitDefEqProofs

@[simp] theorem State.putBy_frame (s : State) (o edge : Nat) :
    (State.putBy s o edge).pending = s.pending ∧ (State.putBy s o edge).store.flash = s.store.flash ∧ (State.putBy s o edge).clk.absFold = s.clk.absFold ∧ (State.putBy s o edge).ownLock = s.ownLock ∧ (State.putBy s o edge).tally.resids = s.tally.resids := by
  simp only [State.putBy]; split <;> simp

@[simp] theorem State.setRunningAt_frame (s : State) (o t low : Nat) (again : Bool) :
    (State.setRunningAt s o t low again).pending = s.pending ∧ (State.setRunningAt s o t low again).store.flash = s.store.flash ∧ (State.setRunningAt s o t low again).clk.absFold = s.clk.absFold ∧ (State.setRunningAt s o t low again).ownLock = s.ownLock ∧ (State.setRunningAt s o t low again).tally.resids = s.tally.resids := by
  simp only [State.setRunningAt]; (repeat' split) <;> simp -implicitDefEqProofs

@[simp] theorem State.setRunning_frame (s : State) (o t : Nat) (again : Bool) :
    (State.setRunning s o t again).pending = s.pending ∧ (State.setRunning s o t again).store.flash = s.store.flash ∧ (State.setRunning s o t again).clk.absFold = s.clk.absFold ∧ (State.setRunning s o t again).ownLock = s.ownLock ∧ (State.setRunning s o t again).tally.resids = s.tally.resids := by
  simp [State.setRunning]

@[simp] theorem State.runAll_frame (s : State) (t : Nat) :
    (State.runAll s t).pending = s.pending ∧ (State.runAll s t).store.flash = s.store.flash ∧ (State.runAll s t).clk.absFold = s.clk.absFold ∧ (State.runAll s t).ownLock = s.ownLock ∧ (State.runAll s t).tally.resids = s.tally.resids := by
  refine ⟨?_, ?_, ?_, ?_, ?_⟩ <;> simp only [State.runAll] <;> (repeat' split) <;> first | (simp; done) | rfl

@[simp] theorem State.prstOutput_frame (s : State) (o t : Nat) :
    (State.prstOutput s o t).pending = s.pending ∧ (State.prstOutput s o t).store.flash = s.store.flash ∧ (State.prstOutput s o t).clk.absFold = s.clk.absFold ∧ (State.prstOutput s o t).ownLock = s.ownLock ∧ (State.prstOutput s o t).tally.resids = s.tally.resids := by
  refine ⟨?_, ?_, ?_, ?_, ?_⟩ <;> simp only [State.prstOutput] <;> (repeat' split) <;> first | (simp; done) | rfl

@[simp] theorem State.moveOut_frame (s : State) (e : Entry) (o : Nat) (x : Fs) :
    (State.moveOut s e o x).pending = s.pending ∧ (State.moveOut s e o x).store.flash = s.store.flash ∧ (State.moveOut s e o x).clk.absFold = s.clk.absFold ∧ (State.moveOut s e o x).ownLock = s.ownLock ∧ (State.moveOut s e o x).tally.resids = s.tally.resids := by
  refine ⟨?_, ?_, ?_, ?_, ?_⟩ <;> simp only [State.moveOut] <;> (repeat' split) <;> first | (simp; done) | rfl

@[simp] theorem State.moveImmediate_frame (s : State) (seq : BitVec 32) (o a b : Nat) :
    (State.moveImmediate s seq o a b).pending = s.pending ∧ (State.moveImmediate s seq o a b).store.flash = s.store.flash ∧ (State.moveImmediate s seq o a b).clk.absFold = s.clk.absFold ∧ (State.moveImmediate s seq o a b).ownLock = s.ownLock ∧ (State.moveImmediate s seq o a b).tally.resids = s.tally.resids := by
  refine ⟨?_, ?_, ?_, ?_, ?_⟩ <;> simp only [State.moveImmediate] <;> (repeat' split) <;> first | (simp; done) | rfl

@[simp] theorem State.rebase_frame (s : State) (o t : Nat) (c : Settings) :
    (State.rebase s o t c).pending = s.pending ∧ (State.rebase s o t c).store.flash = s.store.flash ∧ (State.rebase s o t c).clk.absFold = s.clk.absFold ∧ (State.rebase s o t c).ownLock = s.ownLock ∧ (State.rebase s o t c).tally.resids = s.tally.resids := by
  simp only [State.rebase]; (repeat' split) <;> simp -implicitDefEqProofs

@[simp] theorem State.rebaseOuts_frame (s : State) (l : List Nat) (c : Settings) :
    (State.rebaseOuts s l c).pending = s.pending ∧ (State.rebaseOuts s l c).store.flash = s.store.flash ∧ (State.rebaseOuts s l c).clk.absFold = s.clk.absFold ∧ (State.rebaseOuts s l c).ownLock = s.ownLock ∧ (State.rebaseOuts s l c).tally.resids = s.tally.resids := by
  refine ⟨?_, ?_, ?_, ?_, ?_⟩ <;> simp only [State.rebaseOuts] <;> (repeat' split) <;> first | (simp; done) | rfl

theorem State.relockAfter_frame (s : State) (l : List Nat) (c d : Settings) (k : Nat) :
    (((s.rebaseOuts l c).setCfg d).awaitLock k).pending = s.pending ∧ (((s.rebaseOuts l c).setCfg d).awaitLock k).store.flash = s.store.flash ∧ (((s.rebaseOuts l c).setCfg d).awaitLock k).clk.absFold = s.clk.absFold ∧ (((s.rebaseOuts l c).setCfg d).awaitLock k).ownLock = s.ownLock ∧ (((s.rebaseOuts l c).setCfg d).awaitLock k).tally.resids = s.tally.resids := by
  simp

@[simp] theorem commitVco_frame (q : Call) (s : State) :
    (commitVco q s).pending = s.pending ∧ (commitVco q s).store.flash = s.store.flash ∧ (commitVco q s).clk.absFold = s.clk.absFold ∧ (commitVco q s).ownLock = s.ownLock ∧ (commitVco q s).tally.resids = s.tally.resids := by
  simp only [commitVco]
  split <;> simp -implicitDefEqProofs

@[simp] theorem commitPaddock_frame (q : Call) (s : State) :
    (commitPaddock q s).pending = s.pending ∧ (commitPaddock q s).store.flash = s.store.flash ∧ (commitPaddock q s).clk.absFold = s.clk.absFold ∧ (commitPaddock q s).ownLock = s.ownLock ∧ (commitPaddock q s).tally.resids = s.tally.resids := by
  unfold commitPaddock
  exact ⟨setCfg_after (·.pending) (fun _ _ => rfl) _ _ _ (ite_after (·.pending) _ s _ (State.rebaseOuts_frame _ _ _).1),
    setCfg_after (·.store.flash) (fun _ _ => rfl) _ _ _ (ite_after (·.store.flash) _ s _ (State.rebaseOuts_frame _ _ _).2.1),
    setCfg_after (·.clk.absFold) (fun _ _ => rfl) _ _ _ (ite_after (·.clk.absFold) _ s _ (State.rebaseOuts_frame _ _ _).2.2.1),
    setCfg_after (·.ownLock) (fun _ _ => rfl) _ _ _ (ite_after (·.ownLock) _ s _ (State.rebaseOuts_frame _ _ _).2.2.2.1),
    setCfg_after (·.tally.resids) (fun _ _ => rfl) _ _ _ (ite_after (·.tally.resids) _ s _ (State.rebaseOuts_frame _ _ _).2.2.2.2)⟩

@[simp] theorem State.keepWidth_frame (s : State) (o : Nat) :
    (State.keepWidth s o).pending = s.pending ∧ (State.keepWidth s o).store.flash = s.store.flash ∧ (State.keepWidth s o).clk.absFold = s.clk.absFold ∧ (State.keepWidth s o).ownLock = s.ownLock ∧ (State.keepWidth s o).tally.resids = s.tally.resids := by
  refine ⟨?_, ?_, ?_, ?_, ?_⟩ <;> simp only [State.keepWidth] <;> (repeat' split) <;> first | (simp; done) | rfl

@[simp] theorem commitOut_frame (q : Call) (s : State) :
    (commitOut q s).pending = s.pending ∧ (commitOut q s).store.flash = s.store.flash ∧ (commitOut q s).clk.absFold = s.clk.absFold ∧ (commitOut q s).ownLock = s.ownLock ∧ (commitOut q s).tally.resids = s.tally.resids := by
  refine ⟨?_, ?_, ?_, ?_, ?_⟩ <;> simp [commitOut, ite_pending, ite_flash, ite_absFold, ite_ownLock, ite_resids]

@[simp] theorem commitMon_frame (q : Call) (s : State) :
    (commitMon q s).pending = s.pending ∧ (commitMon q s).store.flash = s.store.flash ∧ (commitMon q s).clk.absFold = s.clk.absFold ∧ (commitMon q s).ownLock = s.ownLock ∧ (commitMon q s).tally.resids = s.tally.resids := by
  refine ⟨?_, ?_, ?_, ?_, ?_⟩ <;> simp only [commitMon] <;> (repeat' split) <;> first | (simp; done) | rfl

@[simp] theorem commitGateWindow_frame (q : Call) (s : State) :
    (commitGateWindow q s).pending = s.pending ∧ (commitGateWindow q s).store.flash = s.store.flash ∧ (commitGateWindow q s).clk.absFold = s.clk.absFold ∧ (commitGateWindow q s).ownLock = s.ownLock ∧ (commitGateWindow q s).tally.resids = s.tally.resids := by
  refine ⟨?_, ?_, ?_, ?_, ?_⟩ <;> simp only [commitGateWindow] <;> (repeat' split) <;> first | (simp; done) | rfl

@[simp] theorem commitGateFlush_frame (q : Call) (s : State) :
    ((commitGateFlush q s).1).pending = s.pending ∧ ((commitGateFlush q s).1).store.flash = s.store.flash ∧ ((commitGateFlush q s).1).clk.absFold = s.clk.absFold ∧ ((commitGateFlush q s).1).ownLock = s.ownLock ∧ ((commitGateFlush q s).1).tally.resids = s.tally.resids := by
  refine ⟨?_, ?_, ?_, ?_, ?_⟩ <;> simp only [commitGateFlush] <;> (repeat' split) <;> first | (simp; done) | rfl

end Sys2Proof.Machine
end

