-- ==== Sys2Proof/Laws/Frame2.lean ====
section
/-! SUPPORT. What every operation of Stile, Pulses, Shaft, Radio leaves alone: the queue of commands, the flash, the fold counter, the ownership
lock and the balance of each total of the ledger. -/

namespace Sys2Proof.Machine

@[simp] theorem State.enterStile_frame (s : State) (src : TallySrc) (amount : Fs) :
    (State.enterStile s src amount).pending = s.pending ∧ (State.enterStile s src amount).store.flash = s.store.flash ∧ (State.enterStile s src amount).clk.absFold = s.clk.absFold ∧ (State.enterStile s src amount).ownLock = s.ownLock ∧ (State.enterStile s src amount).tally.resids = s.tally.resids := by
  refine ⟨?_, ?_, ?_, ?_, ?_⟩ <;> simp only [State.enterStile] <;> (repeat' split) <;> first | (simp; done) | rfl

@[simp] theorem State.measureStile_frame (s : State) :
    (State.measureStile s).pending = s.pending ∧ (State.measureStile s).store.flash = s.store.flash ∧ (State.measureStile s).clk.absFold = s.clk.absFold ∧ (State.measureStile s).ownLock = s.ownLock ∧ (State.measureStile s).tally.resids = s.tally.resids := by
  refine ⟨?_, ?_, ?_, ?_, ?_⟩ <;> simp only [State.measureStile] <;> (repeat' split) <;> first | (simp; done) | rfl

@[simp] theorem State.makeApplying_frame (s : State) (e : Entry) :
    (State.makeApplying s e).pending = s.pending ∧ (State.makeApplying s e).store.flash = s.store.flash ∧ (State.makeApplying s e).clk.absFold = s.clk.absFold ∧ (State.makeApplying s e).ownLock = s.ownLock ∧ (State.makeApplying s e).tally.resids = s.tally.resids := by
  refine ⟨?_, ?_, ?_, ?_, ?_⟩ <;> simp only [State.makeApplying] <;> (repeat' split) <;> first | (simp; done) | rfl

@[simp] theorem State.activateTally_frame (s : State) :
    (State.activateTally s).pending = s.pending ∧ (State.activateTally s).store.flash = s.store.flash ∧ (State.activateTally s).clk.absFold = s.clk.absFold ∧ (State.activateTally s).ownLock = s.ownLock ∧ (State.activateTally s).tally.resids = s.tally.resids := by
  refine ⟨?_, ?_, ?_, ?_, ?_⟩
  · simp only [State.activateTally]
    (repeat' split) <;> first | (simp; done) | (refine (forEach_pending _ _ ?_ _).trans ?_ <;> [(intro x s; (try dsimp only); (repeat' split) <;> first | (simp; done) | (refine (forEach_pending _ _ ?_ _).trans ?_ <;> [(intro x s; (try dsimp only); (repeat' split) <;> simp); (first | rfl | simp)])); (first | rfl | simp)])
  · simp only [State.activateTally]
    (repeat' split) <;> first | (simp; done) | (refine (forEach_flash _ _ ?_ _).trans ?_ <;> [(intro x s; (try dsimp only); (repeat' split) <;> first | (simp; done) | (refine (forEach_flash _ _ ?_ _).trans ?_ <;> [(intro x s; (try dsimp only); (repeat' split) <;> simp); (first | rfl | simp)])); (first | rfl | simp)])
  · simp only [State.activateTally]
    (repeat' split) <;> first | (simp; done) | (refine (forEach_absFold _ _ ?_ _).trans ?_ <;> [(intro x s; (try dsimp only); (repeat' split) <;> first | (simp; done) | (refine (forEach_absFold _ _ ?_ _).trans ?_ <;> [(intro x s; (try dsimp only); (repeat' split) <;> simp); (first | rfl | simp)])); (first | rfl | simp)])
  · simp only [State.activateTally]
    (repeat' split) <;> first | (simp; done) | (refine (forEach_ownLock _ _ ?_ _).trans ?_ <;> [(intro x s; (try dsimp only); (repeat' split) <;> first | (simp; done) | (refine (forEach_ownLock _ _ ?_ _).trans ?_ <;> [(intro x s; (try dsimp only); (repeat' split) <;> simp); (first | rfl | simp)])); (first | rfl | simp)])
  · simp only [State.activateTally]
    (repeat' split) <;> first | (simp; done) | (refine (forEach_resids _ _ ?_ _).trans ?_ <;> [(intro x s; (try dsimp only); (repeat' split) <;> first | (simp; done) | (refine (forEach_resids _ _ ?_ _).trans ?_ <;> [(intro x s; (try dsimp only); (repeat' split) <;> simp); (first | rfl | simp)])); (first | rfl | simp)])

@[simp] theorem State.payGrazed_frame (s : State) (o : Nat) :
    (State.payGrazed s o).pending = s.pending ∧ (State.payGrazed s o).store.flash = s.store.flash ∧ (State.payGrazed s o).clk.absFold = s.clk.absFold ∧ (State.payGrazed s o).ownLock = s.ownLock ∧ (State.payGrazed s o).tally.resids = s.tally.resids := by
  refine ⟨?_, ?_, ?_, ?_, ?_⟩ <;> simp only [State.payGrazed] <;> (repeat' split) <;> first | (simp; done) | rfl

@[simp] theorem State.tallySlot_frame (s : State) :
    (State.tallySlot s).pending = s.pending ∧ (State.tallySlot s).store.flash = s.store.flash ∧ (State.tallySlot s).clk.absFold = s.clk.absFold ∧ (State.tallySlot s).ownLock = s.ownLock ∧ (State.tallySlot s).tally.resids = s.tally.resids := by
  refine ⟨?_, ?_, ?_, ?_, ?_⟩
  · simp only [State.tallySlot]
    (repeat' split) <;> first | (simp; done) | (refine (forEach_pending _ _ ?_ _).trans ?_ <;> [(intro x s; (try dsimp only); (repeat' split) <;> first | (simp; done) | (refine (forEach_pending _ _ ?_ _).trans ?_ <;> [(intro x s; (try dsimp only); (repeat' split) <;> simp); (first | rfl | simp)])); (first | rfl | simp)])
  · simp only [State.tallySlot]
    (repeat' split) <;> first | (simp; done) | (refine (forEach_flash _ _ ?_ _).trans ?_ <;> [(intro x s; (try dsimp only); (repeat' split) <;> first | (simp; done) | (refine (forEach_flash _ _ ?_ _).trans ?_ <;> [(intro x s; (try dsimp only); (repeat' split) <;> simp); (first | rfl | simp)])); (first | rfl | simp)])
  · simp only [State.tallySlot]
    (repeat' split) <;> first | (simp; done) | (refine (forEach_absFold _ _ ?_ _).trans ?_ <;> [(intro x s; (try dsimp only); (repeat' split) <;> first | (simp; done) | (refine (forEach_absFold _ _ ?_ _).trans ?_ <;> [(intro x s; (try dsimp only); (repeat' split) <;> simp); (first | rfl | simp)])); (first | rfl | simp)])
  · simp only [State.tallySlot]
    (repeat' split) <;> first | (simp; done) | (refine (forEach_ownLock _ _ ?_ _).trans ?_ <;> [(intro x s; (try dsimp only); (repeat' split) <;> first | (simp; done) | (refine (forEach_ownLock _ _ ?_ _).trans ?_ <;> [(intro x s; (try dsimp only); (repeat' split) <;> simp); (first | rfl | simp)])); (first | rfl | simp)])
  · simp only [State.tallySlot]
    (repeat' split) <;> first | (simp; done) | (refine (forEach_resids _ _ ?_ _).trans ?_ <;> [(intro x s; (try dsimp only); (repeat' split) <;> first | (simp; done) | (refine (forEach_resids _ _ ?_ _).trans ?_ <;> [(intro x s; (try dsimp only); (repeat' split) <;> simp); (first | rfl | simp)])); (first | rfl | simp)])

@[simp] theorem State.settleGather_frame (s : State) (e : Entry) :
    (State.settleGather s e).pending = s.pending ∧ (State.settleGather s e).store.flash = s.store.flash ∧ (State.settleGather s e).clk.absFold = s.clk.absFold ∧ (State.settleGather s e).ownLock = s.ownLock ∧ (State.settleGather s e).tally.resids = s.tally.resids := by
  refine ⟨?_, ?_, ?_, ?_, ?_⟩
  · simp only [State.settleGather]
    (repeat' split) <;> first | (simp; done) | (refine (forEach_pending _ _ ?_ _).trans ?_ <;> [(intro x s; (try dsimp only); (repeat' split) <;> first | (simp; done) | (refine (forEach_pending _ _ ?_ _).trans ?_ <;> [(intro x s; (try dsimp only); (repeat' split) <;> simp); (first | rfl | simp)])); (first | rfl | simp)])
  · simp only [State.settleGather]
    (repeat' split) <;> first | (simp; done) | (refine (forEach_flash _ _ ?_ _).trans ?_ <;> [(intro x s; (try dsimp only); (repeat' split) <;> first | (simp; done) | (refine (forEach_flash _ _ ?_ _).trans ?_ <;> [(intro x s; (try dsimp only); (repeat' split) <;> simp); (first | rfl | simp)])); (first | rfl | simp)])
  · simp only [State.settleGather]
    (repeat' split) <;> first | (simp; done) | (refine (forEach_absFold _ _ ?_ _).trans ?_ <;> [(intro x s; (try dsimp only); (repeat' split) <;> first | (simp; done) | (refine (forEach_absFold _ _ ?_ _).trans ?_ <;> [(intro x s; (try dsimp only); (repeat' split) <;> simp); (first | rfl | simp)])); (first | rfl | simp)])
  · simp only [State.settleGather]
    (repeat' split) <;> first | (simp; done) | (refine (forEach_ownLock _ _ ?_ _).trans ?_ <;> [(intro x s; (try dsimp only); (repeat' split) <;> first | (simp; done) | (refine (forEach_ownLock _ _ ?_ _).trans ?_ <;> [(intro x s; (try dsimp only); (repeat' split) <;> simp); (first | rfl | simp)])); (first | rfl | simp)])
  · simp only [State.settleGather]
    (repeat' split) <;> first | (simp; done) | (refine (forEach_resids _ _ ?_ _).trans ?_ <;> [(intro x s; (try dsimp only); (repeat' split) <;> first | (simp; done) | (refine (forEach_resids _ _ ?_ _).trans ?_ <;> [(intro x s; (try dsimp only); (repeat' split) <;> simp); (first | rfl | simp)])); (first | rfl | simp)])

@[simp] theorem State.finishAll_frame (s : State) :
    (State.finishAll s).pending = s.pending ∧ (State.finishAll s).store.flash = s.store.flash ∧ (State.finishAll s).clk.absFold = s.clk.absFold ∧ (State.finishAll s).ownLock = s.ownLock ∧ (State.finishAll s).tally.resids = s.tally.resids := by
  refine ⟨?_, ?_, ?_, ?_, ?_⟩
  · simp only [State.finishAll]
    (repeat' split) <;> first | (simp; done) | (refine (forEach_pending _ _ ?_ _).trans ?_ <;> [(intro x s; (try dsimp only); (repeat' split) <;> first | (simp; done) | (refine (forEach_pending _ _ ?_ _).trans ?_ <;> [(intro x s; (try dsimp only); (repeat' split) <;> simp); (first | rfl | simp)])); (first | rfl | simp)])
  · simp only [State.finishAll]
    (repeat' split) <;> first | (simp; done) | (refine (forEach_flash _ _ ?_ _).trans ?_ <;> [(intro x s; (try dsimp only); (repeat' split) <;> first | (simp; done) | (refine (forEach_flash _ _ ?_ _).trans ?_ <;> [(intro x s; (try dsimp only); (repeat' split) <;> simp); (first | rfl | simp)])); (first | rfl | simp)])
  · simp only [State.finishAll]
    (repeat' split) <;> first | (simp; done) | (refine (forEach_absFold _ _ ?_ _).trans ?_ <;> [(intro x s; (try dsimp only); (repeat' split) <;> first | (simp; done) | (refine (forEach_absFold _ _ ?_ _).trans ?_ <;> [(intro x s; (try dsimp only); (repeat' split) <;> simp); (first | rfl | simp)])); (first | rfl | simp)])
  · simp only [State.finishAll]
    (repeat' split) <;> first | (simp; done) | (refine (forEach_ownLock _ _ ?_ _).trans ?_ <;> [(intro x s; (try dsimp only); (repeat' split) <;> first | (simp; done) | (refine (forEach_ownLock _ _ ?_ _).trans ?_ <;> [(intro x s; (try dsimp only); (repeat' split) <;> simp); (first | rfl | simp)])); (first | rfl | simp)])
  · simp only [State.finishAll]
    (repeat' split) <;> first | (simp; done) | (refine (forEach_resids _ _ ?_ _).trans ?_ <;> [(intro x s; (try dsimp only); (repeat' split) <;> first | (simp; done) | (refine (forEach_resids _ _ ?_ _).trans ?_ <;> [(intro x s; (try dsimp only); (repeat' split) <;> simp); (first | rfl | simp)])); (first | rfl | simp)])

@[simp] theorem commitStile_frame (q : Call) (s : State) :
    (commitStile q s).pending = s.pending ∧ (commitStile q s).store.flash = s.store.flash ∧ (commitStile q s).clk.absFold = s.clk.absFold ∧ (commitStile q s).ownLock = s.ownLock ∧ (commitStile q s).tally.resids = s.tally.resids := by
  refine ⟨?_, ?_, ?_, ?_, ?_⟩ <;> simp only [commitStile] <;> (repeat' split) <;> first | (simp; done) | rfl

@[simp] theorem State.addStep_frame (s : State) (e : Entry) :
    ((State.addStep s e).1).pending = s.pending ∧ ((State.addStep s e).1).store.flash = s.store.flash ∧ ((State.addStep s e).1).clk.absFold = s.clk.absFold ∧ ((State.addStep s e).1).ownLock = s.ownLock ∧ ((State.addStep s e).1).tally.resids = s.tally.resids := by
  refine ⟨?_, ?_, ?_, ?_, ?_⟩ <;> simp only [State.addStep] <;> (repeat' split) <;> first | (simp; done) | rfl

@[simp] theorem commitStep_frame (q : Call) (s : State) :
    ((commitStep q s).1).pending = s.pending ∧ ((commitStep q s).1).store.flash = s.store.flash ∧ ((commitStep q s).1).clk.absFold = s.clk.absFold ∧ ((commitStep q s).1).ownLock = s.ownLock ∧ ((commitStep q s).1).tally.resids = s.tally.resids := by
  refine ⟨?_, ?_, ?_, ?_, ?_⟩ <;> simp only [commitStep] <;> (repeat' split) <;> first | (simp; done) | rfl

@[simp] theorem commitOutDelay_frame (q : Call) (s : State) :
    ((commitOutDelay q s).1).pending = s.pending ∧ ((commitOutDelay q s).1).store.flash = s.store.flash ∧ ((commitOutDelay q s).1).clk.absFold = s.clk.absFold ∧ ((commitOutDelay q s).1).ownLock = s.ownLock ∧ ((commitOutDelay q s).1).tally.resids = s.tally.resids := by
  refine ⟨?_, ?_, ?_, ?_, ?_⟩ <;> simp only [commitOutDelay] <;> (repeat' split) <;> first | (simp; done) | rfl

@[simp] theorem State.dropTraces_frame (s : State) (e : Entry) :
    (State.dropTraces s e).pending = s.pending ∧ (State.dropTraces s e).store.flash = s.store.flash ∧ (State.dropTraces s e).clk.absFold = s.clk.absFold ∧ (State.dropTraces s e).ownLock = s.ownLock ∧ (State.dropTraces s e).tally.resids = s.tally.resids := by
  refine ⟨?_, ?_, ?_, ?_, ?_⟩
  · simp only [State.dropTraces]
    (repeat' split) <;> first | (simp; done) | (refine (forEach_pending _ _ ?_ _).trans ?_ <;> [(intro x s; (try dsimp only); (repeat' split) <;> first | (simp; done) | (refine (forEach_pending _ _ ?_ _).trans ?_ <;> [(intro x s; (try dsimp only); (repeat' split) <;> simp); (first | rfl | simp)])); (first | rfl | simp)])
  · simp only [State.dropTraces]
    (repeat' split) <;> first | (simp; done) | (refine (forEach_flash _ _ ?_ _).trans ?_ <;> [(intro x s; (try dsimp only); (repeat' split) <;> first | (simp; done) | (refine (forEach_flash _ _ ?_ _).trans ?_ <;> [(intro x s; (try dsimp only); (repeat' split) <;> simp); (first | rfl | simp)])); (first | rfl | simp)])
  · simp only [State.dropTraces]
    (repeat' split) <;> first | (simp; done) | (refine (forEach_absFold _ _ ?_ _).trans ?_ <;> [(intro x s; (try dsimp only); (repeat' split) <;> first | (simp; done) | (refine (forEach_absFold _ _ ?_ _).trans ?_ <;> [(intro x s; (try dsimp only); (repeat' split) <;> simp); (first | rfl | simp)])); (first | rfl | simp)])
  · simp only [State.dropTraces]
    (repeat' split) <;> first | (simp; done) | (refine (forEach_ownLock _ _ ?_ _).trans ?_ <;> [(intro x s; (try dsimp only); (repeat' split) <;> first | (simp; done) | (refine (forEach_ownLock _ _ ?_ _).trans ?_ <;> [(intro x s; (try dsimp only); (repeat' split) <;> simp); (first | rfl | simp)])); (first | rfl | simp)])
  · simp only [State.dropTraces]
    (repeat' split) <;> first | (simp; done) | (refine (forEach_resids _ _ ?_ _).trans ?_ <;> [(intro x s; (try dsimp only); (repeat' split) <;> first | (simp; done) | (refine (forEach_resids _ _ ?_ _).trans ?_ <;> [(intro x s; (try dsimp only); (repeat' split) <;> simp); (first | rfl | simp)])); (first | rfl | simp)])

@[simp] theorem State.cancelOpen_frame (s : State) (seq : BitVec 32) (cause : Nat) :
    (State.cancelOpen s seq cause).pending = s.pending ∧ (State.cancelOpen s seq cause).store.flash = s.store.flash ∧ (State.cancelOpen s seq cause).clk.absFold = s.clk.absFold ∧ (State.cancelOpen s seq cause).ownLock = s.ownLock ∧ (State.cancelOpen s seq cause).tally.resids = s.tally.resids := by
  refine ⟨?_, ?_, ?_, ?_, ?_⟩ <;> simp only [State.cancelOpen] <;> (repeat' split) <;> first | (simp; done) | rfl

@[simp] theorem commitTallyCancel_frame (q : Call) (s : State) :
    (commitTallyCancel q s).pending = s.pending ∧ (commitTallyCancel q s).store.flash = s.store.flash ∧ (commitTallyCancel q s).clk.absFold = s.clk.absFold ∧ (commitTallyCancel q s).ownLock = s.ownLock ∧ (commitTallyCancel q s).tally.resids = s.tally.resids := by
  refine ⟨?_, ?_, ?_, ?_, ?_⟩ <;> simp only [commitTallyCancel] <;> (repeat' split) <;> first | (simp; done) | rfl

@[simp] theorem commitCrookStep_frame (q : Call) (s : State) :
    ((commitCrookStep q s).1).pending = s.pending ∧ ((commitCrookStep q s).1).store.flash = s.store.flash ∧ ((commitCrookStep q s).1).clk.absFold = s.clk.absFold ∧ ((commitCrookStep q s).1).ownLock = s.ownLock ∧ ((commitCrookStep q s).1).tally.resids = s.tally.resids := by
  refine ⟨?_, ?_, ?_, ?_, ?_⟩ <;> simp only [commitCrookStep] <;> (repeat' split) <;> first | (simp; done) | rfl

@[simp] theorem commitCrookClear_frame (q : Call) (s : State) :
    (commitCrookClear q s).pending = s.pending ∧ (commitCrookClear q s).store.flash = s.store.flash ∧ (commitCrookClear q s).clk.absFold = s.clk.absFold ∧ (commitCrookClear q s).ownLock = s.ownLock ∧ (commitCrookClear q s).tally.resids = s.tally.resids := by
  refine ⟨?_, ?_, ?_, ?_, ?_⟩ <;> simp only [commitCrookClear] <;> (repeat' split) <;> first | (simp; done) | rfl

@[simp] theorem State.penResetTally_frame (s : State) (p : Pen) :
    (State.penResetTally s p).pending = s.pending ∧ (State.penResetTally s p).store.flash = s.store.flash ∧ (State.penResetTally s p).clk.absFold = s.clk.absFold ∧ (State.penResetTally s p).ownLock = s.ownLock ∧ (State.penResetTally s p).tally.resids = s.tally.resids := by
  refine ⟨?_, ?_, ?_, ?_, ?_⟩ <;> simp only [State.penResetTally] <;> (repeat' split) <;> first | (simp; done) | rfl

@[simp] theorem State.missPlan_frame (s : State) (o : Nat) (p : Plan) :
    (State.missPlan s o p).pending = s.pending ∧ (State.missPlan s o p).store.flash = s.store.flash ∧ (State.missPlan s o p).clk.absFold = s.clk.absFold ∧ (State.missPlan s o p).ownLock = s.ownLock ∧ (State.missPlan s o p).tally.resids = s.tally.resids := by
  refine ⟨?_, ?_, ?_, ?_, ?_⟩ <;> simp only [State.missPlan] <;> (repeat' split) <;> first | (simp; done) | rfl

@[simp] theorem State.missOld_frame (s : State) (o t : Nat) :
    (State.missOld s o t).pending = s.pending ∧ (State.missOld s o t).store.flash = s.store.flash ∧ (State.missOld s o t).clk.absFold = s.clk.absFold ∧ (State.missOld s o t).ownLock = s.ownLock ∧ (State.missOld s o t).tally.resids = s.tally.resids := by
  simp only [State.missOld]; split <;> simp

@[simp] theorem State.takeIndex_frame (s : State) (o t : Nat) :
    (State.takeIndex s o t).pending = s.pending ∧ (State.takeIndex s o t).store.flash = s.store.flash ∧ (State.takeIndex s o t).clk.absFold = s.clk.absFold ∧ (State.takeIndex s o t).ownLock = s.ownLock ∧ (State.takeIndex s o t).tally.resids = s.tally.resids := by
  simp -implicitDefEqProofs [State.takeIndex]

@[simp] theorem State.scheduleGather_frame (s : State) (o : Nat) :
    (State.scheduleGather s o).pending = s.pending ∧ (State.scheduleGather s o).store.flash = s.store.flash ∧ (State.scheduleGather s o).clk.absFold = s.clk.absFold ∧ (State.scheduleGather s o).ownLock = s.ownLock ∧ (State.scheduleGather s o).tally.resids = s.tally.resids := by
  refine ⟨?_, ?_, ?_, ?_, ?_⟩ <;> simp only [State.scheduleGather] <;> (repeat' split) <;> first | (simp; done) | rfl

@[simp] theorem State.fixGather_frame (s : State) (e : Entry) (o : Nat) (shift : Fs) :
    (State.fixGather s e o shift).pending = s.pending ∧ (State.fixGather s e o shift).store.flash = s.store.flash ∧ (State.fixGather s e o shift).clk.absFold = s.clk.absFold ∧ (State.fixGather s e o shift).ownLock = s.ownLock ∧ (State.fixGather s e o shift).tally.resids = s.tally.resids := by
  refine ⟨?_, ?_, ?_, ?_, ?_⟩ <;> simp only [State.fixGather] <;> (repeat' split) <;> first | (simp; done) | rfl

@[simp] theorem State.fixPlanned_frame (s : State) (o : Nat) (q : BitVec 32) (shift : Fs) :
    (State.fixPlanned s o q shift).pending = s.pending ∧ (State.fixPlanned s o q shift).store.flash = s.store.flash ∧ (State.fixPlanned s o q shift).clk.absFold = s.clk.absFold ∧ (State.fixPlanned s o q shift).ownLock = s.ownLock ∧ (State.fixPlanned s o q shift).tally.resids = s.tally.resids := by
  refine ⟨?_, ?_, ?_, ?_, ?_⟩ <;> simp only [State.fixPlanned] <;> (repeat' split) <;> first | (simp; done) | rfl

@[simp] theorem State.fixGathers_frame (s : State) :
    (State.fixGathers s).pending = s.pending ∧ (State.fixGathers s).store.flash = s.store.flash ∧ (State.fixGathers s).clk.absFold = s.clk.absFold ∧ (State.fixGathers s).ownLock = s.ownLock ∧ (State.fixGathers s).tally.resids = s.tally.resids := by
  unfold State.fixGathers
  refine ⟨?_, ?_, ?_, ?_, ?_⟩
  · refine forEach_pending _ _ (fun o s => ?_) _; dsimp only; rw [forEach_pending _ _ (fun (x : BitVec 32 × Fs) s => (State.fixPlanned_frame s o x.1 x.2).1)]; rfl
  · refine forEach_flash _ _ (fun o s => ?_) _; dsimp only; rw [forEach_flash _ _ (fun (x : BitVec 32 × Fs) s => (State.fixPlanned_frame s o x.1 x.2).2.1)]; rfl
  · refine forEach_absFold _ _ (fun o s => ?_) _; dsimp only; rw [forEach_absFold _ _ (fun (x : BitVec 32 × Fs) s => (State.fixPlanned_frame s o x.1 x.2).2.2.1)]; rfl
  · refine forEach_ownLock _ _ (fun o s => ?_) _; dsimp only; rw [forEach_ownLock _ _ (fun (x : BitVec 32 × Fs) s => (State.fixPlanned_frame s o x.1 x.2).2.2.2.1)]; rfl
  · refine forEach_resids _ _ (fun o s => ?_) _; dsimp only; rw [forEach_resids _ _ (fun (x : BitVec 32 × Fs) s => (State.fixPlanned_frame s o x.1 x.2).2.2.2.2)]; rfl

@[simp] theorem State.takeFrame_frame (s : State) (o : Nat) (p : Plan) :
    (State.takeFrame s o p).pending = s.pending ∧ (State.takeFrame s o p).store.flash = s.store.flash ∧ (State.takeFrame s o p).clk.absFold = s.clk.absFold ∧ (State.takeFrame s o p).ownLock = s.ownLock ∧ (State.takeFrame s o p).tally.resids = s.tally.resids := by
  refine ⟨?_, ?_, ?_, ?_, ?_⟩ <;> simp only [State.takeFrame] <;> (repeat' split) <;> first | (simp; done) | rfl

@[simp] theorem State.gatherStill_frame (s : State) (o : Nat) :
    (State.gatherStill s o).pending = s.pending ∧ (State.gatherStill s o).store.flash = s.store.flash ∧ (State.gatherStill s o).clk.absFold = s.clk.absFold ∧ (State.gatherStill s o).ownLock = s.ownLock ∧ (State.gatherStill s o).tally.resids = s.tally.resids := by
  refine ⟨?_, ?_, ?_, ?_, ?_⟩ <;> simp only [State.gatherStill] <;> (repeat' split) <;> first | (simp; done) | rfl

@[simp] theorem State.payImmediate_frame (s : State) (o a b : Nat) :
    (State.payImmediate s o a b).pending = s.pending ∧ (State.payImmediate s o a b).store.flash = s.store.flash ∧ (State.payImmediate s o a b).clk.absFold = s.clk.absFold ∧ (State.payImmediate s o a b).ownLock = s.ownLock ∧ (State.payImmediate s o a b).tally.resids = s.tally.resids := by
  refine ⟨?_, ?_, ?_, ?_, ?_⟩ <;> simp only [State.payImmediate] <;> (repeat' split) <;> first | (simp; done) | rfl

@[simp] theorem State.planIndex_frame (s : State) (o : Nat) :
    (State.planIndex s o).pending = s.pending ∧ (State.planIndex s o).store.flash = s.store.flash ∧ (State.planIndex s o).clk.absFold = s.clk.absFold ∧ (State.planIndex s o).ownLock = s.ownLock ∧ (State.planIndex s o).tally.resids = s.tally.resids := by
  refine ⟨?_, ?_, ?_, ?_, ?_⟩ <;> simp only [State.planIndex] <;> (repeat' split) <;> first | (simp -implicitDefEqProofs; done) | rfl

@[simp] theorem State.schedulerSlot_frame (s : State) :
    (State.schedulerSlot s).pending = s.pending ∧ (State.schedulerSlot s).store.flash = s.store.flash ∧ (State.schedulerSlot s).clk.absFold = s.clk.absFold ∧ (State.schedulerSlot s).ownLock = s.ownLock ∧ (State.schedulerSlot s).tally.resids = s.tally.resids := by
  refine ⟨?_, ?_, ?_, ?_, ?_⟩
  · simp only [State.schedulerSlot]
    (repeat' split) <;> first | (simp; done) | (refine (forEach_pending _ _ ?_ _).trans ?_ <;> [(intro x s; (try dsimp only); (repeat' split) <;> first | (simp; done) | (refine (forEach_pending _ _ ?_ _).trans ?_ <;> [(intro x s; (try dsimp only); (repeat' split) <;> simp); (first | rfl | simp)])); (first | rfl | simp)])
  · simp only [State.schedulerSlot]
    (repeat' split) <;> first | (simp; done) | (refine (forEach_flash _ _ ?_ _).trans ?_ <;> [(intro x s; (try dsimp only); (repeat' split) <;> first | (simp; done) | (refine (forEach_flash _ _ ?_ _).trans ?_ <;> [(intro x s; (try dsimp only); (repeat' split) <;> simp); (first | rfl | simp)])); (first | rfl | simp)])
  · simp only [State.schedulerSlot]
    (repeat' split) <;> first | (simp; done) | (refine (forEach_absFold _ _ ?_ _).trans ?_ <;> [(intro x s; (try dsimp only); (repeat' split) <;> first | (simp; done) | (refine (forEach_absFold _ _ ?_ _).trans ?_ <;> [(intro x s; (try dsimp only); (repeat' split) <;> simp); (first | rfl | simp)])); (first | rfl | simp)])
  · simp only [State.schedulerSlot]
    (repeat' split) <;> first | (simp; done) | (refine (forEach_ownLock _ _ ?_ _).trans ?_ <;> [(intro x s; (try dsimp only); (repeat' split) <;> first | (simp; done) | (refine (forEach_ownLock _ _ ?_ _).trans ?_ <;> [(intro x s; (try dsimp only); (repeat' split) <;> simp); (first | rfl | simp)])); (first | rfl | simp)])
  · simp only [State.schedulerSlot]
    (repeat' split) <;> first | (simp; done) | (refine (forEach_resids _ _ ?_ _).trans ?_ <;> [(intro x s; (try dsimp only); (repeat' split) <;> first | (simp; done) | (refine (forEach_resids _ _ ?_ _).trans ?_ <;> [(intro x s; (try dsimp only); (repeat' split) <;> simp); (first | rfl | simp)])); (first | rfl | simp)])

@[simp] theorem State.raiseAligns_frame (s : State) :
    (State.raiseAligns s).pending = s.pending ∧ (State.raiseAligns s).store.flash = s.store.flash ∧ (State.raiseAligns s).clk.absFold = s.clk.absFold ∧ (State.raiseAligns s).ownLock = s.ownLock ∧ (State.raiseAligns s).tally.resids = s.tally.resids := by
  refine ⟨?_, ?_, ?_, ?_, ?_⟩
  · simp only [State.raiseAligns]
    (repeat' split) <;> first | (simp; done) | (refine (forEach_pending _ _ ?_ _).trans ?_ <;> [(intro x s; (try dsimp only); (repeat' split) <;> first | (simp; done) | (refine (forEach_pending _ _ ?_ _).trans ?_ <;> [(intro x s; (try dsimp only); (repeat' split) <;> simp); (first | rfl | simp)])); (first | rfl | simp)])
  · simp only [State.raiseAligns]
    (repeat' split) <;> first | (simp; done) | (refine (forEach_flash _ _ ?_ _).trans ?_ <;> [(intro x s; (try dsimp only); (repeat' split) <;> first | (simp; done) | (refine (forEach_flash _ _ ?_ _).trans ?_ <;> [(intro x s; (try dsimp only); (repeat' split) <;> simp); (first | rfl | simp)])); (first | rfl | simp)])
  · simp only [State.raiseAligns]
    (repeat' split) <;> first | (simp; done) | (refine (forEach_absFold _ _ ?_ _).trans ?_ <;> [(intro x s; (try dsimp only); (repeat' split) <;> first | (simp; done) | (refine (forEach_absFold _ _ ?_ _).trans ?_ <;> [(intro x s; (try dsimp only); (repeat' split) <;> simp); (first | rfl | simp)])); (first | rfl | simp)])
  · simp only [State.raiseAligns]
    (repeat' split) <;> first | (simp; done) | (refine (forEach_ownLock _ _ ?_ _).trans ?_ <;> [(intro x s; (try dsimp only); (repeat' split) <;> first | (simp; done) | (refine (forEach_ownLock _ _ ?_ _).trans ?_ <;> [(intro x s; (try dsimp only); (repeat' split) <;> simp); (first | rfl | simp)])); (first | rfl | simp)])
  · simp only [State.raiseAligns]
    (repeat' split) <;> first | (simp; done) | (refine (forEach_resids _ _ ?_ _).trans ?_ <;> [(intro x s; (try dsimp only); (repeat' split) <;> first | (simp; done) | (refine (forEach_resids _ _ ?_ _).trans ?_ <;> [(intro x s; (try dsimp only); (repeat' split) <;> simp); (first | rfl | simp)])); (first | rfl | simp)])

@[simp] theorem State.addGathers_frame (s : State) (outs : List Nat) (pen : Pen) (fold target : Nat) :
    (State.addGathers s outs pen fold target).pending = s.pending ∧ (State.addGathers s outs pen fold target).store.flash = s.store.flash ∧ (State.addGathers s outs pen fold target).clk.absFold = s.clk.absFold ∧ (State.addGathers s outs pen fold target).ownLock = s.ownLock ∧ (State.addGathers s outs pen fold target).tally.resids = s.tally.resids := by
  refine ⟨?_, ?_, ?_, ?_, ?_⟩
  · simp only [State.addGathers]
    (repeat' split) <;> first | (simp; done) | (refine (forEach_pending _ _ ?_ _).trans ?_ <;> [(intro x s; (try dsimp only); (repeat' split) <;> first | (simp; done) | (refine (forEach_pending _ _ ?_ _).trans ?_ <;> [(intro x s; (try dsimp only); (repeat' split) <;> simp); (first | rfl | simp)])); (first | rfl | simp)])
  · simp only [State.addGathers]
    (repeat' split) <;> first | (simp; done) | (refine (forEach_flash _ _ ?_ _).trans ?_ <;> [(intro x s; (try dsimp only); (repeat' split) <;> first | (simp; done) | (refine (forEach_flash _ _ ?_ _).trans ?_ <;> [(intro x s; (try dsimp only); (repeat' split) <;> simp); (first | rfl | simp)])); (first | rfl | simp)])
  · simp only [State.addGathers]
    (repeat' split) <;> first | (simp; done) | (refine (forEach_absFold _ _ ?_ _).trans ?_ <;> [(intro x s; (try dsimp only); (repeat' split) <;> first | (simp; done) | (refine (forEach_absFold _ _ ?_ _).trans ?_ <;> [(intro x s; (try dsimp only); (repeat' split) <;> simp); (first | rfl | simp)])); (first | rfl | simp)])
  · simp only [State.addGathers]
    (repeat' split) <;> first | (simp; done) | (refine (forEach_ownLock _ _ ?_ _).trans ?_ <;> [(intro x s; (try dsimp only); (repeat' split) <;> first | (simp; done) | (refine (forEach_ownLock _ _ ?_ _).trans ?_ <;> [(intro x s; (try dsimp only); (repeat' split) <;> simp); (first | rfl | simp)])); (first | rfl | simp)])
  · simp only [State.addGathers]
    (repeat' split) <;> first | (simp; done) | (refine (forEach_resids _ _ ?_ _).trans ?_ <;> [(intro x s; (try dsimp only); (repeat' split) <;> first | (simp; done) | (refine (forEach_resids _ _ ?_ _).trans ?_ <;> [(intro x s; (try dsimp only); (repeat' split) <;> simp); (first | rfl | simp)])); (first | rfl | simp)])

@[simp] theorem State.broadcastGather_frame (s : State) (f : BitVec 16) (fold : Nat) (offset : Fs) :
    (State.broadcastGather s f fold offset).pending = s.pending ∧ (State.broadcastGather s f fold offset).store.flash = s.store.flash ∧ (State.broadcastGather s f fold offset).clk.absFold = s.clk.absFold ∧ (State.broadcastGather s f fold offset).ownLock = s.ownLock ∧ (State.broadcastGather s f fold offset).tally.resids = s.tally.resids := by
  refine ⟨?_, ?_, ?_, ?_, ?_⟩ <;> simp only [State.broadcastGather] <;> (repeat' split) <;> first | (simp; done) | rfl

@[simp] theorem State.keepCrookNew_frame (s : State) (e : Entry) :
    (State.keepCrookNew s e).pending = s.pending ∧ (State.keepCrookNew s e).store.flash = s.store.flash ∧ (State.keepCrookNew s e).clk.absFold = s.clk.absFold ∧ (State.keepCrookNew s e).ownLock = s.ownLock ∧ (State.keepCrookNew s e).tally.resids = s.tally.resids := by
  refine ⟨?_, ?_, ?_, ?_, ?_⟩ <;> simp only [State.keepCrookNew] <;> (repeat' split) <;> first | (simp; done) | rfl

@[simp] theorem State.crookGatherNow_frame (s : State) (pen : Pen) (f : BitVec 16) (offset : Fs) :
    (State.crookGatherNow s pen f offset).pending = s.pending ∧ (State.crookGatherNow s pen f offset).store.flash = s.store.flash ∧ (State.crookGatherNow s pen f offset).clk.absFold = s.clk.absFold ∧ (State.crookGatherNow s pen f offset).ownLock = s.ownLock ∧ (State.crookGatherNow s pen f offset).tally.resids = s.tally.resids := by
  refine ⟨?_, ?_, ?_, ?_, ?_⟩
  · simp only [State.crookGatherNow]
    (repeat' split) <;> first | (simp -implicitDefEqProofs; done) | (refine (forEach_pending _ _ ?_ _).trans ?_ <;> [(intro x s; (try dsimp only); (repeat' split) <;> first | (simp -implicitDefEqProofs; done) | (refine (forEach_pending _ _ ?_ _).trans ?_ <;> [(intro x s; (try dsimp only); (repeat' split) <;> simp -implicitDefEqProofs); (first | rfl | simp -implicitDefEqProofs)])); (first | rfl | simp -implicitDefEqProofs)])
  · simp only [State.crookGatherNow]
    (repeat' split) <;> first | (simp -implicitDefEqProofs; done) | (refine (forEach_flash _ _ ?_ _).trans ?_ <;> [(intro x s; (try dsimp only); (repeat' split) <;> first | (simp -implicitDefEqProofs; done) | (refine (forEach_flash _ _ ?_ _).trans ?_ <;> [(intro x s; (try dsimp only); (repeat' split) <;> simp -implicitDefEqProofs); (first | rfl | simp -implicitDefEqProofs)])); (first | rfl | simp -implicitDefEqProofs)])
  · simp only [State.crookGatherNow]
    (repeat' split) <;> first | (simp -implicitDefEqProofs; done) | (refine (forEach_absFold _ _ ?_ _).trans ?_ <;> [(intro x s; (try dsimp only); (repeat' split) <;> first | (simp -implicitDefEqProofs; done) | (refine (forEach_absFold _ _ ?_ _).trans ?_ <;> [(intro x s; (try dsimp only); (repeat' split) <;> simp -implicitDefEqProofs); (first | rfl | simp -implicitDefEqProofs)])); (first | rfl | simp -implicitDefEqProofs)])
  · simp only [State.crookGatherNow]
    (repeat' split) <;> first | (simp -implicitDefEqProofs; done) | (refine (forEach_ownLock _ _ ?_ _).trans ?_ <;> [(intro x s; (try dsimp only); (repeat' split) <;> first | (simp -implicitDefEqProofs; done) | (refine (forEach_ownLock _ _ ?_ _).trans ?_ <;> [(intro x s; (try dsimp only); (repeat' split) <;> simp -implicitDefEqProofs); (first | rfl | simp -implicitDefEqProofs)])); (first | rfl | simp -implicitDefEqProofs)])
  · simp only [State.crookGatherNow]
    (repeat' split) <;> first | (simp -implicitDefEqProofs; done) | (refine (forEach_resids _ _ ?_ _).trans ?_ <;> [(intro x s; (try dsimp only); (repeat' split) <;> first | (simp -implicitDefEqProofs; done) | (refine (forEach_resids _ _ ?_ _).trans ?_ <;> [(intro x s; (try dsimp only); (repeat' split) <;> simp -implicitDefEqProofs); (first | rfl | simp -implicitDefEqProofs)])); (first | rfl | simp -implicitDefEqProofs)])

@[simp] theorem State.createCrookGathers_frame (s : State) :
    (State.createCrookGathers s).pending = s.pending ∧ (State.createCrookGathers s).store.flash = s.store.flash ∧ (State.createCrookGathers s).clk.absFold = s.clk.absFold ∧ (State.createCrookGathers s).ownLock = s.ownLock ∧ (State.createCrookGathers s).tally.resids = s.tally.resids := by
  refine ⟨?_, ?_, ?_, ?_, ?_⟩
  · simp only [State.createCrookGathers]
    (repeat' split) <;> first | (simp; done) | (refine (forEach_pending _ _ ?_ _).trans ?_ <;> [(intro x s; (try dsimp only); (repeat' split) <;> first | (simp; done) | (refine (forEach_pending _ _ ?_ _).trans ?_ <;> [(intro x s; (try dsimp only); (repeat' split) <;> simp); (first | rfl | simp)])); (first | rfl | simp)])
  · simp only [State.createCrookGathers]
    (repeat' split) <;> first | (simp; done) | (refine (forEach_flash _ _ ?_ _).trans ?_ <;> [(intro x s; (try dsimp only); (repeat' split) <;> first | (simp; done) | (refine (forEach_flash _ _ ?_ _).trans ?_ <;> [(intro x s; (try dsimp only); (repeat' split) <;> simp); (first | rfl | simp)])); (first | rfl | simp)])
  · simp only [State.createCrookGathers]
    (repeat' split) <;> first | (simp; done) | (refine (forEach_absFold _ _ ?_ _).trans ?_ <;> [(intro x s; (try dsimp only); (repeat' split) <;> first | (simp; done) | (refine (forEach_absFold _ _ ?_ _).trans ?_ <;> [(intro x s; (try dsimp only); (repeat' split) <;> simp); (first | rfl | simp)])); (first | rfl | simp)])
  · simp only [State.createCrookGathers]
    (repeat' split) <;> first | (simp; done) | (refine (forEach_ownLock _ _ ?_ _).trans ?_ <;> [(intro x s; (try dsimp only); (repeat' split) <;> first | (simp; done) | (refine (forEach_ownLock _ _ ?_ _).trans ?_ <;> [(intro x s; (try dsimp only); (repeat' split) <;> simp); (first | rfl | simp)])); (first | rfl | simp)])
  · simp only [State.createCrookGathers]
    (repeat' split) <;> first | (simp; done) | (refine (forEach_resids _ _ ?_ _).trans ?_ <;> [(intro x s; (try dsimp only); (repeat' split) <;> first | (simp; done) | (refine (forEach_resids _ _ ?_ _).trans ?_ <;> [(intro x s; (try dsimp only); (repeat' split) <;> simp); (first | rfl | simp)])); (first | rfl | simp)])

@[simp] theorem commitAlign_frame (q : Call) (s : State) :
    (commitAlign q s).pending = s.pending ∧ (commitAlign q s).store.flash = s.store.flash ∧ (commitAlign q s).clk.absFold = s.clk.absFold ∧ (commitAlign q s).ownLock = s.ownLock ∧ (commitAlign q s).tally.resids = s.tally.resids := by
  refine ⟨?_, ?_, ?_, ?_, ?_⟩ <;> simp only [commitAlign] <;> (repeat' split) <;> first | (simp; done) | rfl

@[simp] theorem commitGather_frame (q : Call) (s : State) :
    ((commitGather q s).1).pending = s.pending ∧ ((commitGather q s).1).store.flash = s.store.flash ∧ ((commitGather q s).1).clk.absFold = s.clk.absFold ∧ ((commitGather q s).1).ownLock = s.ownLock ∧ ((commitGather q s).1).tally.resids = s.tally.resids := by
  refine ⟨?_, ?_, ?_, ?_, ?_⟩ <;> simp only [commitGather] <;> (repeat' split) <;> first | (simp; done) | rfl

@[simp] theorem commitCrookGather_frame (q : Call) (s : State) :
    (commitCrookGather q s).pending = s.pending ∧ (commitCrookGather q s).store.flash = s.store.flash ∧ (commitCrookGather q s).clk.absFold = s.clk.absFold ∧ (commitCrookGather q s).ownLock = s.ownLock ∧ (commitCrookGather q s).tally.resids = s.tally.resids := by
  refine ⟨?_, ?_, ?_, ?_, ?_⟩ <;> simp only [commitCrookGather] <;> (repeat' split) <;> first | (simp; done) | rfl

@[simp] theorem commitTime_frame (q : Call) (s : State) :
    (commitTime q s).pending = s.pending ∧ (commitTime q s).store.flash = s.store.flash ∧ (commitTime q s).clk.absFold = s.clk.absFold ∧ (commitTime q s).ownLock = s.ownLock ∧ (commitTime q s).tally.resids = s.tally.resids := by
  refine ⟨?_, ?_, ?_, ?_, ?_⟩ <;> simp only [commitTime] <;> (repeat' split) <;> first | (simp; done) | rfl

@[simp] theorem State.moveSeconds_frame (s : State) (k : Int) :
    (State.moveSeconds s k).pending = s.pending ∧ (State.moveSeconds s k).store.flash = s.store.flash ∧ (State.moveSeconds s k).clk.absFold = s.clk.absFold ∧ (State.moveSeconds s k).ownLock = s.ownLock ∧ (State.moveSeconds s k).tally.resids = s.tally.resids := by
  refine ⟨?_, ?_, ?_, ?_, ?_⟩ <;> simp only [State.moveSeconds] <;> (repeat' split) <;> first | (simp; done) | rfl

@[simp] theorem State.validTime_frame (s : State) :
    (State.validTime s).pending = s.pending ∧ (State.validTime s).store.flash = s.store.flash ∧ (State.validTime s).clk.absFold = s.clk.absFold ∧ (State.validTime s).ownLock = s.ownLock ∧ (State.validTime s).tally.resids = s.tally.resids := by
  refine ⟨?_, ?_, ?_, ?_, ?_⟩ <;> simp only [State.validTime] <;> (repeat' split) <;> first | (simp; done) | rfl

@[simp] theorem commitTimeWrite_frame (q : Call) (s : State) :
    ((commitTimeWrite q s).1).pending = s.pending ∧ ((commitTimeWrite q s).1).store.flash = s.store.flash ∧ ((commitTimeWrite q s).1).clk.absFold = s.clk.absFold ∧ ((commitTimeWrite q s).1).ownLock = s.ownLock ∧ ((commitTimeWrite q s).1).tally.resids = s.tally.resids := by
  refine ⟨?_, ?_, ?_, ?_, ?_⟩ <;> simp only [commitTimeWrite] <;> (repeat' split) <;> first | (simp; done) | rfl

@[simp] theorem State.setLabel_frame (s : State) (src : Nat) (l0 : Label) :
    (State.setLabel s src l0).pending = s.pending ∧ (State.setLabel s src l0).store.flash = s.store.flash ∧ (State.setLabel s src l0).clk.absFold = s.clk.absFold ∧ (State.setLabel s src l0).ownLock = s.ownLock ∧ (State.setLabel s src l0).tally.resids = s.tally.resids := by
  refine ⟨?_, ?_, ?_, ?_, ?_⟩ <;> simp only [State.setLabel] <;> (repeat' split) <;> first | (simp; done) | rfl

@[simp] theorem State.compareFold_frame (s : State) (l : Label) :
    (State.compareFold s l).pending = s.pending ∧ (State.compareFold s l).store.flash = s.store.flash ∧ (State.compareFold s l).clk.absFold = s.clk.absFold ∧ (State.compareFold s l).ownLock = s.ownLock ∧ (State.compareFold s l).tally.resids = s.tally.resids := by
  refine ⟨?_, ?_, ?_, ?_, ?_⟩ <;> simp only [State.compareFold] <;> (repeat' split) <;> first | (simp; done) | rfl

@[simp] theorem State.actOnDiff_frame (s : State) (d : Int) :
    (State.actOnDiff s d).pending = s.pending ∧ (State.actOnDiff s d).store.flash = s.store.flash ∧ (State.actOnDiff s d).clk.absFold = s.clk.absFold ∧ (State.actOnDiff s d).ownLock = s.ownLock ∧ (State.actOnDiff s d).tally.resids = s.tally.resids := by
  refine ⟨?_, ?_, ?_, ?_, ?_⟩ <;> simp only [State.actOnDiff] <;> (repeat' split) <;> first | (simp; done) | rfl

@[simp] theorem State.judgeLabel_frame (s : State) (l : Label) :
    (State.judgeLabel s l).pending = s.pending ∧ (State.judgeLabel s l).store.flash = s.store.flash ∧ (State.judgeLabel s l).clk.absFold = s.clk.absFold ∧ (State.judgeLabel s l).ownLock = s.ownLock ∧ (State.judgeLabel s l).tally.resids = s.tally.resids := by
  refine ⟨?_, ?_, ?_, ?_, ?_⟩ <;> simp only [State.judgeLabel] <;> (repeat' split) <;> first | (simp; done) | rfl

@[simp] theorem State.compareSeconds_frame (s : State) :
    (State.compareSeconds s).pending = s.pending ∧ (State.compareSeconds s).store.flash = s.store.flash ∧ (State.compareSeconds s).clk.absFold = s.clk.absFold ∧ (State.compareSeconds s).ownLock = s.ownLock ∧ (State.compareSeconds s).tally.resids = s.tally.resids := by
  refine ⟨?_, ?_, ?_, ?_, ?_⟩ <;> simp only [State.compareSeconds] <;> (repeat' split) <;> first | (simp; done) | rfl

@[simp] theorem State.takeJump_frame (s : State) :
    (State.takeJump s).pending = s.pending ∧ (State.takeJump s).store.flash = s.store.flash ∧ (State.takeJump s).clk.absFold = s.clk.absFold ∧ (State.takeJump s).ownLock = s.ownLock ∧ (State.takeJump s).tally.resids = s.tally.resids := by
  refine ⟨?_, ?_, ?_, ?_, ?_⟩ <;> simp only [State.takeJump] <;> (repeat' split) <;> first | (simp; done) | rfl

@[simp] theorem State.dividedEdge_frame (s : State) (i t : Nat) :
    (State.dividedEdge s i t).pending = s.pending ∧ (State.dividedEdge s i t).store.flash = s.store.flash ∧ (State.dividedEdge s i t).clk.absFold = s.clk.absFold ∧ (State.dividedEdge s i t).ownLock = s.ownLock ∧ (State.dividedEdge s i t).tally.resids = s.tally.resids := by
  refine ⟨?_, ?_, ?_, ?_, ?_⟩
  · simp only [State.dividedEdge]
    (repeat' split) <;> first | (simp; done) | (refine (forEach_pending _ _ ?_ _).trans ?_ <;> [(intro x s; (try dsimp only); (repeat' split) <;> first | (simp; done) | (refine (forEach_pending _ _ ?_ _).trans ?_ <;> [(intro x s; (try dsimp only); (repeat' split) <;> simp); (first | rfl | simp)])); (first | rfl | simp)])
  · simp only [State.dividedEdge]
    (repeat' split) <;> first | (simp; done) | (refine (forEach_flash _ _ ?_ _).trans ?_ <;> [(intro x s; (try dsimp only); (repeat' split) <;> first | (simp; done) | (refine (forEach_flash _ _ ?_ _).trans ?_ <;> [(intro x s; (try dsimp only); (repeat' split) <;> simp); (first | rfl | simp)])); (first | rfl | simp)])
  · simp only [State.dividedEdge]
    (repeat' split) <;> first | (simp; done) | (refine (forEach_absFold _ _ ?_ _).trans ?_ <;> [(intro x s; (try dsimp only); (repeat' split) <;> first | (simp; done) | (refine (forEach_absFold _ _ ?_ _).trans ?_ <;> [(intro x s; (try dsimp only); (repeat' split) <;> simp); (first | rfl | simp)])); (first | rfl | simp)])
  · simp only [State.dividedEdge]
    (repeat' split) <;> first | (simp; done) | (refine (forEach_ownLock _ _ ?_ _).trans ?_ <;> [(intro x s; (try dsimp only); (repeat' split) <;> first | (simp; done) | (refine (forEach_ownLock _ _ ?_ _).trans ?_ <;> [(intro x s; (try dsimp only); (repeat' split) <;> simp); (first | rfl | simp)])); (first | rfl | simp)])
  · simp only [State.dividedEdge]
    (repeat' split) <;> first | (simp; done) | (refine (forEach_resids _ _ ?_ _).trans ?_ <;> [(intro x s; (try dsimp only); (repeat' split) <;> first | (simp; done) | (refine (forEach_resids _ _ ?_ _).trans ?_ <;> [(intro x s; (try dsimp only); (repeat' split) <;> simp); (first | rfl | simp)])); (first | rfl | simp)])

@[simp] theorem State.deglitch_frame (s : State) (i : Nat) (narrow : Bool) :
    (State.deglitch s i narrow).pending = s.pending ∧ (State.deglitch s i narrow).store.flash = s.store.flash ∧ (State.deglitch s i narrow).clk.absFold = s.clk.absFold ∧ (State.deglitch s i narrow).ownLock = s.ownLock ∧ (State.deglitch s i narrow).tally.resids = s.tally.resids := by
  refine ⟨?_, ?_, ?_, ?_, ?_⟩ <;> simp only [State.deglitch] <;> (repeat' split) <;> first | (simp; done) | (simp -implicitDefEqProofs; done) | rfl

@[simp] theorem State.passBin_frame (s : State) :
    (State.passBin s).pending = s.pending ∧ (State.passBin s).store.flash = s.store.flash ∧ (State.passBin s).clk.absFold = s.clk.absFold ∧ (State.passBin s).ownLock = s.ownLock ∧ (State.passBin s).tally.resids = s.tally.resids := by
  refine ⟨?_, ?_, ?_, ?_, ?_⟩ <;> simp only [State.passBin] <;> (repeat' split) <;> first | (simp; done) | rfl

@[simp] theorem State.stageTerm_frame (s : State) :
    (State.stageTerm s).pending = s.pending ∧ (State.stageTerm s).store.flash = s.store.flash ∧ (State.stageTerm s).clk.absFold = s.clk.absFold ∧ (State.stageTerm s).ownLock = s.ownLock ∧ (State.stageTerm s).tally.resids = s.tally.resids := by
  refine ⟨?_, ?_, ?_, ?_, ?_⟩ <;> simp only [State.stageTerm] <;> (repeat' split) <;> first | (simp; done) | rfl

@[simp] theorem State.noteMode_frame (s : State) :
    (State.noteMode s).pending = s.pending ∧ (State.noteMode s).store.flash = s.store.flash ∧ (State.noteMode s).clk.absFold = s.clk.absFold ∧ (State.noteMode s).ownLock = s.ownLock ∧ (State.noteMode s).tally.resids = s.tally.resids := by
  refine ⟨?_, ?_, ?_, ?_, ?_⟩ <;> simp only [State.noteMode] <;> (repeat' split) <;> first | (simp; done) | rfl

@[simp] theorem State.shaftSlot_frame (s : State) :
    (State.shaftSlot s).pending = s.pending ∧ (State.shaftSlot s).store.flash = s.store.flash ∧ (State.shaftSlot s).clk.absFold = s.clk.absFold ∧ (State.shaftSlot s).ownLock = s.ownLock ∧ (State.shaftSlot s).tally.resids = s.tally.resids := by
  refine ⟨?_, ?_, ?_, ?_, ?_⟩ <;> simp only [State.shaftSlot] <;> (repeat' split) <;> first | (simp; done) | rfl

@[simp] theorem State.shaftIndex_frame (s : State) (ti : Nat) :
    (State.shaftIndex s ti).pending = s.pending ∧ (State.shaftIndex s ti).store.flash = s.store.flash ∧ (State.shaftIndex s ti).clk.absFold = s.clk.absFold ∧ (State.shaftIndex s ti).ownLock = s.ownLock ∧ (State.shaftIndex s ti).tally.resids = s.tally.resids := by
  refine ⟨?_, ?_, ?_, ?_, ?_⟩ <;> simp only [State.shaftIndex] <;> (repeat' split) <;> first | (simp; done) | rfl

@[simp] theorem State.settleSsct_frame (s : State) (x : Fs) :
    (State.settleSsct s x).pending = s.pending ∧ (State.settleSsct s x).store.flash = s.store.flash ∧ (State.settleSsct s x).clk.absFold = s.clk.absFold ∧ (State.settleSsct s x).ownLock = s.ownLock ∧ (State.settleSsct s x).tally.resids = s.tally.resids := by
  refine ⟨?_, ?_, ?_, ?_, ?_⟩ <;> simp only [State.settleSsct] <;> (repeat' split) <;> first | (simp; done) | rfl

@[simp] theorem State.shaftBoundary_frame (s : State) :
    (State.shaftBoundary s).pending = s.pending ∧ (State.shaftBoundary s).store.flash = s.store.flash ∧ (State.shaftBoundary s).clk.absFold = s.clk.absFold ∧ (State.shaftBoundary s).ownLock = s.ownLock ∧ (State.shaftBoundary s).tally.resids = s.tally.resids := by
  refine ⟨?_, ?_, ?_, ?_, ?_⟩ <;> simp only [State.shaftBoundary] <;> (repeat' split) <;> first | (simp; done) | rfl

@[simp] theorem State.shaftEvent_frame (s : State) :
    (State.shaftEvent s).pending = s.pending ∧ (State.shaftEvent s).store.flash = s.store.flash ∧ (State.shaftEvent s).clk.absFold = s.clk.absFold ∧ (State.shaftEvent s).ownLock = s.ownLock ∧ (State.shaftEvent s).tally.resids = s.tally.resids := by
  refine ⟨?_, ?_, ?_, ?_, ?_⟩ <;> simp only [State.shaftEvent] <;> (repeat' split) <;> first | (simp; done) | rfl

@[simp] theorem commitSsct_frame (q : Call) (s : State) :
    (commitSsct q s).pending = s.pending ∧ (commitSsct q s).store.flash = s.store.flash ∧ (commitSsct q s).clk.absFold = s.clk.absFold ∧ (commitSsct q s).ownLock = s.ownLock ∧ (commitSsct q s).tally.resids = s.tally.resids := by
  refine ⟨?_, ?_, ?_, ?_, ?_⟩ <;> simp only [commitSsct] <;> (repeat' split) <;> first | (simp; done) | rfl

@[simp] theorem commitSsctLoad_frame (q : Call) (s : State) :
    (commitSsctLoad q s).pending = s.pending ∧ (commitSsctLoad q s).store.flash = s.store.flash ∧ (commitSsctLoad q s).clk.absFold = s.clk.absFold ∧ (commitSsctLoad q s).ownLock = s.ownLock ∧ (commitSsctLoad q s).tally.resids = s.tally.resids := by
  refine ⟨?_, ?_, ?_, ?_, ?_⟩ <;> simp only [commitSsctLoad] <;> (repeat' split) <;> first | (simp; done) | rfl

@[simp] theorem State.rest_frame (s : State) :
    (State.rest s).pending = s.pending ∧ (State.rest s).store.flash = s.store.flash ∧ (State.rest s).clk.absFold = s.clk.absFold ∧ (State.rest s).ownLock = s.ownLock ∧ (State.rest s).tally.resids = s.tally.resids := by
  refine ⟨?_, ?_, ?_, ?_, ?_⟩ <;> simp only [State.rest] <;> (repeat' split) <;> first | (simp; done) | rfl

@[simp] theorem State.invalidate_frame (s : State) (n : Nat) :
    (State.invalidate s n).pending = s.pending ∧ (State.invalidate s n).store.flash = s.store.flash ∧ (State.invalidate s n).clk.absFold = s.clk.absFold ∧ (State.invalidate s n).ownLock = s.ownLock ∧ (State.invalidate s n).tally.resids = s.tally.resids := by
  refine ⟨?_, ?_, ?_, ?_, ?_⟩ <;> simp only [State.invalidate] <;> (repeat' split) <;> first | (simp; done) | rfl

@[simp] theorem State.startHop_frame (s : State) (c : Nat) :
    (State.startHop s c).pending = s.pending ∧ (State.startHop s c).store.flash = s.store.flash ∧ (State.startHop s c).clk.absFold = s.clk.absFold ∧ (State.startHop s c).ownLock = s.ownLock ∧ (State.startHop s c).tally.resids = s.tally.resids := by
  refine ⟨?_, ?_, ?_, ?_, ?_⟩ <;> simp only [State.startHop] <;> (repeat' split) <;> first | (simp; done) | rfl

@[simp] theorem State.withAnt_frame (s : State) (r : Radio) :
    (State.withAnt s r).pending = s.pending ∧ (State.withAnt s r).store.flash = s.store.flash ∧ (State.withAnt s r).clk.absFold = s.clk.absFold ∧ (State.withAnt s r).ownLock = s.ownLock ∧ (State.withAnt s r).tally.resids = s.tally.resids := by
  refine ⟨?_, ?_, ?_, ?_, ?_⟩ <;> simp only [State.withAnt] <;> (repeat' split) <;> first | (simp; done) | rfl

@[simp] theorem State.nextHop_frame (s : State) :
    (State.nextHop s).pending = s.pending ∧ (State.nextHop s).store.flash = s.store.flash ∧ (State.nextHop s).clk.absFold = s.clk.absFold ∧ (State.nextHop s).ownLock = s.ownLock ∧ (State.nextHop s).tally.resids = s.tally.resids := by
  refine ⟨?_, ?_, ?_, ?_, ?_⟩ <;> simp only [State.nextHop] <;> (repeat' split) <;> first | (simp; done) | rfl

@[simp] theorem State.takeRequest_frame (s : State) (q : RfCfg × Nat) :
    (State.takeRequest s q).pending = s.pending ∧ (State.takeRequest s q).store.flash = s.store.flash ∧ (State.takeRequest s q).clk.absFold = s.clk.absFold ∧ (State.takeRequest s q).ownLock = s.ownLock ∧ (State.takeRequest s q).tally.resids = s.tally.resids := by
  simp only [State.takeRequest]; (repeat' split) <;> simp -implicitDefEqProofs

@[simp] theorem State.takeDeferred_frame (s : State) :
    (State.takeDeferred s).pending = s.pending ∧ (State.takeDeferred s).store.flash = s.store.flash ∧ (State.takeDeferred s).clk.absFold = s.clk.absFold ∧ (State.takeDeferred s).ownLock = s.ownLock ∧ (State.takeDeferred s).tally.resids = s.tally.resids := by
  refine ⟨?_, ?_, ?_, ?_, ?_⟩ <;> simp only [State.takeDeferred] <;> (repeat' split) <;> first | (simp; done) | rfl

@[simp] theorem State.takeRf_frame (s : State) :
    (State.takeRf s).pending = s.pending ∧ (State.takeRf s).store.flash = s.store.flash ∧ (State.takeRf s).clk.absFold = s.clk.absFold ∧ (State.takeRf s).ownLock = s.ownLock ∧ (State.takeRf s).tally.resids = s.tally.resids := by
  refine ⟨?_, ?_, ?_, ?_, ?_⟩ <;> simp only [State.takeRf] <;> (repeat' split) <;> first | (simp; done) | rfl

@[simp] theorem State.endFrame_frame (s : State) :
    (State.endFrame s).pending = s.pending ∧ (State.endFrame s).store.flash = s.store.flash ∧ (State.endFrame s).clk.absFold = s.clk.absFold ∧ (State.endFrame s).ownLock = s.ownLock ∧ (State.endFrame s).tally.resids = s.tally.resids := by
  refine ⟨?_, ?_, ?_, ?_, ?_⟩ <;> simp only [State.endFrame] <;> (repeat' split) <;> first | (simp -implicitDefEqProofs; done) | rfl

@[simp] theorem State.dropRx_frame (s : State) (cause : Nat) :
    (State.dropRx s cause).pending = s.pending ∧ (State.dropRx s cause).store.flash = s.store.flash ∧ (State.dropRx s cause).clk.absFold = s.clk.absFold ∧ (State.dropRx s cause).ownLock = s.ownLock ∧ (State.dropRx s cause).tally.resids = s.tally.resids := by
  refine ⟨?_, ?_, ?_, ?_, ?_⟩ <;> simp only [State.dropRx] <;> (repeat' split) <;> first | (simp; done) | rfl

@[simp] theorem State.rampUp_frame (s : State) (f : Option (List Byte)) :
    (State.rampUp s f).pending = s.pending ∧ (State.rampUp s f).store.flash = s.store.flash ∧ (State.rampUp s f).clk.absFold = s.clk.absFold ∧ (State.rampUp s f).ownLock = s.ownLock ∧ (State.rampUp s f).tally.resids = s.tally.resids := by
  refine ⟨?_, ?_, ?_, ?_, ?_⟩ <;> simp only [State.rampUp] <;> (repeat' split) <;> first | (simp; done) | rfl

@[simp] theorem State.tunerMove_frame (s : State) (rl : Nat) :
    (State.tunerMove s rl).pending = s.pending ∧ (State.tunerMove s rl).store.flash = s.store.flash ∧ (State.tunerMove s rl).clk.absFold = s.clk.absFold ∧ (State.tunerMove s rl).ownLock = s.ownLock ∧ (State.tunerMove s rl).tally.resids = s.tally.resids := by
  refine ⟨?_, ?_, ?_, ?_, ?_⟩ <;> simp only [State.tunerMove] <;> (repeat' split) <;> first | (simp; done) | rfl

@[simp] theorem State.judgeMatch_frame (s : State) (rl : Nat) :
    (State.judgeMatch s rl).pending = s.pending ∧ (State.judgeMatch s rl).store.flash = s.store.flash ∧ (State.judgeMatch s rl).clk.absFold = s.clk.absFold ∧ (State.judgeMatch s rl).ownLock = s.ownLock ∧ (State.judgeMatch s rl).tally.resids = s.tally.resids := by
  refine ⟨?_, ?_, ?_, ?_, ?_⟩ <;> simp only [State.judgeMatch] <;> (repeat' split) <;> first | (simp; done) | rfl

@[simp] theorem State.endHostTx_frame (s : State) (status : BitVec 16) :
    (State.endHostTx s status).pending = s.pending ∧ (State.endHostTx s status).store.flash = s.store.flash ∧ (State.endHostTx s status).clk.absFold = s.clk.absFold ∧ (State.endHostTx s status).ownLock = s.ownLock ∧ (State.endHostTx s status).tally.resids = s.tally.resids := by
  refine ⟨?_, ?_, ?_, ?_, ?_⟩ <;> simp only [State.endHostTx] <;> (repeat' split) <;> first | (simp; done) | rfl

@[simp] theorem State.hostTxBoundary_frame (s : State) :
    (State.hostTxBoundary s).pending = s.pending ∧ (State.hostTxBoundary s).store.flash = s.store.flash ∧ (State.hostTxBoundary s).clk.absFold = s.clk.absFold ∧ (State.hostTxBoundary s).ownLock = s.ownLock ∧ (State.hostTxBoundary s).tally.resids = s.tally.resids := by
  refine ⟨?_, ?_, ?_, ?_, ?_⟩ <;> simp only [State.hostTxBoundary] <;> (repeat' split) <;> first | (simp; done) | rfl

@[simp] theorem State.toneBoundary_frame (s : State) :
    (State.toneBoundary s).pending = s.pending ∧ (State.toneBoundary s).store.flash = s.store.flash ∧ (State.toneBoundary s).clk.absFold = s.clk.absFold ∧ (State.toneBoundary s).ownLock = s.ownLock ∧ (State.toneBoundary s).tally.resids = s.tally.resids := by
  refine ⟨?_, ?_, ?_, ?_, ?_⟩ <;> simp only [State.toneBoundary] <;> (repeat' split) <;> first | (simp; done) | rfl

@[simp] theorem State.hostYields_frame (s : State) :
    (State.hostYields s).pending = s.pending ∧ (State.hostYields s).store.flash = s.store.flash ∧ (State.hostYields s).clk.absFold = s.clk.absFold ∧ (State.hostYields s).ownLock = s.ownLock ∧ (State.hostYields s).tally.resids = s.tally.resids := by
  refine ⟨?_, ?_, ?_, ?_, ?_⟩ <;> simp only [State.hostYields] <;> (repeat' split) <;> first | (simp; done) | rfl

@[simp] theorem State.noteBlock_frame (s : State) (rssi : Int) :
    (State.noteBlock s rssi).pending = s.pending ∧ (State.noteBlock s rssi).store.flash = s.store.flash ∧ (State.noteBlock s rssi).clk.absFold = s.clk.absFold ∧ (State.noteBlock s rssi).ownLock = s.ownLock ∧ (State.noteBlock s rssi).tally.resids = s.tally.resids := by
  refine ⟨?_, ?_, ?_, ?_, ?_⟩ <;> simp only [State.noteBlock] <;> (repeat' split) <;> first | (simp; done) | rfl

@[simp] theorem State.captureBoundary_frame (s : State) :
    (State.captureBoundary s).pending = s.pending ∧ (State.captureBoundary s).store.flash = s.store.flash ∧ (State.captureBoundary s).clk.absFold = s.clk.absFold ∧ (State.captureBoundary s).ownLock = s.ownLock ∧ (State.captureBoundary s).tally.resids = s.tally.resids := by
  refine ⟨?_, ?_, ?_, ?_, ?_⟩ <;> simp only [State.captureBoundary] <;> (repeat' split) <;> first | (simp; done) | (simp -implicitDefEqProofs; done) | rfl

@[simp] theorem State.captureRecords_frame (s : State) (rssi : Nat) (iq : List Nat) :
    (State.captureRecords s rssi iq).pending = s.pending ∧ (State.captureRecords s rssi iq).store.flash = s.store.flash ∧ (State.captureRecords s rssi iq).clk.absFold = s.clk.absFold ∧ (State.captureRecords s rssi iq).ownLock = s.ownLock ∧ (State.captureRecords s rssi iq).tally.resids = s.tally.resids := by
  refine ⟨?_, ?_, ?_, ?_, ?_⟩ <;> simp only [State.captureRecords] <;> (repeat' split) <;> first | (simp; done) | rfl

@[simp] theorem State.judgeSat_frame (s : State) (sat : Bool) (record : Nat) :
    (State.judgeSat s sat record).pending = s.pending ∧ (State.judgeSat s sat record).store.flash = s.store.flash ∧ (State.judgeSat s sat record).clk.absFold = s.clk.absFold ∧ (State.judgeSat s sat record).ownLock = s.ownLock ∧ (State.judgeSat s sat record).tally.resids = s.tally.resids := by
  refine ⟨?_, ?_, ?_, ?_, ?_⟩ <;> simp only [State.judgeSat] <;> (repeat' split) <;> first | (simp; done) | rfl

@[simp] theorem State.seeSfd_frame (s : State) (sfd : Bool) :
    (State.seeSfd s sfd).pending = s.pending ∧ (State.seeSfd s sfd).store.flash = s.store.flash ∧ (State.seeSfd s sfd).clk.absFold = s.clk.absFold ∧ (State.seeSfd s sfd).ownLock = s.ownLock ∧ (State.seeSfd s sfd).tally.resids = s.tally.resids := by
  refine ⟨?_, ?_, ?_, ?_, ?_⟩ <;> simp only [State.seeSfd] <;> (repeat' split) <;> first | (simp; done) | rfl

@[simp] theorem State.agcStep_frame (s : State) (sat : Bool) (peak : Int) :
    (State.agcStep s sat peak).pending = s.pending ∧ (State.agcStep s sat peak).store.flash = s.store.flash ∧ (State.agcStep s sat peak).clk.absFold = s.clk.absFold ∧ (State.agcStep s sat peak).ownLock = s.ownLock ∧ (State.agcStep s sat peak).tally.resids = s.tally.resids := by
  refine ⟨?_, ?_, ?_, ?_, ?_⟩ <;> simp only [State.agcStep] <;> (repeat' split) <;> first | (simp; done) | rfl

@[simp] theorem State.keepCal_frame (s : State) (c : Nat) (cal : SynthCal) :
    (State.keepCal s c cal).pending = s.pending ∧ (State.keepCal s c cal).store.flash = s.store.flash ∧ (State.keepCal s c cal).clk.absFold = s.clk.absFold ∧ (State.keepCal s c cal).ownLock = s.ownLock ∧ (State.keepCal s c cal).tally.resids = s.tally.resids := by
  refine ⟨?_, ?_, ?_, ?_, ?_⟩ <;> simp only [State.keepCal] <;> (repeat' split) <;> first | (simp; done) | rfl

@[simp] theorem State.calResult_frame (s : State) (k c : Nat) (ok : Bool) (cal : SynthCal) (trim : List Int) :
    (State.calResult s k c ok cal trim).pending = s.pending ∧ (State.calResult s k c ok cal trim).store.flash = s.store.flash ∧ (State.calResult s k c ok cal trim).clk.absFold = s.clk.absFold ∧ (State.calResult s k c ok cal trim).ownLock = s.ownLock ∧ (State.calResult s k c ok cal trim).tally.resids = s.tally.resids := by
  refine ⟨?_, ?_, ?_, ?_, ?_⟩ <;> simp only [State.calResult] <;> (repeat' split) <;> first | (simp; done) | rfl

@[simp] theorem State.tuned_frame (s : State) (c : Nat) :
    (State.tuned s c).pending = s.pending ∧ (State.tuned s c).store.flash = s.store.flash ∧ (State.tuned s c).clk.absFold = s.clk.absFold ∧ (State.tuned s c).ownLock = s.ownLock ∧ (State.tuned s c).tally.resids = s.tally.resids := by
  refine ⟨?_, ?_, ?_, ?_, ?_⟩ <;> simp only [State.tuned] <;> (repeat' split) <;> first | (simp; done) | rfl

@[simp] theorem State.restRf_frame (s : State) :
    (State.restRf s).pending = s.pending ∧ (State.restRf s).store.flash = s.store.flash ∧ (State.restRf s).clk.absFold = s.clk.absFold ∧ (State.restRf s).ownLock = s.ownLock ∧ (State.restRf s).tally.resids = s.tally.resids := by
  refine ⟨?_, ?_, ?_, ?_, ?_⟩ <;> simp only [State.restRf] <;> (repeat' split) <;> first | (simp; done) | rfl

@[simp] theorem State.hopCalibrated_frame (s : State) (c : Nat) (e : HopEnd) :
    (State.hopCalibrated s c e).pending = s.pending ∧ (State.hopCalibrated s c e).store.flash = s.store.flash ∧ (State.hopCalibrated s c e).clk.absFold = s.clk.absFold ∧ (State.hopCalibrated s c e).ownLock = s.ownLock ∧ (State.hopCalibrated s c e).tally.resids = s.tally.resids := by
  refine ⟨?_, ?_, ?_, ?_, ?_⟩ <;> simp only [State.hopCalibrated] <;> (repeat' split) <;> first | (simp; done) | (simp -implicitDefEqProofs; done) | rfl

@[simp] theorem commitRf_frame (q : Call) (s : State) :
    (commitRf q s).pending = s.pending ∧ (commitRf q s).store.flash = s.store.flash ∧ (commitRf q s).clk.absFold = s.clk.absFold ∧ (commitRf q s).ownLock = s.ownLock ∧ (commitRf q s).tally.resids = s.tally.resids := by
  refine ⟨?_, ?_, ?_, ?_, ?_⟩ <;> simp only [commitRf] <;> (repeat' split) <;> first | (simp; done) | rfl

@[simp] theorem commitChanWrite_frame (q : Call) (s : State) :
    (commitChanWrite q s).pending = s.pending ∧ (commitChanWrite q s).store.flash = s.store.flash ∧ (commitChanWrite q s).clk.absFold = s.clk.absFold ∧ (commitChanWrite q s).ownLock = s.ownLock ∧ (commitChanWrite q s).tally.resids = s.tally.resids := by
  refine ⟨?_, ?_, ?_, ?_, ?_⟩ <;> simp only [commitChanWrite] <;> (repeat' split) <;> first | (simp; done) | rfl

@[simp] theorem commitRfRx_frame (q : Call) (s : State) :
    (commitRfRx q s).pending = s.pending ∧ (commitRfRx q s).store.flash = s.store.flash ∧ (commitRfRx q s).clk.absFold = s.clk.absFold ∧ (commitRfRx q s).ownLock = s.ownLock ∧ (commitRfRx q s).tally.resids = s.tally.resids := by
  refine ⟨?_, ?_, ?_, ?_, ?_⟩ <;> simp only [commitRfRx] <;> (repeat' split) <;> first | (simp; done) | rfl

@[simp] theorem State.setTone_frame (s : State) (m : Nat) :
    (State.setTone s m).pending = s.pending ∧ (State.setTone s m).store.flash = s.store.flash ∧ (State.setTone s m).clk.absFold = s.clk.absFold ∧ (State.setTone s m).ownLock = s.ownLock ∧ (State.setTone s m).tally.resids = s.tally.resids := by
  refine ⟨?_, ?_, ?_, ?_, ?_⟩ <;> simp only [State.setTone] <;> (repeat' split) <;> first | (simp; done) | rfl

@[simp] theorem commitRfTone_frame (q : Call) (s : State) :
    (commitRfTone q s).pending = s.pending ∧ (commitRfTone q s).store.flash = s.store.flash ∧ (commitRfTone q s).clk.absFold = s.clk.absFold ∧ (commitRfTone q s).ownLock = s.ownLock ∧ (commitRfTone q s).tally.resids = s.tally.resids := by
  refine ⟨?_, ?_, ?_, ?_, ?_⟩ <;> simp only [commitRfTone] <;> (repeat' split) <;> first | (simp; done) | rfl

@[simp] theorem State.radioQuiet_frame (s : State) :
    (State.radioQuiet s).pending = s.pending ∧ (State.radioQuiet s).store.flash = s.store.flash ∧ (State.radioQuiet s).clk.absFold = s.clk.absFold ∧ (State.radioQuiet s).ownLock = s.ownLock ∧ (State.radioQuiet s).tally.resids = s.tally.resids := by
  refine ⟨?_, ?_, ?_, ?_, ?_⟩ <;> simp only [State.radioQuiet] <;> (repeat' split) <;> first | (simp; done) | rfl

@[simp] theorem State.radioWake_frame (s : State) :
    (State.radioWake s).pending = s.pending ∧ (State.radioWake s).store.flash = s.store.flash ∧ (State.radioWake s).clk.absFold = s.clk.absFold ∧ (State.radioWake s).ownLock = s.ownLock ∧ (State.radioWake s).tally.resids = s.tally.resids := by
  refine ⟨?_, ?_, ?_, ?_, ?_⟩ <;> simp only [State.radioWake] <;> (repeat' split) <;> first | (simp; done) | rfl

end Sys2Proof.Machine
end

