-- ==== Sys2Proof/Laws/Frame3.lean ====
section
/-! SUPPORT. What every operation of Commons, Drove, Crook, Host, EventOps leaves alone: the queue of commands, the flash, the fold counter, the ownership
lock and the balance of each total of the ledger. -/

namespace Sys2Proof.Machine

@[simp] theorem State.setMac_frame (s : State) (m : MacState) :
    (State.setMac s m).pending = s.pending ∧ (State.setMac s m).store.flash = s.store.flash ∧ (State.setMac s m).clk.absFold = s.clk.absFold ∧ (State.setMac s m).ownLock = s.ownLock ∧ (State.setMac s m).tally.resids = s.tally.resids := by
  refine ⟨?_, ?_, ?_, ?_, ?_⟩ <;> simp only [State.setMac] <;> (repeat' split) <;> first | (simp; done) | rfl

@[simp] theorem State.queueFrame_frame (s : State) (f : TxFrame) :
    (State.queueFrame s f).pending = s.pending ∧ (State.queueFrame s f).store.flash = s.store.flash ∧ (State.queueFrame s f).clk.absFold = s.clk.absFold ∧ (State.queueFrame s f).ownLock = s.ownLock ∧ (State.queueFrame s f).tally.resids = s.tally.resids := by
  refine ⟨?_, ?_, ?_, ?_, ?_⟩ <;> simp only [State.queueFrame] <;> (repeat' split) <;> first | (simp; done) | rfl

@[simp] theorem State.beaconDue_frame (s : State) :
    (State.beaconDue s).pending = s.pending ∧ (State.beaconDue s).store.flash = s.store.flash ∧ (State.beaconDue s).clk.absFold = s.clk.absFold ∧ (State.beaconDue s).ownLock = s.ownLock ∧ (State.beaconDue s).tally.resids = s.tally.resids := by
  refine ⟨?_, ?_, ?_, ?_, ?_⟩ <;> simp only [State.beaconDue] <;> (repeat' split) <;> first | (simp; done) | rfl

@[simp] theorem State.delayReqDue_frame (s : State) :
    (State.delayReqDue s).pending = s.pending ∧ (State.delayReqDue s).store.flash = s.store.flash ∧ (State.delayReqDue s).clk.absFold = s.clk.absFold ∧ (State.delayReqDue s).ownLock = s.ownLock ∧ (State.delayReqDue s).tally.resids = s.tally.resids := by
  refine ⟨?_, ?_, ?_, ?_, ?_⟩ <;> simp only [State.delayReqDue] <;> (repeat' split) <;> first | (simp; done) | rfl

@[simp] theorem State.delayRespDue_frame (s : State) :
    (State.delayRespDue s).pending = s.pending ∧ (State.delayRespDue s).store.flash = s.store.flash ∧ (State.delayRespDue s).clk.absFold = s.clk.absFold ∧ (State.delayRespDue s).ownLock = s.ownLock ∧ (State.delayRespDue s).tally.resids = s.tally.resids := by
  refine ⟨?_, ?_, ?_, ?_, ?_⟩ <;> simp only [State.delayRespDue] <;> (repeat' split) <;> first | (simp; done) | rfl

@[simp] theorem State.exchangeTimeout_frame (s : State) :
    (State.exchangeTimeout s).pending = s.pending ∧ (State.exchangeTimeout s).store.flash = s.store.flash ∧ (State.exchangeTimeout s).clk.absFold = s.clk.absFold ∧ (State.exchangeTimeout s).ownLock = s.ownLock ∧ (State.exchangeTimeout s).tally.resids = s.tally.resids := by
  refine ⟨?_, ?_, ?_, ?_, ?_⟩ <;> simp only [State.exchangeTimeout] <;> (repeat' split) <;> first | (simp; done) | rfl

@[simp] theorem State.skipFrame_frame (s : State) (f : TxFrame) :
    (State.skipFrame s f).pending = s.pending ∧ (State.skipFrame s f).store.flash = s.store.flash ∧ (State.skipFrame s f).clk.absFold = s.clk.absFold ∧ (State.skipFrame s f).ownLock = s.ownLock ∧ (State.skipFrame s f).tally.resids = s.tally.resids := by
  refine ⟨?_, ?_, ?_, ?_, ?_⟩ <;> simp only [State.skipFrame] <;> (repeat' split) <;> first | (simp; done) | rfl

@[simp] theorem State.ccaPass_frame (s : State) (f : TxFrame) (rest : List TxFrame) :
    (State.ccaPass s f rest).pending = s.pending ∧ (State.ccaPass s f rest).store.flash = s.store.flash ∧ (State.ccaPass s f rest).clk.absFold = s.clk.absFold ∧ (State.ccaPass s f rest).ownLock = s.ownLock ∧ (State.ccaPass s f rest).tally.resids = s.tally.resids := by
  refine ⟨?_, ?_, ?_, ?_, ?_⟩ <;> simp only [State.ccaPass] <;> (repeat' split) <;> first | (simp; done) | rfl

@[simp] theorem State.ccaFail_frame (s : State) :
    (State.ccaFail s).pending = s.pending ∧ (State.ccaFail s).store.flash = s.store.flash ∧ (State.ccaFail s).clk.absFold = s.clk.absFold ∧ (State.ccaFail s).ownLock = s.ownLock ∧ (State.ccaFail s).tally.resids = s.tally.resids := by
  refine ⟨?_, ?_, ?_, ?_, ?_⟩ <;> simp only [State.ccaFail] <;> (repeat' split) <;> first | (simp; done) | (simp -implicitDefEqProofs; done) | rfl

@[simp] theorem State.backoff_frame (s : State) :
    (State.backoff s).pending = s.pending ∧ (State.backoff s).store.flash = s.store.flash ∧ (State.backoff s).clk.absFold = s.clk.absFold ∧ (State.backoff s).ownLock = s.ownLock ∧ (State.backoff s).tally.resids = s.tally.resids := by
  refine ⟨?_, ?_, ?_, ?_, ?_⟩ <;> simp only [State.backoff] <;> (repeat' split) <;> first | (simp; done) | (simp -implicitDefEqProofs; done) | rfl

@[simp] theorem State.commonsRamp_frame (s : State) :
    (State.commonsRamp s).pending = s.pending ∧ (State.commonsRamp s).store.flash = s.store.flash ∧ (State.commonsRamp s).clk.absFold = s.clk.absFold ∧ (State.commonsRamp s).ownLock = s.ownLock ∧ (State.commonsRamp s).tally.resids = s.tally.resids := by
  refine ⟨?_, ?_, ?_, ?_, ?_⟩ <;> simp only [State.commonsRamp] <;> (repeat' split) <;> first | (simp; done) | rfl

@[simp] theorem State.commonsBoundary_frame (s : State) :
    (State.commonsBoundary s).pending = s.pending ∧ (State.commonsBoundary s).store.flash = s.store.flash ∧ (State.commonsBoundary s).clk.absFold = s.clk.absFold ∧ (State.commonsBoundary s).ownLock = s.ownLock ∧ (State.commonsBoundary s).tally.resids = s.tally.resids := by
  refine ⟨?_, ?_, ?_, ?_, ?_⟩ <;> simp only [State.commonsBoundary] <;> (repeat' split) <;> first | (simp; done) | rfl

@[simp] theorem State.endOnAir_frame (s : State) (whole : Bool) :
    (State.endOnAir s whole).pending = s.pending ∧ (State.endOnAir s whole).store.flash = s.store.flash ∧ (State.endOnAir s whole).clk.absFold = s.clk.absFold ∧ (State.endOnAir s whole).ownLock = s.ownLock ∧ (State.endOnAir s whole).tally.resids = s.tally.resids := by
  refine ⟨?_, ?_, ?_, ?_, ?_⟩ <;> simp only [State.endOnAir] <;> (repeat' split) <;> first | (simp; done) | rfl

@[simp] theorem State.sentWhole_frame (s : State) (returnLoss : Nat) :
    (State.sentWhole s returnLoss).pending = s.pending ∧ (State.sentWhole s returnLoss).store.flash = s.store.flash ∧ (State.sentWhole s returnLoss).clk.absFold = s.clk.absFold ∧ (State.sentWhole s returnLoss).ownLock = s.ownLock ∧ (State.sentWhole s returnLoss).tally.resids = s.tally.resids := by
  refine ⟨?_, ?_, ?_, ?_, ?_⟩ <;> simp only [State.sentWhole] <;> (repeat' split) <;> first | (simp; done) | rfl

/-- What is no part of the radio stands as the radio changes. -/
theorem State.setRf_frame (s : State) (r : Radio) :
    ({ s with rf := r }).pending = s.pending ∧ ({ s with rf := r }).store.flash = s.store.flash ∧ ({ s with rf := r }).clk.absFold = s.clk.absFold ∧ ({ s with rf := r }).ownLock = s.ownLock ∧ ({ s with rf := r }).tally.resids = s.tally.resids := ⟨rfl, rfl, rfl, rfl, rfl⟩

@[simp] theorem State.countAir_frame (s : State) :
    (s.countAir).pending = s.pending ∧ (s.countAir).store.flash = s.store.flash ∧ (s.countAir).clk.absFold = s.clk.absFold ∧ (s.countAir).ownLock = s.ownLock ∧ (s.countAir).tally.resids = s.tally.resids := State.setRf_frame s _

@[simp] theorem State.noteReplay_frame (s : State) (id : Nat) (seq : Nat) (secs : Option Nat) :
    (State.noteReplay s id seq secs).pending = s.pending ∧ (State.noteReplay s id seq secs).store.flash = s.store.flash ∧ (State.noteReplay s id seq secs).clk.absFold = s.clk.absFold ∧ (State.noteReplay s id seq secs).ownLock = s.ownLock ∧ (State.noteReplay s id seq secs).tally.resids = s.tally.resids := by
  refine ⟨?_, ?_, ?_, ?_, ?_⟩ <;> simp only [State.noteReplay] <;> (repeat' split) <;> first | (simp; done) | (simp -implicitDefEqProofs; done) | rfl

@[simp] theorem State.judgeExchange_frame (s : State) (r : Request) (t2 : Nat) (dt : Nat) (t4 : Nat) :
    (State.judgeExchange s r t2 dt t4).pending = s.pending ∧ (State.judgeExchange s r t2 dt t4).store.flash = s.store.flash ∧ (State.judgeExchange s r t2 dt t4).clk.absFold = s.clk.absFold ∧ (State.judgeExchange s r t2 dt t4).ownLock = s.ownLock ∧ (State.judgeExchange s r t2 dt t4).tally.resids = s.tally.resids := by
  refine ⟨?_, ?_, ?_, ?_, ?_⟩ <;> simp only [State.judgeExchange] <;> (repeat' split) <;> first | (simp; done) | (simp -implicitDefEqProofs; done) | rfl

@[simp] theorem State.trackMaster_frame (s : State) (m : Option Nat) :
    (State.trackMaster s m).pending = s.pending ∧ (State.trackMaster s m).store.flash = s.store.flash ∧ (State.trackMaster s m).clk.absFold = s.clk.absFold ∧ (State.trackMaster s m).ownLock = s.ownLock ∧ (State.trackMaster s m).tally.resids = s.tally.resids := by
  refine ⟨?_, ?_, ?_, ?_, ?_⟩ <;> simp only [State.trackMaster] <;> (repeat' split) <;> first | (simp; done) | rfl

@[simp] theorem State.hear_frame (s : State) (id : Nat) (grade : Nat) (unc : Nat) :
    (State.hear s id grade unc).pending = s.pending ∧ (State.hear s id grade unc).store.flash = s.store.flash ∧ (State.hear s id grade unc).clk.absFold = s.clk.absFold ∧ (State.hear s id grade unc).ownLock = s.ownLock ∧ (State.hear s id grade unc).tally.resids = s.tally.resids := by
  refine ⟨?_, ?_, ?_, ?_, ?_⟩ <;> simp only [State.hear] <;> (repeat' split) <;> first | (simp; done) | (simp -implicitDefEqProofs; done) | rfl

@[simp] theorem State.beaconLabel_frame (s : State) (b : List Byte) (at_ : Int) :
    (State.beaconLabel s b at_).pending = s.pending ∧ (State.beaconLabel s b at_).store.flash = s.store.flash ∧ (State.beaconLabel s b at_).clk.absFold = s.clk.absFold ∧ (State.beaconLabel s b at_).ownLock = s.ownLock ∧ (State.beaconLabel s b at_).tally.resids = s.tally.resids := by
  refine ⟨?_, ?_, ?_, ?_, ?_⟩ <;> simp only [State.beaconLabel] <;> (repeat' split) <;> first | (simp; done) | (simp -implicitDefEqProofs; done) | rfl

@[simp] theorem State.askDelay_frame (s : State) :
    (State.askDelay s).pending = s.pending ∧ (State.askDelay s).store.flash = s.store.flash ∧ (State.askDelay s).clk.absFold = s.clk.absFold ∧ (State.askDelay s).ownLock = s.ownLock ∧ (State.askDelay s).tally.resids = s.tally.resids := by
  refine ⟨?_, ?_, ?_, ?_, ?_⟩ <;> simp only [State.askDelay] <;> (repeat' split) <;> first | (simp; done) | rfl

@[simp] theorem State.trackedBeacon_frame (s : State) (f : Inbound) :
    (State.trackedBeacon s f).pending = s.pending ∧ (State.trackedBeacon s f).store.flash = s.store.flash ∧ (State.trackedBeacon s f).clk.absFold = s.clk.absFold ∧ (State.trackedBeacon s f).ownLock = s.ownLock ∧ (State.trackedBeacon s f).tally.resids = s.tally.resids := by
  refine ⟨?_, ?_, ?_, ?_, ?_⟩ <;> simp only [State.trackedBeacon] <;> (repeat' split) <;> first | (simp; done) | (simp -implicitDefEqProofs; done) | rfl

@[simp] theorem State.acceptBeacon_frame (s : State) (f : Inbound) (src : Nat) :
    (State.acceptBeacon s f src).pending = s.pending ∧ (State.acceptBeacon s f src).store.flash = s.store.flash ∧ (State.acceptBeacon s f src).clk.absFold = s.clk.absFold ∧ (State.acceptBeacon s f src).ownLock = s.ownLock ∧ (State.acceptBeacon s f src).tally.resids = s.tally.resids := by
  refine ⟨?_, ?_, ?_, ?_, ?_⟩ <;> simp only [State.acceptBeacon] <;> (repeat' split) <;> first | (simp; done) | (simp -implicitDefEqProofs; done) | rfl

@[simp] theorem State.acceptMgmt_frame (s : State) (src : Nat) (pkt : List Byte) :
    (State.acceptMgmt s src pkt).pending = s.pending ∧ (State.acceptMgmt s src pkt).store.flash = s.store.flash ∧ (State.acceptMgmt s src pkt).clk.absFold = s.clk.absFold ∧ (State.acceptMgmt s src pkt).ownLock = s.ownLock ∧ (State.acceptMgmt s src pkt).tally.resids = s.tally.resids := by
  refine ⟨?_, ?_, ?_, ?_, ?_⟩ <;> simp only [State.acceptMgmt] <;> (repeat' split) <;> first | (simp; done) | rfl

@[simp] theorem State.acceptRequest_frame (s : State) (f : Inbound) (src : Nat) (reqSeq : Nat) :
    (State.acceptRequest s f src reqSeq).pending = s.pending ∧ (State.acceptRequest s f src reqSeq).store.flash = s.store.flash ∧ (State.acceptRequest s f src reqSeq).clk.absFold = s.clk.absFold ∧ (State.acceptRequest s f src reqSeq).ownLock = s.ownLock ∧ (State.acceptRequest s f src reqSeq).tally.resids = s.tally.resids := by
  refine ⟨?_, ?_, ?_, ?_, ?_⟩ <;> simp only [State.acceptRequest] <;> (repeat' split) <;> first | (simp; done) | (simp -implicitDefEqProofs; done) | rfl

@[simp] theorem State.acceptFrame_frame (s : State) (f : Inbound) (src : Nat) :
    (State.acceptFrame s f src).pending = s.pending ∧ (State.acceptFrame s f src).store.flash = s.store.flash ∧ (State.acceptFrame s f src).clk.absFold = s.clk.absFold ∧ (State.acceptFrame s f src).ownLock = s.ownLock ∧ (State.acceptFrame s f src).tally.resids = s.tally.resids := by
  refine ⟨?_, ?_, ?_, ?_, ?_⟩ <;> simp only [State.acceptFrame] <;> (repeat' split) <;> first | (simp; done) | (simp -implicitDefEqProofs; done) | rfl

@[simp] theorem State.checkFrame_frame (s : State) (f : Inbound) :
    (State.checkFrame s f).pending = s.pending ∧ (State.checkFrame s f).store.flash = s.store.flash ∧ (State.checkFrame s f).clk.absFold = s.clk.absFold ∧ (State.checkFrame s f).ownLock = s.ownLock ∧ (State.checkFrame s f).tally.resids = s.tally.resids := by
  refine ⟨?_, ?_, ?_, ?_, ?_⟩ <;> simp only [State.checkFrame] <;> (repeat' split) <;> first | (simp; done) | (simp -implicitDefEqProofs; done) | rfl

@[simp] theorem State.takeIn_frame (s : State) (f : Inbound) :
    (State.takeIn s f).pending = s.pending ∧ (State.takeIn s f).store.flash = s.store.flash ∧ (State.takeIn s f).clk.absFold = s.clk.absFold ∧ (State.takeIn s f).ownLock = s.ownLock ∧ (State.takeIn s f).tally.resids = s.tally.resids := by
  refine ⟨?_, ?_, ?_, ?_, ?_⟩ <;> simp only [State.takeIn] <;> (repeat' split) <;> first | (simp; done) | (simp -implicitDefEqProofs; done) | rfl

@[simp] theorem State.releaseHeld_frame (s : State) :
    (State.releaseHeld s).pending = s.pending ∧ (State.releaseHeld s).store.flash = s.store.flash ∧ (State.releaseHeld s).clk.absFold = s.clk.absFold ∧ (State.releaseHeld s).ownLock = s.ownLock ∧ (State.releaseHeld s).tally.resids = s.tally.resids := by
  refine ⟨?_, ?_, ?_, ?_, ?_⟩ <;> simp only [State.releaseHeld] <;> (repeat' split) <;> first | (simp; done) | rfl

@[simp] theorem State.receiveFrame_frame (s : State) (f : Inbound) :
    (State.receiveFrame s f).pending = s.pending ∧ (State.receiveFrame s f).store.flash = s.store.flash ∧ (State.receiveFrame s f).clk.absFold = s.clk.absFold ∧ (State.receiveFrame s f).ownLock = s.ownLock ∧ (State.receiveFrame s f).tally.resids = s.tally.resids := by
  refine ⟨?_, ?_, ?_, ?_, ?_⟩ <;> simp only [State.receiveFrame] <;> (repeat' split) <;> first | (simp; done) | (simp -implicitDefEqProofs; done) | rfl

@[simp] theorem State.beaconMissed_frame (s : State) :
    (State.beaconMissed s).pending = s.pending ∧ (State.beaconMissed s).store.flash = s.store.flash ∧ (State.beaconMissed s).clk.absFold = s.clk.absFold ∧ (State.beaconMissed s).ownLock = s.ownLock ∧ (State.beaconMissed s).tally.resids = s.tally.resids := by
  refine ⟨?_, ?_, ?_, ?_, ?_⟩ <;> simp only [State.beaconMissed] <;> (repeat' split) <;> first | (simp; done) | (simp -implicitDefEqProofs; done) | rfl

@[simp] theorem State.commonsLos_frame (s : State) :
    (State.commonsLos s).pending = s.pending ∧ (State.commonsLos s).store.flash = s.store.flash ∧ (State.commonsLos s).clk.absFold = s.clk.absFold ∧ (State.commonsLos s).ownLock = s.ownLock ∧ (State.commonsLos s).tally.resids = s.tally.resids := by
  refine ⟨?_, ?_, ?_, ?_, ?_⟩ <;> simp only [State.commonsLos] <;> (repeat' split) <;> first | (simp; done) | rfl

@[simp] theorem State.readInbox_frame (s : State) :
    (State.readInbox s).pending = s.pending ∧ (State.readInbox s).store.flash = s.store.flash ∧ (State.readInbox s).clk.absFold = s.clk.absFold ∧ (State.readInbox s).ownLock = s.ownLock ∧ (State.readInbox s).tally.resids = s.tally.resids := by
  refine ⟨?_, ?_, ?_, ?_, ?_⟩
  · simp only [State.readInbox]; refine ((forEach_pending _ _ ?_ _).trans ?_) <;> first | (intros; (repeat' split) <;> first | (simp; done) | (simp -implicitDefEqProofs; done)) | (simp -implicitDefEqProofs; done) | rfl
  · simp only [State.readInbox]; refine ((forEach_flash _ _ ?_ _).trans ?_) <;> first | (intros; (repeat' split) <;> first | (simp; done) | (simp -implicitDefEqProofs; done)) | (simp -implicitDefEqProofs; done) | rfl
  · simp only [State.readInbox]; refine ((forEach_absFold _ _ ?_ _).trans ?_) <;> first | (intros; (repeat' split) <;> first | (simp; done) | (simp -implicitDefEqProofs; done)) | (simp -implicitDefEqProofs; done) | rfl
  · simp only [State.readInbox]; refine ((forEach_ownLock _ _ ?_ _).trans ?_) <;> first | (intros; (repeat' split) <;> first | (simp; done) | (simp -implicitDefEqProofs; done)) | (simp -implicitDefEqProofs; done) | rfl
  · simp only [State.readInbox]; refine ((forEach_resids _ _ ?_ _).trans ?_) <;> first | (intros; (repeat' split) <;> first | (simp; done) | (simp -implicitDefEqProofs; done)) | (simp -implicitDefEqProofs; done) | rfl

@[simp] theorem State.macSlot_frame (s : State) :
    (State.macSlot s).pending = s.pending ∧ (State.macSlot s).store.flash = s.store.flash ∧ (State.macSlot s).clk.absFold = s.clk.absFold ∧ (State.macSlot s).ownLock = s.ownLock ∧ (State.macSlot s).tally.resids = s.tally.resids := by
  refine ⟨?_, ?_, ?_, ?_, ?_⟩ <;> simp only [State.macSlot] <;> split <;> first | rfl | simp -implicitDefEqProofs

@[simp] theorem State.dropReplies_frame (s : State) (n : Nat) :
    (State.dropReplies s n).pending = s.pending ∧ (State.dropReplies s n).store.flash = s.store.flash ∧ (State.dropReplies s n).clk.absFold = s.clk.absFold ∧ (State.dropReplies s n).ownLock = s.ownLock ∧ (State.dropReplies s n).tally.resids = s.tally.resids := by
  refine ⟨?_, ?_, ?_, ?_, ?_⟩
  · unfold State.dropReplies; (repeat' split) <;> first | exact forEach_pending _ _ (fun _ _ => by (repeat' split) <;> simp) _ | rfl
  · unfold State.dropReplies; (repeat' split) <;> first | exact forEach_flash _ _ (fun _ _ => by (repeat' split) <;> simp) _ | rfl
  · unfold State.dropReplies; (repeat' split) <;> first | exact forEach_absFold _ _ (fun _ _ => by (repeat' split) <;> simp) _ | rfl
  · unfold State.dropReplies; (repeat' split) <;> first | exact forEach_ownLock _ _ (fun _ _ => by (repeat' split) <;> simp) _ | rfl
  · unfold State.dropReplies; (repeat' split) <;> first | exact forEach_resids _ _ (fun _ _ => by (repeat' split) <;> simp) _ | rfl

@[simp] theorem State.macForget_frame (s : State) :
    (State.macForget s).pending = s.pending ∧ (State.macForget s).store.flash = s.store.flash ∧ (State.macForget s).clk.absFold = s.clk.absFold ∧ (State.macForget s).ownLock = s.ownLock ∧ (State.macForget s).tally.resids = s.tally.resids := by
  refine ⟨?_, ?_, ?_, ?_, ?_⟩ <;> simp only [State.macForget] <;> (repeat' split) <;> first | (simp; done) | rfl

@[simp] theorem commitCommons_frame (q : Call) (s : State) :
    (commitCommons q s).pending = s.pending ∧ (commitCommons q s).store.flash = s.store.flash ∧ (commitCommons q s).clk.absFold = s.clk.absFold ∧ (commitCommons q s).ownLock = s.ownLock ∧ (commitCommons q s).tally.resids = s.tally.resids := by
  refine ⟨?_, ?_, ?_, ?_, ?_⟩ <;> simp only [commitCommons] <;> (repeat' split) <;> first | (simp; done) | rfl

@[simp] theorem State.movePeer_frame (s : State) (old : Nat) (new : Nat) :
    (State.movePeer s old new).pending = s.pending ∧ (State.movePeer s old new).store.flash = s.store.flash ∧ (State.movePeer s old new).clk.absFold = s.clk.absFold ∧ (State.movePeer s old new).ownLock = s.ownLock ∧ (State.movePeer s old new).tally.resids = s.tally.resids := by
  refine ⟨?_, ?_, ?_, ?_, ?_⟩ <;> simp only [State.movePeer] <;> (repeat' split) <;> first | (simp; done) | (simp -implicitDefEqProofs; done) | rfl

@[simp] theorem commitMgmt_frame (q : Call) (s : State) :
    (commitMgmt q s).pending = s.pending ∧ (commitMgmt q s).store.flash = s.store.flash ∧ (commitMgmt q s).clk.absFold = s.clk.absFold ∧ (commitMgmt q s).ownLock = s.ownLock ∧ (commitMgmt q s).tally.resids = s.tally.resids := by
  refine ⟨?_, ?_, ?_, ?_, ?_⟩ <;> simp only [commitMgmt] <;> (repeat' split) <;> first | (simp; done) | rfl

@[simp] theorem State.airReply_frame (s : State) (r : Reply) :
    (State.airReply s r).pending = s.pending ∧ (State.airReply s r).store.flash = s.store.flash ∧ (State.airReply s r).clk.absFold = s.clk.absFold ∧ (State.airReply s r).ownLock = s.ownLock ∧ (State.airReply s r).tally.resids = s.tally.resids := by
  refine ⟨?_, ?_, ?_, ?_, ?_⟩ <;> simp only [State.airReply] <;> (repeat' split) <;> first | (simp; done) | rfl

@[simp] theorem State.commonsQuiet_frame (s : State) :
    (State.commonsQuiet s).pending = s.pending ∧ (State.commonsQuiet s).store.flash = s.store.flash ∧ (State.commonsQuiet s).clk.absFold = s.clk.absFold ∧ (State.commonsQuiet s).ownLock = s.ownLock ∧ (State.commonsQuiet s).tally.resids = s.tally.resids := by
  refine ⟨?_, ?_, ?_, ?_, ?_⟩ <;> simp only [State.commonsQuiet] <;> (repeat' split) <;> first | (simp; done) | rfl

@[simp] theorem State.commonsWake_frame (s : State) :
    (State.commonsWake s).pending = s.pending ∧ (State.commonsWake s).store.flash = s.store.flash ∧ (State.commonsWake s).clk.absFold = s.clk.absFold ∧ (State.commonsWake s).ownLock = s.ownLock ∧ (State.commonsWake s).tally.resids = s.tally.resids := by
  refine ⟨?_, ?_, ?_, ?_, ?_⟩ <;> simp only [State.commonsWake] <;> (repeat' split) <;> first | (simp; done) | rfl

@[simp] theorem State.setDrove_frame (s : State) (x : DrvState) (tx : DrvTx) :
    (State.setDrove s x tx).pending = s.pending ∧ (State.setDrove s x tx).store.flash = s.store.flash ∧ (State.setDrove s x tx).clk.absFold = s.clk.absFold ∧ (State.setDrove s x tx).ownLock = s.ownLock ∧ (State.setDrove s x tx).tally.resids = s.tally.resids := by
  refine ⟨?_, ?_, ?_, ?_, ?_⟩ <;> simp only [State.setDrove] <;> (repeat' split) <;> first | (simp; done) | rfl

@[simp] theorem State.unlockDrove_frame (s : State) :
    (State.unlockDrove s).pending = s.pending ∧ (State.unlockDrove s).store.flash = s.store.flash ∧ (State.unlockDrove s).clk.absFold = s.clk.absFold ∧ (State.unlockDrove s).ownLock = s.ownLock ∧ (State.unlockDrove s).tally.resids = s.tally.resids := by
  refine ⟨?_, ?_, ?_, ?_, ?_⟩ <;> simp only [State.unlockDrove] <;> (repeat' split) <;> first | (simp; done) | rfl

@[simp] theorem State.droveOff_frame (s : State) (tx : DrvTx) :
    (State.droveOff s tx).pending = s.pending ∧ (State.droveOff s tx).store.flash = s.store.flash ∧ (State.droveOff s tx).clk.absFold = s.clk.absFold ∧ (State.droveOff s tx).ownLock = s.ownLock ∧ (State.droveOff s tx).tally.resids = s.tally.resids := by
  refine ⟨?_, ?_, ?_, ?_, ?_⟩ <;> simp only [State.droveOff] <;> (repeat' split) <;> first | (simp; done) | rfl

@[simp] theorem State.droveOn_frame (s : State) :
    (State.droveOn s).pending = s.pending ∧ (State.droveOn s).store.flash = s.store.flash ∧ (State.droveOn s).clk.absFold = s.clk.absFold ∧ (State.droveOn s).ownLock = s.ownLock ∧ (State.droveOn s).tally.resids = s.tally.resids := by
  refine ⟨?_, ?_, ?_, ?_, ?_⟩ <;> simp only [State.droveOn] <;> (repeat' split) <;> first | (simp; done) | rfl

@[simp] theorem State.droveWake_frame (s : State) :
    (State.droveWake s).pending = s.pending ∧ (State.droveWake s).store.flash = s.store.flash ∧ (State.droveWake s).clk.absFold = s.clk.absFold ∧ (State.droveWake s).ownLock = s.ownLock ∧ (State.droveWake s).tally.resids = s.tally.resids := by
  refine ⟨?_, ?_, ?_, ?_, ?_⟩ <;> simp only [State.droveWake] <;> (repeat' split) <;> first | (simp; done) | (simp -implicitDefEqProofs; done) | rfl

@[simp] theorem State.stageFrame_frame (s : State) :
    (State.stageFrame s).pending = s.pending ∧ (State.stageFrame s).store.flash = s.store.flash ∧ (State.stageFrame s).clk.absFold = s.clk.absFold ∧ (State.stageFrame s).ownLock = s.ownLock ∧ (State.stageFrame s).tally.resids = s.tally.resids := by
  refine ⟨?_, ?_, ?_, ?_, ?_⟩ <;> simp only [State.stageFrame] <;> (repeat' split) <;> first | (simp; done) | (simp -implicitDefEqProofs; done) | rfl

@[simp] theorem State.actCommand_frame (s : State) (cmd : Nat) (seq : Nat) (params : List Byte) (ofs : Int) (commit : Nat) :
    (State.actCommand s cmd seq params ofs commit).pending = s.pending ∧ (State.actCommand s cmd seq params ofs commit).store.flash = s.store.flash ∧ (State.actCommand s cmd seq params ofs commit).clk.absFold = s.clk.absFold ∧ (State.actCommand s cmd seq params ofs commit).ownLock = s.ownLock ∧ (State.actCommand s cmd seq params ofs commit).tally.resids = s.tally.resids := by
  refine ⟨?_, ?_, ?_, ?_, ?_⟩ <;> simp only [State.actCommand] <;> (repeat' split) <;> first | (simp; done) | (simp -implicitDefEqProofs; done) | rfl

@[simp] theorem State.memberCommand_frame (s : State) (w : List Byte) :
    (State.memberCommand s w).pending = s.pending ∧ (State.memberCommand s w).store.flash = s.store.flash ∧ (State.memberCommand s w).clk.absFold = s.clk.absFold ∧ (State.memberCommand s w).ownLock = s.ownLock ∧ (State.memberCommand s w).tally.resids = s.tally.resids := by
  refine ⟨?_, ?_, ?_, ?_, ?_⟩ <;> simp only [State.memberCommand] <;> (repeat' split) <;> first | (simp; done) | rfl

@[simp] theorem State.droveFreeze_frame (s : State) (boundary : Nat) :
    (State.droveFreeze s boundary).pending = s.pending ∧ (State.droveFreeze s boundary).store.flash = s.store.flash ∧ (State.droveFreeze s boundary).clk.absFold = s.clk.absFold ∧ (State.droveFreeze s boundary).ownLock = s.ownLock ∧ (State.droveFreeze s boundary).tally.resids = s.tally.resids := by
  refine ⟨?_, ?_, ?_, ?_, ?_⟩ <;> simp only [State.droveFreeze] <;> (repeat' split) <;> first | (simp; done) | rfl

@[simp] theorem State.selfCommand_frame (s : State) :
    (State.selfCommand s).pending = s.pending ∧ (State.selfCommand s).store.flash = s.store.flash ∧ (State.selfCommand s).clk.absFold = s.clk.absFold ∧ (State.selfCommand s).ownLock = s.ownLock ∧ (State.selfCommand s).tally.resids = s.tally.resids := by
  refine ⟨?_, ?_, ?_, ?_, ?_⟩ <;> simp only [State.selfCommand] <;> (repeat' split) <;> first | (simp; done) | (simp -implicitDefEqProofs; done) | rfl

@[simp] theorem State.noteLead_frame (s : State) (w : List Byte) (changed : Bool) :
    (State.noteLead s w changed).pending = s.pending ∧ (State.noteLead s w changed).store.flash = s.store.flash ∧ (State.noteLead s w changed).clk.absFold = s.clk.absFold ∧ (State.noteLead s w changed).ownLock = s.ownLock ∧ (State.noteLead s w changed).tally.resids = s.tally.resids := by
  refine ⟨?_, ?_, ?_, ?_, ?_⟩ <;> simp only [State.noteLead] <;> (repeat' split) <;> first | (simp; done) | rfl

@[simp] theorem State.setFoldOfs_frame (s : State) (k : Int) :
    (State.setFoldOfs s k).pending = s.pending ∧ (State.setFoldOfs s k).store.flash = s.store.flash ∧ (State.setFoldOfs s k).clk.absFold = s.clk.absFold ∧ (State.setFoldOfs s k).ownLock = s.ownLock ∧ (State.setFoldOfs s k).tally.resids = s.tally.resids := by
  refine ⟨?_, ?_, ?_, ?_, ?_⟩ <;> simp only [State.setFoldOfs] <;> (repeat' split) <;> first | (simp; done) | rfl

@[simp] theorem State.leadLabel_frame (s : State) (w : List Byte) (fresh : Bool) (x : Int) :
    (State.leadLabel s w fresh x).pending = s.pending ∧ (State.leadLabel s w fresh x).store.flash = s.store.flash ∧ (State.leadLabel s w fresh x).clk.absFold = s.clk.absFold ∧ (State.leadLabel s w fresh x).ownLock = s.ownLock ∧ (State.leadLabel s w fresh x).tally.resids = s.tally.resids := by
  refine ⟨?_, ?_, ?_, ?_, ?_⟩ <;> simp only [State.leadLabel] <;> (repeat' split) <;> first | (simp; done) | rfl

@[simp] theorem State.leadSample_frame (s : State) (w : List Byte) (tc : Nat) (fresh : Bool) (x : Int) :
    (State.leadSample s w tc fresh x).pending = s.pending ∧ (State.leadSample s w tc fresh x).store.flash = s.store.flash ∧ (State.leadSample s w tc fresh x).clk.absFold = s.clk.absFold ∧ (State.leadSample s w tc fresh x).ownLock = s.ownLock ∧ (State.leadSample s w tc fresh x).tally.resids = s.tally.resids := by
  refine ⟨?_, ?_, ?_, ?_, ?_⟩ <;> simp only [State.leadSample] <;> (repeat' split) <;> first | (simp; done) | rfl

@[simp] theorem State.memberFrame_frame (s : State) (w : List Byte) (tc : Nat) (fresh : Bool) :
    (State.memberFrame s w tc fresh).pending = s.pending ∧ (State.memberFrame s w tc fresh).store.flash = s.store.flash ∧ (State.memberFrame s w tc fresh).clk.absFold = s.clk.absFold ∧ (State.memberFrame s w tc fresh).ownLock = s.ownLock ∧ (State.memberFrame s w tc fresh).tally.resids = s.tally.resids := by
  refine ⟨?_, ?_, ?_, ?_, ?_⟩ <;> simp only [State.memberFrame] <;> (repeat' split) <;> first | (simp; done) | rfl

@[simp] theorem State.ownReturned_frame (s : State) :
    (State.ownReturned s).pending = s.pending ∧ (State.ownReturned s).store.flash = s.store.flash ∧ (State.ownReturned s).clk.absFold = s.clk.absFold ∧ (State.ownReturned s).ownLock = s.ownLock ∧ (State.ownReturned s).tally.resids = s.tally.resids := by
  refine ⟨?_, ?_, ?_, ?_, ?_⟩ <;> simp only [State.ownReturned] <;> (repeat' split) <;> first | (simp; done) | rfl

@[simp] theorem State.leadFrame_frame (s : State) (w : List Byte) (tc : Nat) (fresh : Bool) :
    (State.leadFrame s w tc fresh).pending = s.pending ∧ (State.leadFrame s w tc fresh).store.flash = s.store.flash ∧ (State.leadFrame s w tc fresh).clk.absFold = s.clk.absFold ∧ (State.leadFrame s w tc fresh).ownLock = s.ownLock ∧ (State.leadFrame s w tc fresh).tally.resids = s.tally.resids := by
  refine ⟨?_, ?_, ?_, ?_, ?_⟩ <;> simp only [State.leadFrame] <;> (repeat' split) <;> first | (simp; done) | (simp -implicitDefEqProofs; done) | rfl

@[simp] theorem State.useFrame_frame (s : State) (w : List Byte) (tc : Nat) (fresh : Bool) :
    (State.useFrame s w tc fresh).pending = s.pending ∧ (State.useFrame s w tc fresh).store.flash = s.store.flash ∧ (State.useFrame s w tc fresh).clk.absFold = s.clk.absFold ∧ (State.useFrame s w tc fresh).ownLock = s.ownLock ∧ (State.useFrame s w tc fresh).tally.resids = s.tally.resids := by
  refine ⟨?_, ?_, ?_, ?_, ?_⟩ <;> simp only [State.useFrame] <;> (repeat' split) <;> first | (simp; done) | rfl

@[simp] theorem State.droveFrame_frame (s : State) (f : DrvRx) :
    (State.droveFrame s f).pending = s.pending ∧ (State.droveFrame s f).store.flash = s.store.flash ∧ (State.droveFrame s f).clk.absFold = s.clk.absFold ∧ (State.droveFrame s f).ownLock = s.ownLock ∧ (State.droveFrame s f).tally.resids = s.tally.resids := by
  refine ⟨?_, ?_, ?_, ?_, ?_⟩ <;> simp only [State.droveFrame] <;> (repeat' split) <;> first | (simp; done) | (simp -implicitDefEqProofs; done) | rfl

@[simp] theorem State.takeDrove_frame (s : State) (l : List DrvRx) :
    (State.takeDrove s l).pending = s.pending ∧ (State.takeDrove s l).store.flash = s.store.flash ∧ (State.takeDrove s l).clk.absFold = s.clk.absFold ∧ (State.takeDrove s l).ownLock = s.ownLock ∧ (State.takeDrove s l).tally.resids = s.tally.resids := by
  refine ⟨?_, ?_, ?_, ?_, ?_⟩ <;> simp only [State.takeDrove] <;> (repeat' split) <;> first | (simp; done) | (simp -implicitDefEqProofs; done) | rfl

@[simp] theorem State.forwardOn_frame (s : State) (words : List Sym) :
    (State.forwardOn s words).pending = s.pending ∧ (State.forwardOn s words).store.flash = s.store.flash ∧ (State.forwardOn s words).clk.absFold = s.clk.absFold ∧ (State.forwardOn s words).ownLock = s.ownLock ∧ (State.forwardOn s words).tally.resids = s.tally.resids := by
  refine ⟨?_, ?_, ?_, ?_, ?_⟩ <;> simp only [State.forwardOn] <;> (repeat' split) <;> first | (simp; done) | (simp -implicitDefEqProofs; done) | rfl

@[simp] theorem State.claimTimeout_frame (s : State) :
    (State.claimTimeout s).pending = s.pending ∧ (State.claimTimeout s).store.flash = s.store.flash ∧ (State.claimTimeout s).clk.absFold = s.clk.absFold ∧ (State.claimTimeout s).ownLock = s.ownLock ∧ (State.claimTimeout s).tally.resids = s.tally.resids := by
  refine ⟨?_, ?_, ?_, ?_, ?_⟩ <;> simp only [State.claimTimeout] <;> (repeat' split) <;> first | (simp; done) | rfl

@[simp] theorem State.leadTimeout_frame (s : State) :
    (State.leadTimeout s).pending = s.pending ∧ (State.leadTimeout s).store.flash = s.store.flash ∧ (State.leadTimeout s).clk.absFold = s.clk.absFold ∧ (State.leadTimeout s).ownLock = s.ownLock ∧ (State.leadTimeout s).tally.resids = s.tally.resids := by
  refine ⟨?_, ?_, ?_, ?_, ?_⟩ <;> simp only [State.leadTimeout] <;> (repeat' split) <;> first | (simp; done) | rfl

@[simp] theorem State.ringTimeout_frame (s : State) :
    (State.ringTimeout s).pending = s.pending ∧ (State.ringTimeout s).store.flash = s.store.flash ∧ (State.ringTimeout s).clk.absFold = s.clk.absFold ∧ (State.ringTimeout s).ownLock = s.ownLock ∧ (State.ringTimeout s).tally.resids = s.tally.resids := by
  refine ⟨?_, ?_, ?_, ?_, ?_⟩ <;> simp only [State.ringTimeout] <;> (repeat' split) <;> first | (simp; done) | rfl

@[simp] theorem State.droveTimingSlot_frame (s : State) :
    (State.droveTimingSlot s).pending = s.pending ∧ (State.droveTimingSlot s).store.flash = s.store.flash ∧ (State.droveTimingSlot s).clk.absFold = s.clk.absFold ∧ (State.droveTimingSlot s).ownLock = s.ownLock ∧ (State.droveTimingSlot s).tally.resids = s.tally.resids := by
  refine ⟨?_, ?_, ?_, ?_, ?_⟩ <;> simp only [State.droveTimingSlot] <;> (repeat' split) <;> first | (simp; done) | rfl

@[simp] theorem State.droveInbox_frame (s : State) (l : List DrvRx) :
    (forEach l (fun f s => s.droveFrame f) s).pending = s.pending ∧ (forEach l (fun f s => s.droveFrame f) s).store.flash = s.store.flash ∧ (forEach l (fun f s => s.droveFrame f) s).clk.absFold = s.clk.absFold ∧ (forEach l (fun f s => s.droveFrame f) s).ownLock = s.ownLock ∧ (forEach l (fun f s => s.droveFrame f) s).tally.resids = s.tally.resids :=
  ⟨forEach_pending _ _ (by simp) _, forEach_flash _ _ (by simp) _, forEach_absFold _ _ (by simp) _, forEach_ownLock _ _ (by simp) _, forEach_resids _ _ (by simp) _⟩

@[simp] theorem State.droveTask_frame (s : State) :
    (State.droveTask s).pending = s.pending ∧ (State.droveTask s).store.flash = s.store.flash ∧ (State.droveTask s).clk.absFold = s.clk.absFold ∧ (State.droveTask s).ownLock = s.ownLock ∧ (State.droveTask s).tally.resids = s.tally.resids := by
  refine ⟨?_, ?_, ?_, ?_, ?_⟩ <;> simp only [State.droveTask] <;> simp -implicitDefEqProofs

@[simp] theorem State.droveCommit_frame (s : State) :
    (State.droveCommit s).pending = s.pending ∧ (State.droveCommit s).store.flash = s.store.flash ∧ (State.droveCommit s).clk.absFold = s.clk.absFold ∧ (State.droveCommit s).ownLock = s.ownLock ∧ (State.droveCommit s).tally.resids = s.tally.resids := by
  refine ⟨?_, ?_, ?_, ?_, ?_⟩ <;> simp only [State.droveCommit] <;> (repeat' split) <;> first | (simp; done) | rfl

@[simp] theorem State.droveCount_frame (s : State) :
    (State.droveCount s).pending = s.pending ∧ (State.droveCount s).store.flash = s.store.flash ∧ (State.droveCount s).clk.absFold = s.clk.absFold ∧ (State.droveCount s).ownLock = s.ownLock ∧ (State.droveCount s).tally.resids = s.tally.resids := by
  refine ⟨?_, ?_, ?_, ?_, ?_⟩ <;> simp only [State.droveCount] <;> (repeat' split) <;> first | (simp; done) | rfl

@[simp] theorem commitDrove_frame (q : Call) (s : State) :
    (commitDrove q s).pending = s.pending ∧ (commitDrove q s).store.flash = s.store.flash ∧ (commitDrove q s).clk.absFold = s.clk.absFold ∧ (commitDrove q s).ownLock = s.ownLock ∧ (commitDrove q s).tally.resids = s.tally.resids := by
  refine ⟨?_, ?_, ?_, ?_, ?_⟩ <;> simp only [commitDrove] <;> (repeat' split) <;> first | (simp; done) | rfl

@[simp] theorem commitDroveCmd_frame (q : Call) (s : State) :
    ((commitDroveCmd q s).1).pending = s.pending ∧ ((commitDroveCmd q s).1).store.flash = s.store.flash ∧ ((commitDroveCmd q s).1).clk.absFold = s.clk.absFold ∧ ((commitDroveCmd q s).1).ownLock = s.ownLock ∧ ((commitDroveCmd q s).1).tally.resids = s.tally.resids := by
  refine ⟨?_, ?_, ?_, ?_, ?_⟩ <;> simp only [commitDroveCmd] <;> (repeat' split) <;> first | (simp; done) | rfl

@[simp] theorem State.fireStep_frame (s : State) (c : CrookCmd) :
    (State.fireStep s c).pending = s.pending ∧ (State.fireStep s c).store.flash = s.store.flash ∧ (State.fireStep s c).clk.absFold = s.clk.absFold ∧ (State.fireStep s c).ownLock = s.ownLock ∧ (State.fireStep s c).tally.resids = s.tally.resids := by
  refine ⟨?_, ?_, ?_, ?_, ?_⟩ <;> simp only [State.fireStep] <;> (repeat' split) <;> first | (simp; done) | rfl

@[simp] theorem State.fireGate_frame (s : State) (c : CrookCmd) (on : Bool) :
    (State.fireGate s c on).pending = s.pending ∧ (State.fireGate s c on).store.flash = s.store.flash ∧ (State.fireGate s c on).clk.absFold = s.clk.absFold ∧ (State.fireGate s c on).ownLock = s.ownLock ∧ (State.fireGate s c on).tally.resids = s.tally.resids := by
  refine ⟨?_, ?_, ?_, ?_, ?_⟩ <;> simp only [State.fireGate] <;> (repeat' split) <;> first | (simp; done) | rfl

@[simp] theorem State.fireFreeze_frame (s : State) :
    (State.fireFreeze s).pending = s.pending ∧ (State.fireFreeze s).store.flash = s.store.flash ∧ (State.fireFreeze s).clk.absFold = s.clk.absFold ∧ (State.fireFreeze s).ownLock = s.ownLock ∧ (State.fireFreeze s).tally.resids = s.tally.resids := by
  refine ⟨?_, ?_, ?_, ?_, ?_⟩ <;> simp only [State.fireFreeze] <;> (repeat' split) <;> first | (simp; done) | rfl

@[simp] theorem State.fireGather_frame (s : State) (c : CrookCmd) :
    (State.fireGather s c).pending = s.pending ∧ (State.fireGather s c).store.flash = s.store.flash ∧ (State.fireGather s c).clk.absFold = s.clk.absFold ∧ (State.fireGather s c).ownLock = s.ownLock ∧ (State.fireGather s c).tally.resids = s.tally.resids := by
  refine ⟨?_, ?_, ?_, ?_, ?_⟩ <;> simp only [State.fireGather] <;> (repeat' split) <;> first | (simp; done) | rfl

theorem State.crookGo_pending (s : State) (fire : CrookCmd → State → State) (h : ∀ c s, (fire c s).pending = s.pending) (c : CrookCmd) :
    (s.crookGo c fire).pending = s.pending := by
  simp only [State.crookGo]
  split <;> simp [h]

@[simp] theorem State.crookAct_pending (s : State) (code : Nat) (src : CrookSrc) (fire : CrookCmd → State → State) (h : ∀ c s, (fire c s).pending = s.pending) :
    (s.crookAct code src fire).pending = s.pending := by
  simp only [State.crookAct]
  (repeat' split) <;> first | rfl | (simp; done) | exact (State.crookGo_pending _ fire h _).trans (by first | rfl | simp)

theorem State.crookGo_flash (s : State) (fire : CrookCmd → State → State) (h : ∀ c s, (fire c s).store.flash = s.store.flash) (c : CrookCmd) :
    (s.crookGo c fire).store.flash = s.store.flash := by
  simp only [State.crookGo]
  split <;> simp [h]

@[simp] theorem State.crookAct_flash (s : State) (code : Nat) (src : CrookSrc) (fire : CrookCmd → State → State) (h : ∀ c s, (fire c s).store.flash = s.store.flash) :
    (s.crookAct code src fire).store.flash = s.store.flash := by
  simp only [State.crookAct]
  (repeat' split) <;> first | rfl | (simp; done) | exact (State.crookGo_flash _ fire h _).trans (by first | rfl | simp)

theorem State.crookGo_absFold (s : State) (fire : CrookCmd → State → State) (h : ∀ c s, (fire c s).clk.absFold = s.clk.absFold) (c : CrookCmd) :
    (s.crookGo c fire).clk.absFold = s.clk.absFold := by
  simp only [State.crookGo]
  split <;> simp [h]

@[simp] theorem State.crookAct_absFold (s : State) (code : Nat) (src : CrookSrc) (fire : CrookCmd → State → State) (h : ∀ c s, (fire c s).clk.absFold = s.clk.absFold) :
    (s.crookAct code src fire).clk.absFold = s.clk.absFold := by
  simp only [State.crookAct]
  (repeat' split) <;> first | rfl | (simp; done) | exact (State.crookGo_absFold _ fire h _).trans (by first | rfl | simp)

theorem State.crookGo_ownLock (s : State) (fire : CrookCmd → State → State) (h : ∀ c s, (fire c s).ownLock = s.ownLock) (c : CrookCmd) :
    (s.crookGo c fire).ownLock = s.ownLock := by
  simp only [State.crookGo]
  split <;> simp [h]

@[simp] theorem State.crookAct_ownLock (s : State) (code : Nat) (src : CrookSrc) (fire : CrookCmd → State → State) (h : ∀ c s, (fire c s).ownLock = s.ownLock) :
    (s.crookAct code src fire).ownLock = s.ownLock := by
  simp only [State.crookAct]
  (repeat' split) <;> first | rfl | (simp; done) | exact (State.crookGo_ownLock _ fire h _).trans (by first | rfl | simp)

theorem State.crookGo_resids (s : State) (fire : CrookCmd → State → State) (h : ∀ c s, (fire c s).tally.resids = s.tally.resids) (c : CrookCmd) :
    (s.crookGo c fire).tally.resids = s.tally.resids := by
  simp only [State.crookGo]
  split <;> simp [h]

@[simp] theorem State.crookAct_resids (s : State) (code : Nat) (src : CrookSrc) (fire : CrookCmd → State → State) (h : ∀ c s, (fire c s).tally.resids = s.tally.resids) :
    (s.crookAct code src fire).tally.resids = s.tally.resids := by
  simp only [State.crookAct]
  (repeat' split) <;> first | rfl | (simp; done) | exact (State.crookGo_resids _ fire h _).trans (by first | rfl | simp)

@[simp] theorem State.writePacket_frame (s : State) (b : List Byte) :
    (State.writePacket s b).pending = s.pending ∧ (State.writePacket s b).store.flash = s.store.flash ∧ (State.writePacket s b).clk.absFold = s.clk.absFold ∧ (State.writePacket s b).ownLock = s.ownLock ∧ (State.writePacket s b).tally.resids = s.tally.resids := by
  refine ⟨?_, ?_, ?_, ?_, ?_⟩ <;> simp only [State.writePacket] <;> (repeat' split) <;> first | (simp; done) | rfl

@[simp] theorem State.readReply_frame (s : State) (sel : Byte) (whole : Bool) :
    (State.readReply s sel whole).pending = s.pending ∧ (State.readReply s sel whole).store.flash = s.store.flash ∧ (State.readReply s sel whole).clk.absFold = s.clk.absFold ∧ (State.readReply s sel whole).ownLock = s.ownLock ∧ (State.readReply s sel whole).tally.resids = s.tally.resids := by
  refine ⟨?_, ?_, ?_, ?_, ?_⟩ <;> simp only [State.readReply] <;> (repeat' split) <;> first | (simp; done) | rfl

@[simp] theorem State.directRead_frame (s : State) (addr : Nat) (n : Nat) :
    (State.directRead s addr n).pending = s.pending ∧ (State.directRead s addr n).store.flash = s.store.flash ∧ (State.directRead s addr n).clk.absFold = s.clk.absFold ∧ (State.directRead s addr n).ownLock = s.ownLock ∧ (State.directRead s addr n).tally.resids = s.tally.resids := by
  refine ⟨?_, ?_, ?_, ?_, ?_⟩ <;> simp only [State.directRead] <;> (repeat' split) <;> first | (simp; done) | (simp -implicitDefEqProofs; done) | rfl

@[simp] theorem State.actLatches_frame (s : State) (kind : Nat) (v : Nat) :
    (State.actLatches s kind v).pending = s.pending ∧ (State.actLatches s kind v).store.flash = s.store.flash ∧ (State.actLatches s kind v).clk.absFold = s.clk.absFold ∧ (State.actLatches s kind v).ownLock = s.ownLock ∧ (State.actLatches s kind v).tally.resids = s.tally.resids := by
  refine ⟨?_, ?_, ?_, ?_, ?_⟩ <;> simp only [State.actLatches] <;> (repeat' split) <;> first | (simp; done) | (simp -implicitDefEqProofs; done) | rfl

@[simp] theorem State.portWrite_frame (s : State) :
    (State.portWrite s).pending = s.pending ∧ (State.portWrite s).store.flash = s.store.flash ∧ (State.portWrite s).clk.absFold = s.clk.absFold ∧ (State.portWrite s).ownLock = s.ownLock ∧ (State.portWrite s).tally.resids = s.tally.resids := by
  refine ⟨?_, ?_, ?_, ?_, ?_⟩ <;> simp only [State.portWrite] <;> (repeat' split) <;> first | (simp; done) | (simp -implicitDefEqProofs; done) | rfl

@[simp] theorem State.windowByte_frame (s : State) (addr : Nat) (data : List Byte) (i : Nat) :
    (State.windowByte s addr data i).pending = s.pending ∧ (State.windowByte s addr data i).store.flash = s.store.flash ∧ (State.windowByte s addr data i).clk.absFold = s.clk.absFold ∧ (State.windowByte s addr data i).ownLock = s.ownLock ∧ (State.windowByte s addr data i).tally.resids = s.tally.resids := by
  refine ⟨?_, ?_, ?_, ?_, ?_⟩ <;> simp only [State.windowByte] <;> (repeat' split) <;> first | (simp; done) | rfl

@[simp] theorem State.windowWrite_frame (s : State) (addr : Nat) (data : List Byte) :
    (State.windowWrite s addr data).pending = s.pending ∧ (State.windowWrite s addr data).store.flash = s.store.flash ∧ (State.windowWrite s addr data).clk.absFold = s.clk.absFold ∧ (State.windowWrite s addr data).ownLock = s.ownLock ∧ (State.windowWrite s addr data).tally.resids = s.tally.resids := by
  refine ⟨?_, ?_, ?_, ?_, ?_⟩ <;> simp only [State.windowWrite] <;> (repeat' split) <;> first | (simp; done) | rfl

@[simp] theorem State.directWrite_frame (s : State) (addr : Nat) (data : List Byte) :
    (State.directWrite s addr data).pending = s.pending ∧ (State.directWrite s addr data).store.flash = s.store.flash ∧ (State.directWrite s addr data).clk.absFold = s.clk.absFold ∧ (State.directWrite s addr data).ownLock = s.ownLock ∧ (State.directWrite s addr data).tally.resids = s.tally.resids := by
  refine ⟨?_, ?_, ?_, ?_, ?_⟩ <;> simp only [State.directWrite] <;> (repeat' split) <;> first | (simp; done) | rfl

@[simp] theorem State.dropPenItems_frame (s : State) (p : Pen) (n : Nat) (lost : Nat) :
    (State.dropPenItems s p n lost).pending = s.pending ∧ (State.dropPenItems s p n lost).store.flash = s.store.flash ∧ (State.dropPenItems s p n lost).clk.absFold = s.clk.absFold ∧ (State.dropPenItems s p n lost).ownLock = s.ownLock ∧ (State.dropPenItems s p n lost).tally.resids = s.tally.resids := by
  refine ⟨?_, ?_, ?_, ?_, ?_⟩ <;> simp only [State.dropPenItems] <;> (repeat' split) <;> first | (simp; done) | (simp -implicitDefEqProofs; done) | rfl

@[simp] theorem State.setPen_frame (s : State) (p : Pen) (st : PenState) :
    (State.setPen s p st).pending = s.pending ∧ (State.setPen s p st).store.flash = s.store.flash ∧ (State.setPen s p st).clk.absFold = s.clk.absFold ∧ (State.setPen s p st).ownLock = s.ownLock ∧ (State.setPen s p st).tally.resids = s.tally.resids := by
  refine ⟨?_, ?_, ?_, ?_, ?_⟩ <;> simp only [State.setPen] <;> (repeat' split) <;> first | (simp; done) | rfl

@[simp] theorem State.dropLoadsOf_frame (s : State) (r : Nat) (p : Pen) :
    (State.dropLoadsOf s r p).pending = s.pending ∧ (State.dropLoadsOf s r p).store.flash = s.store.flash ∧ (State.dropLoadsOf s r p).clk.absFold = s.clk.absFold ∧ (State.dropLoadsOf s r p).ownLock = s.ownLock ∧ (State.dropLoadsOf s r p).tally.resids = s.tally.resids := by
  refine ⟨?_, ?_, ?_, ?_, ?_⟩ <;> simp only [State.dropLoadsOf] <;> (repeat' split) <;> first | (simp; done) | rfl

@[simp] theorem State.dropLoads_frame (s : State) (r : Nat) (new : Pen) :
    (State.dropLoads s r new).pending = s.pending ∧ (State.dropLoads s r new).store.flash = s.store.flash ∧ (State.dropLoads s r new).clk.absFold = s.clk.absFold ∧ (State.dropLoads s r new).ownLock = s.ownLock ∧ (State.dropLoads s r new).tally.resids = s.tally.resids := by
  refine ⟨?_, ?_, ?_, ?_, ?_⟩
  · simp only [State.dropLoads]
    (repeat' split) <;> first | (simp; done) | (refine (forEach_pending _ _ ?_ _).trans ?_ <;> [(intro x s; (try dsimp only); (repeat' split) <;> first | (simp; done) | (refine (forEach_pending _ _ ?_ _).trans ?_ <;> [(intro x s; (try dsimp only); (repeat' split) <;> simp); (first | rfl | simp)])); (first | rfl | simp)])
  · simp only [State.dropLoads]
    (repeat' split) <;> first | (simp; done) | (refine (forEach_flash _ _ ?_ _).trans ?_ <;> [(intro x s; (try dsimp only); (repeat' split) <;> first | (simp; done) | (refine (forEach_flash _ _ ?_ _).trans ?_ <;> [(intro x s; (try dsimp only); (repeat' split) <;> simp); (first | rfl | simp)])); (first | rfl | simp)])
  · simp only [State.dropLoads]
    (repeat' split) <;> first | (simp; done) | (refine (forEach_absFold _ _ ?_ _).trans ?_ <;> [(intro x s; (try dsimp only); (repeat' split) <;> first | (simp; done) | (refine (forEach_absFold _ _ ?_ _).trans ?_ <;> [(intro x s; (try dsimp only); (repeat' split) <;> simp); (first | rfl | simp)])); (first | rfl | simp)])
  · simp only [State.dropLoads]
    (repeat' split) <;> first | (simp; done) | (refine (forEach_ownLock _ _ ?_ _).trans ?_ <;> [(intro x s; (try dsimp only); (repeat' split) <;> first | (simp; done) | (refine (forEach_ownLock _ _ ?_ _).trans ?_ <;> [(intro x s; (try dsimp only); (repeat' split) <;> simp); (first | rfl | simp)])); (first | rfl | simp)])
  · simp only [State.dropLoads]
    (repeat' split) <;> first | (simp; done) | (refine (forEach_resids _ _ ?_ _).trans ?_ <;> [(intro x s; (try dsimp only); (repeat' split) <;> first | (simp; done) | (refine (forEach_resids _ _ ?_ _).trans ?_ <;> [(intro x s; (try dsimp only); (repeat' split) <;> simp); (first | rfl | simp)])); (first | rfl | simp)])

@[simp] theorem State.setOwner_frame (s : State) (r : Nat) (new : Pen) :
    (State.setOwner s r new).pending = s.pending ∧ (State.setOwner s r new).store.flash = s.store.flash ∧ (State.setOwner s r new).clk.absFold = s.clk.absFold ∧ (State.setOwner s r new).ownLock = s.ownLock ∧ (State.setOwner s r new).tally.resids = s.tally.resids := by
  refine ⟨?_, ?_, ?_, ?_, ?_⟩ <;> simp only [State.setOwner] <;> (repeat' split) <;> first | (simp; done) | rfl

@[simp] theorem commitOwnerSet_frame (q : Call) (s : State) :
    (commitOwnerSet q s).pending = s.pending ∧ (commitOwnerSet q s).store.flash = s.store.flash ∧ (commitOwnerSet q s).clk.absFold = s.clk.absFold ∧ (commitOwnerSet q s).ownLock = s.ownLock ∧ (commitOwnerSet q s).tally.resids = s.tally.resids := by
  refine ⟨?_, ?_, ?_, ?_, ?_⟩ <;> simp only [commitOwnerSet] <;> (repeat' split) <;> first | (simp; done) | rfl

@[simp] theorem commitOwnerLock_frame (_q : Call) (s : State) :
    (commitOwnerLock _q s).pending = s.pending ∧ (commitOwnerLock _q s).store.flash = s.store.flash ∧ (commitOwnerLock _q s).clk.absFold = s.clk.absFold ∧ (commitOwnerLock _q s).tally.resids = s.tally.resids := by
  refine ⟨?_, ?_, ?_, ?_⟩ <;> simp only [commitOwnerLock] <;> (repeat' split) <;> first | (simp; done) | rfl

@[simp] theorem commitPenEnable_frame (q : Call) (s : State) :
    (commitPenEnable q s).pending = s.pending ∧ (commitPenEnable q s).store.flash = s.store.flash ∧ (commitPenEnable q s).clk.absFold = s.clk.absFold ∧ (commitPenEnable q s).ownLock = s.ownLock ∧ (commitPenEnable q s).tally.resids = s.tally.resids := by
  refine ⟨?_, ?_, ?_, ?_, ?_⟩ <;> simp only [commitPenEnable] <;> (repeat' split) <;> first | (simp; done) | rfl

@[simp] theorem commitPin_frame (q : Call) (s : State) :
    (commitPin q s).pending = s.pending ∧ (commitPin q s).store.flash = s.store.flash ∧ (commitPin q s).clk.absFold = s.clk.absFold ∧ (commitPin q s).ownLock = s.ownLock ∧ (commitPin q s).tally.resids = s.tally.resids := by
  refine ⟨?_, ?_, ?_, ?_, ?_⟩ <;> simp only [commitPin] <;> (repeat' split) <;> first | (simp; done) | rfl

@[simp] theorem commitPinLock_frame (q : Call) (s : State) :
    (commitPinLock q s).pending = s.pending ∧ (commitPinLock q s).store.flash = s.store.flash ∧ (commitPinLock q s).clk.absFold = s.clk.absFold ∧ (commitPinLock q s).ownLock = s.ownLock ∧ (commitPinLock q s).tally.resids = s.tally.resids := by
  refine ⟨?_, ?_, ?_, ?_, ?_⟩ <;> simp only [commitPinLock] <;> (repeat' split) <;> first | (simp; done) | rfl

@[simp] theorem State.raisePinEdges_frame (s : State) (n : Nat) (p : PinSt) :
    (State.raisePinEdges s n p).pending = s.pending ∧ (State.raisePinEdges s n p).store.flash = s.store.flash ∧ (State.raisePinEdges s n p).clk.absFold = s.clk.absFold ∧ (State.raisePinEdges s n p).ownLock = s.ownLock ∧ (State.raisePinEdges s n p).tally.resids = s.tally.resids := by
  refine ⟨(forEach_pending _ _ (fun _ _ => by simp) _).trans (forEach_pending _ _ (fun _ _ => by simp) _), (forEach_flash _ _ (fun _ _ => by simp) _).trans (forEach_flash _ _ (fun _ _ => by simp) _), (forEach_absFold _ _ (fun _ _ => by simp) _).trans (forEach_absFold _ _ (fun _ _ => by simp) _), (forEach_ownLock _ _ (fun _ _ => by simp) _).trans (forEach_ownLock _ _ (fun _ _ => by simp) _), (forEach_resids _ _ (fun _ _ => by simp) _).trans (forEach_resids _ _ (fun _ _ => by simp) _)⟩

@[simp] theorem State.raiseEdges_frame (s : State) :
    (State.raiseEdges s).pending = s.pending ∧ (State.raiseEdges s).store.flash = s.store.flash ∧ (State.raiseEdges s).clk.absFold = s.clk.absFold ∧ (State.raiseEdges s).ownLock = s.ownLock ∧ (State.raiseEdges s).tally.resids = s.tally.resids := by
  refine ⟨?_, ?_, ?_, ?_, ?_⟩
  · simp only [State.raiseEdges]
    (repeat' split) <;> first | (simp; done) | (refine (forEach_pending _ _ ?_ _).trans ?_ <;> [(intro x s; (try dsimp only); (repeat' split) <;> first | (simp; done) | (refine (forEach_pending _ _ ?_ _).trans ?_ <;> [(intro x s; (try dsimp only); (repeat' split) <;> simp); (first | rfl | simp)])); (first | rfl | simp)])
  · simp only [State.raiseEdges]
    (repeat' split) <;> first | (simp; done) | (refine (forEach_flash _ _ ?_ _).trans ?_ <;> [(intro x s; (try dsimp only); (repeat' split) <;> first | (simp; done) | (refine (forEach_flash _ _ ?_ _).trans ?_ <;> [(intro x s; (try dsimp only); (repeat' split) <;> simp); (first | rfl | simp)])); (first | rfl | simp)])
  · simp only [State.raiseEdges]
    (repeat' split) <;> first | (simp; done) | (refine (forEach_absFold _ _ ?_ _).trans ?_ <;> [(intro x s; (try dsimp only); (repeat' split) <;> first | (simp; done) | (refine (forEach_absFold _ _ ?_ _).trans ?_ <;> [(intro x s; (try dsimp only); (repeat' split) <;> simp); (first | rfl | simp)])); (first | rfl | simp)])
  · simp only [State.raiseEdges]
    (repeat' split) <;> first | (simp; done) | (refine (forEach_ownLock _ _ ?_ _).trans ?_ <;> [(intro x s; (try dsimp only); (repeat' split) <;> first | (simp; done) | (refine (forEach_ownLock _ _ ?_ _).trans ?_ <;> [(intro x s; (try dsimp only); (repeat' split) <;> simp); (first | rfl | simp)])); (first | rfl | simp)])
  · simp only [State.raiseEdges]
    (repeat' split) <;> first | (simp; done) | (refine (forEach_resids _ _ ?_ _).trans ?_ <;> [(intro x s; (try dsimp only); (repeat' split) <;> first | (simp; done) | (refine (forEach_resids _ _ ?_ _).trans ?_ <;> [(intro x s; (try dsimp only); (repeat' split) <;> simp); (first | rfl | simp)])); (first | rfl | simp)])

@[simp] theorem State.queueOverflow_frame (s : State) :
    (State.queueOverflow s).pending = s.pending ∧ (State.queueOverflow s).store.flash = s.store.flash ∧ (State.queueOverflow s).clk.absFold = s.clk.absFold ∧ (State.queueOverflow s).ownLock = s.ownLock ∧ (State.queueOverflow s).tally.resids = s.tally.resids := by
  refine ⟨?_, ?_, ?_, ?_, ?_⟩ <;> simp only [State.queueOverflow] <;> (repeat' split) <;> first | (simp; done) | rfl

@[simp] theorem State.queueOcc_frame (s : State) (o : Occ) :
    (State.queueOcc s o).pending = s.pending ∧ (State.queueOcc s o).store.flash = s.store.flash ∧ (State.queueOcc s o).clk.absFold = s.clk.absFold ∧ (State.queueOcc s o).ownLock = s.ownLock ∧ (State.queueOcc s o).tally.resids = s.tally.resids := by
  refine ⟨?_, ?_, ?_, ?_, ?_⟩ <;> simp only [State.queueOcc] <;> (repeat' split) <;> first | (simp; done) | rfl

@[simp] theorem State.updateIrq_frame (s : State) :
    (State.updateIrq s).pending = s.pending ∧ (State.updateIrq s).store.flash = s.store.flash ∧ (State.updateIrq s).clk.absFold = s.clk.absFold ∧ (State.updateIrq s).ownLock = s.ownLock ∧ (State.updateIrq s).tally.resids = s.tally.resids := by
  refine ⟨?_, ?_, ?_, ?_, ?_⟩ <;> simp only [State.updateIrq] <;> (repeat' split) <;> first | (simp; done) | rfl

@[simp] theorem State.queueOccs_frame (s : State) :
    (State.queueOccs s).pending = s.pending ∧ (State.queueOccs s).store.flash = s.store.flash ∧ (State.queueOccs s).clk.absFold = s.clk.absFold ∧ (State.queueOccs s).ownLock = s.ownLock ∧ (State.queueOccs s).tally.resids = s.tally.resids := by
  refine ⟨?_, ?_, ?_, ?_, ?_⟩
  · simp only [State.queueOccs]
    (repeat' split) <;> first | (simp; done) | (refine (forEach_pending _ _ ?_ _).trans ?_ <;> [(intro x s; (try dsimp only); (repeat' split) <;> first | (simp; done) | (refine (forEach_pending _ _ ?_ _).trans ?_ <;> [(intro x s; (try dsimp only); (repeat' split) <;> simp); (first | rfl | simp)])); (first | rfl | simp)])
  · simp only [State.queueOccs]
    (repeat' split) <;> first | (simp; done) | (refine (forEach_flash _ _ ?_ _).trans ?_ <;> [(intro x s; (try dsimp only); (repeat' split) <;> first | (simp; done) | (refine (forEach_flash _ _ ?_ _).trans ?_ <;> [(intro x s; (try dsimp only); (repeat' split) <;> simp); (first | rfl | simp)])); (first | rfl | simp)])
  · simp only [State.queueOccs]
    (repeat' split) <;> first | (simp; done) | (refine (forEach_absFold _ _ ?_ _).trans ?_ <;> [(intro x s; (try dsimp only); (repeat' split) <;> first | (simp; done) | (refine (forEach_absFold _ _ ?_ _).trans ?_ <;> [(intro x s; (try dsimp only); (repeat' split) <;> simp); (first | rfl | simp)])); (first | rfl | simp)])
  · simp only [State.queueOccs]
    (repeat' split) <;> first | (simp; done) | (refine (forEach_ownLock _ _ ?_ _).trans ?_ <;> [(intro x s; (try dsimp only); (repeat' split) <;> first | (simp; done) | (refine (forEach_ownLock _ _ ?_ _).trans ?_ <;> [(intro x s; (try dsimp only); (repeat' split) <;> simp); (first | rfl | simp)])); (first | rfl | simp)])
  · simp only [State.queueOccs]
    (repeat' split) <;> first | (simp; done) | (refine (forEach_resids _ _ ?_ _).trans ?_ <;> [(intro x s; (try dsimp only); (repeat' split) <;> first | (simp; done) | (refine (forEach_resids _ _ ?_ _).trans ?_ <;> [(intro x s; (try dsimp only); (repeat' split) <;> simp); (first | rfl | simp)])); (first | rfl | simp)])

@[simp] theorem State.eventSlot_frame (s : State) :
    (State.eventSlot s).pending = s.pending ∧ (State.eventSlot s).store.flash = s.store.flash ∧ (State.eventSlot s).clk.absFold = s.clk.absFold ∧ (State.eventSlot s).ownLock = s.ownLock ∧ (State.eventSlot s).tally.resids = s.tally.resids := by
  refine ⟨?_, ?_, ?_, ?_, ?_⟩ <;> simp only [State.eventSlot] <;> (repeat' split) <;> first | (simp; done) | rfl

@[simp] theorem State.mapSources_frame (s : State) (f : Nat → Source → Source) :
    (State.mapSources s f).pending = s.pending ∧ (State.mapSources s f).store.flash = s.store.flash ∧ (State.mapSources s f).clk.absFold = s.clk.absFold ∧ (State.mapSources s f).ownLock = s.ownLock ∧ (State.mapSources s f).tally.resids = s.tally.resids := by
  refine ⟨?_, ?_, ?_, ?_, ?_⟩ <;> simp only [State.mapSources] <;> (repeat' split) <;> first | (simp; done) | rfl

@[simp] theorem commitEvtConfig_frame (q : Call) (s : State) :
    (commitEvtConfig q s).pending = s.pending ∧ (commitEvtConfig q s).store.flash = s.store.flash ∧ (commitEvtConfig q s).clk.absFold = s.clk.absFold ∧ (commitEvtConfig q s).ownLock = s.ownLock ∧ (commitEvtConfig q s).tally.resids = s.tally.resids := by
  refine ⟨?_, ?_, ?_, ?_, ?_⟩ <;> simp only [commitEvtConfig] <;> (repeat' split) <;> first | (simp; done) | rfl

@[simp] theorem commitEvtNotify_frame (q : Call) (s : State) :
    (commitEvtNotify q s).pending = s.pending ∧ (commitEvtNotify q s).store.flash = s.store.flash ∧ (commitEvtNotify q s).clk.absFold = s.clk.absFold ∧ (commitEvtNotify q s).ownLock = s.ownLock ∧ (commitEvtNotify q s).tally.resids = s.tally.resids := by
  refine ⟨?_, ?_, ?_, ?_, ?_⟩ <;> simp only [commitEvtNotify] <;> (repeat' split) <;> first | (simp; done) | rfl

@[simp] theorem State.resetNotify_frame (s : State) (p : Pen) :
    (State.resetNotify s p).pending = s.pending ∧ (State.resetNotify s p).store.flash = s.store.flash ∧ (State.resetNotify s p).clk.absFold = s.clk.absFold ∧ (State.resetNotify s p).ownLock = s.ownLock ∧ (State.resetNotify s p).tally.resids = s.tally.resids := by
  refine ⟨?_, ?_, ?_, ?_, ?_⟩ <;> simp only [State.resetNotify] <;> (repeat' split) <;> first | (simp; done) | rfl

@[simp] theorem commitEvtClear_frame (q : Call) (s : State) :
    (commitEvtClear q s).pending = s.pending ∧ (commitEvtClear q s).store.flash = s.store.flash ∧ (commitEvtClear q s).clk.absFold = s.clk.absFold ∧ (commitEvtClear q s).ownLock = s.ownLock ∧ (commitEvtClear q s).tally.resids = s.tally.resids := by
  refine ⟨?_, ?_, ?_, ?_, ?_⟩ <;> simp only [commitEvtClear] <;> (repeat' split) <;> first | (simp; done) | rfl

@[simp] theorem commitEvtQueue_frame (mark : Nat) (s : State) :
    (commitEvtQueue mark s).pending = s.pending ∧ (commitEvtQueue mark s).store.flash = s.store.flash ∧ (commitEvtQueue mark s).clk.absFold = s.clk.absFold ∧ (commitEvtQueue mark s).ownLock = s.ownLock ∧ (commitEvtQueue mark s).tally.resids = s.tally.resids := by
  refine ⟨?_, ?_, ?_, ?_, ?_⟩ <;> simp only [commitEvtQueue] <;> (repeat' split) <;> first | (simp; done) | rfl

end Sys2Proof.Machine
end

