-- ==== Sys2Proof/Laws/Frame4.lean ====
section
/-! SUPPORT. What every operation of Flash, StoreOps, Background, PowerOps, TestOps, MonitorOps leaves alone: the queue of commands, the flash, the fold counter, the ownership
lock and the balance of each total of the ledger. -/

namespace Sys2Proof.Machine

@[simp] theorem State.mapStore_store (s : State) (f : Store → Store) : (s.mapStore f).store = f s.store := rfl

@[simp] theorem State.mapStore_pending (s : State) (f : Store → Store) : (s.mapStore f).pending = s.pending := rfl

@[simp] theorem State.mapStore_clk (s : State) (f : Store → Store) : (s.mapStore f).clk = s.clk := rfl

@[simp] theorem State.mapStore_ownLock (s : State) (f : Store → Store) : (s.mapStore f).ownLock = s.ownLock := rfl

@[simp] theorem State.mapStore_tally (s : State) (f : Store → Store) : (s.mapStore f).tally = s.tally := rfl

@[simp] theorem State.verifyFail_frame (s : State) (kind type w : Nat) :
    (State.verifyFail s kind type w).pending = s.pending ∧ (State.verifyFail s kind type w).store.flash = s.store.flash ∧ (State.verifyFail s kind type w).clk.absFold = s.clk.absFold ∧ (State.verifyFail s kind type w).ownLock = s.ownLock ∧ (State.verifyFail s kind type w).tally.resids = s.tally.resids := by
  refine ⟨?_, ?_, ?_, ?_, ?_⟩ <;> simp only [State.verifyFail] <;> (repeat' split) <;> first | (simp; done) | rfl

@[simp] theorem State.warnWear_frame (s : State) (count what : Nat) :
    (State.warnWear s count what).pending = s.pending ∧ (State.warnWear s count what).store.flash = s.store.flash ∧ (State.warnWear s count what).clk.absFold = s.clk.absFold ∧ (State.warnWear s count what).ownLock = s.ownLock ∧ (State.warnWear s count what).tally.resids = s.tally.resids := by
  refine ⟨?_, ?_, ?_, ?_, ?_⟩ <;> simp only [State.warnWear] <;> (repeat' split) <;> first | (simp; done) | rfl

@[simp] theorem State.updHead_frame (s : State) (f : StoreJob → StoreJob) :
    (State.updHead s f).pending = s.pending ∧ (State.updHead s f).store.flash = s.store.flash ∧ (State.updHead s f).clk.absFold = s.clk.absFold ∧ (State.updHead s f).ownLock = s.ownLock ∧ (State.updHead s f).tally.resids = s.tally.resids := by
  refine ⟨?_, ?_, ?_, ?_, ?_⟩ <;> simp only [State.updHead] <;> (repeat' split) <;> first | (simp; done) | rfl

@[simp] theorem State.endStoreJob_frame (s : State) (st : BitVec 16) :
    (State.endStoreJob s st).pending = s.pending ∧ (State.endStoreJob s st).store.flash = s.store.flash ∧ (State.endStoreJob s st).clk.absFold = s.clk.absFold ∧ (State.endStoreJob s st).ownLock = s.ownLock ∧ (State.endStoreJob s st).tally.resids = s.tally.resids := by
  refine ⟨?_, ?_, ?_, ?_, ?_⟩ <;> simp only [State.endStoreJob] <;> (repeat' split) <;> first | (simp; done) | rfl

@[simp] theorem State.programEnd_flashOk (s : State) (h : flashOk s.store.flash = true) : flashOk (State.programEnd s).store.flash = true := by
  simp only [State.programEnd]
  (repeat' split) <;> first | (simp [h]; done) | (simp_all; done)

@[simp] theorem State.programEnd_frame (s : State) :
    (State.programEnd s).pending = s.pending ∧ (State.programEnd s).clk.absFold = s.clk.absFold ∧ (State.programEnd s).ownLock = s.ownLock ∧ (State.programEnd s).tally.resids = s.tally.resids := by
  refine ⟨?_, ?_, ?_, ?_⟩ <;> simp only [State.programEnd] <;> (repeat' split) <;> first | (simp; done) | rfl

@[simp] theorem State.startWords_frame (s : State) (base : Nat) (words : List (List Byte)) (kind type : Nat) :
    (State.startWords s base words kind type).pending = s.pending ∧ (State.startWords s base words kind type).store.flash = s.store.flash ∧ (State.startWords s base words kind type).clk.absFold = s.clk.absFold ∧ (State.startWords s base words kind type).ownLock = s.ownLock ∧ (State.startWords s base words kind type).tally.resids = s.tally.resids := by
  refine ⟨?_, ?_, ?_, ?_, ?_⟩ <;> simp only [State.startWords] <;> (repeat' split) <;> first | (simp; done) | rfl

@[simp] theorem State.startErase_frame (s : State) (page : Bool) (n : Nat) :
    (State.startErase s page n).pending = s.pending ∧ (State.startErase s page n).store.flash = s.store.flash ∧ (State.startErase s page n).clk.absFold = s.clk.absFold ∧ (State.startErase s page n).ownLock = s.ownLock ∧ (State.startErase s page n).tally.resids = s.tally.resids := by
  refine ⟨?_, ?_, ?_, ?_, ?_⟩ <;> simp only [State.startErase] <;> (repeat' split) <;> first | (simp; done) | rfl

@[simp] theorem State.startRecord_frame (s : State) (r : RecReq) :
    (State.startRecord s r).pending = s.pending ∧ (State.startRecord s r).store.flash = s.store.flash ∧ (State.startRecord s r).clk.absFold = s.clk.absFold ∧ (State.startRecord s r).ownLock = s.ownLock ∧ (State.startRecord s r).tally.resids = s.tally.resids := by
  refine ⟨?_, ?_, ?_, ?_, ?_⟩ <;> simp only [State.startRecord] <;> (repeat' split) <;> first | (simp; done) | rfl

@[simp] theorem State.noteWear_frame (s : State) (w : Writing) :
    (State.noteWear s w).pending = s.pending ∧ (State.noteWear s w).store.flash = s.store.flash ∧ (State.noteWear s w).clk.absFold = s.clk.absFold ∧ (State.noteWear s w).ownLock = s.ownLock ∧ (State.noteWear s w).tally.resids = s.tally.resids := by
  refine ⟨?_, ?_, ?_, ?_, ?_⟩ <;> simp only [State.noteWear] <;> (repeat' split) <;> first | (simp; done) | rfl

@[simp] theorem State.recordDone_frame (s : State) (w : Writing) :
    (State.recordDone s w).pending = s.pending ∧ (State.recordDone s w).store.flash = s.store.flash ∧ (State.recordDone s w).clk.absFold = s.clk.absFold ∧ (State.recordDone s w).ownLock = s.ownLock ∧ (State.recordDone s w).tally.resids = s.tally.resids := by
  refine ⟨?_, ?_, ?_, ?_, ?_⟩ <;> simp only [State.recordDone] <;> (repeat' split) <;> first | (simp; done) | rfl

@[simp] theorem State.recordFailed_frame (s : State) (w : Writing) :
    (State.recordFailed s w).pending = s.pending ∧ (State.recordFailed s w).store.flash = s.store.flash ∧ (State.recordFailed s w).clk.absFold = s.clk.absFold ∧ (State.recordFailed s w).ownLock = s.ownLock ∧ (State.recordFailed s w).tally.resids = s.tally.resids := by
  refine ⟨?_, ?_, ?_, ?_, ?_⟩ <;> simp only [State.recordFailed] <;> (repeat' split) <;> first | (simp; done) | rfl

@[simp] theorem State.undoCompaction_frame (s : State) :
    (State.undoCompaction s).pending = s.pending ∧ (State.undoCompaction s).store.flash = s.store.flash ∧ (State.undoCompaction s).clk.absFold = s.clk.absFold ∧ (State.undoCompaction s).ownLock = s.ownLock ∧ (State.undoCompaction s).tally.resids = s.tally.resids := by
  refine ⟨?_, ?_, ?_, ?_, ?_⟩ <;> simp only [State.undoCompaction] <;> (repeat' split) <;> first | (simp; done) | rfl

@[simp] theorem State.startCompaction_frame (s : State) :
    (State.startCompaction s).pending = s.pending ∧ (State.startCompaction s).store.flash = s.store.flash ∧ (State.startCompaction s).clk.absFold = s.clk.absFold ∧ (State.startCompaction s).ownLock = s.ownLock ∧ (State.startCompaction s).tally.resids = s.tally.resids := by
  refine ⟨?_, ?_, ?_, ?_, ?_⟩ <;> simp only [State.startCompaction] <;> (repeat' split) <;> first | (simp; done) | rfl

@[simp] theorem State.startFormat_frame (s : State) :
    (State.startFormat s).pending = s.pending ∧ (State.startFormat s).store.flash = s.store.flash ∧ (State.startFormat s).clk.absFold = s.clk.absFold ∧ (State.startFormat s).ownLock = s.ownLock ∧ (State.startFormat s).tally.resids = s.tally.resids := by
  refine ⟨?_, ?_, ?_, ?_, ?_⟩ <;> simp only [State.startFormat] <;> (repeat' split) <;> first | (simp; done) | (simp -implicitDefEqProofs; done) | rfl

@[simp] theorem State.formatFailed_frame (s : State) (w : Writing) :
    (State.formatFailed s w).pending = s.pending ∧ (State.formatFailed s w).store.flash = s.store.flash ∧ (State.formatFailed s w).clk.absFold = s.clk.absFold ∧ (State.formatFailed s w).ownLock = s.ownLock ∧ (State.formatFailed s w).tally.resids = s.tally.resids := by
  refine ⟨?_, ?_, ?_, ?_, ?_⟩ <;> simp only [State.formatFailed] <;> (repeat' split) <;> first | (simp; done) | (simp -implicitDefEqProofs; done) | rfl

@[simp] theorem State.copyNext_frame (s : State) (left : List (Nat × List (List Byte))) :
    (State.copyNext s left).pending = s.pending ∧ (State.copyNext s left).store.flash = s.store.flash ∧ (State.copyNext s left).clk.absFold = s.clk.absFold ∧ (State.copyNext s left).ownLock = s.ownLock ∧ (State.copyNext s left).tally.resids = s.tally.resids := by
  refine ⟨?_, ?_, ?_, ?_, ?_⟩ <;> simp only [State.copyNext] <;> (repeat' split) <;> first | (simp; done) | rfl

@[simp] theorem State.switchBank_frame (s : State) :
    (State.switchBank s).pending = s.pending ∧ (State.switchBank s).store.flash = s.store.flash ∧ (State.switchBank s).clk.absFold = s.clk.absFold ∧ (State.switchBank s).ownLock = s.ownLock ∧ (State.switchBank s).tally.resids = s.tally.resids := by
  refine ⟨?_, ?_, ?_, ?_, ?_⟩ <;> simp only [State.switchBank] <;> (repeat' split) <;> first | (simp; done) | (simp -implicitDefEqProofs; done) | rfl

@[simp] theorem State.compWordsDone_frame (s : State) (w : Writing) :
    (State.compWordsDone s w).pending = s.pending ∧ (State.compWordsDone s w).store.flash = s.store.flash ∧ (State.compWordsDone s w).clk.absFold = s.clk.absFold ∧ (State.compWordsDone s w).ownLock = s.ownLock ∧ (State.compWordsDone s w).tally.resids = s.tally.resids := by
  refine ⟨?_, ?_, ?_, ?_, ?_⟩ <;> simp only [State.compWordsDone] <;> (repeat' split) <;> first | (simp; done) | rfl

@[simp] theorem State.compWordsFailed_frame (s : State) (w : Writing) :
    (State.compWordsFailed s w).pending = s.pending ∧ (State.compWordsFailed s w).store.flash = s.store.flash ∧ (State.compWordsFailed s w).clk.absFold = s.clk.absFold ∧ (State.compWordsFailed s w).ownLock = s.ownLock ∧ (State.compWordsFailed s w).tally.resids = s.tally.resids := by
  refine ⟨?_, ?_, ?_, ?_, ?_⟩ <;> simp only [State.compWordsFailed] <;> (repeat' split) <;> first | (simp; done) | rfl

@[simp] theorem State.compDone_frame (s : State) (refresh : Bool) :
    (State.compDone s refresh).pending = s.pending ∧ (State.compDone s refresh).store.flash = s.store.flash ∧ (State.compDone s refresh).clk.absFold = s.clk.absFold ∧ (State.compDone s refresh).ownLock = s.ownLock ∧ (State.compDone s refresh).tally.resids = s.tally.resids := by
  refine ⟨?_, ?_, ?_, ?_, ?_⟩ <;> simp only [State.compDone] <;> (repeat' split) <;> first | (simp; done) | rfl

@[simp] theorem State.compUndone_frame (s : State) :
    (State.compUndone s).pending = s.pending ∧ (State.compUndone s).store.flash = s.store.flash ∧ (State.compUndone s).clk.absFold = s.clk.absFold ∧ (State.compUndone s).ownLock = s.ownLock ∧ (State.compUndone s).tally.resids = s.tally.resids := by
  refine ⟨?_, ?_, ?_, ?_, ?_⟩ <;> simp only [State.compUndone] <;> (repeat' split) <;> first | (simp; done) | rfl

@[simp] theorem State.pageLost_flashOk (s : State) (page : Nat) (h : flashOk s.store.flash = true) : flashOk (State.pageLost s page).store.flash = true := by
  simp only [State.pageLost]
  (repeat' split) <;> first | (simp [h]; done) | (simp_all; done)

@[simp] theorem State.pageLost_frame (s : State) (page : Nat) :
    (State.pageLost s page).pending = s.pending ∧ (State.pageLost s page).clk.absFold = s.clk.absFold ∧ (State.pageLost s page).ownLock = s.ownLock ∧ (State.pageLost s page).tally.resids = s.tally.resids := by
  refine ⟨?_, ?_, ?_, ?_⟩ <;> simp only [State.pageLost] <;> (repeat' split) <;> first | (simp; done) | rfl

@[simp] theorem State.pageDone_frame (s : State) :
    (State.pageDone s).pending = s.pending ∧ (State.pageDone s).store.flash = s.store.flash ∧ (State.pageDone s).clk.absFold = s.clk.absFold ∧ (State.pageDone s).ownLock = s.ownLock ∧ (State.pageDone s).tally.resids = s.tally.resids := by
  refine ⟨?_, ?_, ?_, ?_, ?_⟩ <;> simp only [State.pageDone] <;> (repeat' split) <;> first | (simp; done) | rfl

@[simp] theorem State.pageFailed_flashOk (s : State) (w : Writing) (h : flashOk s.store.flash = true) : flashOk (State.pageFailed s w).store.flash = true := by
  simp only [State.pageFailed]
  (repeat' split) <;> first | (simp [h]; done) | (simp_all; done)

@[simp] theorem State.pageFailed_frame (s : State) (w : Writing) :
    (State.pageFailed s w).pending = s.pending ∧ (State.pageFailed s w).clk.absFold = s.clk.absFold ∧ (State.pageFailed s w).ownLock = s.ownLock ∧ (State.pageFailed s w).tally.resids = s.tally.resids := by
  refine ⟨?_, ?_, ?_, ?_⟩ <;> simp only [State.pageFailed] <;> (repeat' split) <;> first | (simp; done) | rfl

@[simp] theorem State.eraseEnd_flashOk (s : State) (h : flashOk s.store.flash = true) : flashOk (State.eraseEnd s).store.flash = true := by
  simp only [State.eraseEnd]
  (repeat' split) <;> first | (simp [h]; done) | (simp_all; done)

@[simp] theorem State.eraseEnd_frame (s : State) :
    (State.eraseEnd s).pending = s.pending ∧ (State.eraseEnd s).clk.absFold = s.clk.absFold ∧ (State.eraseEnd s).ownLock = s.ownLock ∧ (State.eraseEnd s).tally.resids = s.tally.resids := by
  refine ⟨?_, ?_, ?_, ?_⟩ <;> simp only [State.eraseEnd] <;> (repeat' split) <;> first | (simp; done) | rfl

@[simp] theorem State.afterErase_frame (s : State) :
    (State.afterErase s).pending = s.pending ∧ (State.afterErase s).store.flash = s.store.flash ∧ (State.afterErase s).clk.absFold = s.clk.absFold ∧ (State.afterErase s).ownLock = s.ownLock ∧ (State.afterErase s).tally.resids = s.tally.resids := by
  refine ⟨?_, ?_, ?_, ?_, ?_⟩ <;> simp only [State.afterErase] <;> (repeat' split) <;> first | (simp; done) | rfl

@[simp] theorem State.nextOp_frame (k : Nat) (s : State) :
    (State.nextOp k s).pending = s.pending ∧ (State.nextOp k s).store.flash = s.store.flash ∧ (State.nextOp k s).clk.absFold = s.clk.absFold ∧
      (State.nextOp k s).ownLock = s.ownLock ∧ (State.nextOp k s).tally.resids = s.tally.resids := by
  induction k generalizing s with
  | zero => simp [State.nextOp]
  | succ k ih =>
    refine ⟨?_, ?_, ?_, ?_, ?_⟩ <;> simp only [State.nextOp] <;> (repeat' split) <;> simp [ih]

@[simp] theorem State.goOn_frame (s : State) :
    (State.goOn s).pending = s.pending ∧ (State.goOn s).store.flash = s.store.flash ∧ (State.goOn s).clk.absFold = s.clk.absFold ∧ (State.goOn s).ownLock = s.ownLock ∧ (State.goOn s).tally.resids = s.tally.resids := by
  refine ⟨?_, ?_, ?_, ?_, ?_⟩ <;> simp only [State.goOn] <;> (repeat' split) <;> first | (simp; done) | rfl

@[simp] theorem State.wordVerified_frame (s : State) (w : Writing) :
    (State.wordVerified s w).pending = s.pending ∧ (State.wordVerified s w).store.flash = s.store.flash ∧ (State.wordVerified s w).clk.absFold = s.clk.absFold ∧ (State.wordVerified s w).ownLock = s.ownLock ∧ (State.wordVerified s w).tally.resids = s.tally.resids := by
  refine ⟨?_, ?_, ?_, ?_, ?_⟩ <;> simp only [State.wordVerified] <;> (repeat' split) <;> first | (simp; done) | rfl

@[simp] theorem State.dropCommit_flashOk (s : State) (w : Writing) (h : flashOk s.store.flash = true) : flashOk (State.dropCommit s w).store.flash = true := by
  simp only [State.dropCommit]
  (repeat' split) <;> first | (simp [h]; done) | (simp_all; done)

@[simp] theorem State.dropCommit_frame (s : State) (w : Writing) :
    (State.dropCommit s w).pending = s.pending ∧ (State.dropCommit s w).clk.absFold = s.clk.absFold ∧ (State.dropCommit s w).ownLock = s.ownLock ∧ (State.dropCommit s w).tally.resids = s.tally.resids := by
  refine ⟨?_, ?_, ?_, ?_⟩ <;> simp only [State.dropCommit] <;> (repeat' split) <;> first | (simp; done) | (simp -implicitDefEqProofs; done) | rfl

@[simp] theorem State.wordFailed_flashOk (s0 : State) (w : Writing) (h : flashOk s0.store.flash = true) : flashOk (State.wordFailed s0 w).store.flash = true := by
  simp only [State.wordFailed]
  (repeat' split) <;> first | (simp [h]; done) | (simp_all; done)

@[simp] theorem State.wordFailed_frame (s0 : State) (w : Writing) :
    (State.wordFailed s0 w).pending = s0.pending ∧ (State.wordFailed s0 w).clk.absFold = s0.clk.absFold ∧ (State.wordFailed s0 w).ownLock = s0.ownLock ∧ (State.wordFailed s0 w).tally.resids = s0.tally.resids := by
  refine ⟨?_, ?_, ?_, ?_⟩ <;> simp only [State.wordFailed] <;> (repeat' split) <;> first | (simp; done) | (simp -implicitDefEqProofs; done) | rfl

@[simp] theorem State.stepWord_flashOk (s : State) (ok : Bool) (h : flashOk s.store.flash = true) : flashOk (State.stepWord s ok).store.flash = true := by
  simp only [State.stepWord]
  (repeat' split) <;> first | (simp [h]; done) | (simp_all; done)

@[simp] theorem State.stepWord_frame (s : State) (ok : Bool) :
    (State.stepWord s ok).pending = s.pending ∧ (State.stepWord s ok).clk.absFold = s.clk.absFold ∧ (State.stepWord s ok).ownLock = s.ownLock ∧ (State.stepWord s ok).tally.resids = s.tally.resids := by
  refine ⟨?_, ?_, ?_, ?_⟩ <;> simp only [State.stepWord] <;> (repeat' split) <;> first | (simp; done) | rfl

@[simp] theorem State.ownJob_frame (s : State) (k : JobKind) :
    (State.ownJob s k).pending = s.pending ∧ (State.ownJob s k).store.flash = s.store.flash ∧ (State.ownJob s k).clk.absFold = s.clk.absFold ∧ (State.ownJob s k).ownLock = s.ownLock ∧ (State.ownJob s k).tally.resids = s.tally.resids := by
  refine ⟨?_, ?_, ?_, ?_, ?_⟩ <;> simp only [State.ownJob] <;> (repeat' split) <;> first | (simp; done) | rfl

@[simp] theorem State.saveModel_frame (s : State) :
    (State.saveModel s).pending = s.pending ∧ (State.saveModel s).store.flash = s.store.flash ∧ (State.saveModel s).clk.absFold = s.clk.absFold ∧ (State.saveModel s).ownLock = s.ownLock ∧ (State.saveModel s).tally.resids = s.tally.resids := by
  refine ⟨?_, ?_, ?_, ?_, ?_⟩ <;> simp only [State.saveModel] <;> (repeat' split) <;> first | (simp; done) | rfl

@[simp] theorem State.modelTimer_frame (s : State) :
    (State.modelTimer s).pending = s.pending ∧ (State.modelTimer s).store.flash = s.store.flash ∧ (State.modelTimer s).clk.absFold = s.clk.absFold ∧ (State.modelTimer s).ownLock = s.ownLock ∧ (State.modelTimer s).tally.resids = s.tally.resids := by
  refine ⟨?_, ?_, ?_, ?_, ?_⟩ <;> simp only [State.modelTimer] <;> (repeat' split) <;> first | (simp; done) | rfl

@[simp] theorem State.hourly_frame (s : State) :
    (State.hourly s).pending = s.pending ∧ (State.hourly s).store.flash = s.store.flash ∧ (State.hourly s).clk.absFold = s.clk.absFold ∧ (State.hourly s).ownLock = s.ownLock ∧ (State.hourly s).tally.resids = s.tally.resids := by
  refine ⟨?_, ?_, ?_, ?_, ?_⟩ <;> simp only [State.hourly] <;> (repeat' split) <;> first | (simp; done) | rfl

@[simp] theorem State.refreshCheck_frame (s : State) :
    (State.refreshCheck s).pending = s.pending ∧ (State.refreshCheck s).store.flash = s.store.flash ∧ (State.refreshCheck s).clk.absFold = s.clk.absFold ∧ (State.refreshCheck s).ownLock = s.ownLock ∧ (State.refreshCheck s).tally.resids = s.tally.resids := by
  refine ⟨?_, ?_, ?_, ?_, ?_⟩ <;> simp only [State.refreshCheck] <;> (repeat' split) <;> first | (simp; done) | rfl

@[simp] theorem State.compRetry_frame (s : State) :
    (State.compRetry s).pending = s.pending ∧ (State.compRetry s).store.flash = s.store.flash ∧ (State.compRetry s).clk.absFold = s.clk.absFold ∧ (State.compRetry s).ownLock = s.ownLock ∧ (State.compRetry s).tally.resids = s.tally.resids := by
  refine ⟨?_, ?_, ?_, ?_, ?_⟩ <;> simp only [State.compRetry] <;> (repeat' split) <;> first | (simp; done) | rfl

@[simp] theorem State.compRetryIdle_frame (s : State) :
    (State.compRetryIdle s).pending = s.pending ∧ (State.compRetryIdle s).store.flash = s.store.flash ∧ (State.compRetryIdle s).clk.absFold = s.clk.absFold ∧ (State.compRetryIdle s).ownLock = s.ownLock ∧ (State.compRetryIdle s).tally.resids = s.tally.resids := by
  refine ⟨?_, ?_, ?_, ?_, ?_⟩ <;> simp only [State.compRetryIdle] <;> (repeat' split) <;> first | (simp; done) | rfl

@[simp] theorem State.storeTimers_frame (s : State) :
    (State.storeTimers s).pending = s.pending ∧ (State.storeTimers s).store.flash = s.store.flash ∧ (State.storeTimers s).clk.absFold = s.clk.absFold ∧ (State.storeTimers s).ownLock = s.ownLock ∧ (State.storeTimers s).tally.resids = s.tally.resids := by
  refine ⟨?_, ?_, ?_, ?_, ?_⟩ <;> simp only [State.storeTimers] <;> (repeat' split) <;> first | (simp; done) | rfl

@[simp] theorem State.storeSlot_flashOk (s : State) (ok : Bool) (h : flashOk s.store.flash = true) : flashOk (State.storeSlot s ok).store.flash = true := by
  simp only [State.storeSlot]
  (repeat' split) <;> first | (simp [h]; done) | (simp_all; done)

@[simp] theorem State.storeSlot_frame (s : State) (ok : Bool) :
    (State.storeSlot s ok).pending = s.pending ∧ (State.storeSlot s ok).clk.absFold = s.clk.absFold ∧ (State.storeSlot s ok).ownLock = s.ownLock ∧ (State.storeSlot s ok).tally.resids = s.tally.resids := by
  refine ⟨?_, ?_, ?_, ?_⟩ <;> simp only [State.storeSlot] <;> (repeat' split) <;> first | (simp; done) | rfl

@[simp] theorem State.jobEffect_frame (s : State) (o : JobOwner) (st : BitVec 16) :
    (State.jobEffect s o st).pending = s.pending ∧ (State.jobEffect s o st).store.flash = s.store.flash ∧ (State.jobEffect s o st).clk.absFold = s.clk.absFold ∧ (State.jobEffect s o st).ownLock = s.ownLock ∧ (State.jobEffect s o st).tally.resids = s.tally.resids := by
  refine ⟨?_, ?_, ?_, ?_, ?_⟩ <;> simp only [State.jobEffect] <;> (repeat' split) <;> first | (simp; done) | rfl

@[simp] theorem State.storeBoundary_frame (s : State) :
    (State.storeBoundary s).pending = s.pending ∧ (State.storeBoundary s).store.flash = s.store.flash ∧ (State.storeBoundary s).clk.absFold = s.clk.absFold ∧ (State.storeBoundary s).ownLock = s.ownLock ∧ (State.storeBoundary s).tally.resids = s.tally.resids := by
  refine ⟨?_, ?_, ?_, ?_, ?_⟩ <;> simp only [State.storeBoundary] <;> (repeat' split) <;> first | (simp; done) | rfl

@[simp] theorem State.penResetStore_frame (s : State) (p : Pen) :
    (State.penResetStore s p).pending = s.pending ∧ (State.penResetStore s p).store.flash = s.store.flash ∧ (State.penResetStore s p).clk.absFold = s.clk.absFold ∧ (State.penResetStore s p).ownLock = s.ownLock ∧ (State.penResetStore s p).tally.resids = s.tally.resids := by
  refine ⟨?_, ?_, ?_, ?_, ?_⟩ <;> simp only [State.penResetStore] <;> (repeat' split) <;> first | (simp; done) | rfl

@[simp] theorem State.cutCompaction_frame (s : State) (whole : Bool) :
    (State.cutCompaction s whole).pending = s.pending ∧ (State.cutCompaction s whole).store.flash = s.store.flash ∧ (State.cutCompaction s whole).clk.absFold = s.clk.absFold ∧ (State.cutCompaction s whole).ownLock = s.ownLock ∧ (State.cutCompaction s whole).tally.resids = s.tally.resids := by
  refine ⟨?_, ?_, ?_, ?_, ?_⟩ <;> simp only [State.cutCompaction] <;> (repeat' split) <;> first | (simp; done) | (simp -implicitDefEqProofs; done) | rfl

@[simp] theorem State.cutWords_flashOk (s : State) (h : flashOk s.store.flash = true) : flashOk (State.cutWords s).store.flash = true := by
  simp only [State.cutWords]
  (repeat' split) <;> first | (simp [h]; done) | (simp_all; done)

@[simp] theorem State.cutWords_frame (s : State) :
    (State.cutWords s).pending = s.pending ∧ (State.cutWords s).clk.absFold = s.clk.absFold ∧ (State.cutWords s).ownLock = s.ownLock ∧ (State.cutWords s).tally.resids = s.tally.resids := by
  refine ⟨?_, ?_, ?_, ?_⟩ <;> simp only [State.cutWords] <;> (repeat' split) <;> first | (simp; done) | (simp -implicitDefEqProofs; done) | rfl

@[simp] theorem State.cutStore_flashOk (s : State) (h : flashOk s.store.flash = true) : flashOk (State.cutStore s).store.flash = true := by
  simp only [State.cutStore]
  (repeat' split) <;> first | (simp [h]; done) | (simp_all; done)

@[simp] theorem State.cutStore_frame (s : State) :
    (State.cutStore s).pending = s.pending ∧ (State.cutStore s).clk.absFold = s.clk.absFold ∧ (State.cutStore s).ownLock = s.ownLock ∧ (State.cutStore s).tally.resids = s.tally.resids := by
  refine ⟨?_, ?_, ?_, ?_⟩ <;> simp only [State.cutStore] <;> (repeat' split) <;> first | (simp; done) | rfl

@[simp] theorem State.beginSave_flashOk (s : State) (h : flashOk s.store.flash = true) : flashOk (State.beginSave s).store.flash = true := by
  simp only [State.beginSave]
  (repeat' split) <;> first | (simp [h]; done) | (simp_all; done)

@[simp] theorem State.beginSave_frame (s : State) :
    (State.beginSave s).pending = s.pending ∧ (State.beginSave s).clk.absFold = s.clk.absFold ∧ (State.beginSave s).ownLock = s.ownLock ∧ (State.beginSave s).tally.resids = s.tally.resids := by
  refine ⟨?_, ?_, ?_, ?_⟩ <;> simp only [State.beginSave] <;> (repeat' split) <;> first | (simp; done) | rfl

@[simp] theorem State.endSave_flashOk (s : State) (bad : List Nat) (h : flashOk s.store.flash = true) : flashOk (State.endSave s bad).store.flash = true := by
  simp only [State.endSave]
  (repeat' split) <;> first | (simp [h]; done) | (simp_all; done)

@[simp] theorem State.endSave_frame (s : State) (bad : List Nat) :
    (State.endSave s bad).pending = s.pending ∧ (State.endSave s bad).clk.absFold = s.clk.absFold ∧ (State.endSave s bad).ownLock = s.ownLock ∧ (State.endSave s bad).tally.resids = s.tally.resids := by
  refine ⟨?_, ?_, ?_, ?_⟩ <;> simp only [State.endSave] <;> (repeat' split) <;> first | (simp; done) | (simp -implicitDefEqProofs; done) | rfl

@[simp] theorem State.savedEvent_frame (s : State) (wrote : Bool) :
    (State.savedEvent s wrote).pending = s.pending ∧ (State.savedEvent s wrote).store.flash = s.store.flash ∧ (State.savedEvent s wrote).clk.absFold = s.clk.absFold ∧ (State.savedEvent s wrote).ownLock = s.ownLock ∧ (State.savedEvent s wrote).tally.resids = s.tally.resids := by
  refine ⟨?_, ?_, ?_, ?_, ?_⟩ <;> simp only [State.savedEvent] <;> (repeat' split) <;> first | (simp; done) | (simp -implicitDefEqProofs; done) | rfl

@[simp] theorem commitStoreInject_frame (q : Call) (s : State) :
    (commitStoreInject q s).pending = s.pending ∧ (commitStoreInject q s).store.flash = s.store.flash ∧ (commitStoreInject q s).clk.absFold = s.clk.absFold ∧ (commitStoreInject q s).ownLock = s.ownLock ∧ (commitStoreInject q s).tally.resids = s.tally.resids := by
  refine ⟨?_, ?_, ?_, ?_, ?_⟩ <;> simp only [commitStoreInject] <;> (repeat' split) <;> first | (simp; done) | rfl

@[simp] theorem State.mapBg_store (s : State) (f : Background → Background) : (s.mapBg f).store = s.store := rfl

@[simp] theorem State.mapBg_pending (s : State) (f : Background → Background) : (s.mapBg f).pending = s.pending := rfl

@[simp] theorem State.mapBg_clk (s : State) (f : Background → Background) : (s.mapBg f).clk = s.clk := rfl

@[simp] theorem State.mapBg_ownLock (s : State) (f : Background → Background) : (s.mapBg f).ownLock = s.ownLock := rfl

@[simp] theorem State.mapBg_tally (s : State) (f : Background → Background) : (s.mapBg f).tally = s.tally := rfl

@[simp] theorem State.zeroWord_frame (s : State) (w : Nat) :
    (State.zeroWord s w).pending = s.pending ∧ (State.zeroWord s w).store.flash = s.store.flash ∧ (State.zeroWord s w).clk.absFold = s.clk.absFold ∧ (State.zeroWord s w).ownLock = s.ownLock ∧ (State.zeroWord s w).tally.resids = s.tally.resids := by
  refine ⟨?_, ?_, ?_, ?_, ?_⟩ <;> simp only [State.zeroWord] <;> (repeat' split) <;> first | (simp; done) | (simp -implicitDefEqProofs; done) | rfl

@[simp] theorem State.updCal_frame (s : State) (f : CalJob → CalJob) :
    (State.updCal s f).pending = s.pending ∧ (State.updCal s f).store.flash = s.store.flash ∧ (State.updCal s f).clk.absFold = s.clk.absFold ∧ (State.updCal s f).ownLock = s.ownLock ∧ (State.updCal s f).tally.resids = s.tally.resids := by
  refine ⟨?_, ?_, ?_, ?_, ?_⟩ <;> simp only [State.updCal] <;> (repeat' split) <;> first | (simp; done) | rfl

@[simp] theorem State.calStep_frame (s : State) :
    (State.calStep s).pending = s.pending ∧ (State.calStep s).store.flash = s.store.flash ∧ (State.calStep s).clk.absFold = s.clk.absFold ∧ (State.calStep s).ownLock = s.ownLock ∧ (State.calStep s).tally.resids = s.tally.resids := by
  refine ⟨?_, ?_, ?_, ?_, ?_⟩ <;> simp only [State.calStep] <;> (repeat' split) <;> first | (simp; done) | rfl

@[simp] theorem State.tdcStep_frame (s : State) (meas : Nat) :
    (State.tdcStep s meas).pending = s.pending ∧ (State.tdcStep s meas).store.flash = s.store.flash ∧ (State.tdcStep s meas).clk.absFold = s.clk.absFold ∧ (State.tdcStep s meas).ownLock = s.ownLock ∧ (State.tdcStep s meas).tally.resids = s.tally.resids := by
  refine ⟨?_, ?_, ?_, ?_, ?_⟩ <;> simp only [State.tdcStep] <;> (repeat' split) <;> first | (simp; done) | (simp -implicitDefEqProofs; done) | rfl

@[simp] theorem State.calSlot_frame (s : State) (vtuneMargin : Nat) (tdcMeas : Nat) :
    (State.calSlot s vtuneMargin tdcMeas).pending = s.pending ∧ (State.calSlot s vtuneMargin tdcMeas).store.flash = s.store.flash ∧ (State.calSlot s vtuneMargin tdcMeas).clk.absFold = s.clk.absFold ∧ (State.calSlot s vtuneMargin tdcMeas).ownLock = s.ownLock ∧ (State.calSlot s vtuneMargin tdcMeas).tally.resids = s.tally.resids := by
  refine ⟨?_, ?_, ?_, ?_, ?_⟩ <;> simp only [State.calSlot] <;> (repeat' split) <;> first | (simp; done) | (simp -implicitDefEqProofs; done) | rfl

@[simp] theorem State.tdcBoundary_frame (s : State) :
    (State.tdcBoundary s).pending = s.pending ∧ (State.tdcBoundary s).store.flash = s.store.flash ∧ (State.tdcBoundary s).clk.absFold = s.clk.absFold ∧ (State.tdcBoundary s).ownLock = s.ownLock ∧ (State.tdcBoundary s).tally.resids = s.tally.resids := by
  refine ⟨?_, ?_, ?_, ?_, ?_⟩ <;> simp only [State.tdcBoundary] <;> (repeat' split) <;> first | (simp; done) | rfl

@[simp] theorem State.calDue_frame (s : State) (c : Nat) :
    (State.calDue s c).pending = s.pending ∧ (State.calDue s c).store.flash = s.store.flash ∧ (State.calDue s c).clk.absFold = s.clk.absFold ∧ (State.calDue s c).ownLock = s.ownLock ∧ (State.calDue s c).tally.resids = s.tally.resids := by
  refine ⟨?_, ?_, ?_, ?_, ?_⟩ <;> simp only [State.calDue] <;> (repeat' split) <;> first | (simp; done) | rfl

@[simp] theorem State.calEnd_frame (s : State) (ok : Bool) (cal : SynthCal) (trim : List Int) :
    (State.calEnd s ok cal trim).pending = s.pending ∧ (State.calEnd s ok cal trim).store.flash = s.store.flash ∧ (State.calEnd s ok cal trim).clk.absFold = s.clk.absFold ∧ (State.calEnd s ok cal trim).ownLock = s.ownLock ∧ (State.calEnd s ok cal trim).tally.resids = s.tally.resids := by
  refine ⟨?_, ?_, ?_, ?_, ?_⟩ <;> simp only [State.calEnd] <;> (repeat' split) <;> first | (simp; done) | rfl

@[simp] theorem State.calBoundary_frame (s : State) :
    (State.calBoundary s).pending = s.pending ∧ (State.calBoundary s).store.flash = s.store.flash ∧ (State.calBoundary s).clk.absFold = s.clk.absFold ∧ (State.calBoundary s).ownLock = s.ownLock ∧ (State.calBoundary s).tally.resids = s.tally.resids := by
  refine ⟨?_, ?_, ?_, ?_, ?_⟩ <;> simp only [State.calBoundary] <;> (repeat' split) <;> first | (simp; done) | (simp -implicitDefEqProofs; done) | rfl

@[simp] theorem State.penResetCal_frame (s : State) (p : Pen) :
    (State.penResetCal s p).pending = s.pending ∧ (State.penResetCal s p).store.flash = s.store.flash ∧ (State.penResetCal s p).clk.absFold = s.clk.absFold ∧ (State.penResetCal s p).ownLock = s.ownLock ∧ (State.penResetCal s p).tally.resids = s.tally.resids := by
  refine ⟨?_, ?_, ?_, ?_, ?_⟩ <;> simp only [State.penResetCal] <;> (repeat' split) <;> first | (simp; done) | rfl

@[simp] theorem State.telemBoundary_frame (s : State) (sec : Nat) :
    (State.telemBoundary s sec).pending = s.pending ∧ (State.telemBoundary s sec).store.flash = s.store.flash ∧ (State.telemBoundary s sec).clk.absFold = s.clk.absFold ∧ (State.telemBoundary s sec).ownLock = s.ownLock ∧ (State.telemBoundary s sec).tally.resids = s.tally.resids := by
  refine ⟨?_, ?_, ?_, ?_, ?_⟩ <;> simp only [State.telemBoundary] <;> (repeat' split) <;> first | (simp; done) | rfl

@[simp] theorem State.appendTelem_frame (s : State) (e : List Byte) :
    (State.appendTelem s e).pending = s.pending ∧ (State.appendTelem s e).store.flash = s.store.flash ∧ (State.appendTelem s e).clk.absFold = s.clk.absFold ∧ (State.appendTelem s e).ownLock = s.ownLock ∧ (State.appendTelem s e).tally.resids = s.tally.resids := by
  refine ⟨?_, ?_, ?_, ?_, ?_⟩ <;> simp only [State.appendTelem] <;> (repeat' split) <;> first | (simp; done) | rfl

@[simp] theorem State.telemSlot_frame (s : State) (sample : Int) :
    (State.telemSlot s sample).pending = s.pending ∧ (State.telemSlot s sample).store.flash = s.store.flash ∧ (State.telemSlot s sample).clk.absFold = s.clk.absFold ∧ (State.telemSlot s sample).ownLock = s.ownLock ∧ (State.telemSlot s sample).tally.resids = s.tally.resids := by
  refine ⟨?_, ?_, ?_, ?_, ?_⟩ <;> simp only [State.telemSlot] <;> (repeat' split) <;> first | (simp; done) | rfl

@[simp] theorem commitTelemRead_frame (mark : Nat) (s : State) :
    (commitTelemRead mark s).pending = s.pending ∧ (commitTelemRead mark s).store.flash = s.store.flash ∧ (commitTelemRead mark s).clk.absFold = s.clk.absFold ∧ (commitTelemRead mark s).ownLock = s.ownLock ∧ (commitTelemRead mark s).tally.resids = s.tally.resids := by
  refine ⟨?_, ?_, ?_, ?_, ?_⟩ <;> simp only [commitTelemRead] <;> (repeat' split) <;> first | (simp; done) | rfl

@[simp] theorem State.releaseOutputs_frame (s : State) :
    (State.releaseOutputs s).pending = s.pending ∧ (State.releaseOutputs s).store.flash = s.store.flash ∧ (State.releaseOutputs s).clk.absFold = s.clk.absFold ∧ (State.releaseOutputs s).ownLock = s.ownLock ∧ (State.releaseOutputs s).tally.resids = s.tally.resids := by
  refine ⟨?_, ?_, ?_, ?_, ?_⟩ <;> simp only [State.releaseOutputs] <;> (repeat' split) <;> first | (simp; done) | rfl

@[simp] theorem commitOutputsRelease_frame (_q : Call) (s : State) :
    (commitOutputsRelease _q s).pending = s.pending ∧ (commitOutputsRelease _q s).store.flash = s.store.flash ∧ (commitOutputsRelease _q s).clk.absFold = s.clk.absFold ∧ (commitOutputsRelease _q s).ownLock = s.ownLock ∧ (commitOutputsRelease _q s).tally.resids = s.tally.resids := by
  refine ⟨?_, ?_, ?_, ?_, ?_⟩ <;> simp only [commitOutputsRelease] <;> (repeat' split) <;> first | (simp; done) | rfl

@[simp] theorem State.quietOutputs_frame (s : State) (off : Bool) :
    (State.quietOutputs s off).pending = s.pending ∧ (State.quietOutputs s off).store.flash = s.store.flash ∧ (State.quietOutputs s off).clk.absFold = s.clk.absFold ∧ (State.quietOutputs s off).ownLock = s.ownLock ∧ (State.quietOutputs s off).tally.resids = s.tally.resids := by
  refine ⟨?_, ?_, ?_, ?_, ?_⟩ <;> simp only [State.quietOutputs] <;> (repeat' split) <;> first | (simp; done) | rfl

@[simp] theorem State.enterRun_frame (s : State) :
    (State.enterRun s).pending = s.pending ∧ (State.enterRun s).store.flash = s.store.flash ∧ (State.enterRun s).clk.absFold = s.clk.absFold ∧ (State.enterRun s).ownLock = s.ownLock ∧ (State.enterRun s).tally.resids = s.tally.resids := by
  refine ⟨?_, ?_, ?_, ?_, ?_⟩ <;> simp only [State.enterRun] <;> (repeat' split) <;> first | (simp; done) | rfl

@[simp] theorem State.enterQuiet_frame (s : State) :
    (State.enterQuiet s).pending = s.pending ∧ (State.enterQuiet s).store.flash = s.store.flash ∧ (State.enterQuiet s).clk.absFold = s.clk.absFold ∧ (State.enterQuiet s).ownLock = s.ownLock ∧ (State.enterQuiet s).tally.resids = s.tally.resids := by
  refine ⟨?_, ?_, ?_, ?_, ?_⟩ <;> simp only [State.enterQuiet] <;> (repeat' split) <;> first | (simp; done) | rfl

@[simp] theorem State.beginSleep_frame (s : State) :
    (State.beginSleep s).pending = s.pending ∧ (State.beginSleep s).store.flash = s.store.flash ∧ (State.beginSleep s).clk.absFold = s.clk.absFold ∧ (State.beginSleep s).ownLock = s.ownLock ∧ (State.beginSleep s).tally.resids = s.tally.resids := by
  refine ⟨?_, ?_, ?_, ?_, ?_⟩ <;> simp only [State.beginSleep] <;> (repeat' split) <;> first | (simp; done) | rfl

@[simp] theorem commitPowerState_frame (q : Call) (s : State) :
    (commitPowerState q s).pending = s.pending ∧ (commitPowerState q s).store.flash = s.store.flash ∧ (commitPowerState q s).clk.absFold = s.clk.absFold ∧ (commitPowerState q s).ownLock = s.ownLock ∧ (commitPowerState q s).tally.resids = s.tally.resids := by
  refine ⟨?_, ?_, ?_, ?_, ?_⟩ <;> simp only [commitPowerState] <;> (repeat' split) <;> first | (simp; done) | rfl

@[simp] theorem State.enterSleep_flashOk (s : State) (bad : List Nat) (h : flashOk s.store.flash = true) : flashOk (State.enterSleep s bad).store.flash = true := by
  simp only [State.enterSleep]
  (repeat' split) <;> first | (simp [h]; done) | (simp_all; done)

@[simp] theorem State.enterSleep_frame (s : State) (bad : List Nat) :
    (State.enterSleep s bad).pending = s.pending ∧ (State.enterSleep s bad).clk.absFold = s.clk.absFold ∧ (State.enterSleep s bad).ownLock = s.ownLock ∧ (State.enterSleep s bad).tally.resids = s.tally.resids := by
  refine ⟨?_, ?_, ?_, ?_⟩ <;> simp only [State.enterSleep] <;> (repeat' split) <;> first | (simp; done) | (simp -implicitDefEqProofs; done) | rfl

@[simp] theorem State.passFolds_frame (s : State) (n : Nat) :
    (State.passFolds s n).pending = s.pending ∧ (State.passFolds s n).store.flash = s.store.flash ∧ (State.passFolds s n).ownLock = s.ownLock ∧ (State.passFolds s n).tally.resids = s.tally.resids := by
  refine ⟨?_, ?_, ?_, ?_⟩ <;> simp only [State.passFolds] <;> (repeat' split) <;> first | (simp; done) | rfl

@[simp] theorem State.loseCandidate_frame (s : State) (i : Nat) :
    (State.loseCandidate s i).pending = s.pending ∧ (State.loseCandidate s i).store.flash = s.store.flash ∧ (State.loseCandidate s i).clk.absFold = s.clk.absFold ∧ (State.loseCandidate s i).ownLock = s.ownLock ∧ (State.loseCandidate s i).tally.resids = s.tally.resids := by
  refine ⟨?_, ?_, ?_, ?_, ?_⟩ <;> simp only [State.loseCandidate] <;> (repeat' split) <;> first | (simp; done) | rfl

@[simp] theorem State.wakeLoops_frame (s : State) (interval : Nat) :
    (State.wakeLoops s interval).pending = s.pending ∧ (State.wakeLoops s interval).store.flash = s.store.flash ∧ (State.wakeLoops s interval).clk.absFold = s.clk.absFold ∧ (State.wakeLoops s interval).ownLock = s.ownLock ∧ (State.wakeLoops s interval).tally.resids = s.tally.resids := by
  refine ⟨?_, ?_, ?_, ?_, ?_⟩ <;> simp only [State.wakeLoops] <;> (repeat' split) <;> first | (simp; done) | rfl

@[simp] theorem State.wake_frame (s : State) (interval : Nat) :
    (State.wake s interval).pending = s.pending ∧ (State.wake s interval).store.flash = s.store.flash ∧ (State.wake s interval).ownLock = s.ownLock ∧ (State.wake s interval).tally.resids = s.tally.resids := by
  refine ⟨?_, ?_, ?_, ?_⟩ <;> simp only [State.wake] <;> (repeat' split) <;> first | (simp; done) | rfl

@[simp] theorem State.regrid_frame (s : State) (o : Nat) (carry : Fs) :
    (State.regrid s o carry).pending = s.pending ∧ (State.regrid s o carry).store.flash = s.store.flash ∧ (State.regrid s o carry).clk.absFold = s.clk.absFold ∧ (State.regrid s o carry).ownLock = s.ownLock ∧ (State.regrid s o carry).tally.resids = s.tally.resids := by
  refine ⟨?_, ?_, ?_, ?_, ?_⟩ <;> simp only [State.regrid] <;> simp -implicitDefEqProofs

@[simp] theorem State.wakeEntry_frame (s : State) (o : Nat) (a : Fs) :
    (State.wakeEntry s o a).pending = s.pending ∧ (State.wakeEntry s o a).store.flash = s.store.flash ∧ (State.wakeEntry s o a).clk.absFold = s.clk.absFold ∧ (State.wakeEntry s o a).ownLock = s.ownLock ∧ (State.wakeEntry s o a).tally.resids = s.tally.resids := by
  refine ⟨?_, ?_, ?_, ?_, ?_⟩ <;> simp only [State.wakeEntry] <;> split <;> first | (simp -implicitDefEqProofs; done) | rfl

@[simp] theorem State.restartDivider_frame (o : Nat) (s : State) :
    (State.restartDivider o s).pending = s.pending ∧ (State.restartDivider o s).store.flash = s.store.flash ∧ (State.restartDivider o s).clk.absFold = s.clk.absFold ∧ (State.restartDivider o s).ownLock = s.ownLock ∧ (State.restartDivider o s).tally.resids = s.tally.resids := by
  refine ⟨?_, ?_, ?_, ?_, ?_⟩ <;> simp only [State.restartDivider] <;> simp -implicitDefEqProofs

theorem State.restartAll_frame (s : State) :
    (forEach (List.range 16) State.restartDivider s).pending = s.pending ∧ (forEach (List.range 16) State.restartDivider s).store.flash = s.store.flash ∧ (forEach (List.range 16) State.restartDivider s).clk.absFold = s.clk.absFold ∧ (forEach (List.range 16) State.restartDivider s).ownLock = s.ownLock ∧ (forEach (List.range 16) State.restartDivider s).tally.resids = s.tally.resids :=
  ⟨forEach_pending _ _ (fun o s => (State.restartDivider_frame o s).1) _, forEach_flash _ _ (fun o s => (State.restartDivider_frame o s).2.1) _, forEach_absFold _ _ (fun o s => (State.restartDivider_frame o s).2.2.1) _, forEach_ownLock _ _ (fun o s => (State.restartDivider_frame o s).2.2.2.1) _, forEach_resids _ _ (fun o s => (State.restartDivider_frame o s).2.2.2.2) _⟩

theorem State.runAfter_frame (s x : State) (t : Nat) (g : (x).pending = s.pending ∧ (x).store.flash = s.store.flash ∧ (x).clk.absFold = s.clk.absFold ∧ (x).ownLock = s.ownLock ∧ (x).tally.resids = s.tally.resids) :
    (x.runAll t).pending = s.pending ∧ (x.runAll t).store.flash = s.store.flash ∧ (x.runAll t).clk.absFold = s.clk.absFold ∧ (x.runAll t).ownLock = s.ownLock ∧ (x.runAll t).tally.resids = s.tally.resids :=
  ⟨(State.runAll_frame x _).1.trans g.1, (State.runAll_frame x _).2.1.trans g.2.1, (State.runAll_frame x _).2.2.1.trans g.2.2.1, (State.runAll_frame x _).2.2.2.1.trans g.2.2.2.1, (State.runAll_frame x _).2.2.2.2.trans g.2.2.2.2⟩

@[simp] theorem State.restartDividers_frame (s : State) :
    (State.restartDividers s).pending = s.pending ∧ (State.restartDividers s).store.flash = s.store.flash ∧ (State.restartDividers s).clk.absFold = s.clk.absFold ∧ (State.restartDividers s).ownLock = s.ownLock ∧ (State.restartDividers s).tally.resids = s.tally.resids := by
  unfold State.restartDividers
  split
  · exact ⟨Eq.refl _, Eq.refl _, Eq.refl _, Eq.refl _, Eq.refl _⟩
  · exact State.runAfter_frame s _ _ (State.restartAll_frame { s with pow := { s.pow with relock := false }, rel := { s.rel with stopping := false } })


@[simp] theorem State.saveCut_flashOk (s : State) (h : flashOk s.store.flash = true) : flashOk (State.saveCut s).store.flash = true := by
  simp only [State.saveCut]
  (repeat' split) <;> first | (simp [h]; done) | (simp_all; done)

@[simp] theorem State.saveCut_frame (s : State) :
    (State.saveCut s).pending = s.pending ∧ (State.saveCut s).clk.absFold = s.clk.absFold ∧ (State.saveCut s).ownLock = s.ownLock ∧ (State.saveCut s).tally.resids = s.tally.resids := by
  refine ⟨?_, ?_, ?_, ?_⟩ <;> simp only [State.saveCut] <;> (repeat' split) <;> first | (simp; done) | rfl

@[simp] theorem State.eraseCut_flashOk (s : State) (h : flashOk s.store.flash = true) : flashOk (State.eraseCut s).store.flash = true := by
  simp only [State.eraseCut]
  (repeat' split) <;> first | (simp [h]; done) | (simp_all; done)

@[simp] theorem State.eraseCut_frame (s : State) :
    (State.eraseCut s).pending = s.pending ∧ (State.eraseCut s).clk.absFold = s.clk.absFold ∧ (State.eraseCut s).ownLock = s.ownLock ∧ (State.eraseCut s).tally.resids = s.tally.resids := by
  refine ⟨?_, ?_, ?_, ?_⟩ <;> simp only [State.eraseCut] <;> (repeat' split) <;> first | (simp; done) | (simp -implicitDefEqProofs; done) | rfl

@[simp] theorem State.storeThrough_flashOk (s0 : State) (powerLost : Bool) (h : flashOk s0.store.flash = true) : flashOk (State.storeThrough s0 powerLost).store.flash = true := by
  have h1 := State.eraseCut_flashOk s0 h
  cases powerLost with
  | false => exact h1
  | true =>
    have h2 := State.saveCut_flashOk _ h1
    simp only [State.storeThrough]
    cases s0.eraseCut.pageInHand with
    | none => exact h2
    | some p => exact State.pageLost_flashOk _ p h2

@[simp] theorem State.storeThrough_frame (s0 : State) (powerLost : Bool) :
    (State.storeThrough s0 powerLost).pending = s0.pending ∧ (State.storeThrough s0 powerLost).clk.absFold = s0.clk.absFold ∧ (State.storeThrough s0 powerLost).ownLock = s0.ownLock ∧ (State.storeThrough s0 powerLost).tally.resids = s0.tally.resids := by
  refine ⟨?_, ?_, ?_, ?_⟩ <;> simp only [State.storeThrough] <;> (repeat' split) <;> first | (simp; done) | (simp -implicitDefEqProofs; done) | rfl

@[simp] theorem State.resumeNext_frame (s : State) :
    (State.resumeNext s).pending = s.pending ∧ (State.resumeNext s).store.flash = s.store.flash ∧ (State.resumeNext s).clk.absFold = s.clk.absFold ∧ (State.resumeNext s).ownLock = s.ownLock ∧ (State.resumeNext s).tally.resids = s.tally.resids := by
  refine ⟨?_, ?_, ?_, ?_, ?_⟩ <;> simp only [State.resumeNext] <;> (repeat' split) <;> first | (simp; done) | rfl

@[simp] theorem State.bootEvent_frame (s : State) (id detail : Nat) :
    (State.bootEvent s id detail).pending = s.pending ∧ (State.bootEvent s id detail).store.flash = s.store.flash ∧ (State.bootEvent s id detail).clk.absFold = s.clk.absFold ∧ (State.bootEvent s id detail).ownLock = s.ownLock ∧ (State.bootEvent s id detail).tally.resids = s.tally.resids := by
  refine ⟨?_, ?_, ?_, ?_, ?_⟩ <;> simp only [State.bootEvent] <;> (repeat' split) <;> first | (simp; done) | rfl

@[simp] theorem State.recoverStore_flashOk (s : State) (h : flashOk s.store.flash = true) : flashOk (State.recoverStore s).store.flash = true := by
  simp only [State.recoverStore]
  (repeat' split) <;> first | (simp [h]; done) | (simp_all; done)

@[simp] theorem State.recoverStore_frame (s : State) :
    (State.recoverStore s).pending = s.pending ∧ (State.recoverStore s).clk.absFold = s.clk.absFold ∧ (State.recoverStore s).ownLock = s.ownLock ∧ (State.recoverStore s).tally.resids = s.tally.resids := by
  refine ⟨?_, ?_, ?_, ?_⟩ <;> simp only [State.recoverStore] <;> (repeat' split) <;> first | (simp; done) | rfl

@[simp] theorem State.loadModel_frame (s : State) (p : List Byte) :
    (State.loadModel s p).pending = s.pending ∧ (State.loadModel s p).store.flash = s.store.flash ∧ (State.loadModel s p).clk.absFold = s.clk.absFold ∧ (State.loadModel s p).ownLock = s.ownLock ∧ (State.loadModel s p).tally.resids = s.tally.resids := by
  refine ⟨?_, ?_, ?_, ?_, ?_⟩ <;> simp only [State.loadModel] <;> (repeat' split) <;> first | (simp; done) | rfl

@[simp] theorem State.loadCounters_frame (s : State) (img rec_ : Option Item) :
    (State.loadCounters s img rec_).pending = s.pending ∧ (State.loadCounters s img rec_).store.flash = s.store.flash ∧ (State.loadCounters s img rec_).clk.absFold = s.clk.absFold ∧ (State.loadCounters s img rec_).ownLock = s.ownLock ∧ (State.loadCounters s img rec_).tally.resids = s.tally.resids := by
  refine ⟨?_, ?_, ?_, ?_, ?_⟩ <;> simp only [State.loadCounters] <;> (repeat' split) <;> first | (simp; done) | rfl

@[simp] theorem State.loadWear_frame (s : State) (l : List Item) (img : Option Item) :
    (State.loadWear s l img).pending = s.pending ∧ (State.loadWear s l img).store.flash = s.store.flash ∧ (State.loadWear s l img).clk.absFold = s.clk.absFold ∧ (State.loadWear s l img).ownLock = s.ownLock ∧ (State.loadWear s l img).tally.resids = s.tally.resids := by
  refine ⟨?_, ?_, ?_, ?_, ?_⟩ <;> simp only [State.loadWear] <;> (repeat' split) <;> first | (simp; done) | rfl

@[simp] theorem State.loadHotSet_frame (s : State) (items : List Item) :
    (State.loadHotSet s items).pending = s.pending ∧ (State.loadHotSet s items).store.flash = s.store.flash ∧ (State.loadHotSet s items).clk.absFold = s.clk.absFold ∧ (State.loadHotSet s items).ownLock = s.ownLock ∧ (State.loadHotSet s items).tally.resids = s.tally.resids := by
  refine ⟨?_, ?_, ?_, ?_, ?_⟩ <;> simp only [State.loadHotSet] <;> (repeat' split) <;> first | (simp; done) | rfl

@[simp] theorem State.loadSsct_frame (s : State) (l : List Item) :
    (State.loadSsct s l).pending = s.pending ∧ (State.loadSsct s l).store.flash = s.store.flash ∧ (State.loadSsct s l).clk.absFold = s.clk.absFold ∧ (State.loadSsct s l).ownLock = s.ownLock ∧ (State.loadSsct s l).tally.resids = s.tally.resids := by
  refine ⟨?_, ?_, ?_, ?_, ?_⟩ <;> simp only [State.loadSsct] <;> (repeat' split) <;> first | (simp; done) | rfl

@[simp] theorem State.loadKey_frame (s : State) (l : List Item) :
    (State.loadKey s l).pending = s.pending ∧ (State.loadKey s l).store.flash = s.store.flash ∧ (State.loadKey s l).clk.absFold = s.clk.absFold ∧ (State.loadKey s l).ownLock = s.ownLock ∧ (State.loadKey s l).tally.resids = s.tally.resids := by
  refine ⟨?_, ?_, ?_, ?_, ?_⟩ <;> simp only [State.loadKey] <;> (repeat' split) <;> first | (simp; done) | rfl

@[simp] theorem State.loadConfig_frame (s : State) (l : List Item) :
    (State.loadConfig s l).pending = s.pending ∧ (State.loadConfig s l).store.flash = s.store.flash ∧ (State.loadConfig s l).clk.absFold = s.clk.absFold ∧ (State.loadConfig s l).ownLock = s.ownLock ∧ (State.loadConfig s l).tally.resids = s.tally.resids := by
  refine ⟨?_, ?_, ?_, ?_, ?_⟩ <;> simp only [State.loadConfig] <;> (repeat' split) <;> first | (simp; done) | rfl

@[simp] theorem State.loadPatch_frame (s : State) (l : List Item) :
    (State.loadPatch s l).pending = s.pending ∧ (State.loadPatch s l).store.flash = s.store.flash ∧ (State.loadPatch s l).clk.absFold = s.clk.absFold ∧ (State.loadPatch s l).ownLock = s.ownLock ∧ (State.loadPatch s l).tally.resids = s.tally.resids := by
  refine ⟨?_, ?_, ?_, ?_, ?_⟩ <;> simp only [State.loadPatch] <;> (repeat' split) <;> first | (simp; done) | rfl

@[simp] theorem State.startUp_flashOk (s : State) (h : flashOk s.store.flash = true) : flashOk (State.startUp s).store.flash = true := by
  simp only [State.startUp]
  (repeat' split) <;> first | (simp [h]; done) | (simp_all; done)

@[simp] theorem State.startUp_frame (s : State) :
    (State.startUp s).pending = s.pending ∧ (State.startUp s).clk.absFold = s.clk.absFold ∧ (State.startUp s).ownLock = s.ownLock ∧ (State.startUp s).tally.resids = s.tally.resids := by
  refine ⟨?_, ?_, ?_, ?_⟩ <;> simp only [State.startUp] <;> (repeat' split) <;> first | (simp; done) | rfl

@[simp] theorem State.sampleStraps_frame (s : State) (a b : Bool) :
    (State.sampleStraps s a b).pending = s.pending ∧ (State.sampleStraps s a b).store.flash = s.store.flash ∧ (State.sampleStraps s a b).clk.absFold = s.clk.absFold ∧ (State.sampleStraps s a b).ownLock = s.ownLock ∧ (State.sampleStraps s a b).tally.resids = s.tally.resids := by
  refine ⟨?_, ?_, ?_, ?_, ?_⟩ <;> simp only [State.sampleStraps] <;> (repeat' split) <;> first | (simp; done) | rfl

@[simp] theorem State.leaveReset_frame (s : State) :
    (State.leaveReset s).pending = s.pending ∧ (State.leaveReset s).store.flash = s.store.flash ∧ (State.leaveReset s).clk.absFold = s.clk.absFold ∧ (State.leaveReset s).ownLock = s.ownLock ∧ (State.leaveReset s).tally.resids = s.tally.resids := by
  refine ⟨?_, ?_, ?_, ?_, ?_⟩ <;> simp only [State.leaveReset] <;> (repeat' split) <;> first | (simp; done) | rfl

@[simp] theorem State.openUp_frame (s : State) :
    (State.openUp s).pending = s.pending ∧ (State.openUp s).store.flash = s.store.flash ∧ (State.openUp s).clk.absFold = s.clk.absFold ∧ (State.openUp s).ownLock = s.ownLock ∧ (State.openUp s).tally.resids = s.tally.resids := by
  refine ⟨(by unfold State.openUp; exact forEach_pending _ _ (fun _ _ => by simp) _), (by unfold State.openUp; exact forEach_flash _ _ (fun _ _ => by simp) _), (by unfold State.openUp; exact forEach_absFold _ _ (fun _ _ => by simp) _), (by unfold State.openUp; exact forEach_ownLock _ _ (fun _ _ => by simp) _), (by unfold State.openUp; exact forEach_resids _ _ (fun _ _ => by simp) _)⟩

@[simp] theorem State.boot_frame (s : State) :
    (State.boot s).pending = s.pending ∧ (State.boot s).store.flash = s.store.flash ∧ (State.boot s).clk.absFold = s.clk.absFold ∧ (State.boot s).ownLock = s.ownLock ∧ (State.boot s).tally.resids = s.tally.resids := by
  refine ⟨?_, ?_, ?_, ?_, ?_⟩ <;> simp only [State.boot] <;> (repeat' split) <;> first | (simp; done) | rfl

@[simp] theorem commitSoftReset_frame (_q : Call) (s : State) :
    (commitSoftReset _q s).pending = s.pending ∧ (commitSoftReset _q s).store.flash = s.store.flash ∧ (commitSoftReset _q s).clk.absFold = s.clk.absFold ∧ (commitSoftReset _q s).ownLock = s.ownLock ∧ (commitSoftReset _q s).tally.resids = s.tally.resids := by
  refine ⟨?_, ?_, ?_, ?_, ?_⟩ <;> simp only [commitSoftReset] <;> (repeat' split) <;> first | (simp; done) | rfl

@[simp] theorem State.mapTest_store (s : State) (f : Test → Test) : (s.mapTest f).store = s.store := rfl

@[simp] theorem State.mapTest_pending (s : State) (f : Test → Test) : (s.mapTest f).pending = s.pending := rfl

@[simp] theorem State.mapTest_clk (s : State) (f : Test → Test) : (s.mapTest f).clk = s.clk := rfl

@[simp] theorem State.mapTest_ownLock (s : State) (f : Test → Test) : (s.mapTest f).ownLock = s.ownLock := rfl

@[simp] theorem State.mapTest_tally (s : State) (f : Test → Test) : (s.mapTest f).tally = s.tally := rfl

@[simp] theorem commitInject_frame (q : Call) (s : State) :
    (commitInject q s).pending = s.pending ∧ (commitInject q s).store.flash = s.store.flash ∧ (commitInject q s).clk.absFold = s.clk.absFold ∧ (commitInject q s).ownLock = s.ownLock ∧ (commitInject q s).tally.resids = s.tally.resids := by
  refine ⟨?_, ?_, ?_, ?_, ?_⟩ <;> simp only [commitInject] <;> (repeat' split) <;> first | (simp; done) | rfl

@[simp] theorem commitRefKill_frame (q : Call) (s : State) :
    (commitRefKill q s).pending = s.pending ∧ (commitRefKill q s).store.flash = s.store.flash ∧ (commitRefKill q s).clk.absFold = s.clk.absFold ∧ (commitRefKill q s).ownLock = s.ownLock ∧ (commitRefKill q s).tally.resids = s.tally.resids := by
  refine ⟨?_, ?_, ?_, ?_, ?_⟩ <;> simp only [commitRefKill] <;> (repeat' split) <;> first | (simp; done) | rfl

@[simp] theorem commitSlotOverrun_frame (q : Call) (s : State) :
    (commitSlotOverrun q s).pending = s.pending ∧ (commitSlotOverrun q s).store.flash = s.store.flash ∧ (commitSlotOverrun q s).clk.absFold = s.clk.absFold ∧ (commitSlotOverrun q s).ownLock = s.ownLock ∧ (commitSlotOverrun q s).tally.resids = s.tally.resids := by
  refine ⟨?_, ?_, ?_, ?_, ?_⟩ <;> simp only [commitSlotOverrun] <;> (repeat' split) <;> first | (simp; done) | rfl

@[simp] theorem State.cutTask_frame (s : State) (slot held : Nat) :
    (State.cutTask s slot held).pending = s.pending ∧ (State.cutTask s slot held).store.flash = s.store.flash ∧ (State.cutTask s slot held).clk.absFold = s.clk.absFold ∧ (State.cutTask s slot held).ownLock = s.ownLock ∧ (State.cutTask s slot held).tally.resids = s.tally.resids := by
  refine ⟨?_, ?_, ?_, ?_, ?_⟩ <;> simp only [State.cutTask] <;> (repeat' split) <;> first | (simp; done) | rfl

@[simp] theorem State.endSlot_frame (s : State) (slot held : Nat) :
    (State.endSlot s slot held).pending = s.pending ∧ (State.endSlot s slot held).store.flash = s.store.flash ∧ (State.endSlot s slot held).clk.absFold = s.clk.absFold ∧ (State.endSlot s slot held).ownLock = s.ownLock ∧ (State.endSlot s slot held).tally.resids = s.tally.resids := by
  refine ⟨?_, ?_, ?_, ?_, ?_⟩ <;> simp only [State.endSlot] <;> (repeat' split) <;> first | (simp; done) | rfl

@[simp] theorem State.setDrvTest_frame (s : State) (m : Nat) :
    (State.setDrvTest s m).pending = s.pending ∧ (State.setDrvTest s m).store.flash = s.store.flash ∧ (State.setDrvTest s m).clk.absFold = s.clk.absFold ∧ (State.setDrvTest s m).ownLock = s.ownLock ∧ (State.setDrvTest s m).tally.resids = s.tally.resids := by
  refine ⟨?_, ?_, ?_, ?_, ?_⟩ <;> simp only [State.setDrvTest] <;> (repeat' split) <;> first | (simp; done) | rfl

@[simp] theorem commitDrvTest_frame (q : Call) (s : State) :
    (commitDrvTest q s).pending = s.pending ∧ (commitDrvTest q s).store.flash = s.store.flash ∧ (commitDrvTest q s).clk.absFold = s.clk.absFold ∧ (commitDrvTest q s).ownLock = s.ownLock ∧ (commitDrvTest q s).tally.resids = s.tally.resids := by
  refine ⟨?_, ?_, ?_, ?_, ?_⟩ <;> simp only [commitDrvTest] <;> (repeat' split) <;> first | (simp; done) | rfl

@[simp] theorem State.penResetTest_frame (s : State) (p : Pen) :
    (State.penResetTest s p).pending = s.pending ∧ (State.penResetTest s p).store.flash = s.store.flash ∧ (State.penResetTest s p).clk.absFold = s.clk.absFold ∧ (State.penResetTest s p).ownLock = s.ownLock ∧ (State.penResetTest s p).tally.resids = s.tally.resids := by
  refine ⟨?_, ?_, ?_, ?_, ?_⟩ <;> simp only [State.penResetTest] <;> (repeat' split) <;> first | (simp; done) | rfl

@[simp] theorem State.monitorOut_frame (s : State) (o : Nat) :
    (State.monitorOut s o).pending = s.pending ∧ (State.monitorOut s o).store.flash = s.store.flash ∧ (State.monitorOut s o).clk.absFold = s.clk.absFold ∧ (State.monitorOut s o).ownLock = s.ownLock ∧ (State.monitorOut s o).tally.resids = s.tally.resids := by
  refine ⟨?_, ?_, ?_, ?_, ?_⟩ <;> simp only [State.monitorOut] <;> (repeat' split) <;> first | (simp; done) | rfl

@[simp] theorem State.monitorSlot_frame (s : State) :
    (State.monitorSlot s).pending = s.pending ∧ (State.monitorSlot s).store.flash = s.store.flash ∧ (State.monitorSlot s).clk.absFold = s.clk.absFold ∧ (State.monitorSlot s).ownLock = s.ownLock ∧ (State.monitorSlot s).tally.resids = s.tally.resids := by
  refine ⟨?_, ?_, ?_, ?_, ?_⟩ <;> simp only [State.monitorSlot] <;> (repeat' split) <;> first | (simp; done) | rfl

end Sys2Proof.Machine
end

