-- ==== Sys2Proof/Laws/Serve.lean ====
section
/-! SUPPORT. What happens at once as a command is interpreted leaves alone the queue of commands, the flash, the fold counter, the ownership lock and the
ledger's residues: one lemma per check of an opcode. -/

namespace Sys2Proof.Machine

/-- What a decision does at once keeps the five figures. -/
def Serve.Keeps (sv : Serve) : Prop :=
  ∀ s : State, (sv.act s).pending = s.pending ∧ (sv.act s).store.flash = s.store.flash ∧ (sv.act s).clk.absFold = s.clk.absFold ∧ (sv.act s).ownLock = s.ownLock ∧
    (sv.act s).tally.resids = s.tally.resids

theorem keeps_id (sv : Serve) (h : sv.act = id) : sv.Keeps := fun s => by simp [h]

theorem checks_keeps (l : List (Bool × BitVec 16)) (sv : Serve) (h : sv.Keeps) : (checks l sv).Keeps := by
  induction l with
  | nil => exact h
  | cons x r ih =>
    simp only [checks]
    split
    · exact ih
    · exact keeps_id _ rfl

theorem ite_keeps (c : Bool) (a b : Serve) (ha : a.Keeps) (hb : b.Keeps) : (if c then a else b).Keeps := by
  cases c
  · exact hb
  · exact ha

theorem checkRefInput_keeps (q : Call) (s : State) : (checkRefInput q s).Keeps := by
  unfold checkRefInput
  (repeat' first | apply checks_keeps | split) <;> first | exact keeps_id _ rfl | exact withSlots_keeps _ _ _ _ (keeps_id _ rfl) | exact storeServe_keeps _ _ _ _ _ | (intro s; simp) | (intro s; simp [Serve.group, Serve.stage])

theorem checkRefMon_keeps (q : Call) (s : State) : (checkRefMon q s).Keeps := by
  unfold checkRefMon
  (repeat' first | apply checks_keeps | split) <;> first | exact keeps_id _ rfl | exact withSlots_keeps _ _ _ _ (keeps_id _ rfl) | exact storeServe_keeps _ _ _ _ _ | (intro s; simp) | (intro s; simp [Serve.group, Serve.stage])

theorem checkRefRank_keeps (q : Call) (s : State) : (checkRefRank q s).Keeps := by
  unfold checkRefRank
  (repeat' first | apply checks_keeps | split) <;> first | exact keeps_id _ rfl | exact withSlots_keeps _ _ _ _ (keeps_id _ rfl) | exact storeServe_keeps _ _ _ _ _ | (intro s; simp) | (intro s; simp [Serve.group, Serve.stage])

theorem checkIndexRead_keeps (op : BitVec 16) (n : Nat) (q : Call) : (checkIndexRead op n q).Keeps := by
  unfold checkIndexRead
  (repeat' first | apply checks_keeps | split) <;> first | exact keeps_id _ rfl | exact withSlots_keeps _ _ _ _ (keeps_id _ rfl) | exact storeServe_keeps _ _ _ _ _ | (intro s; simp) | (intro s; simp [Serve.group, Serve.stage])

theorem checkPlainRead_keeps (op : BitVec 16) (q : Call) : (checkPlainRead op q).Keeps := by
  unfold checkPlainRead
  (repeat' first | apply checks_keeps | split) <;> first | exact keeps_id _ rfl | exact withSlots_keeps _ _ _ _ (keeps_id _ rfl) | exact storeServe_keeps _ _ _ _ _ | (intro s; simp) | (intro s; simp [Serve.group, Serve.stage])

theorem checkTdcArm_keeps (q : Call) (_s : State) : (checkTdcArm q _s).Keeps := by
  unfold checkTdcArm
  (repeat' first | apply checks_keeps | split) <;> first | exact keeps_id _ rfl | exact withSlots_keeps _ _ _ _ (keeps_id _ rfl) | exact storeServe_keeps _ _ _ _ _ | (intro s; simp) | (intro s; simp [Serve.group, Serve.stage])

theorem checkTdcResult_keeps (q : Call) (_s : State) : (checkTdcResult q _s).Keeps := by
  unfold checkTdcResult
  (repeat' first | apply checks_keeps | split) <;> first | exact keeps_id _ rfl | exact withSlots_keeps _ _ _ _ (keeps_id _ rfl) | exact storeServe_keeps _ _ _ _ _ | (intro s; simp) | (intro s; simp [Serve.group, Serve.stage])

theorem checkForce_keeps (q : Call) (s : State) : (checkForce q s).Keeps := by
  unfold checkForce
  (repeat' first | apply checks_keeps | split) <;> first | exact keeps_id _ rfl | exact withSlots_keeps _ _ _ _ (keeps_id _ rfl) | exact storeServe_keeps _ _ _ _ _ | (intro s; simp) | (intro s; simp [Serve.group, Serve.stage])

theorem checkLoop_keeps (q : Call) (_s : State) : (checkLoop q _s).Keeps := by
  unfold checkLoop
  (repeat' first | apply checks_keeps | split) <;> first | exact keeps_id _ rfl | exact withSlots_keeps _ _ _ _ (keeps_id _ rfl) | exact storeServe_keeps _ _ _ _ _ | (intro s; simp) | (intro s; simp [Serve.group, Serve.stage])

theorem checkHold_keeps (q : Call) (_s : State) : (checkHold q _s).Keeps := by
  unfold checkHold
  (repeat' first | apply checks_keeps | split) <;> first | exact keeps_id _ rfl | exact withSlots_keeps _ _ _ _ (keeps_id _ rfl) | exact storeServe_keeps _ _ _ _ _ | (intro s; simp) | (intro s; simp [Serve.group, Serve.stage])

theorem checkNewOsc_keeps (q : Call) (_s : State) : (checkNewOsc q _s).Keeps := by
  unfold checkNewOsc
  (repeat' first | apply checks_keeps | split) <;> first | exact keeps_id _ rfl | exact withSlots_keeps _ _ _ _ (keeps_id _ rfl) | exact storeServe_keeps _ _ _ _ _ | (intro s; simp) | (intro s; simp [Serve.group, Serve.stage])

theorem checkVco_keeps (q : Call) (s : State) : (checkVco q s).Keeps := by
  unfold checkVco
  (repeat' first | apply checks_keeps | split) <;> first | exact keeps_id _ rfl | exact withSlots_keeps _ _ _ _ (keeps_id _ rfl) | exact storeServe_keeps _ _ _ _ _ | (intro s; simp) | (intro s; simp [Serve.group, Serve.stage])

theorem checkPaddock_keeps (q : Call) (s : State) : (checkPaddock q s).Keeps := by
  unfold checkPaddock
  (repeat' first | apply checks_keeps | split) <;> first | exact keeps_id _ rfl | exact withSlots_keeps _ _ _ _ (keeps_id _ rfl) | exact storeServe_keeps _ _ _ _ _ | (intro s; simp) | (intro s; simp [Serve.group, Serve.stage])

theorem checkOut_keeps (q : Call) (s : State) : (checkOut q s).Keeps := by
  unfold checkOut
  (repeat' first | apply checks_keeps | split) <;> first | exact keeps_id _ rfl | exact withSlots_keeps _ _ _ _ (keeps_id _ rfl) | exact storeServe_keeps _ _ _ _ _ | (intro s; simp) | (intro s; simp [Serve.group, Serve.stage])

theorem checkMon_keeps (q : Call) (_s : State) : (checkMon q _s).Keeps := by
  unfold checkMon
  (repeat' first | apply checks_keeps | split) <;> first | exact keeps_id _ rfl | exact withSlots_keeps _ _ _ _ (keeps_id _ rfl) | exact storeServe_keeps _ _ _ _ _ | (intro s; simp) | (intro s; simp [Serve.group, Serve.stage])

theorem checkGateWindow_keeps (q : Call) (s : State) : (checkGateWindow q s).Keeps := by
  unfold checkGateWindow
  (repeat' first | apply checks_keeps | split) <;> first | exact keeps_id _ rfl | exact withSlots_keeps _ _ _ _ (keeps_id _ rfl) | exact storeServe_keeps _ _ _ _ _ | (intro s; simp) | (intro s; simp [Serve.group, Serve.stage])

theorem checkGateFlush_keeps (q : Call) (s : State) : (checkGateFlush q s).Keeps := by
  unfold checkGateFlush
  (repeat' first | apply checks_keeps | split) <;> first | exact keeps_id _ rfl | exact withSlots_keeps _ _ _ _ (keeps_id _ rfl) | exact storeServe_keeps _ _ _ _ _ | (intro s; simp) | (intro s; simp [Serve.group, Serve.stage])

theorem withSlots_keeps (s : State) (n flock : Nat) (sv : Serve) (h : sv.Keeps) : (withSlots s n flock sv).Keeps := by
  unfold withSlots
  split
  · exact fun s => h s
  · exact fun s => by simp [Serve.tallyFull]

theorem checkStile_keeps (q : Call) (_s : State) : (checkStile q _s).Keeps := by
  unfold checkStile
  (repeat' first | apply checks_keeps | split) <;> first | exact keeps_id _ rfl | exact withSlots_keeps _ _ _ _ (keeps_id _ rfl) | exact storeServe_keeps _ _ _ _ _ | (intro s; simp) | (intro s; simp [Serve.group, Serve.stage])

theorem checkStep_keeps (q : Call) (s : State) : (checkStep q s).Keeps := by
  unfold checkStep
  (repeat' first | apply checks_keeps | split) <;> first | exact keeps_id _ rfl | exact withSlots_keeps _ _ _ _ (keeps_id _ rfl) | exact storeServe_keeps _ _ _ _ _ | (intro s; simp) | (intro s; simp [Serve.group, Serve.stage])

theorem checkOutDelay_keeps (q : Call) (s : State) : (checkOutDelay q s).Keeps := by
  unfold checkOutDelay
  (repeat' first | apply checks_keeps | split) <;> first | exact keeps_id _ rfl | exact withSlots_keeps _ _ _ _ (keeps_id _ rfl) | exact storeServe_keeps _ _ _ _ _ | (intro s; simp) | (intro s; simp [Serve.group, Serve.stage])

theorem checkTallyCancel_keeps (q : Call) (s : State) : (checkTallyCancel q s).Keeps := by
  unfold checkTallyCancel
  (repeat' first | apply checks_keeps | split) <;> first | exact keeps_id _ rfl | exact withSlots_keeps _ _ _ _ (keeps_id _ rfl) | exact storeServe_keeps _ _ _ _ _ | (intro s; simp) | (intro s; simp [Serve.group, Serve.stage])

theorem checkTallyRead_keeps (q : Call) (s : State) : (checkTallyRead q s).Keeps := by
  unfold checkTallyRead
  (repeat' first | apply checks_keeps | split) <;> first | exact keeps_id _ rfl | exact withSlots_keeps _ _ _ _ (keeps_id _ rfl) | exact storeServe_keeps _ _ _ _ _ | (intro s; simp) | (intro s; simp [Serve.group, Serve.stage])

theorem checkCrookStep_keeps (q : Call) (s : State) : (checkCrookStep q s).Keeps := by
  unfold checkCrookStep
  (repeat' first | apply checks_keeps | split) <;> first | exact keeps_id _ rfl | exact withSlots_keeps _ _ _ _ (keeps_id _ rfl) | exact storeServe_keeps _ _ _ _ _ | (intro s; simp) | (intro s; simp [Serve.group, Serve.stage])

theorem checkCrookClear_keeps (q : Call) (_s : State) : (checkCrookClear q _s).Keeps := by
  unfold checkCrookClear
  (repeat' first | apply checks_keeps | split) <;> first | exact keeps_id _ rfl | exact withSlots_keeps _ _ _ _ (keeps_id _ rfl) | exact storeServe_keeps _ _ _ _ _ | (intro s; simp) | (intro s; simp [Serve.group, Serve.stage])

theorem checkAlign_keeps (q : Call) (s : State) : (checkAlign q s).Keeps := by
  unfold checkAlign
  (repeat' first | apply checks_keeps | split) <;> first | exact keeps_id _ rfl | exact withSlots_keeps _ _ _ _ (keeps_id _ rfl) | exact storeServe_keeps _ _ _ _ _ | (intro s; simp) | (intro s; simp [Serve.group, Serve.stage])

theorem checkGather_keeps (q : Call) (s : State) : (checkGather q s).Keeps := by
  unfold checkGather
  (repeat' first | apply checks_keeps | split) <;> first | exact keeps_id _ rfl | exact withSlots_keeps _ _ _ _ (keeps_id _ rfl) | exact storeServe_keeps _ _ _ _ _ | (intro s; simp) | (intro s; simp [Serve.group, Serve.stage])

theorem checkCrookGather_keeps (q : Call) (s : State) : (checkCrookGather q s).Keeps := by
  unfold checkCrookGather
  (repeat' first | apply checks_keeps | split) <;> first | exact keeps_id _ rfl | exact withSlots_keeps _ _ _ _ (keeps_id _ rfl) | exact storeServe_keeps _ _ _ _ _ | (intro s; simp) | (intro s; simp [Serve.group, Serve.stage])

theorem checkTime_keeps (q : Call) (_s : State) : (checkTime q _s).Keeps := by
  unfold checkTime
  (repeat' first | apply checks_keeps | split) <;> first | exact keeps_id _ rfl | exact withSlots_keeps _ _ _ _ (keeps_id _ rfl) | exact storeServe_keeps _ _ _ _ _ | (intro s; simp) | (intro s; simp [Serve.group, Serve.stage])

theorem checkTimeWrite_keeps (q : Call) (s : State) : (checkTimeWrite q s).Keeps := by
  unfold checkTimeWrite
  (repeat' first | apply checks_keeps | split) <;> first | exact keeps_id _ rfl | exact withSlots_keeps _ _ _ _ (keeps_id _ rfl) | exact storeServe_keeps _ _ _ _ _ | (intro s; simp) | (intro s; simp [Serve.group, Serve.stage])

theorem checkSsct_keeps (q : Call) (_s : State) : (checkSsct q _s).Keeps := by
  unfold checkSsct
  (repeat' first | apply checks_keeps | split) <;> first | exact keeps_id _ rfl | exact withSlots_keeps _ _ _ _ (keeps_id _ rfl) | exact storeServe_keeps _ _ _ _ _ | (intro s; simp) | (intro s; simp [Serve.group, Serve.stage])

theorem checkSsctLoad_keeps (q : Call) (s : State) : (checkSsctLoad q s).Keeps := by
  unfold checkSsctLoad
  (repeat' first | apply checks_keeps | split) <;> first | exact keeps_id _ rfl | exact withSlots_keeps _ _ _ _ (keeps_id _ rfl) | exact storeServe_keeps _ _ _ _ _ | (intro s; simp) | (intro s; simp [Serve.group, Serve.stage])

theorem checkSsctRead_keeps (q : Call) (s : State) : (checkSsctRead q s).Keeps := by
  unfold checkSsctRead
  (repeat' first | apply checks_keeps | split) <;> first | exact keeps_id _ rfl | exact withSlots_keeps _ _ _ _ (keeps_id _ rfl) | exact storeServe_keeps _ _ _ _ _ | (intro s; simp) | (intro s; simp [Serve.group, Serve.stage])

theorem checkRf_keeps (q : Call) (s : State) : (checkRf q s).Keeps := by
  unfold checkRf
  (repeat' first | apply checks_keeps | split) <;> first | exact keeps_id _ rfl | exact withSlots_keeps _ _ _ _ (keeps_id _ rfl) | exact storeServe_keeps _ _ _ _ _ | (intro s; simp) | (intro s; simp [Serve.group, Serve.stage])

theorem checkChanWrite_keeps (q : Call) (s : State) : (checkChanWrite q s).Keeps := by
  unfold checkChanWrite
  (repeat' first | apply checks_keeps | split) <;> first | exact keeps_id _ rfl | exact withSlots_keeps _ _ _ _ (keeps_id _ rfl) | exact storeServe_keeps _ _ _ _ _ | (intro s; simp) | (intro s; simp [Serve.group, Serve.stage])

theorem checkRfRx_keeps (q : Call) (s : State) : (checkRfRx q s).Keeps := by
  unfold checkRfRx
  (repeat' first | apply checks_keeps | split) <;> first | exact keeps_id _ rfl | exact withSlots_keeps _ _ _ _ (keeps_id _ rfl) | exact storeServe_keeps _ _ _ _ _ | (intro s; simp) | (intro s; simp [Serve.group, Serve.stage])

theorem checkRfTx_keeps (q : Call) (s : State) : (checkRfTx q s).Keeps := by
  unfold checkRfTx
  (repeat' first | apply checks_keeps | split) <;> first | exact keeps_id _ rfl | exact withSlots_keeps _ _ _ _ (keeps_id _ rfl) | exact storeServe_keeps _ _ _ _ _ | (intro s; simp) | (intro s; simp [Serve.group, Serve.stage])

theorem checkRfCapture_keeps (q : Call) (s : State) : (checkRfCapture q s).Keeps := by
  unfold checkRfCapture
  (repeat' first | apply checks_keeps | split) <;> first | exact keeps_id _ rfl | exact withSlots_keeps _ _ _ _ (keeps_id _ rfl) | exact storeServe_keeps _ _ _ _ _ | (intro s; simp) | (intro s; simp [Serve.group, Serve.stage])

theorem checkRfTone_keeps (q : Call) (s : State) : (checkRfTone q s).Keeps := by
  unfold checkRfTone
  (repeat' first | apply checks_keeps | split) <;> first | exact keeps_id _ rfl | exact withSlots_keeps _ _ _ _ (keeps_id _ rfl) | exact storeServe_keeps _ _ _ _ _ | (intro s; simp) | (intro s; simp [Serve.group, Serve.stage])

theorem checkCommons_keeps (q : Call) (s : State) : (checkCommons q s).Keeps := by
  unfold checkCommons
  (repeat' first | apply checks_keeps | split) <;> first | exact keeps_id _ rfl | exact withSlots_keeps _ _ _ _ (keeps_id _ rfl) | exact storeServe_keeps _ _ _ _ _ | (intro s; simp) | (intro s; simp [Serve.group, Serve.stage])

theorem checkMgmt_keeps (q : Call) (_s : State) : (checkMgmt q _s).Keeps := by
  unfold checkMgmt
  (repeat' first | apply checks_keeps | split) <;> first | exact keeps_id _ rfl | exact withSlots_keeps _ _ _ _ (keeps_id _ rfl) | exact storeServe_keeps _ _ _ _ _ | (intro s; simp) | (intro s; simp [Serve.group, Serve.stage])

theorem checkDrove_keeps (q : Call) (s : State) : (checkDrove q s).Keeps := by
  unfold checkDrove
  (repeat' first | apply checks_keeps | split) <;> first | exact keeps_id _ rfl | exact withSlots_keeps _ _ _ _ (keeps_id _ rfl) | exact storeServe_keeps _ _ _ _ _ | (intro s; simp) | (intro s; simp [Serve.group, Serve.stage])

theorem checkDroveCmd_keeps (q : Call) (s : State) : (checkDroveCmd q s).Keeps := by
  unfold checkDroveCmd
  (repeat' first | apply checks_keeps | split) <;> first | exact keeps_id _ rfl | exact withSlots_keeps _ _ _ _ (keeps_id _ rfl) | exact storeServe_keeps _ _ _ _ _ | (intro s; simp) | (intro s; simp [Serve.group, Serve.stage])

theorem checkOwnerSet_keeps (q : Call) (s : State) : (checkOwnerSet q s).Keeps := by
  unfold checkOwnerSet
  (repeat' first | apply checks_keeps | split) <;> first | exact keeps_id _ rfl | exact withSlots_keeps _ _ _ _ (keeps_id _ rfl) | exact storeServe_keeps _ _ _ _ _ | (intro s; simp) | (intro s; simp [Serve.group, Serve.stage])

theorem checkOwnerLock_keeps (q : Call) (_s : State) : (checkOwnerLock q _s).Keeps := by
  unfold checkOwnerLock
  (repeat' first | apply checks_keeps | split) <;> first | exact keeps_id _ rfl | exact withSlots_keeps _ _ _ _ (keeps_id _ rfl) | exact storeServe_keeps _ _ _ _ _ | (intro s; simp) | (intro s; simp [Serve.group, Serve.stage])

theorem checkPenOp_keeps (q : Call) (_s : State) : (checkPenOp q _s).Keeps := by
  unfold checkPenOp
  (repeat' first | apply checks_keeps | split) <;> first | exact keeps_id _ rfl | exact withSlots_keeps _ _ _ _ (keeps_id _ rfl) | exact storeServe_keeps _ _ _ _ _ | (intro s; simp) | (intro s; simp [Serve.group, Serve.stage])

theorem checkPin_keeps (q : Call) (s : State) : (checkPin q s).Keeps := by
  unfold checkPin
  (repeat' first | apply checks_keeps | split) <;> first | exact keeps_id _ rfl | exact withSlots_keeps _ _ _ _ (keeps_id _ rfl) | exact storeServe_keeps _ _ _ _ _ | (intro s; simp) | (intro s; simp [Serve.group, Serve.stage])

theorem checkPinLock_keeps (q : Call) (s : State) : (checkPinLock q s).Keeps := by
  unfold checkPinLock
  (repeat' first | apply checks_keeps | split) <;> first | exact keeps_id _ rfl | exact withSlots_keeps _ _ _ _ (keeps_id _ rfl) | exact storeServe_keeps _ _ _ _ _ | (intro s; simp) | (intro s; simp [Serve.group, Serve.stage])

theorem checkEvtConfig_keeps (q : Call) (_s : State) : (checkEvtConfig q _s).Keeps := by
  unfold checkEvtConfig
  (repeat' first | apply checks_keeps | split) <;> first | exact keeps_id _ rfl | exact withSlots_keeps _ _ _ _ (keeps_id _ rfl) | exact storeServe_keeps _ _ _ _ _ | (intro s; simp) | (intro s; simp [Serve.group, Serve.stage])

theorem checkEvtNotify_keeps (q : Call) (_s : State) : (checkEvtNotify q _s).Keeps := by
  unfold checkEvtNotify
  (repeat' first | apply checks_keeps | split) <;> first | exact keeps_id _ rfl | exact withSlots_keeps _ _ _ _ (keeps_id _ rfl) | exact storeServe_keeps _ _ _ _ _ | (intro s; simp) | (intro s; simp [Serve.group, Serve.stage])

theorem checkEvtStatus_keeps (q : Call) (s : State) : (checkEvtStatus q s).Keeps := by
  unfold checkEvtStatus
  (repeat' first | apply checks_keeps | split) <;> first | exact keeps_id _ rfl | exact withSlots_keeps _ _ _ _ (keeps_id _ rfl) | exact storeServe_keeps _ _ _ _ _ | (intro s; simp) | (intro s; simp [Serve.group, Serve.stage])

theorem checkEvtClear_keeps (q : Call) (s : State) : (checkEvtClear q s).Keeps := by
  unfold checkEvtClear
  (repeat' first | apply checks_keeps | split) <;> first | exact keeps_id _ rfl | exact withSlots_keeps _ _ _ _ (keeps_id _ rfl) | exact storeServe_keeps _ _ _ _ _ | (intro s; simp) | (intro s; simp [Serve.group, Serve.stage])

theorem checkEvtCounters_keeps (q : Call) (s : State) : (checkEvtCounters q s).Keeps := by
  unfold checkEvtCounters
  (repeat' first | apply checks_keeps | split) <;> first | exact keeps_id _ rfl | exact withSlots_keeps _ _ _ _ (keeps_id _ rfl) | exact storeServe_keeps _ _ _ _ _ | (intro s; simp) | (intro s; simp [Serve.group, Serve.stage])

theorem checkEvtQueue_keeps (q : Call) (s : State) : (checkEvtQueue q s).Keeps := by
  unfold checkEvtQueue
  (repeat' first | apply checks_keeps | split) <;> first | exact keeps_id _ rfl | exact withSlots_keeps _ _ _ _ (keeps_id _ rfl) | exact storeServe_keeps _ _ _ _ _ | (intro s; simp) | (intro s; simp [Serve.group, Serve.stage])

theorem storeServe_keeps (q : Call) (op : BitVec 16) (s : State) (data : List Byte) (job : StoreJob) : (storeServe q op s data job).Keeps := by
  unfold storeServe
  dsimp only
  split
  · exact keeps_id _ rfl
  · exact fun s => by simp

theorem checkConfigSave_keeps (q : Call) (s : State) : (checkConfigSave q s).Keeps := by
  unfold checkConfigSave
  (repeat' first | apply checks_keeps | split) <;> first | exact keeps_id _ rfl | exact withSlots_keeps _ _ _ _ (keeps_id _ rfl) | exact storeServe_keeps _ _ _ _ _ | (intro s; simp) | (intro s; simp [Serve.group, Serve.stage])

theorem checkPageWrite_keeps (q : Call) (s : State) : (checkPageWrite q s).Keeps := by
  unfold checkPageWrite
  (repeat' first | apply checks_keeps | split) <;> first | exact keeps_id _ rfl | exact withSlots_keeps _ _ _ _ (keeps_id _ rfl) | exact storeServe_keeps _ _ _ _ _ | (intro s; simp) | (intro s; simp [Serve.group, Serve.stage])

theorem checkPageErase_keeps (q : Call) (s : State) : (checkPageErase q s).Keeps := by
  unfold checkPageErase
  (repeat' first | apply checks_keeps | split) <;> first | exact keeps_id _ rfl | exact withSlots_keeps _ _ _ _ (keeps_id _ rfl) | exact storeServe_keeps _ _ _ _ _ | (intro s; simp) | (intro s; simp [Serve.group, Serve.stage])

theorem checkPageRead_keeps (q : Call) (s : State) : (checkPageRead q s).Keeps := by
  unfold checkPageRead
  (repeat' first | apply checks_keeps | split) <;> first | exact keeps_id _ rfl | exact withSlots_keeps _ _ _ _ (keeps_id _ rfl) | exact storeServe_keeps _ _ _ _ _ | (intro s; simp) | (intro s; simp [Serve.group, Serve.stage])

theorem checkPageWear_keeps (q : Call) (s : State) : (checkPageWear q s).Keeps := by
  unfold checkPageWear
  (repeat' first | apply checks_keeps | split) <;> first | exact keeps_id _ rfl | exact withSlots_keeps _ _ _ _ (keeps_id _ rfl) | exact storeServe_keeps _ _ _ _ _ | (intro s; simp) | (intro s; simp [Serve.group, Serve.stage])

theorem checkPatchWrite_keeps (q : Call) (s : State) : (checkPatchWrite q s).Keeps := by
  unfold checkPatchWrite
  exact checks_keeps _ _ (ite_keeps _ _ _ (storeServe_keeps _ _ _ _ _) fun x => by simpa using storeServe_keeps q 0x901C s [] _ x)

theorem checkSsctSave_keeps (q : Call) (s : State) : (checkSsctSave q s).Keeps := by
  unfold checkSsctSave
  (repeat' first | apply checks_keeps | split) <;> first | exact keeps_id _ rfl | exact withSlots_keeps _ _ _ _ (keeps_id _ rfl) | exact storeServe_keeps _ _ _ _ _ | (intro s; simp) | (intro s; simp [Serve.group, Serve.stage])

theorem checkModelWrite_keeps (q : Call) (s : State) : (checkModelWrite q s).Keeps := by
  unfold checkModelWrite
  (repeat' first | apply checks_keeps | split) <;> first | exact keeps_id _ rfl | exact withSlots_keeps _ _ _ _ (keeps_id _ rfl) | exact storeServe_keeps _ _ _ _ _ | (intro s; simp) | (intro s; simp [Serve.group, Serve.stage])

theorem checkCommonsKey_keeps (q : Call) (s : State) : (checkCommonsKey q s).Keeps := by
  unfold checkCommonsKey
  (repeat' first | apply checks_keeps | split) <;> first | exact keeps_id _ rfl | exact withSlots_keeps _ _ _ _ (keeps_id _ rfl) | exact storeServe_keeps _ _ _ _ _ | (intro s; simp) | (intro s; simp [Serve.group, Serve.stage])

theorem checkStoreInject_keeps (q : Call) (_s : State) : (checkStoreInject q _s).Keeps := by
  unfold checkStoreInject
  (repeat' first | apply checks_keeps | split) <;> first | exact keeps_id _ rfl | exact withSlots_keeps _ _ _ _ (keeps_id _ rfl) | exact storeServe_keeps _ _ _ _ _ | (intro s; simp) | (intro s; simp [Serve.group, Serve.stage])

theorem checkRfCal_keeps (q : Call) (s : State) : (checkRfCal q s).Keeps := by
  unfold checkRfCal
  (repeat' first | apply checks_keeps | split) <;> first | exact keeps_id _ rfl | exact withSlots_keeps _ _ _ _ (keeps_id _ rfl) | exact storeServe_keeps _ _ _ _ _ | (intro s; simp) | (intro s; simp [Serve.group, Serve.stage])

theorem checkTelemRead_keeps (q : Call) (s : State) : (checkTelemRead q s).Keeps := by
  unfold checkTelemRead
  (repeat' first | apply checks_keeps | split) <;> first | exact keeps_id _ rfl | exact withSlots_keeps _ _ _ _ (keeps_id _ rfl) | exact storeServe_keeps _ _ _ _ _ | (intro s; simp) | (intro s; simp [Serve.group, Serve.stage])

theorem checkOutputsRelease_keeps (q : Call) (_s : State) : (checkOutputsRelease q _s).Keeps := by
  unfold checkOutputsRelease
  (repeat' first | apply checks_keeps | split) <;> first | exact keeps_id _ rfl | exact withSlots_keeps _ _ _ _ (keeps_id _ rfl) | exact storeServe_keeps _ _ _ _ _ | (intro s; simp) | (intro s; simp [Serve.group, Serve.stage])

theorem checkPowerState_keeps (q : Call) (s : State) : (checkPowerState q s).Keeps := by
  unfold checkPowerState
  (repeat' first | apply checks_keeps | split) <;> first | exact keeps_id _ rfl | exact withSlots_keeps _ _ _ _ (keeps_id _ rfl) | exact storeServe_keeps _ _ _ _ _ | (intro s; simp) | (intro s; simp [Serve.group, Serve.stage])

theorem checkSoftReset_keeps (q : Call) (_s : State) : (checkSoftReset q _s).Keeps := by
  unfold checkSoftReset
  (repeat' first | apply checks_keeps | split) <;> first | exact keeps_id _ rfl | exact withSlots_keeps _ _ _ _ (keeps_id _ rfl) | exact storeServe_keeps _ _ _ _ _ | (intro s; simp) | (intro s; simp [Serve.group, Serve.stage])

theorem checkInject_keeps (q : Call) (_s : State) : (checkInject q _s).Keeps := by
  unfold checkInject
  (repeat' first | apply checks_keeps | split) <;> first | exact keeps_id _ rfl | exact withSlots_keeps _ _ _ _ (keeps_id _ rfl) | exact storeServe_keeps _ _ _ _ _ | (intro s; simp) | (intro s; simp [Serve.group, Serve.stage])

theorem checkRefKill_keeps (q : Call) (_s : State) : (checkRefKill q _s).Keeps := by
  unfold checkRefKill
  (repeat' first | apply checks_keeps | split) <;> first | exact keeps_id _ rfl | exact withSlots_keeps _ _ _ _ (keeps_id _ rfl) | exact storeServe_keeps _ _ _ _ _ | (intro s; simp) | (intro s; simp [Serve.group, Serve.stage])

theorem checkSlotOverrun_keeps (q : Call) (_s : State) : (checkSlotOverrun q _s).Keeps := by
  unfold checkSlotOverrun
  (repeat' first | apply checks_keeps | split) <;> first | exact keeps_id _ rfl | exact withSlots_keeps _ _ _ _ (keeps_id _ rfl) | exact storeServe_keeps _ _ _ _ _ | (intro s; simp) | (intro s; simp [Serve.group, Serve.stage])

theorem checkDrvTest_keeps (q : Call) (s : State) : (checkDrvTest q s).Keeps := by
  unfold checkDrvTest
  (repeat' first | apply checks_keeps | split) <;> first | exact keeps_id _ rfl | exact withSlots_keeps _ _ _ _ (keeps_id _ rfl) | exact storeServe_keeps _ _ _ _ _ | (intro s; simp) | (intro s; simp [Serve.group, Serve.stage])

theorem checkNop_keeps (q : Call) (_s : State) : (checkNop q _s).Keeps := by
  unfold checkNop
  (repeat' first | apply checks_keeps | split) <;> first | exact keeps_id _ rfl | exact withSlots_keeps _ _ _ _ (keeps_id _ rfl) | exact storeServe_keeps _ _ _ _ _ | (intro s; simp) | (intro s; simp [Serve.group, Serve.stage])

theorem checkAudit_keeps (q : Call) (s : State) : (checkAudit q s).Keeps := by
  unfold checkAudit
  (repeat' first | apply checks_keeps | split) <;> first | exact keeps_id _ rfl | exact withSlots_keeps _ _ _ _ (keeps_id _ rfl) | exact storeServe_keeps _ _ _ _ _ | (intro s; simp) | (intro s; simp [Serve.group, Serve.stage])

theorem plain_keeps (op : BitVec 16) (q : Call) (_s : State) : (plain op q _s).Keeps := by
  exact checkPlainRead_keeps _ _

theorem indexed_keeps (op : BitVec 16) (n : Nat) (q : Call) (_s : State) : (indexed op n q _s).Keeps := by
  exact checkIndexRead_keeps _ _ _

theorem opSystem_keeps (f : Nat) (x : OpInfo) (h : opSystem f = some x) (q : Call) (s : State) : (x.2 q s).Keeps := by
  revert h; unfold opSystem; split <;> intro h <;> cases h
  · exact checkNop_keeps q s
  · exact checkAudit_keeps q s
  · exact checkOutputsRelease_keeps q s
  · exact checkPowerState_keeps q s
  · exact checkSoftReset_keeps q s
  · exact plain_keeps 0x0006 q s

theorem opRefs_keeps (f : Nat) (x : OpInfo) (h : opRefs f = some x) (q : Call) (s : State) : (x.2 q s).Keeps := by
  revert h; unfold opRefs; split <;> intro h <;> cases h
  · exact checkRefInput_keeps q s
  · exact indexed_keeps 0x1011 6 q s
  · exact checkRefMon_keeps q s
  · exact indexed_keeps 0x1013 8 q s
  · exact checkRefRank_keeps q s
  · exact indexed_keeps 0x1015 8 q s
  · exact plain_keeps 0x1020 q s
  · exact checkTdcArm_keeps q s
  · exact checkTdcResult_keeps q s

theorem opLoops_keeps (f : Nat) (x : OpInfo) (h : opLoops f = some x) (q : Call) (s : State) : (x.2 q s).Keeps := by
  revert h; unfold opLoops; split <;> intro h <;> cases h
  · exact checkForce_keeps q s
  · exact plain_keeps 0x2012 q s
  · exact checkLoop_keeps q s
  · exact plain_keeps 0x2021 q s
  · exact checkStile_keeps q s
  · exact plain_keeps 0x2023 q s
  · exact plain_keeps 0x2030 q s
  · exact checkHold_keeps q s
  · exact checkNewOsc_keeps q s
  · exact plain_keeps 0x2036 q s
  · exact checkModelWrite_keeps q s
  · exact checkStep_keeps q s
  · exact checkTallyCancel_keeps q s
  · exact checkTallyRead_keeps q s

theorem opOuts_keeps (f : Nat) (x : OpInfo) (h : opOuts f = some x) (q : Call) (s : State) : (x.2 q s).Keeps := by
  revert h; unfold opOuts; split <;> intro h <;> cases h
  · exact checkVco_keeps q s
  · exact plain_keeps 0x3011 q s
  · exact checkPaddock_keeps q s
  · exact indexed_keeps 0x3013 4 q s
  · exact checkOut_keeps q s
  · exact indexed_keeps 0x3015 16 q s
  · exact checkOutDelay_keeps q s
  · exact checkGateWindow_keeps q s
  · exact checkGateFlush_keeps q s
  · exact indexed_keeps 0x3020 16 q s
  · exact checkMon_keeps q s
  · exact plain_keeps 0x3023 q s

theorem opTime_keeps (f : Nat) (x : OpInfo) (h : opTime f = some x) (q : Call) (s : State) : (x.2 q s).Keeps := by
  revert h; unfold opTime; split <;> intro h <;> cases h
  · exact checkAlign_keeps q s
  · exact indexed_keeps 0x4011 16 q s
  · exact checkGather_keeps q s
  · exact checkTime_keeps q s
  · exact plain_keeps 0x4015 q s
  · exact checkTimeWrite_keeps q s
  · exact plain_keeps 0x4018 q s

theorem opShaft_keeps (f : Nat) (x : OpInfo) (h : opShaft f = some x) (q : Call) (s : State) : (x.2 q s).Keeps := by
  revert h; unfold opShaft; split <;> intro h <;> cases h
  · exact checkSsct_keeps q s
  · exact plain_keeps 0x5011 q s
  · exact checkSsctLoad_keeps q s
  · exact checkSsctRead_keeps q s
  · exact checkSsctSave_keeps q s
  · exact plain_keeps 0x5018 q s

theorem opRadio_keeps (f : Nat) (x : OpInfo) (h : opRadio f = some x) (q : Call) (s : State) : (x.2 q s).Keeps := by
  revert h; unfold opRadio; split <;> intro h <;> cases h
  · exact checkRf_keeps q s
  · exact plain_keeps 0x6011 q s
  · exact checkChanWrite_keeps q s
  · exact indexed_keeps 0x6014 64 q s
  · exact checkRfRx_keeps q s
  · exact checkRfTx_keeps q s
  · exact checkRfCapture_keeps q s
  · exact checkRfCal_keeps q s
  · exact plain_keeps 0x6020 q s

theorem opCommons_keeps (f : Nat) (x : OpInfo) (h : opCommons f = some x) (q : Call) (s : State) : (x.2 q s).Keeps := by
  revert h; unfold opCommons; split <;> intro h <;> cases h
  · exact checkCommons_keeps q s
  · exact plain_keeps 0x7011 q s
  · exact checkMgmt_keeps q s
  · exact plain_keeps 0x7013 q s
  · exact checkCommonsKey_keeps q s
  · exact plain_keeps 0x7016 q s

theorem opDrove_keeps (f : Nat) (x : OpInfo) (h : opDrove f = some x) (q : Call) (s : State) : (x.2 q s).Keeps := by
  revert h; unfold opDrove; split <;> intro h <;> cases h
  · exact checkDrove_keeps q s
  · exact plain_keeps 0x8011 q s
  · exact checkDroveCmd_keeps q s
  · exact plain_keeps 0x8014 q s

theorem opStore_keeps (f : Nat) (x : OpInfo) (h : opStore f = some x) (q : Call) (s : State) : (x.2 q s).Keeps := by
  revert h; unfold opStore; split <;> intro h <;> cases h
  · exact checkConfigSave_keeps q s
  · exact checkPageWrite_keeps q s
  · exact checkPageErase_keeps q s
  · exact checkPageRead_keeps q s
  · exact plain_keeps 0x9018 q s
  · exact checkPageWear_keeps q s
  · exact checkPatchWrite_keeps q s

theorem opEvents_keeps (f : Nat) (x : OpInfo) (h : opEvents f = some x) (q : Call) (s : State) : (x.2 q s).Keeps := by
  revert h; unfold opEvents; split <;> intro h <;> cases h
  · exact checkEvtConfig_keeps q s
  · exact checkEvtNotify_keeps q s
  · exact checkEvtStatus_keeps q s
  · exact checkEvtClear_keeps q s
  · exact checkEvtCounters_keeps q s
  · exact checkEvtQueue_keeps q s

theorem opPins_keeps (f : Nat) (x : OpInfo) (h : opPins f = some x) (q : Call) (s : State) : (x.2 q s).Keeps := by
  revert h; unfold opPins; split <;> intro h <;> cases h
  · exact checkPin_keeps q s
  · exact indexed_keeps 0xB011 24 q s
  · exact checkPinLock_keeps q s
  · exact plain_keeps 0xB014 q s

theorem opPens_keeps (f : Nat) (x : OpInfo) (h : opPens f = some x) (q : Call) (s : State) : (x.2 q s).Keeps := by
  revert h; unfold opPens; split <;> intro h <;> cases h
  · exact checkOwnerSet_keeps q s
  · exact plain_keeps 0xC012 q s
  · exact checkOwnerLock_keeps q s
  · exact checkPenOp_keeps q s
  · exact checkPenOp_keeps q s
  · exact checkPenOp_keeps q s

theorem opTest_keeps (f : Nat) (x : OpInfo) (h : opTest f = some x) (q : Call) (s : State) : (x.2 q s).Keeps := by
  revert h; unfold opTest; split <;> intro h <;> cases h
  · exact checkInject_keeps q s
  · exact checkRefKill_keeps q s
  · exact checkStoreInject_keeps q s
  · exact checkSlotOverrun_keeps q s
  · exact checkDrvTest_keeps q s
  · exact checkRfTone_keeps q s
  · exact plain_keeps 0xD01C q s

theorem opCrook_keeps (f : Nat) (x : OpInfo) (h : opCrook f = some x) (q : Call) (s : State) : (x.2 q s).Keeps := by
  revert h; unfold opCrook; split <;> intro h <;> cases h
  · exact checkCrookStep_keeps q s
  · exact checkCrookGather_keeps q s
  · exact checkCrookClear_keeps q s

theorem opInfo_keeps (op : Nat) (x : OpInfo) (h : opInfo op = some x) (q : Call) (s : State) : (x.2 q s).Keeps := by
  revert h; unfold opInfo; split <;> intro h
  · exact opSystem_keeps _ _ h q s
  · exact opRefs_keeps _ _ h q s
  · exact opLoops_keeps _ _ h q s
  · exact opOuts_keeps _ _ h q s
  · exact opTime_keeps _ _ h q s
  · exact opShaft_keeps _ _ h q s
  · exact opRadio_keeps _ _ h q s
  · exact opCommons_keeps _ _ h q s
  · exact opDrove_keeps _ _ h q s
  · exact opStore_keeps _ _ h q s
  · exact opEvents_keeps _ _ h q s
  · exact opPins_keeps _ _ h q s
  · exact opPens_keeps _ _ h q s
  · exact opTest_keeps _ _ h q s
  · revert h; dsimp only; split <;> intro h <;> cases h; exact checkTelemRead_keeps q s
  · exact opCrook_keeps _ _ h q s

/-- What the interpreter decides of any packet keeps the five figures. -/
theorem decide_keeps (s : State) (k : Packet) : (s.decide_ k).Keeps := by
  unfold State.decide_
  dsimp only
  split
  · exact keeps_id _ rfl
  · split
    · exact keeps_id _ rfl
    · rename_i h
      split
      · exact keeps_id _ rfl
      · exact opInfo_keeps _ _ h _ _

end Sys2Proof.Machine
end

