-- ==== Sys2Proof/Laws/Frame5.lean ====
section
/-! SUPPORT. What every operation of Interp, Boundary leaves alone: the queue of commands, the flash, the fold counter, the ownership
lock and the balance of each total of the ledger. -/

namespace Sys2Proof.Machine

@[simp] theorem just_fst (s : State) : (just s).1 = s := rfl

@[simp] theorem told_fst (x : State × List Byte) : (told x).1 = x.1 := by cases x; rfl

@[simp] theorem commitSystemAt_frame (q : Call) (s : State) (f : Nat) :
    ((commitSystemAt q s f).1).pending = s.pending ∧ ((commitSystemAt q s f).1).store.flash = s.store.flash ∧ ((commitSystemAt q s f).1).clk.absFold = s.clk.absFold ∧ ((commitSystemAt q s f).1).ownLock = s.ownLock ∧ ((commitSystemAt q s f).1).tally.resids = s.tally.resids := by
  unfold commitSystemAt; split <;> simp

@[simp] theorem commitRefsAt_frame (q : Call) (s : State) (f : Nat) :
    ((commitRefsAt q s f).1).pending = s.pending ∧ ((commitRefsAt q s f).1).store.flash = s.store.flash ∧ ((commitRefsAt q s f).1).clk.absFold = s.clk.absFold ∧ ((commitRefsAt q s f).1).ownLock = s.ownLock ∧ ((commitRefsAt q s f).1).tally.resids = s.tally.resids := by
  unfold commitRefsAt; split <;> simp

@[simp] theorem commitLoopsAt_frame (q : Call) (s : State) (f : Nat) :
    ((commitLoopsAt q s f).1).pending = s.pending ∧ ((commitLoopsAt q s f).1).store.flash = s.store.flash ∧ ((commitLoopsAt q s f).1).clk.absFold = s.clk.absFold ∧ ((commitLoopsAt q s f).1).ownLock = s.ownLock ∧ ((commitLoopsAt q s f).1).tally.resids = s.tally.resids := by
  unfold commitLoopsAt; split <;> simp

@[simp] theorem commitOutsAt_frame (q : Call) (s : State) (f : Nat) :
    ((commitOutsAt q s f).1).pending = s.pending ∧ ((commitOutsAt q s f).1).store.flash = s.store.flash ∧ ((commitOutsAt q s f).1).clk.absFold = s.clk.absFold ∧ ((commitOutsAt q s f).1).ownLock = s.ownLock ∧ ((commitOutsAt q s f).1).tally.resids = s.tally.resids := by
  unfold commitOutsAt; split <;> simp

@[simp] theorem commitTimeAt_frame (q : Call) (s : State) (f : Nat) :
    ((commitTimeAt q s f).1).pending = s.pending ∧ ((commitTimeAt q s f).1).store.flash = s.store.flash ∧ ((commitTimeAt q s f).1).clk.absFold = s.clk.absFold ∧ ((commitTimeAt q s f).1).ownLock = s.ownLock ∧ ((commitTimeAt q s f).1).tally.resids = s.tally.resids := by
  unfold commitTimeAt; split <;> simp

@[simp] theorem commitShaftAt_frame (q : Call) (s : State) (f : Nat) :
    ((commitShaftAt q s f).1).pending = s.pending ∧ ((commitShaftAt q s f).1).store.flash = s.store.flash ∧ ((commitShaftAt q s f).1).clk.absFold = s.clk.absFold ∧ ((commitShaftAt q s f).1).ownLock = s.ownLock ∧ ((commitShaftAt q s f).1).tally.resids = s.tally.resids := by
  unfold commitShaftAt; split <;> simp

@[simp] theorem commitRadioAt_frame (q : Call) (s : State) (f : Nat) :
    ((commitRadioAt q s f).1).pending = s.pending ∧ ((commitRadioAt q s f).1).store.flash = s.store.flash ∧ ((commitRadioAt q s f).1).clk.absFold = s.clk.absFold ∧ ((commitRadioAt q s f).1).ownLock = s.ownLock ∧ ((commitRadioAt q s f).1).tally.resids = s.tally.resids := by
  unfold commitRadioAt; split <;> simp

@[simp] theorem commitCommonsAt_frame (q : Call) (s : State) (f : Nat) :
    ((commitCommonsAt q s f).1).pending = s.pending ∧ ((commitCommonsAt q s f).1).store.flash = s.store.flash ∧ ((commitCommonsAt q s f).1).clk.absFold = s.clk.absFold ∧ ((commitCommonsAt q s f).1).ownLock = s.ownLock ∧ ((commitCommonsAt q s f).1).tally.resids = s.tally.resids := by
  unfold commitCommonsAt; split <;> simp

@[simp] theorem commitDroveAt_frame (q : Call) (s : State) (f : Nat) :
    ((commitDroveAt q s f).1).pending = s.pending ∧ ((commitDroveAt q s f).1).store.flash = s.store.flash ∧ ((commitDroveAt q s f).1).clk.absFold = s.clk.absFold ∧ ((commitDroveAt q s f).1).ownLock = s.ownLock ∧ ((commitDroveAt q s f).1).tally.resids = s.tally.resids := by
  unfold commitDroveAt; split <;> simp

@[simp] theorem commitEventsAt_frame (q : Call) (m : Nat) (s : State) (f : Nat) :
    ((commitEventsAt q m s f).1).pending = s.pending ∧ ((commitEventsAt q m s f).1).store.flash = s.store.flash ∧ ((commitEventsAt q m s f).1).clk.absFold = s.clk.absFold ∧ ((commitEventsAt q m s f).1).ownLock = s.ownLock ∧ ((commitEventsAt q m s f).1).tally.resids = s.tally.resids := by
  unfold commitEventsAt; split <;> simp

@[simp] theorem commitPinsAt_frame (q : Call) (s : State) (f : Nat) :
    ((commitPinsAt q s f).1).pending = s.pending ∧ ((commitPinsAt q s f).1).store.flash = s.store.flash ∧ ((commitPinsAt q s f).1).clk.absFold = s.clk.absFold ∧ ((commitPinsAt q s f).1).ownLock = s.ownLock ∧ ((commitPinsAt q s f).1).tally.resids = s.tally.resids := by
  unfold commitPinsAt; split <;> simp

@[simp] theorem commitPensAt_frame (q : Call) (s : State) (f : Nat) :
    ((commitPensAt q s f).1).pending = s.pending ∧ ((commitPensAt q s f).1).store.flash = s.store.flash ∧ ((commitPensAt q s f).1).clk.absFold = s.clk.absFold ∧ ((commitPensAt q s f).1).tally.resids = s.tally.resids := by
  unfold commitPensAt; split <;> simp

theorem commitPensAt_ownLock (q : Call) (s : State) (f : Nat) (h : s.ownLock = true) : (commitPensAt q s f).1.ownLock = true := by
  unfold commitPensAt; split <;> simp [h, commitOwnerLock]

@[simp] theorem commitTestAt_frame (q : Call) (s : State) (f : Nat) :
    ((commitTestAt q s f).1).pending = s.pending ∧ ((commitTestAt q s f).1).store.flash = s.store.flash ∧ ((commitTestAt q s f).1).clk.absFold = s.clk.absFold ∧ ((commitTestAt q s f).1).ownLock = s.ownLock ∧ ((commitTestAt q s f).1).tally.resids = s.tally.resids := by
  unfold commitTestAt; split <;> simp

@[simp] theorem commitTelemAt_frame (q : Call) (m : Nat) (s : State) (f : Nat) :
    ((commitTelemAt q m s f).1).pending = s.pending ∧ ((commitTelemAt q m s f).1).store.flash = s.store.flash ∧ ((commitTelemAt q m s f).1).clk.absFold = s.clk.absFold ∧ ((commitTelemAt q m s f).1).ownLock = s.ownLock ∧ ((commitTelemAt q m s f).1).tally.resids = s.tally.resids := by
  unfold commitTelemAt; split <;> simp

@[simp] theorem commitCrookAt_frame (q : Call) (s : State) (f : Nat) :
    ((commitCrookAt q s f).1).pending = s.pending ∧ ((commitCrookAt q s f).1).store.flash = s.store.flash ∧ ((commitCrookAt q s f).1).clk.absFold = s.clk.absFold ∧ ((commitCrookAt q s f).1).ownLock = s.ownLock ∧ ((commitCrookAt q s f).1).tally.resids = s.tally.resids := by
  unfold commitCrookAt; split <;> simp

@[simp] theorem commitOp_frame (g : Staged) (s : State) :
    ((commitOp g s).1).pending = s.pending ∧ ((commitOp g s).1).store.flash = s.store.flash ∧ ((commitOp g s).1).clk.absFold = s.clk.absFold ∧ ((commitOp g s).1).tally.resids = s.tally.resids := by
  simp only [commitOp]
  split <;> simp

/-- A staged command takes no ownership lock away. -/
theorem commitOp_ownLock (g : Staged) (s : State) (h : s.ownLock = true) : (commitOp g s).1.ownLock = true := by
  simp only [commitOp]
  split <;> first | exact commitPensAt_ownLock _ _ _ h | simp [h]

@[simp] theorem State.markAir_frame (s : State) (k : Packet) :
    (State.markAir s k).pending = s.pending ∧ (State.markAir s k).store.flash = s.store.flash ∧ (State.markAir s k).clk.absFold = s.clk.absFold ∧ (State.markAir s k).ownLock = s.ownLock ∧ (State.markAir s k).tally.resids = s.tally.resids := by
  refine ⟨?_, ?_, ?_, ?_, ?_⟩ <;> simp only [State.markAir] <;> (repeat' split) <;> first | (simp; done) | rfl

@[simp] theorem State.serve_frame (s : State) (k : Packet) (sv : Serve) (h : sv.Keeps) :
    ((s.serve k sv).1).pending = s.pending ∧ ((s.serve k sv).1).store.flash = s.store.flash ∧ ((s.serve k sv).1).clk.absFold = s.clk.absFold ∧ ((s.serve k sv).1).ownLock = s.ownLock ∧ ((s.serve k sv).1).tally.resids = s.tally.resids := by
  have h1 := h (s.updIo k.call.pen fun p => { p with queue := p.queue.erase k, pinStep := none })
  simp only [State.serve]
  simpa using h1

@[simp] theorem State.stage_frame (s : State) (g : Option Staged) :
    (State.stage s g).pending = s.pending ∧ (State.stage s g).store.flash = s.store.flash ∧ (State.stage s g).clk.absFold = s.clk.absFold ∧ (State.stage s g).ownLock = s.ownLock ∧ (State.stage s g).tally.resids = s.tally.resids := by
  refine ⟨?_, ?_, ?_, ?_, ?_⟩ <;> simp only [State.stage] <;> (repeat' split) <;> first | (simp; done) | rfl

@[simp] theorem State.defer_frame (s : State) (k : Packet) :
    (State.defer s k).pending = s.pending ∧ (State.defer s k).store.flash = s.store.flash ∧ (State.defer s k).clk.absFold = s.clk.absFold ∧ (State.defer s k).ownLock = s.ownLock ∧ (State.defer s k).tally.resids = s.tally.resids := by
  refine ⟨?_, ?_, ?_, ?_, ?_⟩ <;> simp only [State.defer] <;> (repeat' split) <;> first | (simp; done) | rfl

@[simp] theorem State.interpret_frame (s : State) (k : Packet) :
    ((s.interpret k).1).pending = s.pending ∧ ((s.interpret k).1).store.flash = s.store.flash ∧ ((s.interpret k).1).clk.absFold = s.clk.absFold ∧ ((s.interpret k).1).ownLock = s.ownLock ∧ ((s.interpret k).1).tally.resids = s.tally.resids := by
  have h := decide_keeps s k
  refine ⟨?_, ?_, ?_, ?_, ?_⟩ <;> simp only [State.interpret] <;> split <;> simp [h]

@[simp] theorem State.turn_frame (s : State) (p : Pen) :
    (State.turn s p).pending = s.pending ∧ (State.turn s p).store.flash = s.store.flash ∧ (State.turn s p).clk.absFold = s.clk.absFold ∧ (State.turn s p).ownLock = s.ownLock ∧ (State.turn s p).tally.resids = s.tally.resids := by
  refine ⟨?_, ?_, ?_, ?_, ?_⟩ <;> simp only [State.turn] <;> (repeat' split) <;> first | (simp; done) | rfl

@[simp] theorem State.controlPass_frame (n : Nat) (s : State) :
    (State.controlPass n s).pending = s.pending ∧ (State.controlPass n s).store.flash = s.store.flash ∧ (State.controlPass n s).clk.absFold = s.clk.absFold ∧ (State.controlPass n s).ownLock = s.ownLock ∧ (State.controlPass n s).tally.resids = s.tally.resids := by
  induction n generalizing s with
  | zero => simp [State.controlPass]
  | succ n ih => refine ⟨?_, ?_, ?_, ?_, ?_⟩ <;> simp only [State.controlPass] <;> split <;> simp [ih]

@[simp] theorem State.serveControl_frame (s : State) :
    (State.serveControl s).pending = s.pending ∧ (State.serveControl s).store.flash = s.store.flash ∧ (State.serveControl s).clk.absFold = s.clk.absFold ∧ (State.serveControl s).ownLock = s.ownLock ∧ (State.serveControl s).tally.resids = s.tally.resids := by
  refine ⟨?_, ?_, ?_, ?_, ?_⟩ <;> simp only [State.serveControl] <;> (repeat' split) <;> first | (simp; done) | rfl

@[simp] theorem State.serveFirst_frame (s : State) (l : List Packet) :
    ((s.serveFirst l).1).pending = s.pending ∧ ((s.serveFirst l).1).store.flash = s.store.flash ∧ ((s.serveFirst l).1).clk.absFold = s.clk.absFold ∧ ((s.serveFirst l).1).ownLock = s.ownLock ∧ ((s.serveFirst l).1).tally.resids = s.tally.resids := by
  induction l generalizing s with
  | nil => simp [State.serveFirst]
  | cons k r ih =>
    have h := decide_keeps s k
    refine ⟨?_, ?_, ?_, ?_, ?_⟩ <;> simp only [State.serveFirst] <;> split <;> simp [h, ih]

@[simp] theorem State.finishBegun_frame (s : State) :
    (State.finishBegun s).pending = s.pending ∧ (State.finishBegun s).store.flash = s.store.flash ∧ (State.finishBegun s).clk.absFold = s.clk.absFold ∧ (State.finishBegun s).ownLock = s.ownLock ∧ (State.finishBegun s).tally.resids = s.tally.resids := by
  refine ⟨?_, ?_, ?_, ?_, ?_⟩ <;> simp only [State.finishBegun] <;> (repeat' split) <;> first | (simp; done) | rfl

@[simp] theorem State.longPass_frame (n : Nat) (s : State) :
    (State.longPass n s).pending = s.pending ∧ (State.longPass n s).store.flash = s.store.flash ∧ (State.longPass n s).clk.absFold = s.clk.absFold ∧ (State.longPass n s).ownLock = s.ownLock ∧ (State.longPass n s).tally.resids = s.tally.resids := by
  induction n generalizing s with
  | zero => simp [State.longPass]
  | succ n ih => refine ⟨?_, ?_, ?_, ?_, ?_⟩ <;> simp only [State.longPass] <;> (repeat' split) <;> simp [ih]

@[simp] theorem State.beginLong_frame (s : State) :
    (State.beginLong s).pending = s.pending ∧ (State.beginLong s).store.flash = s.store.flash ∧ (State.beginLong s).clk.absFold = s.clk.absFold ∧ (State.beginLong s).ownLock = s.ownLock ∧ (State.beginLong s).tally.resids = s.tally.resids := by
  refine ⟨?_, ?_, ?_, ?_, ?_⟩ <;> simp only [State.beginLong] <;> (repeat' split) <;> first | (simp; done) | rfl

@[simp] theorem State.interpSlot_frame (s : State) (done : Nat) (begun : Bool) :
    (State.interpSlot s done begun).pending = s.pending ∧ (State.interpSlot s done begun).store.flash = s.store.flash ∧ (State.interpSlot s done begun).clk.absFold = s.clk.absFold ∧ (State.interpSlot s done begun).ownLock = s.ownLock ∧ (State.interpSlot s done begun).tally.resids = s.tally.resids := by
  refine ⟨?_, ?_, ?_, ?_, ?_⟩ <;> simp only [State.interpSlot] <;> (repeat' split) <;> first | (simp; done) | rfl

@[simp] theorem State.longUntil_frame (n : Nat) (k : Packet) (s : State) :
    (State.longUntil n k s).pending = s.pending ∧ (State.longUntil n k s).store.flash = s.store.flash ∧ (State.longUntil n k s).clk.absFold = s.clk.absFold ∧ (State.longUntil n k s).ownLock = s.ownLock ∧ (State.longUntil n k s).tally.resids = s.tally.resids := by
  induction n generalizing s with
  | zero => simp [State.longUntil]
  | succ n ih => refine ⟨?_, ?_, ?_, ?_, ?_⟩ <;> simp only [State.longUntil] <;> (repeat' split) <;> simp [ih]

@[simp] theorem State.reach_frame (s : State) (k : Packet) :
    (State.reach s k).pending = s.pending ∧ (State.reach s k).store.flash = s.store.flash ∧ (State.reach s k).clk.absFold = s.clk.absFold ∧ (State.reach s k).ownLock = s.ownLock ∧ (State.reach s k).tally.resids = s.tally.resids := by
  refine ⟨?_, ?_, ?_, ?_, ?_⟩ <;> simp only [State.reach] <;> (repeat' split) <;> first | (simp; done) | rfl

@[simp] theorem State.serveWaiting_frame (s : State) (p : Pen) :
    (State.serveWaiting s p).pending = s.pending ∧ (State.serveWaiting s p).store.flash = s.store.flash ∧ (State.serveWaiting s p).clk.absFold = s.clk.absFold ∧ (State.serveWaiting s p).ownLock = s.ownLock ∧ (State.serveWaiting s p).tally.resids = s.tally.resids := by
  refine ⟨?_, ?_, ?_, ?_, ?_⟩ <;> simp only [State.serveWaiting] <;> (repeat' split) <;> first | (simp; done) | rfl

@[simp] theorem State.jobDone_frame (s : State) (p : Pen) (eng : Engine) :
    (State.jobDone s p eng).pending = s.pending ∧ (State.jobDone s p eng).store.flash = s.store.flash ∧ (State.jobDone s p eng).clk.absFold = s.clk.absFold ∧ (State.jobDone s p eng).ownLock = s.ownLock ∧ (State.jobDone s p eng).tally.resids = s.tally.resids := by
  refine ⟨?_, ?_, ?_, ?_, ?_⟩ <;> simp only [State.jobDone] <;> (repeat' split) <;> first | (simp; done) | rfl

@[simp] theorem State.endPenReset_frame (s : State) (p : Pen) :
    (State.endPenReset s p).pending = s.pending ∧ (State.endPenReset s p).store.flash = s.store.flash ∧ (State.endPenReset s p).clk.absFold = s.clk.absFold ∧ (State.endPenReset s p).ownLock = s.ownLock ∧ (State.endPenReset s p).tally.resids = s.tally.resids := by
  refine ⟨?_, ?_, ?_, ?_, ?_⟩ <;> simp only [State.endPenReset] <;> (repeat' split) <;> first | (simp; done) | rfl

@[simp] theorem deliver_frame (op : BitVec 16) (q : Call) (s : State) :
    (deliver op q s).pending = s.pending ∧ (deliver op q s).store.flash = s.store.flash ∧ (deliver op q s).clk.absFold = s.clk.absFold ∧ (deliver op q s).ownLock = s.ownLock ∧ (deliver op q s).tally.resids = s.tally.resids := by
  refine ⟨?_, ?_, ?_, ?_, ?_⟩ <;> simp only [deliver] <;> (repeat' split) <;> first | (simp; done) | rfl

/-! ### Scrub -/

@[simp] theorem State.withShadow_frame (s x : State) :
    (State.withShadow s x).pending = s.pending ∧ (State.withShadow s x).store.flash = s.store.flash ∧ (State.withShadow s x).clk.absFold = s.clk.absFold ∧ (State.withShadow s x).ownLock = s.ownLock ∧ (State.withShadow s x).tally.resids = s.tally.resids := ⟨rfl, rfl, rfl, rfl, rfl⟩

@[simp] theorem State.withLive_frame (s x : State) :
    (State.withLive s x).pending = s.pending ∧ (State.withLive s x).store.flash = s.store.flash ∧ (State.withLive s x).clk.absFold = s.clk.absFold ∧ (State.withLive s x).ownLock = s.ownLock ∧ (State.withLive s x).tally.resids = s.tally.resids := ⟨rfl, rfl, rfl, rfl, rfl⟩

@[simp] theorem State.onShadow_frame (s : State) :
    (State.onShadow s).pending = s.pending ∧ (State.onShadow s).store.flash = s.store.flash ∧ (State.onShadow s).clk.absFold = s.clk.absFold ∧ (State.onShadow s).ownLock = s.ownLock ∧ (State.onShadow s).tally.resids = s.tally.resids := ⟨rfl, rfl, rfl, rfl, rfl⟩

@[simp] theorem State.shadowPiece_frame (s : State) (k : Nat × Nat) :
    (State.shadowPiece s k).pending = s.pending ∧ (State.shadowPiece s k).store.flash = s.store.flash ∧ (State.shadowPiece s k).clk.absFold = s.clk.absFold ∧ (State.shadowPiece s k).ownLock = s.ownLock ∧ (State.shadowPiece s k).tally.resids = s.tally.resids := State.withShadow_frame _ _

@[simp] theorem rebuildShadow_frame (w : Nat) (s : State) :
    (rebuildShadow w s).pending = s.pending ∧ (rebuildShadow w s).store.flash = s.store.flash ∧ (rebuildShadow w s).clk.absFold = s.clk.absFold ∧ (rebuildShadow w s).ownLock = s.ownLock ∧ (rebuildShadow w s).tally.resids = s.tally.resids := by
  unfold rebuildShadow
  exact ⟨forEach_pending _ _ (fun n s => (State.shadowPiece_frame s _).1) _, forEach_flash _ _ (fun n s => (State.shadowPiece_frame s _).2.1) _, forEach_absFold _ _ (fun n s => (State.shadowPiece_frame s _).2.2.1) _, forEach_ownLock _ _ (fun n s => (State.shadowPiece_frame s _).2.2.2.1) _, forEach_resids _ _ (fun n s => (State.shadowPiece_frame s _).2.2.2.2) _⟩

@[simp] theorem State.checkWord_frame (w : Nat) (demand : Bool) (s : State) :
    (State.checkWord rebuildShadow w demand s).pending = s.pending ∧ (State.checkWord rebuildShadow w demand s).store.flash = s.store.flash ∧ (State.checkWord rebuildShadow w demand s).clk.absFold = s.clk.absFold ∧ (State.checkWord rebuildShadow w demand s).ownLock = s.ownLock ∧ (State.checkWord rebuildShadow w demand s).tally.resids = s.tally.resids := by
  refine ⟨?_, ?_, ?_, ?_, ?_⟩ <;> simp only [State.checkWord] <;> (repeat' split) <;> simp -implicitDefEqProofs

@[simp] theorem State.strikeLive_frame (x : Nat × List Byte) (s : State) :
    (State.strikeLive x s).pending = s.pending ∧ (State.strikeLive x s).store.flash = s.store.flash ∧ (State.strikeLive x s).clk.absFold = s.clk.absFold ∧ (State.strikeLive x s).ownLock = s.ownLock ∧ (State.strikeLive x s).tally.resids = s.tally.resids := by
  exact State.withLive_frame _ _

@[simp] theorem State.sramAct_frame (a : SramAct) (s : State) :
    (State.sramAct a s).pending = s.pending ∧ (State.sramAct a s).store.flash = s.store.flash ∧ (State.sramAct a s).clk.absFold = s.clk.absFold ∧ (State.sramAct a s).ownLock = s.ownLock ∧ (State.sramAct a s).tally.resids = s.tally.resids := by
  refine ⟨?_, ?_, ?_, ?_, ?_⟩ <;> simp only [State.sramAct] <;> (repeat' split) <;> first | (simp -implicitDefEqProofs; done) | rfl

@[simp] theorem State.checkShadow_frame (s : State) (n : Nat) :
    (State.checkShadow s n).pending = s.pending ∧ (State.checkShadow s n).store.flash = s.store.flash ∧ (State.checkShadow s n).clk.absFold = s.clk.absFold ∧ (State.checkShadow s n).ownLock = s.ownLock ∧ (State.checkShadow s n).tally.resids = s.tally.resids := by
  refine ⟨?_, ?_, ?_, ?_, ?_⟩ <;> simp only [State.checkShadow] <;> (repeat' split) <;> first | (simp -implicitDefEqProofs; done) | rfl

@[simp] theorem State.scrubWord_frame (k : Nat) (s : State) :
    (State.scrubWord k s).pending = s.pending ∧ (State.scrubWord k s).store.flash = s.store.flash ∧ (State.scrubWord k s).clk.absFold = s.clk.absFold ∧ (State.scrubWord k s).ownLock = s.ownLock ∧ (State.scrubWord k s).tally.resids = s.tally.resids := by
  exact State.checkWord_frame _ _ s

@[simp] theorem State.scrubSlot_frame (s : State) (acts : List SramAct) (live : List (Nat × List Byte)) :
    (State.scrubSlot s acts live).pending = s.pending ∧ (State.scrubSlot s acts live).store.flash = s.store.flash ∧ (State.scrubSlot s acts live).clk.absFold = s.clk.absFold ∧ (State.scrubSlot s acts live).ownLock = s.ownLock ∧ (State.scrubSlot s acts live).tally.resids = s.tally.resids := by
  refine ⟨?_, ?_, ?_, ?_, ?_⟩ <;> simp only [State.scrubSlot] <;> simp -implicitDefEqProofs

@[simp] theorem State.selfCommit_frame (s : State) (op : Nat) (p : List Byte) :
    (State.selfCommit s op p).pending = s.pending ∧ (State.selfCommit s op p).store.flash = s.store.flash ∧ (State.selfCommit s op p).clk.absFold = s.clk.absFold ∧ (State.selfCommit s op p).tally.resids = s.tally.resids := commitOp_frame _ s

@[simp] theorem State.restoreShadow_frame (s : State) :
    (State.restoreShadow s).pending = s.pending ∧ (State.restoreShadow s).store.flash = s.store.flash ∧ (State.restoreShadow s).clk.absFold = s.clk.absFold ∧ (State.restoreShadow s).tally.resids = s.tally.resids := by
  unfold State.restoreShadow
  exact ⟨forEach_pending _ _ (fun n s => (State.selfCommit_frame s _ _).1) _, forEach_flash _ _ (fun n s => (State.selfCommit_frame s _ _).2.1) _, forEach_absFold _ _ (fun n s => (State.selfCommit_frame s _ _).2.2.1) _, forEach_resids _ _ (fun n s => (State.selfCommit_frame s _ _).2.2.2) _⟩

/-- Settings put back from the shadow take no ownership lock away. -/
theorem State.restoreShadow_ownLock (s : State) (h : s.ownLock = true) : s.restoreShadow.ownLock = true := by
  unfold State.restoreShadow
  generalize s.bg.restore = l
  suffices g : ∀ x : State, x.ownLock = true →
      (forEach l (fun n s => s.selfCommit (shadowPieceOf n).1 (s.onShadow.pieceBytes (shadowPieceOf n))) x).ownLock = true from g _ h
  clear h
  induction l with
  | nil => exact fun _ h => h
  | cons n r ih => exact fun x h => ih _ (commitOp_ownLock _ x h)

@[simp] theorem State.postReply_frame (s : State) (r : Reply) :
    (State.postReply s r).pending = s.pending ∧ (State.postReply s r).store.flash = s.store.flash ∧ (State.postReply s r).clk.absFold = s.clk.absFold ∧ (State.postReply s r).ownLock = s.ownLock ∧ (State.postReply s r).tally.resids = s.tally.resids := by
  refine ⟨?_, ?_, ?_, ?_, ?_⟩ <;> simp only [State.postReply] <;> (repeat' split) <;> first | (simp; done) | rfl

@[simp] theorem State.noteAccepted_frame (s : State) (g : Staged) :
    (State.noteAccepted s g).pending = s.pending ∧ (State.noteAccepted s g).store.flash = s.store.flash ∧ (State.noteAccepted s g).clk.absFold = s.clk.absFold ∧ (State.noteAccepted s g).ownLock = s.ownLock ∧ (State.noteAccepted s g).tally.resids = s.tally.resids := by
  refine ⟨?_, ?_, ?_, ?_, ?_⟩ <;> simp only [State.noteAccepted] <;> (repeat' split) <;> first | (simp; done) | rfl

@[simp] theorem State.post_frame (s : State) (g : Staged) (told : Option (List Byte)) :
    (State.post s g told).pending = s.pending ∧ (State.post s g told).store.flash = s.store.flash ∧ (State.post s g told).clk.absFold = s.clk.absFold ∧ (State.post s g told).ownLock = s.ownLock ∧ (State.post s g told).tally.resids = s.tally.resids := by
  refine ⟨?_, ?_, ?_, ?_, ?_⟩ <;> simp only [State.post] <;> (repeat' split) <;> first | (simp; done) | rfl

@[simp] theorem State.settleReplies_frame (s : State) :
    (State.settleReplies s).pending = s.pending ∧ (State.settleReplies s).store.flash = s.store.flash ∧ (State.settleReplies s).clk.absFold = s.clk.absFold ∧ (State.settleReplies s).ownLock = s.ownLock ∧ (State.settleReplies s).tally.resids = s.tally.resids := by
  refine ⟨?_, ?_, ?_, ?_, ?_⟩ <;> simp only [State.settleReplies] <;> (repeat' split) <;> first | (simp; done) | rfl

@[simp] theorem State.replySettling_frame (s : State) (p : Pen) :
    (State.replySettling s p).pending = s.pending ∧ (State.replySettling s p).store.flash = s.store.flash ∧ (State.replySettling s p).clk.absFold = s.clk.absFold ∧ (State.replySettling s p).ownLock = s.ownLock ∧ (State.replySettling s p).tally.resids = s.tally.resids := by
  refine ⟨?_, ?_, ?_, ?_, ?_⟩ <;> simp only [State.replySettling] <;> (repeat' split) <;> first | (simp; done) | rfl

@[simp] theorem State.dropUnits_frame (s : State) (p : Pen) (cap tx begun : Bool) :
    (State.dropUnits s p cap tx begun).pending = s.pending ∧ (State.dropUnits s p cap tx begun).store.flash = s.store.flash ∧ (State.dropUnits s p cap tx begun).clk.absFold = s.clk.absFold ∧ (State.dropUnits s p cap tx begun).ownLock = s.ownLock ∧ (State.dropUnits s p cap tx begun).tally.resids = s.tally.resids := by
  refine ⟨?_, ?_, ?_, ?_, ?_⟩ <;> simp only [State.dropUnits] <;> (repeat' split) <;> first | (simp; done) | rfl

@[simp] theorem State.penReset_frame (s : State) (p : Pen) (gone : List Staged) :
    (State.penReset s p gone).pending = s.pending ∧ (State.penReset s p gone).store.flash = s.store.flash ∧ (State.penReset s p gone).clk.absFold = s.clk.absFold ∧ (State.penReset s p gone).ownLock = s.ownLock ∧ (State.penReset s p gone).tally.resids = s.tally.resids := by
  refine ⟨?_, ?_, ?_, ?_, ?_⟩ <;> simp only [State.penReset] <;> (repeat' split) <;> first | (simp; done) | rfl

@[simp] theorem State.penTrigger_frame (s : State) (p : Pen) (disable : Bool) (gone : List Staged) :
    (State.penTrigger s p disable gone).pending = s.pending ∧ (State.penTrigger s p disable gone).store.flash = s.store.flash ∧ (State.penTrigger s p disable gone).clk.absFold = s.clk.absFold ∧ (State.penTrigger s p disable gone).ownLock = s.ownLock ∧ (State.penTrigger s p disable gone).tally.resids = s.tally.resids := by
  refine ⟨?_, ?_, ?_, ?_, ?_⟩ <;> simp only [State.penTrigger] <;> (repeat' split) <;> first | (simp; done) | rfl

@[simp] theorem State.pinTriggers_frame (s : State) (p : Pen) (l : List Staged) :
    (State.pinTriggers s p l).pending = s.pending ∧ (State.pinTriggers s p l).store.flash = s.store.flash ∧ (State.pinTriggers s p l).clk.absFold = s.clk.absFold ∧ (State.pinTriggers s p l).ownLock = s.ownLock ∧ (State.pinTriggers s p l).tally.resids = s.tally.resids := by
  refine ⟨?_, ?_, ?_, ?_, ?_⟩ <;> simp only [State.pinTriggers] <;> simp -implicitDefEqProofs

@[simp] theorem State.latePins_frame (s : State) :
    (State.latePins s).pending = s.pending ∧ (State.latePins s).store.flash = s.store.flash ∧ (State.latePins s).clk.absFold = s.clk.absFold ∧ (State.latePins s).ownLock = s.ownLock ∧ (State.latePins s).tally.resids = s.tally.resids := by
  refine ⟨?_, ?_, ?_, ?_, ?_⟩ <;> simp only [State.latePins] <;> (repeat' split) <;> first | (simp; done) | rfl

@[simp] theorem State.commitPens_frame (s : State) (l : List Staged) :
    (State.commitPens s l).pending = s.pending ∧ (State.commitPens s l).store.flash = s.store.flash ∧ (State.commitPens s l).clk.absFold = s.clk.absFold ∧ (State.commitPens s l).ownLock = s.ownLock ∧ (State.commitPens s l).tally.resids = s.tally.resids := by
  refine ⟨(by unfold State.commitPens; rw [(State.latePins_frame _).1]; exact (forEach_pending _ _ (fun g s => by (repeat' split) <;> simp) _).trans (forEach_pending _ _ (fun p s => (State.pinTriggers_frame s p l).1) _)), (by unfold State.commitPens; rw [(State.latePins_frame _).2.1]; exact (forEach_flash _ _ (fun g s => by (repeat' split) <;> simp) _).trans (forEach_flash _ _ (fun p s => (State.pinTriggers_frame s p l).2.1) _)), (by unfold State.commitPens; rw [(State.latePins_frame _).2.2.1]; exact (forEach_absFold _ _ (fun g s => by (repeat' split) <;> simp) _).trans (forEach_absFold _ _ (fun p s => (State.pinTriggers_frame s p l).2.2.1) _)), (by unfold State.commitPens; rw [(State.latePins_frame _).2.2.2.1]; exact (forEach_ownLock _ _ (fun g s => by (repeat' split) <;> simp) _).trans (forEach_ownLock _ _ (fun p s => (State.pinTriggers_frame s p l).2.2.2.1) _)), (by unfold State.commitPens; rw [(State.latePins_frame _).2.2.2.2]; exact (forEach_resids _ _ (fun g s => by (repeat' split) <;> simp) _).trans (forEach_resids _ _ (fun p s => (State.pinTriggers_frame s p l).2.2.2.2) _))⟩

@[simp] theorem State.latchLive_frame (s : State) :
    (State.latchLive s).pending = s.pending ∧ (State.latchLive s).store.flash = s.store.flash ∧ (State.latchLive s).clk.absFold = s.clk.absFold ∧ (State.latchLive s).ownLock = s.ownLock ∧ (State.latchLive s).tally.resids = s.tally.resids := by
  refine ⟨?_, ?_, ?_, ?_, ?_⟩ <;> simp only [State.latchLive] <;> (repeat' split) <;> first | (simp; done) | rfl

@[simp] theorem State.latchRefs_frame (s : State) :
    (State.latchRefs s).pending = s.pending ∧ (State.latchRefs s).store.flash = s.store.flash ∧ (State.latchRefs s).clk.absFold = s.clk.absFold ∧ (State.latchRefs s).ownLock = s.ownLock ∧ (State.latchRefs s).tally.resids = s.tally.resids := by
  refine ⟨?_, ?_, ?_, ?_, ?_⟩ <;> simp only [State.latchRefs] <;> (repeat' split) <;> first | (simp; done) | rfl

@[simp] theorem State.latchMon_frame (s : State) (m : BoundaryIn) :
    (State.latchMon s m).pending = s.pending ∧ (State.latchMon s m).store.flash = s.store.flash ∧ (State.latchMon s m).clk.absFold = s.clk.absFold ∧ (State.latchMon s m).ownLock = s.ownLock ∧ (State.latchMon s m).tally.resids = s.tally.resids := by
  refine ⟨?_, ?_, ?_, ?_, ?_⟩
  · simp only [State.latchMon]
    (repeat' split) <;> first | (simp; done) | (refine (forEach_pending _ _ ?_ _).trans ?_ <;> [(intro x s; (try dsimp only); (repeat' split) <;> first | (simp; done) | (refine (forEach_pending _ _ ?_ _).trans ?_ <;> [(intro x s; (try dsimp only); (repeat' split) <;> simp); (first | rfl | simp)])); (first | rfl | simp)])
  · simp only [State.latchMon]
    (repeat' split) <;> first | (simp; done) | (refine (forEach_flash _ _ ?_ _).trans ?_ <;> [(intro x s; (try dsimp only); (repeat' split) <;> first | (simp; done) | (refine (forEach_flash _ _ ?_ _).trans ?_ <;> [(intro x s; (try dsimp only); (repeat' split) <;> simp); (first | rfl | simp)])); (first | rfl | simp)])
  · simp only [State.latchMon]
    (repeat' split) <;> first | (simp; done) | (refine (forEach_absFold _ _ ?_ _).trans ?_ <;> [(intro x s; (try dsimp only); (repeat' split) <;> first | (simp; done) | (refine (forEach_absFold _ _ ?_ _).trans ?_ <;> [(intro x s; (try dsimp only); (repeat' split) <;> simp); (first | rfl | simp)])); (first | rfl | simp)])
  · simp only [State.latchMon]
    (repeat' split) <;> first | (simp; done) | (refine (forEach_ownLock _ _ ?_ _).trans ?_ <;> [(intro x s; (try dsimp only); (repeat' split) <;> first | (simp; done) | (refine (forEach_ownLock _ _ ?_ _).trans ?_ <;> [(intro x s; (try dsimp only); (repeat' split) <;> simp); (first | rfl | simp)])); (first | rfl | simp)])
  · simp only [State.latchMon]
    (repeat' split) <;> first | (simp; done) | (refine (forEach_resids _ _ ?_ _).trans ?_ <;> [(intro x s; (try dsimp only); (repeat' split) <;> first | (simp; done) | (refine (forEach_resids _ _ ?_ _).trans ?_ <;> [(intro x s; (try dsimp only); (repeat' split) <;> simp); (first | rfl | simp)])); (first | rfl | simp)])

@[simp] theorem State.secondBoundary_frame (s : State) :
    (State.secondBoundary s).pending = s.pending ∧ (State.secondBoundary s).store.flash = s.store.flash ∧ (State.secondBoundary s).clk.absFold = s.clk.absFold ∧ (State.secondBoundary s).ownLock = s.ownLock ∧ (State.secondBoundary s).tally.resids = s.tally.resids := by
  refine ⟨?_, ?_, ?_, ?_, ?_⟩ <;> simp only [State.secondBoundary] <;> (repeat' split) <;> first | (simp; done) | rfl

@[simp] theorem State.redeliver_frame (s : State) :
    (State.redeliver s).pending = s.pending ∧ (State.redeliver s).store.flash = s.store.flash ∧ (State.redeliver s).clk.absFold = s.clk.absFold ∧ (State.redeliver s).ownLock = s.ownLock ∧ (State.redeliver s).tally.resids = s.tally.resids := by
  refine ⟨?_, ?_, ?_, ?_, ?_⟩ <;> simp only [State.redeliver] <;> (repeat' split) <;> first | (simp; done) | rfl

@[simp] theorem State.deliverSsct_frame (s : State) :
    (State.deliverSsct s).pending = s.pending ∧ (State.deliverSsct s).store.flash = s.store.flash ∧ (State.deliverSsct s).clk.absFold = s.clk.absFold ∧ (State.deliverSsct s).ownLock = s.ownLock ∧ (State.deliverSsct s).tally.resids = s.tally.resids := by
  refine ⟨?_, ?_, ?_, ?_, ?_⟩ <;> simp only [State.deliverSsct] <;> (repeat' split) <;> first | (simp; done) | rfl

@[simp] theorem State.wordBoundary_frame (s : State) :
    (State.wordBoundary s).pending = s.pending ∧ (State.wordBoundary s).store.flash = s.store.flash ∧ (State.wordBoundary s).clk.absFold = s.clk.absFold ∧ (State.wordBoundary s).ownLock = s.ownLock ∧ (State.wordBoundary s).tally.resids = s.tally.resids := by
  refine ⟨?_, ?_, ?_, ?_, ?_⟩ <;> simp only [State.wordBoundary] <;> (repeat' split) <;> first | (simp; done) | rfl

@[simp] theorem State.settleNow_frame (o : Nat) (s : State) :
    (State.settleNow o s).pending = s.pending ∧ (State.settleNow o s).store.flash = s.store.flash ∧ (State.settleNow o s).clk.absFold = s.clk.absFold ∧ (State.settleNow o s).ownLock = s.ownLock ∧ (State.settleNow o s).tally.resids = s.tally.resids := by
  rw [State.settleNow]; exact State.settle_frame s o s.foldStart

@[simp] theorem State.outputsBoundary_frame (s : State) :
    (State.outputsBoundary s).pending = s.pending ∧ (State.outputsBoundary s).store.flash = s.store.flash ∧ (State.outputsBoundary s).clk.absFold = s.clk.absFold ∧ (State.outputsBoundary s).ownLock = s.ownLock ∧ (State.outputsBoundary s).tally.resids = s.tally.resids := by
  refine ⟨?_, ?_, ?_, ?_, ?_⟩ <;> simp only [State.outputsBoundary] <;> simp -implicitDefEqProofs

@[simp] theorem State.stepStill_frame (s : State) (o : Nat) :
    (State.stepStill s o).pending = s.pending ∧ (State.stepStill s o).store.flash = s.store.flash ∧ (State.stepStill s o).clk.absFold = s.clk.absFold ∧ (State.stepStill s o).ownLock = s.ownLock ∧ (State.stepStill s o).tally.resids = s.tally.resids := by
  refine ⟨?_, ?_, ?_, ?_, ?_⟩ <;> simp only [State.stepStill] <;> (repeat' split) <;> first | (simp; done) | rfl

@[simp] theorem State.payStill_frame (s : State) :
    (State.payStill s).pending = s.pending ∧ (State.payStill s).store.flash = s.store.flash ∧ (State.payStill s).clk.absFold = s.clk.absFold ∧ (State.payStill s).ownLock = s.ownLock ∧ (State.payStill s).tally.resids = s.tally.resids := by
  refine ⟨?_, ?_, ?_, ?_, ?_⟩
  · simp only [State.payStill]
    (repeat' split) <;> first | (simp; done) | (refine (forEach_pending _ _ ?_ _).trans ?_ <;> [(intro x s; (try dsimp only); (repeat' split) <;> first | (simp; done) | (refine (forEach_pending _ _ ?_ _).trans ?_ <;> [(intro x s; (try dsimp only); (repeat' split) <;> simp); (first | rfl | simp)])); (first | rfl | simp)])
  · simp only [State.payStill]
    (repeat' split) <;> first | (simp; done) | (refine (forEach_flash _ _ ?_ _).trans ?_ <;> [(intro x s; (try dsimp only); (repeat' split) <;> first | (simp; done) | (refine (forEach_flash _ _ ?_ _).trans ?_ <;> [(intro x s; (try dsimp only); (repeat' split) <;> simp); (first | rfl | simp)])); (first | rfl | simp)])
  · simp only [State.payStill]
    (repeat' split) <;> first | (simp; done) | (refine (forEach_absFold _ _ ?_ _).trans ?_ <;> [(intro x s; (try dsimp only); (repeat' split) <;> first | (simp; done) | (refine (forEach_absFold _ _ ?_ _).trans ?_ <;> [(intro x s; (try dsimp only); (repeat' split) <;> simp); (first | rfl | simp)])); (first | rfl | simp)])
  · simp only [State.payStill]
    (repeat' split) <;> first | (simp; done) | (refine (forEach_ownLock _ _ ?_ _).trans ?_ <;> [(intro x s; (try dsimp only); (repeat' split) <;> first | (simp; done) | (refine (forEach_ownLock _ _ ?_ _).trans ?_ <;> [(intro x s; (try dsimp only); (repeat' split) <;> simp); (first | rfl | simp)])); (first | rfl | simp)])
  · simp only [State.payStill]
    (repeat' split) <;> first | (simp; done) | (refine (forEach_resids _ _ ?_ _).trans ?_ <;> [(intro x s; (try dsimp only); (repeat' split) <;> first | (simp; done) | (refine (forEach_resids _ _ ?_ _).trans ?_ <;> [(intro x s; (try dsimp only); (repeat' split) <;> simp); (first | rfl | simp)])); (first | rfl | simp)])

@[simp] theorem State.commitPass_frame (s : State) :
    (State.commitPass s).pending = s.pending ∧ (State.commitPass s).store.flash = s.store.flash ∧ (State.commitPass s).clk.absFold = s.clk.absFold ∧ (State.commitPass s).ownLock = s.ownLock ∧ (State.commitPass s).tally.resids = s.tally.resids := by
  refine ⟨?_, ?_, ?_, ?_, ?_⟩ <;> simp only [State.commitPass] <;> (repeat' split) <;> first | (simp; done) | rfl

@[simp] theorem State.commitGrades_frame (s : State) :
    (State.commitGrades s).pending = s.pending ∧ (State.commitGrades s).store.flash = s.store.flash ∧ (State.commitGrades s).clk.absFold = s.clk.absFold ∧ (State.commitGrades s).ownLock = s.ownLock ∧ (State.commitGrades s).tally.resids = s.tally.resids := by
  refine ⟨?_, ?_, ?_, ?_, ?_⟩ <;> simp only [State.commitGrades] <;> (repeat' split) <;> first | (simp; done) | rfl

@[simp] theorem State.gradeEvents_frame (s : State) (old : List (Nat × Nat)) :
    (State.gradeEvents s old).pending = s.pending ∧ (State.gradeEvents s old).store.flash = s.store.flash ∧ (State.gradeEvents s old).clk.absFold = s.clk.absFold ∧ (State.gradeEvents s old).ownLock = s.ownLock ∧ (State.gradeEvents s old).tally.resids = s.tally.resids := by
  refine ⟨?_, ?_, ?_, ?_, ?_⟩ <;> simp only [State.gradeEvents] <;> (repeat' split) <;> first | (simp; done) | rfl

@[simp] theorem State.oscBoundary_frame (s : State) :
    (State.oscBoundary s).pending = s.pending ∧ (State.oscBoundary s).store.flash = s.store.flash ∧ (State.oscBoundary s).clk.absFold = s.clk.absFold ∧ (State.oscBoundary s).ownLock = s.ownLock ∧ (State.oscBoundary s).tally.resids = s.tally.resids := by
  refine ⟨?_, ?_, ?_, ?_, ?_⟩ <;> simp only [State.oscBoundary] <;> (repeat' split) <;> first | (simp; done) | rfl

@[simp] theorem State.dpllEvent_frame (s : State) :
    (State.dpllEvent s).pending = s.pending ∧ (State.dpllEvent s).store.flash = s.store.flash ∧ (State.dpllEvent s).clk.absFold = s.clk.absFold ∧ (State.dpllEvent s).ownLock = s.ownLock ∧ (State.dpllEvent s).tally.resids = s.tally.resids := by
  refine ⟨?_, ?_, ?_, ?_, ?_⟩ <;> simp only [State.dpllEvent] <;> (repeat' split) <;> first | (simp; done) | rfl

@[simp] theorem State.noteTime_frame (s : State) :
    (State.noteTime s).pending = s.pending ∧ (State.noteTime s).store.flash = s.store.flash ∧ (State.noteTime s).clk.absFold = s.clk.absFold ∧ (State.noteTime s).ownLock = s.ownLock ∧ (State.noteTime s).tally.resids = s.tally.resids := by
  refine ⟨?_, ?_, ?_, ?_, ?_⟩ <;> simp only [State.noteTime] <;> (repeat' split) <;> first | (simp; done) | rfl

@[simp] theorem State.noteSource_frame (s : State) :
    (State.noteSource s).pending = s.pending ∧ (State.noteSource s).store.flash = s.store.flash ∧ (State.noteSource s).clk.absFold = s.clk.absFold ∧ (State.noteSource s).ownLock = s.ownLock ∧ (State.noteSource s).tally.resids = s.tally.resids := by
  refine ⟨?_, ?_, ?_, ?_, ?_⟩ <;> simp only [State.noteSource] <;> (repeat' split) <;> first | (simp; done) | rfl

@[simp] theorem State.commitClears_frame (s : State) (l : List Staged) :
    (State.commitClears s l).pending = s.pending ∧ (State.commitClears s l).store.flash = s.store.flash ∧ (State.commitClears s l).clk.absFold = s.clk.absFold ∧ (State.commitClears s l).ownLock = s.ownLock ∧ (State.commitClears s l).tally.resids = s.tally.resids := by
  refine ⟨?_, ?_, ?_, ?_, ?_⟩ <;> simp only [State.commitClears] <;> (repeat' split) <;> first | (simp; done) | rfl

@[simp] theorem State.commitAll_pending (s : State) (l : List Staged) : (s.commitAll l).1.pending = s.pending := by
  unfold State.commitAll
  suffices h : ∀ x : State × List (Staged × Option (List Byte)), (l.foldl (fun a g =>
      if !g.commit then (a.1, a.2 ++ [(g, none)])
      else
        let x := commitOp g a.1
        (x.1, a.2 ++ [(g, x.2)])) x).1.pending = x.1.pending from h _
  induction l with
  | nil => exact fun _ => rfl
  | cons g r ih => intro x; rw [List.foldl_cons, ih]; split <;> simp

@[simp] theorem State.commitAll_flash (s : State) (l : List Staged) : (s.commitAll l).1.store.flash = s.store.flash := by
  unfold State.commitAll
  suffices h : ∀ x : State × List (Staged × Option (List Byte)), (l.foldl (fun a g =>
      if !g.commit then (a.1, a.2 ++ [(g, none)])
      else
        let x := commitOp g a.1
        (x.1, a.2 ++ [(g, x.2)])) x).1.store.flash = x.1.store.flash from h _
  induction l with
  | nil => exact fun _ => rfl
  | cons g r ih => intro x; rw [List.foldl_cons, ih]; split <;> simp

@[simp] theorem State.commitAll_absFold (s : State) (l : List Staged) : (s.commitAll l).1.clk.absFold = s.clk.absFold := by
  unfold State.commitAll
  suffices h : ∀ x : State × List (Staged × Option (List Byte)), (l.foldl (fun a g =>
      if !g.commit then (a.1, a.2 ++ [(g, none)])
      else
        let x := commitOp g a.1
        (x.1, a.2 ++ [(g, x.2)])) x).1.clk.absFold = x.1.clk.absFold from h _
  induction l with
  | nil => exact fun _ => rfl
  | cons g r ih => intro x; rw [List.foldl_cons, ih]; split <;> simp

@[simp] theorem State.commitAll_resids (s : State) (l : List Staged) : (s.commitAll l).1.tally.resids = s.tally.resids := by
  unfold State.commitAll
  suffices h : ∀ x : State × List (Staged × Option (List Byte)), (l.foldl (fun a g =>
      if !g.commit then (a.1, a.2 ++ [(g, none)])
      else
        let x := commitOp g a.1
        (x.1, a.2 ++ [(g, x.2)])) x).1.tally.resids = x.1.tally.resids from h _
  induction l with
  | nil => exact fun _ => rfl
  | cons g r ih => intro x; rw [List.foldl_cons, ih]; split <;> simp

theorem State.commitAll_ownLock (s : State) (l : List Staged) (h : s.ownLock = true) : (s.commitAll l).1.ownLock = true := by
  unfold State.commitAll
  suffices h : ∀ x : State × List (Staged × Option (List Byte)), x.1.ownLock = true → (l.foldl (fun a g =>
      if !g.commit then (a.1, a.2 ++ [(g, none)])
      else
        let x := commitOp g a.1
        (x.1, a.2 ++ [(g, x.2)])) x).1.ownLock = true from h _ ‹_›
  clear h
  induction l with
  | nil => exact fun _ h => h
  | cons g r ih =>
    intro x h
    rw [List.foldl_cons]
    refine ih _ ?_
    split
    · exact h
    · exact commitOp_ownLock g _ h

@[simp] theorem State.commitLoops_frame (s : State) (graded : Bool) (old : List (Nat × Nat)) :
    (State.commitLoops s graded old).pending = s.pending ∧ (State.commitLoops s graded old).store.flash = s.store.flash ∧ (State.commitLoops s graded old).clk.absFold = s.clk.absFold ∧ (State.commitLoops s graded old).ownLock = s.ownLock ∧ (State.commitLoops s graded old).tally.resids = s.tally.resids := by
  refine ⟨?_, ?_, ?_, ?_, ?_⟩ <;> simp only [State.commitLoops] <;> (repeat' split) <;> first | (simp; done) | rfl

@[simp] theorem State.commitUnits_frame (s : State) (sec : Nat) :
    (State.commitUnits s sec).pending = s.pending ∧ (State.commitUnits s sec).store.flash = s.store.flash ∧ (State.commitUnits s sec).clk.absFold = s.clk.absFold ∧ (State.commitUnits s sec).ownLock = s.ownLock ∧ (State.commitUnits s sec).tally.resids = s.tally.resids := by
  refine ⟨?_, ?_, ?_, ?_, ?_⟩ <;> simp only [State.commitUnits] <;> (repeat' split) <;> first | (simp; done) | rfl

@[simp] theorem State.feedWatchdog_frame (s : State) :
    (State.feedWatchdog s).pending = s.pending ∧ (State.feedWatchdog s).store.flash = s.store.flash ∧ (State.feedWatchdog s).clk.absFold = s.clk.absFold ∧ (State.feedWatchdog s).ownLock = s.ownLock ∧ (State.feedWatchdog s).tally.resids = s.tally.resids := by
  refine ⟨?_, ?_, ?_, ?_, ?_⟩ <;> simp only [State.feedWatchdog] <;> (repeat' split) <;> first | (simp; done) | rfl

@[simp] theorem State.latchCopies_frame (s : State) :
    (State.latchCopies s).pending = s.pending ∧ (State.latchCopies s).store.flash = s.store.flash ∧ (State.latchCopies s).clk.absFold = s.clk.absFold ∧ (State.latchCopies s).ownLock = s.ownLock ∧ (State.latchCopies s).tally.resids = s.tally.resids := by
  refine ⟨?_, ?_, ?_, ?_, ?_⟩ <;> simp only [State.latchCopies] <;> (repeat' split) <;> first | (simp; done) | rfl

@[simp] theorem State.retire_frame (s : State) :
    (State.retire s).pending = s.pending ∧ (State.retire s).store.flash = s.store.flash ∧ (State.retire s).clk.absFold = s.clk.absFold ∧ (State.retire s).ownLock = s.ownLock ∧ (State.retire s).tally.resids = s.tally.resids := by
  refine ⟨?_, ?_, ?_, ?_, ?_⟩ <;> simp only [State.retire] <;> (repeat' split) <;> first | (simp; done) | rfl

@[simp] theorem State.missFeed_frame (s : State) :
    (State.missFeed s).pending = s.pending ∧ (State.missFeed s).store.flash = s.store.flash ∧ (State.missFeed s).clk.absFold = s.clk.absFold ∧ (State.missFeed s).ownLock = s.ownLock ∧ (State.missFeed s).tally.resids = s.tally.resids := by
  refine ⟨?_, ?_, ?_, ?_, ?_⟩ <;> simp only [State.missFeed] <;> (repeat' split) <;> first | (simp; done) | rfl

@[simp] theorem State.wakePins_frame (s : State) :
    (State.wakePins s).pending = s.pending ∧ (State.wakePins s).store.flash = s.store.flash ∧ (State.wakePins s).clk.absFold = s.clk.absFold ∧ (State.wakePins s).ownLock = s.ownLock ∧ (State.wakePins s).tally.resids = s.tally.resids := by
  refine ⟨?_, ?_, ?_, ?_, ?_⟩ <;> simp only [State.wakePins] <;> (repeat' split) <;> first | (simp; done) | rfl

end Sys2Proof.Machine
end

