-- ==== Sys2Proof/Laws/Deliver.lean ====
section
/-! SUPPORT. What a whole packet does whose command is interpreted at once: one lemma for every opcode. -/

namespace Sys2Proof.Machine

/-- The packet as its pen's queue holds it. -/
def queued (op : BitVec 16) (q : Call) (s : State) : Packet := { opcode := op, call := q, order := s.host.order }

theorem admit_prompt (op : BitVec 16) (cls : BitVec 2) (q : Call) (s : State) (h : Prompt cls q s) :
    admitPacket { opcode := op, call := q } s = enqueue { opcode := op, call := q } s := by
  obtain ⟨-, -, -, h3, h4, h5, -⟩ := h
  simp only [admitPacket]
  rw [if_neg (by simpa using h3), if_neg (by rw [h4]; decide), if_neg (by rw [h4]; decide), if_neg (by omega)]

/-- Two changes of one place that agree on what stands there. -/
theorem Vec_upd_congr {α : Type} {n : Nat} (v : Vec α n) (i : Nat) (d : α) (f g : α → α) (h : f (v.getD i d) = g (v.getD i d)) : v.upd i f = v.upd i g := by
  rcases v with ⟨l, hl⟩
  simp only [Vec.upd, Vec.mk.injEq]
  apply List.ext_getElem?
  intro k
  simp only [List.getElem?_modify]
  split
  · rename_i hk
    subst hk
    simp only [Vec.getD, List.getD_eq_getElem?_getD] at h
    cases hx : l[i]? with
    | none => rfl
    | some x => rw [hx] at h; simp only [Option.getD_some] at h; simp [h]
  · rfl

theorem Vec_upd_upd {α : Type} {n : Nat} (v : Vec α n) (i : Nat) (f g : α → α) : (v.upd i f).upd i g = v.upd i (g ∘ f) := by
  rcases v with ⟨l, hl⟩
  simp only [Vec.upd, Vec.mk.injEq]
  apply List.ext_getElem?
  intro k
  simp only [List.getElem?_modify]
  split <;> cases l[k]? <;> rfl

/-- The pens' queues after a packet has joined one. -/
theorem enqueue_queue (op : BitVec 16) (q : Call) (s : State) (p : Pen) :
    ((enqueue { opcode := op, call := q } s).io p).queue = (s.io p).queue ++ if q.pen = p then [queued op q s] else [] := by
  have h : (enqueue { opcode := op, call := q } s).io p
      = (s.updIo q.pen fun p => { p with free := p.free - 1, accepted := p.accepted + 1, queue := p.queue ++ [queued op q s] }).io p := rfl
  rw [h, State.io_updIo]
  split <;> simp

/-- A packet that joins its queue and leaves it again, the turn passing on, leaves one credit taken. -/
theorem enqueue_serve (op : BitVec 16) (q : Call) (s : State) (h : queued op q s ∉ (s.io q.pen).queue) :
    ((enqueue { opcode := op, call := q } s).updIo q.pen fun p => { p with queue := p.queue.erase (queued op q s), pinStep := none }).turn q.pen = s.takeCredit q := by
  simp only [State.takeCredit, enqueue, State.updIo, State.turn]
  have e : (s.host.pens.upd q.pen.val fun p => { p with free := p.free - 1, accepted := p.accepted + 1, queue := p.queue ++ [queued op q s] }).upd q.pen.val
        (fun p => { p with queue := p.queue.erase (queued op q s), pinStep := none })
      = s.host.pens.upd q.pen.val fun p => { p with free := p.free - 1, accepted := p.accepted + 1, pinStep := none } := by
    rw [Vec_upd_upd]
    refine Vec_upd_congr _ _ {} _ _ ?_
    have h' : queued op q s ∉ (s.host.pens.getD q.pen.val {}).queue := h
    simp only [Function.comp_apply]
    rw [List.erase_append_right _ h']
    simp
  exact congrArg (fun v => { s with host := { s.host with pens := v, order := s.host.order + 1, robin := (q.pen.val + 1) % 4 } }) e

/-- Every pen has its turn. -/
theorem mem_pensFrom (s : State) (p : Pen) : p ∈ s.pensFrom := by
  have h (r : Nat) : p ∈ (List.range 4).map fun n => (Fin.ofNat 4 (r + n) : Pen) := by
    refine List.mem_map.mpr ⟨(p.val + 4 - r % 4) % 4, List.mem_range.mpr (by omega), Fin.ext ?_⟩
    have := p.isLt
    simp only [Fin.ofNat]
    omega
  exact h _

/-- Heads of queues of which one pen alone has one. -/
theorem filterMap_only {α β : Type} (f : α → Option β) (k : β) (l : List α) (h : ∀ a ∈ l, f a = none ∨ f a = some k) (a : α) (ha : a ∈ l) (hk : f a = some k) :
    ∃ r, l.filterMap f = k :: r := by
  induction l with
  | nil => exact absurd ha (by simp)
  | cons b l ih =>
    rw [List.filterMap_cons]
    cases hb : f b with
    | some x =>
      rcases h b (by simp) with hn | hs
      · rw [hn] at hb; exact absurd hb (by simp)
      · rw [hs] at hb; exact ⟨l.filterMap f, by rw [Option.some.inj hb]⟩
    | none =>
      refine ih (fun c hc => h c (by simp [hc])) ?_
      rcases List.mem_cons.mp ha with rfl | hm
      · rw [hk] at hb; exact absurd hb (by simp)
      · exact hm

/-- No head. -/
theorem filterMap_none {α β : Type} (f : α → Option β) (l : List α) (h : ∀ a, f a = none) : l.filterMap f = [] := by
  induction l with
  | nil => rfl
  | cons b l ih => rw [List.filterMap_cons, h b]; exact ih

/-- The head that a pen's queue shows after a packet has joined one of the queues, none of which held one that `f` takes. -/
theorem enqueue_headOf (op : BitVec 16) (q : Call) (s : State) (f : Packet → Bool) (h : ∀ p, ∀ k ∈ (s.io p).queue, f k = false) (p : Pen) :
    (enqueue { opcode := op, call := q } s).headOf p f = if q.pen = p ∧ f (queued op q s) = true then some (queued op q s) else none := by
  have hn : (s.io p).queue.find? f = none := by rw [List.find?_eq_none]; intro x hx; simp [h p x hx]
  simp only [State.headOf, enqueue_queue, List.find?_append, hn, Option.none_or]
  by_cases hp : q.pen = p <;> cases hf : f (queued op q s) <;> simp [hp, hf]

/-- The heads of the queues, in turn. -/
theorem enqueue_heads (op : BitVec 16) (q : Call) (s : State) (f : Packet → Bool) (h : ∀ p, ∀ k ∈ (s.io p).queue, f k = false) (hf : f (queued op q s) = true)
    (l : List Pen) (hl : q.pen ∈ l) : ∃ r, (l.filterMap fun p => (enqueue { opcode := op, call := q } s).headOf p f) = queued op q s :: r := by
  refine filterMap_only _ _ _ (fun p _ => ?_) q.pen hl ?_
  · rw [enqueue_headOf op q s f h p]; split <;> simp
  · rw [enqueue_headOf op q s f h q.pen, if_pos ⟨rfl, hf⟩]

/-- A queue without such packets shows none. -/
theorem headOf_none (s : State) (f : Packet → Bool) (h : ∀ p, ∀ k ∈ (s.io p).queue, f k = false) (p : Pen) : s.headOf p f = none := by
  rw [State.headOf, List.find?_eq_none]; intro x hx; simp [h p x hx]

/-- With no CONTROL packet queued the CONTROL pass does nothing. -/
theorem controlPass_nothing (n : Nat) (s : State) (h : ∀ p, ∀ k ∈ (s.io p).queue, k.control = false) : s.controlPass n = s := by
  cases n with
  | zero => rfl
  | succ n => rw [State.controlPass, filterMap_none _ _ (headOf_none s _ h)]; rfl

/-- What a whole packet does whose command is interpreted at once: the credit is taken, what happens at once happens, and the result waits for the
boundary, or a unit will answer. -/
theorem deliver_prompt (op : BitVec 16) (c : Nat) (chk : Call → State → Serve) (q : Call) (s : State) (sv : Serve)
    (h : Prompt (BitVec.ofNat 2 c) q s) (hc : c < 4) (hi : opInfo op.toNat = some (c, chk))
    (hs : chk q (enqueue { opcode := op, call := q } s) = sv) (hw : sv.wait = false)
    (hq : ∀ (x : State) (p : Pen), ((sv.act x).io p).queue = (x.io p).queue) (ht : ∀ (x : State) (p : Pen), sv.act (x.turn p) = (sv.act x).turn p) :
    deliver op q s = (sv.act (s.takeCredit q)).stage
      (if sv.later then none
       else some { opcode := op, call := q, status := sv.status, body := sv.body, commit := sv.commit, mark := sv.mark }) := by
  have ha := admit_prompt op _ q s h
  obtain ⟨h1, h2, h3, -, -, -, h6, hb, h7, h8, h9⟩ := h
  have hcls : q.cls.toNat = c := by rw [h7, BitVec.toNat_ofNat]; omega
  have hcn : (BitVec.ofNat 2 c).toNat = c := by rw [BitVec.toNat_ofNat]; omega
  have hq6 : ∀ p, ∀ k ∈ (s.io p).queue, max 1 c < k.call.cls.toNat := by
    intro p k hk; have := h6 p k hk; simp only [aheadOf, hcn] at this; omega
  have hctl : ∀ p, ∀ k ∈ (s.io p).queue, k.control = false := by
    intro p k hk; have := hq6 p k hk; simp only [Packet.control, decide_eq_false_iff_not]; omega
  have hnot : queued op q s ∉ (s.io q.pen).queue := by
    intro hm; have := hq6 _ _ hm; simp only [queued, hcls] at this; omega
  have e : (queued op q s).call = q := rfl
  have e2 : (queued op q s).opcode = op := rfl
  have e3 : (queued op q s).air = false := rfl
  have hdec : (enqueue { opcode := op, call := q } s).decide_ (queued op q s) = sv := by
    simp [State.decide_, e, e2, e3, h8, h9, hi, hcls, hs]
  have hser := enqueue_serve op q s hnot
  let g : Option Staged := if sv.later then none
    else some { opcode := op, call := q, status := sv.status, body := sv.body, commit := sv.commit, mark := sv.mark }
  have hserve : (enqueue { opcode := op, call := q } s).serve (queued op q s) sv =
      (sv.act ((enqueue { opcode := op, call := q } s).updIo q.pen fun p => { p with queue := p.queue.erase (queued op q s), pinStep := none }), g) := by
    simp only [State.serve, e, e2, e3, g]
    simp [State.markAir, e3]
  have hturn : ((enqueue { opcode := op, call := q } s).serve (queued op q s) sv).1.turn q.pen = sv.act (s.takeCredit q) := by
    rw [hserve, ← ht, hser]
  have hpost (p : Pen) : (((sv.act (s.takeCredit q)).stage g).io p).queue = (s.io p).queue := by
    have hst : (((sv.act (s.takeCredit q)).stage g).io p).queue = ((sv.act (s.takeCredit q)).io p).queue := rfl
    have htc : (s.takeCredit q).io p = (s.updIo q.pen fun p => { p with free := p.free - 1, accepted := p.accepted + 1, pinStep := none }).io p := rfl
    rw [hst, hq, htc, State.io_updIo]
    split <;> rfl
  have hkin : ((enqueue { opcode := op, call := q } s).io q.pen).queue.contains (queued op q s) = true := by
    rw [enqueue_queue]; simp
  simp only [deliver]
  rw [if_neg (by simp [h1]), ha, if_pos (by
    simp only [Bool.and_eq_true, decide_eq_true_eq]
    exact ⟨⟨h2, h3⟩, hkin⟩)]
  show State.reach _ (queued op q s) = _
  unfold State.reach
  by_cases hcc : c ≤ 1
  · have hk : (queued op q s).control = true := by simp only [Packet.control, e, hcls, decide_eq_true_eq]; exact hcc
    dsimp only
    rw [if_pos hk]
    obtain ⟨r, hr⟩ := enqueue_heads op q s Packet.control hctl hk (enqueue { opcode := op, call := q } s).pensFrom (mem_pensFrom _ _)
    have hint : ((enqueue { opcode := op, call := q } s).interpret (queued op q s)).1.turn q.pen = (sv.act (s.takeCredit q)).stage g := by
      simp only [State.interpret, hdec, hw]
      rw [if_neg (by simp), ← hturn, hserve]
      rfl
    rw [State.serveControl, State.controlPass, hr]
    dsimp only [List.head?_cons]
    rw [e, hint]
    exact controlPass_nothing _ _ fun p k hk => hctl p k (hpost p ▸ hk)
  · have hk : (queued op q s).control = false := by simp only [Packet.control, e, hcls, decide_eq_false_iff_not]; exact hcc
    have hno : ∀ p, ∀ k ∈ ((enqueue { opcode := op, call := q } s).io p).queue, k.control = false := by
      intro p k hm
      rw [enqueue_queue] at hm
      rcases List.mem_append.mp hm with hm | hm
      · exact hctl p k hm
      · by_cases hp : q.pen = p
        · simp only [hp, if_true, List.mem_singleton] at hm; rw [hm]; exact hk
        · simp [hp] at hm
    dsimp only
    rw [State.serveControl, controlPass_nothing _ _ hno, if_neg (by simp [hk])]
    have hbeg : (enqueue { opcode := op, call := q } s).host.begun = none := hb (by rw [hcn]; omega)
    have hfin : (enqueue { opcode := op, call := q } s).finishBegun = enqueue { opcode := op, call := q } s := by
      unfold State.finishBegun; rw [hbeg]
    have hheads : ∃ r, (enqueue { opcode := op, call := q } s).longHeads = queued op q s :: r := by
      have hcase : c = 2 ∨ c = 3 := by omega
      unfold State.longHeads
      rcases hcase with h2' | h3'
      · obtain ⟨r, hr⟩ := enqueue_heads op q s (fun k => decide (k.call.cls = 2))
          (fun p k hm => by
            have := hq6 p k hm
            simp only [decide_eq_false_iff_not]
            intro hx; rw [hx] at this; simp at this; omega)
          (by simp only [e, decide_eq_true_eq]; apply BitVec.eq_of_toNat_eq; rw [hcls, h2']; rfl)
          (enqueue { opcode := op, call := q } s).pensFrom (mem_pensFrom _ _)
        rw [hr]; exact ⟨_, rfl⟩
      · have hempty : ∀ p, (s.io p).queue = [] := by
          intro p
          cases hqq : (s.io p).queue with
          | nil => rfl
          | cons k r => have := hq6 p k (by simp [hqq]); have := k.call.cls.isLt; omega
        have hn : ((enqueue { opcode := op, call := q } s).pensFrom.filterMap fun p => (enqueue { opcode := op, call := q } s).headOf p fun k => decide (k.call.cls = 2)) = [] := by
          refine filterMap_none _ _ fun p => ?_
          rw [enqueue_headOf op q s _ (fun p k hm => by simp [hempty p] at hm) p]
          rw [if_neg]
          rintro ⟨-, hx⟩
          simp only [e, decide_eq_true_eq] at hx
          rw [hx] at hcls; simp at hcls; omega
        obtain ⟨r, hr⟩ := enqueue_heads op q s (fun k => decide (k.call.cls = 3)) (fun p k hm => by simp [hempty p] at hm)
          (by simp only [e, decide_eq_true_eq]; apply BitVec.eq_of_toNat_eq; rw [hcls, h3']; rfl)
          (enqueue { opcode := op, call := q } s).pensFrom (mem_pensFrom _ _)
        rw [hn, hr]; exact ⟨_, rfl⟩
    obtain ⟨r, hr⟩ := hheads
    rw [State.longUntil, if_neg (by rw [e, hkin]; simp), hfin]
    dsimp only
    rw [hr]
    simp only [State.serveFirst, hdec, hw]
    rw [if_neg (by simp)]
    dsimp only
    rw [e, hturn]
    have h2nd : ((enqueue { opcode := op, call := q } s).serve (queued op q s) sv).2 = g := by rw [hserve]
    rw [h2nd, State.longUntil, if_pos (by
      rw [e, hpost]
      simpa using hnot)]

end Sys2Proof.Machine
end

