-- ==== Sys2Proof/Laws/Accept.lean ====
section
/-! SUPPORT. When a command's checks let it through: the shared parts of every acceptance proof. -/

namespace Sys2Proof.Machine

/-- Where every check holds, what the checks guard is what is served. -/
theorem checks_ok (l : List (Bool × BitVec 16)) (sv : Serve) (h : ∀ x ∈ l, x.1 = true) : checks l sv = sv := by
  induction l with
  | nil => rfl
  | cons x r ih => rw [checks, if_pos (h x (by simp))]; exact ih fun y hy => h y (by simp [hy])

/-- No job of a pen, as the checks ask it. -/
theorem no_owned_job {α : Type} (own : α → Option JobOwner) (g : α → Bool) (l : List α) (p : Pen)
    (hg : ∀ j, own j = none → g j = false) (hs : ∀ j o, own j = some o → g j = decide (o.pen = p)) (h : ∀ j ∈ l, ∀ o ∈ own j, o.pen ≠ p) :
    l.any g = false := by
  rw [List.any_eq_false]
  intro j hj
  have := h j hj
  cases ho : own j with
  | none => simp [hg j ho]
  | some o => simpa [hs j o ho, ho] using this

/-- A store command that the engine takes. -/
theorem storeServe_free (q : Call) (op : BitVec 16) (s : State) (data : List Byte) (job : StoreJob) (h : engineFree q s) :
    storeServe q op s data job =
      { status := St.accepted, body := .bytes data
        act := fun s => s.mapStore fun x =>
          { x with
            jobs := x.jobs ++ [{ job with owner := some { pen := q.pen, tag := q.tag, cls := q.cls, opcode := op, params := q.params } }]
            journals := x.journals + 1 } } := by
  obtain ⟨h1, h2, h3⟩ := h
  simp only [storeServe]
  rw [no_owned_job StoreJob.owner _ s.store.jobs q.pen (fun j h => by simp [h]) (fun j o h => by simp [h]) h2, h3, if_neg (by simp; omega)]

/-- A packet that joins its queue leaves a PIN_LOCK step waiting. -/
theorem enqueue_pinStep (op : BitVec 16) (q : Call) (s : State) :
    ((enqueue { opcode := op, call := q } s).io q.pen).pinStep = (s.io q.pen).pinStep := by
  have h : (enqueue { opcode := op, call := q } s).io q.pen
      = (s.updIo q.pen fun p => { p with free := p.free - 1, accepted := p.accepted + 1, queue := p.queue ++ [queued op q s] }).io q.pen := rfl
  rw [h, State.io_updIo]
  simp

end Sys2Proof.Machine
end

