-- ==== Sys2Proof/Laws/Boundary.lean ====
section
/-! SUPPORT. A whole fold boundary and a reset: what they do to the queue of commands, the flash, the fold counter, the ownership lock and the ledger's
residues. -/

namespace Sys2Proof.Machine

@[simp] theorem State.raiseLate_frame (s : State) :
    (State.raiseLate s).pending = s.pending ∧ (State.raiseLate s).store.flash = s.store.flash ∧ (State.raiseLate s).clk.absFold = s.clk.absFold ∧ (State.raiseLate s).ownLock = s.ownLock ∧ (State.raiseLate s).tally.resids = s.tally.resids := by
  unfold State.raiseLate
  exact ⟨forEach_pending _ _ (by simp) _, forEach_flash _ _ (by simp) _, forEach_absFold _ _ (by simp) _, forEach_ownLock _ _ (by simp) _, forEach_resids _ _ (by simp) _⟩

@[simp] theorem State.advance_pending (s : State) : s.advance.pending = s.pending := by simp [State.advance]
@[simp] theorem State.advance_flash (s : State) : s.advance.store.flash = s.store.flash := by simp [State.advance]
@[simp] theorem State.advance_ownLock (s : State) : s.advance.ownLock = s.ownLock := by simp [State.advance]
@[simp] theorem State.advance_resids (s : State) : s.advance.tally.resids = s.tally.resids := by simp [State.advance]
@[simp] theorem State.advance_absFold (s : State) : s.advance.clk.absFold = s.clk.absFold + 1 := by simp [State.advance, State.passFolds]

@[simp] theorem State.suspendedBoundary_pending (s : State) (m : BoundaryIn) : (s.suspendedBoundary m).pending = s.pending := by
  simp [State.suspendedBoundary]
@[simp] theorem State.suspendedBoundary_flash (s : State) (m : BoundaryIn) : (s.suspendedBoundary m).store.flash = s.store.flash := by
  simp [State.suspendedBoundary]
@[simp] theorem State.suspendedBoundary_ownLock (s : State) (m : BoundaryIn) : (s.suspendedBoundary m).ownLock = s.ownLock := by
  simp [State.suspendedBoundary]
@[simp] theorem State.suspendedBoundary_resids (s : State) (m : BoundaryIn) : (s.suspendedBoundary m).tally.resids = s.tally.resids := by
  simp [State.suspendedBoundary]
@[simp] theorem State.suspendedBoundary_absFold (s : State) (m : BoundaryIn) : (s.suspendedBoundary m).clk.absFold = s.clk.absFold + 1 := by
  simp [State.suspendedBoundary]

@[simp] theorem State.commitBoundary_pending (s : State) (sec : Nat) : (s.commitBoundary sec).pending = s.pending := by
  unfold State.commitBoundary; simp
@[simp] theorem State.commitBoundary_flash (s : State) (sec : Nat) : (s.commitBoundary sec).store.flash = s.store.flash := by
  unfold State.commitBoundary; simp
@[simp] theorem State.commitBoundary_absFold (s : State) (sec : Nat) : (s.commitBoundary sec).clk.absFold = s.clk.absFold := by
  unfold State.commitBoundary; simp
@[simp] theorem State.commitBoundary_resids (s : State) (sec : Nat) : (s.commitBoundary sec).tally.resids = s.tally.resids := by
  unfold State.commitBoundary; simp

/-- A boundary takes no ownership lock away. -/
theorem State.commitBoundary_ownLock (s : State) (sec : Nat) (h : s.ownLock = true) : (s.commitBoundary sec).ownLock = true := by
  unfold State.commitBoundary
  simp -implicitDefEqProofs
  exact commitAll_ownLock _ _ (by simpa using State.restoreShadow_ownLock _ (by simpa using h))

@[simp] theorem State.boundary_pending (s : State) (m : BoundaryIn) : (s.boundary m).pending = s.pending := by
  simp only [State.boundary]; (repeat' split) <;> simp
@[simp] theorem State.boundary_flash (s : State) (m : BoundaryIn) : (s.boundary m).store.flash = s.store.flash := by
  simp only [State.boundary]; (repeat' split) <;> simp
@[simp] theorem State.boundary_resids (s : State) (m : BoundaryIn) : (s.boundary m).tally.resids = s.tally.resids := by
  simp only [State.boundary]; (repeat' split) <;> simp
theorem State.boundary_ownLock (s : State) (m : BoundaryIn) (h : s.ownLock = true) : (s.boundary m).ownLock = true := by
  unfold State.boundary
  split
  · exact h
  · dsimp only
    split
    · exact (State.suspendedBoundary_ownLock _ _).trans h
    · split
      · exact (State.suspendedBoundary_ownLock _ _).trans h
      · refine commitBoundary_ownLock _ _ ?_
        simpa using h

/-- A boundary counts one fold, but for reset held and SLEEP, where there is none. -/
theorem State.boundary_absFold (s : State) (m : BoundaryIn) :
    (s.boundary m).clk.absFold = if s.pow.held || s.pow.state = .sleep then s.clk.absFold else s.clk.absFold + 1 := by
  simp only [State.boundary]; (repeat' split) <;> simp_all

/-- A wake counts the whole folds of the interval that has passed. -/
@[simp] theorem State.wake_absFold (s : State) (x : Nat) : (s.wake x).clk.absFold = s.clk.absFold + BitVec.ofNat 64 ((s.clk.now + x) / foldFs) := by
  simp only [State.wake]
  (repeat' split) <;> simp [State.passFolds]

@[simp] theorem State.enterReset_pending (s : State) (c : Nat) : (s.enterReset c).pending = s.pending := (State.storeThrough_frame s _).1
@[simp] theorem State.enterReset_ownLock (s : State) (c : Nat) : (s.enterReset c).ownLock = false := rfl
@[simp] theorem State.enterReset_absFold (s : State) (c : Nat) : (s.enterReset c).clk.absFold = 0 := rfl
@[simp] theorem State.enterReset_tally (s : State) (c : Nat) : (s.enterReset c).tally = {} := rfl
@[simp] theorem State.enterReset_flashOk (s : State) (c : Nat) (h : flashOk s.store.flash = true) : flashOk (s.enterReset c).store.flash = true := by
  simp only [State.enterReset]; exact State.storeThrough_flashOk s _ h

/-- What the store's changes and the free draws leave alone, a loss of power leaves alone. -/
theorem State.storeThrough_keeps {β : Type} (g : State → β) (s : State) (b : Bool) (hm : ∀ s f, g (State.mapStore s f) = g s) (hd : ∀ s, g (State.draw s) = g s) :
    g (s.storeThrough b) = g s := by
  have he (x : State) : g x.eraseCut = g x := by
    unfold State.eraseCut; split
    · rw [hd, hm]
    · rfl
  have hc (x : State) : g x.saveCut = g x := by
    unfold State.saveCut; split
    · rw [hd, hm]
    · rfl
  have hp (x : State) (p : Nat) : g (x.pageLost p) = g x := by unfold State.pageLost; rw [hm, hd]
  simp only [State.storeThrough]
  split
  · exact he s
  · split
    · rw [hp, hc, he]
    · rw [hc, he]

/-- No bank erase is in progress. -/
def State.notErasing (s : State) : Prop := ∀ b, s.store.phase ≠ .erasing false b false

/-- With power, and no bank being erased, nothing is cut. -/
theorem State.storeThrough_powered (s : State) (h : s.notErasing) : s.storeThrough false = s := by
  have g : s.eraseCut = s := by
    unfold State.eraseCut
    split
    · exact absurd ‹_› (h _)
    · rfl
  exact g

/-- Reset leaves the straps, the levels at the pins and, with power, the flash. -/
theorem State.enterReset_host (s : State) (c : Nat) : (s.enterReset c).host = { straps := s.host.straps } :=
  congrArg (fun v => ({ straps := v } : HostIo)) (State.storeThrough_keeps (·.host.straps) s (decide (c = 0)) (fun _ _ => rfl) fun _ => rfl)

theorem State.enterReset_pins (s : State) (c : Nat) : (s.enterReset c).pins = s.pins.map fun p => { pad := p.pad } :=
  congrArg (Vec.map fun p : PinSt => ({ pad := p.pad } : PinSt)) (State.storeThrough_keeps (·.pins) s (decide (c = 0)) (fun _ _ => rfl) fun _ => rfl)

theorem State.enterReset_flash (s : State) (c : Nat) (h : c ≠ 0) (he : s.notErasing) : (s.enterReset c).store.flash = s.store.flash := by
  refine (congrArg (fun x : State => x.store.flash) ?_ : (s.storeThrough (decide (c = 0))).store.flash = s.store.flash)
  rw [decide_eq_false h, State.storeThrough_powered _ he]

/-- The copies are of the state that they are taken from. -/
theorem State.latchCopies_copies (s : State) :
    s.latchCopies.snap.tally = s.latchCopies.tally ∧ s.latchCopies.snap.ev = s.latchCopies.ev ∧
    s.latchCopies.snap.pens = s.latchCopies.pens ∧ s.latchCopies.snap.ssct = s.latchCopies.ssct ∧ s.latchCopies.snap.bg = s.latchCopies.bg ∧
    s.latchCopies.snap.flash = s.latchCopies.store.flash := ⟨rfl, rfl, rfl, rfl, rfl, rfl⟩

end Sys2Proof.Machine
end

