-- ==== Sys2Proof/WellFormed.lean ====
section
/-! DEFINITION. Which commands can be sent: the ranges of operands that the bus, the packet format and the fold allow. The meanings
do not assume these; a command outside them cannot come from the hardware. -/

namespace Sys2Proof

/-- A packet whose PARAMS fit the 1,034-byte packet buffer (12 R278). -/
def Call.wf (q : Call) : Bool := q.params.length ≤ 1024

/-- A crook frame is twelve bytes (14 R345). -/
def CrookSrc.wf : CrookSrc → Bool
  | .frame bs => bs.length = 12
  | .pin _ _ => true

/-- An instant lies within its fold (01 R11). -/
def inFold (t : Nat) : Bool := t < foldFs

/-- An SRAM word, and one of its 72 bits (16 R377). -/
def SramAct.wf : SramAct → Bool
  | .strike w b => w < 32000 && b < 72
  | .read w => w < 32000

/-- A PSDU holds at most 255 bytes and a 16-bit FCS counts among LENGTH (09 R204, 13 R316). -/
def RxFrame.wf (f : RxFrame) : Bool := f.psdu.length ≤ 255 && f.ns < 1000000000

/-- Well-formedness of a command. -/
def Instr.wf : Instr → Bool
  | .writeCommandPacket b t => b.length ≤ 1034 && inFold t
  | .readReply _ _ t => inFold t
  | .badInstructionTransaction _ t => inFold t
  | .gpioSet o d t => o.val + d.length ≤ 4 && inFold t
  | .gpioClr o d t => o.val + d.length ≤ 4 && inFold t
  | .gpioTgl o d t => o.val + d.length ≤ 4 && inFold t
  | .directRegisterWrite _ _ t => inFold t
  | .stepFlock c t => c.wf && inFold t
  | .gateOn c t => c.wf && inFold t
  | .gateOff c t => c.wf && inFold t
  | .freeze c t => c.wf && inFold t
  | .gatherNow c t => c.wf && inFold t

  | .nop q => q.wf
  | .audit q => q.wf
  | .outputsRelease q => q.wf
  | .powerState q => q.wf
  | .softReset q => q.wf
  | .resetInfo q => q.wf
  | .refInput q => q.wf
  | .refInputGroupRead q => q.wf
  | .refMon q => q.wf
  | .refMonGroupRead q => q.wf
  | .refRank q => q.wf
  | .refRankGroupRead q => q.wf
  | .refStatus q => q.wf
  | .tdcArm q => q.wf
  | .tdcResult q => q.wf
  | .force q => q.wf
  | .selStatus q => q.wf
  | .loop q => q.wf
  | .loopGroupRead q => q.wf
  | .stile q => q.wf
  | .stileGroupRead q => q.wf
  | .loopStatus q => q.wf
  | .hold q => q.wf
  | .newOsc q => q.wf
  | .modelRead q => q.wf
  | .modelWrite q => q.wf
  | .step q => q.wf
  | .tallyCancel q => q.wf
  | .tallyRead q => q.wf
  | .vco q => q.wf
  | .vcoGroupRead q => q.wf
  | .paddock q => q.wf
  | .paddockGroupRead q => q.wf
  | .out q => q.wf
  | .outGroupRead q => q.wf
  | .outDelay q => q.wf
  | .gateWindow q => q.wf
  | .gateFlush q => q.wf
  | .outStatus q => q.wf
  | .mon q => q.wf
  | .monGroupRead q => q.wf
  | .align q => q.wf
  | .alignGroupRead q => q.wf
  | .gather q => q.wf
  | .time q => q.wf
  | .timeGroupRead q => q.wf
  | .timeWrite q => q.wf
  | .timeRead q => q.wf
  | .ssct q => q.wf
  | .ssctGroupRead q => q.wf
  | .ssctLoad q => q.wf
  | .ssctRead q => q.wf
  | .ssctSave q => q.wf
  | .ssctStatus q => q.wf
  | .rf q => q.wf
  | .rfGroupRead q => q.wf
  | .chanWrite q => q.wf
  | .chanRead q => q.wf
  | .rfRx q => q.wf
  | .rfTx q => q.wf
  | .rfCapture q => q.wf
  | .rfCal q => q.wf
  | .rfStatus q => q.wf
  | .commons q => q.wf
  | .commonsGroupRead q => q.wf
  | .mgmt q => q.wf
  | .mgmtGroupRead q => q.wf
  | .commonsKey q => q.wf
  | .commonsStatus q => q.wf
  | .drove q => q.wf
  | .droveGroupRead q => q.wf
  | .droveCmd q => q.wf
  | .droveStatus q => q.wf
  | .configSave q => q.wf
  | .pageWrite q => q.wf
  | .pageErase q => q.wf
  | .pageRead q => q.wf
  | .storeStatus q => q.wf
  | .pageWear q => q.wf
  | .patchWrite q => q.wf
  | .evtConfig q => q.wf
  | .evtNotify q => q.wf
  | .evtStatus q => q.wf
  | .evtClear q => q.wf
  | .evtCounters q => q.wf
  | .evtQueue q => q.wf
  | .pin q => q.wf
  | .pinGroupRead q => q.wf
  | .pinLock q => q.wf
  | .pinStatus q => q.wf
  | .ownerSet q => q.wf
  | .ownerRead q => q.wf
  | .ownerLock q => q.wf
  | .penReset q => q.wf
  | .penDisable q => q.wf
  | .penEnable q => q.wf
  | .inject q => q.wf
  | .refKill q => q.wf
  | .storeInject q => q.wf
  | .slotOverrun q => q.wf
  | .drvTest q => q.wf
  | .rfTone q => q.wf
  | .testStatus q => q.wf
  | .telemRead q => q.wf
  | .crookStep q => q.wf
  | .crookGather q => q.wf
  | .crookClear q => q.wf
  | .foldBoundary m => (m.padMissed.all fun p => p.1 < 16)
  | .sleepEntry e => inFold e.t
  | .dpllUpdateSlot _ _ t => inFold t
  | .stileAndTallySlot t => inFold t
  | .shaftTableSlot t => inFold t
  | .outputSchedulerSlot t => inFold t
  | .referenceMonitorsSlot t => inFold t
  | .eventEngineSlot t => inFold t
  | .commandInterpreterSlot _ _ t => inFold t
  | .commonsMacSlot t => inFold t
  | .droveSlot _ t => inFold t
  | .storeEngineSlot _ t => inFold t
  | .flashWordProgramEnd t => inFold t
  | .calibrationSlot _ _ t => inFold t
  | .scrubSlot acts _ t => acts.all SramAct.wf && inFold t
  | .telemetrySlot _ t => inFold t
  | .reserveSlot _ t => inFold t
  | .slotEnd _ _ t => inFold t
  | .refEdge _ _ _ t => inFold t
  | .activityWindowExpiry _ t => inFold t
  | .preciseGateEnd _ _ t => inFold t
  | .qualificationTimerExpiry _ t => inFold t
  | .tdcIntervalTimeout _ => true
  | .bwStageEnd => true
  | .lockAchieved => true
  | .lossOfLock => true
  | .learningObservation => true
  | .modelSaveTimer => true
  | .hourlyRecord t => inFold t
  | .refreshCheck => true
  | .compaction => true
  | .compactionRetry => true
  | .deferredCommandServed _ t => inFold t
  | .longCommandStart _ t => inFold t
  | .jobEnd _ _ t => inFold t
  | .penResetEnd _ => true
  | .tallyEntryActivation _ => true
  | .gateWindowStart _ t => inFold t
  | .gateWindowStop _ t => inFold t
  | .alignedStart _ => true
  | .shaftIndexEdge _ t => inFold t
  | .shaftIndexTimeout t => inFold t
  | .monSecondEnd meas => (meas.all fun p => p.1 < 16)
  | .secondsComparison t => inFold t
  | .uartSentence _ _ _ t => inFold t
  | .gpioEdge _ _ t => inFold t
  | .penResetPinEdge _ _ t => inFold t
  | .apllLockAcquired => true
  | .apllLossOfLock t => inFold t
  | .apllLockTimeout t => inFold t
  | .outputReleaseTakesEffect => true
  | .npfailFall t => inFold t
  | .hotsetSaveEnd _ t => inFold t
  | .powerOnReset => true
  | .pinReset _ => true
  | .watchdogExpiry => true
  | .softResetExecution t => inFold t
  | .resetRelease _ _ => true
  | .wakeRequest _ _ => true
  | .wakeDividerRestart => true
  | .leadFrameTransmit t => inFold t
  | .droveFrameReceived words _ t => words.length = 60 && inFold t
  | .wordLockLoss e => inFold e.t
  | .claimTimeout => true
  | .leadTimeout => true
  | .ringReturnTimeout => true
  | .echoMeasurement _ => true
  | .droveFreezeTakesEffect => true
  | .beaconDue => true
  | .ccaAttempt _ t => inFold t
  | .txFrameEnd _ t => inFold t
  | .radioFrameReceived f t => f.wf && inFold t
  | .delayReqDue => true
  | .delayRespDue => true
  | .exchangeTimeout => true
  | .beaconMissed t => inFold t
  | .carrierDetect _ t => inFold t
  | .diversityWindowEnd _ _ t => inFold t
  | .rxBlock _ _ _ _ iq t => iq.length ≤ 24 && inFold t
  | .hopSettleComplete _ t => inFold t
  | .synthUnlock t => inFold t
  | .radioCalDue _ => true
  | .radioCalibrationEnd _ f t => f.trim.length ≤ 12 && inFold t
  | .npfailRise => true
  | .flashEraseEnd t => inFold t
  | .pinInputLevelChange _ _ => true
  | .codeError t => inFold t
  | .prbsCheckerLock _ _ => true
  | .jtagTckEdge _ _ _ _ => true

end Sys2Proof
end

