-- ==== Sys2Proof/Tests/Slice0.lean ====
section
/-! SUPPORT. The model's own tests. Expected results come from the spec's tables and worked numbers; each test runs one command. The theorems named
`witness_` show, for each statement with hypotheses, states and operands that meet them, clause by clause. -/

namespace Sys2Proof.Tests

open Machine

-- A test that the kernel evaluates waits for all that stands before it: one after another, so that not each waits in a thread of its own.
set_option Elab.async false

/-! ### States and packets of the tests -/

abbrev r0 : State := State.reset

/-- An instant within slot `n` (01 R17). -/
def inSlotAt (n : Nat) : Nat := ((slotSpan n).1 + 100) * foldFs / 19200
def pk (cls : BitVec 2) (l : List Nat) : Call := { pen := 0, cls := cls, flags := 0, tag := 1, rsv := 0, params := l.map (BitVec.ofNat 8) }
def wPow (f : Power → Power) : State := { r0 with pow := f r0.pow }
def wLp (f : LoopSt → LoopSt) : State := { r0 with lp := f r0.lp }
def wStore (f : Store → Store) : State := { r0 with store := f r0.store }
def wRf (f : Radio → Radio) : State := { r0 with rf := f r0.rf }
def wCom (f : Commons → Commons) : State := { r0 with com := f r0.com }
def wDrv (f : Drove → Drove) : State := { r0 with drv := f r0.drv }
def wBg (f : Background → Background) : State := { r0 with bg := f r0.bg }
def wSsct (f : Ssct → Ssct) : State := { r0 with ssct := f r0.ssct }
def wMdl (f : Model → Model) : State := { r0 with mdl := f r0.mdl }
def wEv (f : Events → Events) : State := { r0 with ev := f r0.ev }
def wCfg (f : Settings → Settings) : State := { r0 with cfg := f r0.cfg }
def wFold (n : Nat) (s : State) : State := { s with clk := { s.clk with absFold := BitVec.ofNat 64 n } }
def anEntry : Entry := { src := .step, flock := 0, pen := 0, slot := 0, seq := 0, amount := 2500, created := 0 }
def wEntry : State := { r0 with tally := r0.tally.add anEntry }
def wGated : State := r0.updOutCfg 0 fun c => { c with config := 2 * 2 ^ 5 }
def wChan : State := wCfg fun c => { c with chans := c.chans.upd 0 fun c => { c with freq := 868300000 } }
def wLead : State := wDrv fun d => { d with state := .lead }
def wPinStep : State := r0.updIo 0 fun p => { p with pinStep := some 0xFFFFFF }
def wOwner : JobOwner := { pen := 1, tag := 9, cls := 3, opcode := 0x9010 }
def wPacket (op : BitVec 16) (cls : BitVec 2) (waits : Bool) : State :=
  r0.updIo 0 fun p => { p with queue := [{ opcode := op, call := pk cls [], waits := waits }] }
def aWriting (kind idx : Nat) (done : Bool) : Writing := { base := 1536, words := [[1], [2]], kind := kind, type := 1, idx := idx, issued := true, done := done }

/-! ### Which commands can be sent: an ill-formed term for each check -/

theorem test_wf_params : (Instr.nop { pk 1 [] with params := List.replicate 1025 0 }).wf = false := by decide +kernel

theorem test_wf_params_most : (Instr.nop { pk 1 [] with params := List.replicate 1024 0 }).wf = true := by decide +kernel

theorem test_wf_packet : (Instr.writeCommandPacket (List.replicate 1035 0) 0).wf = false := by decide +kernel

theorem test_wf_instant : (Instr.secondsComparison foldFs).wf = false ∧ (Instr.secondsComparison (foldFs - 1)).wf = true := by decide

theorem test_wf_crook : (Instr.stepFlock (.frame [0]) 0).wf = false ∧ (Instr.stepFlock (.pin 0 true) 0).wf = true := by decide

theorem test_wf_register : (Instr.gpioSet 3 [0, 0] 0).wf = false ∧ (Instr.gpioSet 3 [0] 0).wf = true := by decide

theorem test_wf_boundary : (Instr.foldBoundary { padMissed := [(16, 1)] }).wf = false ∧ (Instr.foldBoundary { padMissed := [(15, 1)] }).wf = true := by decide

theorem test_wf_mon : (Instr.monSecondEnd [(16, 0, 0)]).wf = false ∧ (Instr.monSecondEnd [(15, 0, 0)]).wf = true := by decide

theorem test_wf_scrub_word : (Instr.scrubSlot [.strike 32000 0] [] 0).wf = false ∧ (Instr.scrubSlot [.read 32000] [] 0).wf = false := by decide

theorem test_wf_scrub_bit : (Instr.scrubSlot [.strike 0 72] [] 0).wf = false ∧ (Instr.scrubSlot [.strike 31999 71, .read 31999] [] 0).wf = true := by decide

theorem test_wf_drove_frame : (Instr.droveFrameReceived [Sym.marker] true 0).wf = false := by decide

theorem reset_queue : ∀ p : Pen, (State.reset.io p).queue = [] := by decide

theorem test_wf_block : (Instr.rxBlock 0 false 0 false (List.replicate 25 0) 0).wf = false := by decide

theorem test_no_word_spells_a_command (n w : Nat) : decodeTableWord n w = none := rfl

/-! ### Commands delivered at once -/

theorem prompt_reset (cls : BitVec 2) (l : List Nat) : Prompt cls (pk cls l) State.reset :=
  ⟨rfl, rfl, Nat.zero_le _, fun h => absurd (show (0 : Pen) = 3 from h.1) (by decide), rfl, Nat.zero_lt_succ 7, fun p _ h => absurd (reset_queue p ▸ h) List.not_mem_nil,
    fun _ => rfl, rfl, rfl, rfl⟩

theorem prompt_ssctLoad : Prompt 2 { pk 2 [] with params := List.replicate 512 0 } State.reset := prompt_reset 2 []

theorem terms_ssctLoad : SsctLoadTerms { pk 2 [] with params := List.replicate 512 0 } State.reset := by
  refine ⟨List.length_replicate, rfl, fun b h => ?_, rfl⟩
  have e : ((List.replicate 512 (0 : Byte)).drop (2 * b)).take 2 = [0, 0] := by
    rw [List.drop_replicate, List.take_replicate, show min 2 (512 - 2 * b) = 2 by omega]; rfl
  have z : fldI (List.replicate 512 (0 : Byte)) (2 * b) 2 = 0 := by
    unfold fldI fld; rw [e]; rfl
  show -20000 ≤ fldI (List.replicate 512 (0 : Byte)) (2 * b) 2 ∧ fldI (List.replicate 512 (0 : Byte)) (2 * b) 2 ≤ 20000
  rw [z]; decide

theorem witness_SystemCommandsAnswered :
    (Prompt 1 (pk 1 [0, 0, 0, 0, 0, 0, 0, 0, 0, 0, 0, 0, 0, 0, 0, 0]) State.reset ∧ NopTerms (pk 1 [0, 0, 0, 0, 0, 0, 0, 0, 0, 0, 0, 0, 0, 0, 0, 0]) State.reset) ∧
    (Prompt 2 (pk 2 []) State.reset ∧ AuditTerms (pk 2 []) State.reset) ∧
    (Prompt 1 (pk 1 []) State.reset ∧ OutputsReleaseTerms (pk 1 []) State.reset) ∧
    (Prompt 1 (pk 1 [2]) State.reset ∧ PowerStateTerms (pk 1 [2]) State.reset) ∧
    (Prompt 1 (pk 1 [254, 90]) State.reset ∧ SoftResetTerms (pk 1 [254, 90]) State.reset) ∧
    (Prompt 1 (pk 1 []) State.reset ∧ ResetInfoTerms (pk 1 []) State.reset) :=
  ⟨⟨prompt_reset _ _, by decide⟩,
   ⟨prompt_reset _ _, by decide⟩,
   ⟨prompt_reset _ _, by decide⟩,
   ⟨prompt_reset _ _, by decide⟩,
   ⟨prompt_reset _ _, by decide⟩,
   ⟨prompt_reset _ _, by decide⟩⟩

theorem witness_ReferenceCommandsAnswered :
    (Prompt 1 (pk 1 [5, 4, 2, 0, 1, 0, 0, 0, 10, 0, 0, 0, 1, 0, 0, 0, 232, 3, 0, 0]) State.reset ∧ RefInputTerms (pk 1 [5, 4, 2, 0, 1, 0, 0, 0, 10, 0, 0, 0, 1, 0, 0, 0, 232, 3, 0, 0]) State.reset) ∧
    (Prompt 1 (pk 1 [5]) State.reset ∧ RefInputGroupReadTerms (pk 1 [5]) State.reset) ∧
    (Prompt 1 (pk 1 [7, 15, 15, 0, 160, 134, 1, 0, 0, 0, 0, 0, 0, 0, 0, 0, 0, 0, 0, 0, 0, 116, 59, 164, 11, 0, 128, 150, 152, 0, 0, 0, 1, 0, 0, 0]) State.reset ∧ RefMonTerms (pk 1 [7, 15, 15, 0, 160, 134, 1, 0, 0, 0, 0, 0, 0, 0, 0, 0, 0, 0, 0, 0, 0, 116, 59, 164, 11, 0, 128, 150, 152, 0, 0, 0, 1, 0, 0, 0]) State.reset) ∧
    (Prompt 1 (pk 1 [7]) State.reset ∧ RefMonGroupReadTerms (pk 1 [7]) State.reset) ∧
    (Prompt 1 (pk 1 [7, 15, 255, 15]) State.reset ∧ RefRankTerms (pk 1 [7, 15, 255, 15]) State.reset) ∧
    (Prompt 1 (pk 1 [7]) State.reset ∧ RefRankGroupReadTerms (pk 1 [7]) State.reset) ∧
    (Prompt 1 (pk 1 []) State.reset ∧ RefStatusTerms (pk 1 []) State.reset) ∧
    (Prompt 1 (pk 1 [7, 7]) State.reset ∧ TdcArmTerms (pk 1 [7, 7]) State.reset) ∧
    (Prompt 1 (pk 1 []) State.reset ∧ TdcResultTerms (pk 1 []) State.reset) :=
  ⟨⟨prompt_reset _ _, by decide⟩,
   ⟨prompt_reset _ _, by decide⟩,
   ⟨prompt_reset _ _, by decide⟩,
   ⟨prompt_reset _ _, by decide⟩,
   ⟨prompt_reset _ _, by decide⟩,
   ⟨prompt_reset _ _, by decide⟩,
   ⟨prompt_reset _ _, by decide⟩,
   ⟨prompt_reset _ _, by decide⟩,
   ⟨prompt_reset _ _, by decide⟩⟩

theorem witness_LoopCommandsAnswered :
    (Prompt 1 (pk 1 [7]) State.reset ∧ ForceTerms (pk 1 [7]) State.reset) ∧
    (Prompt 1 (pk 1 []) State.reset ∧ SelStatusTerms (pk 1 []) State.reset) ∧
    (Prompt 1 (pk 1 [1, 3, 2, 14, 0, 9, 61, 0, 0, 9, 61, 0, 1, 0, 0, 0, 16, 39, 0, 0, 0, 0, 0, 0, 64, 66, 15, 0, 0, 0, 160, 134, 1, 0, 0, 0, 232, 3, 0, 0, 232, 3, 1, 0, 160, 140, 109, 1, 168, 0, 0, 0, 0, 0, 0, 0, 0, 0, 64, 66, 15, 0, 0, 0, 0, 0]) State.reset ∧ LoopTerms (pk 1 [1, 3, 2, 14, 0, 9, 61, 0, 0, 9, 61, 0, 1, 0, 0, 0, 16, 39, 0, 0, 0, 0, 0, 0, 64, 66, 15, 0, 0, 0, 160, 134, 1, 0, 0, 0, 232, 3, 0, 0, 232, 3, 1, 0, 160, 140, 109, 1, 168, 0, 0, 0, 0, 0, 0, 0, 0, 0, 64, 66, 15, 0, 0, 0, 0, 0]) State.reset) ∧
    (Prompt 1 (pk 1 []) State.reset ∧ LoopGroupReadTerms (pk 1 []) State.reset) ∧
    (Prompt 1 (pk 1 [0, 232, 118, 72, 23, 0, 1, 0]) State.reset ∧ StileTerms (pk 1 [0, 232, 118, 72, 23, 0, 1, 0]) State.reset) ∧
    (Prompt 1 (pk 1 []) State.reset ∧ StileGroupReadTerms (pk 1 []) State.reset) ∧
    (Prompt 1 (pk 1 []) State.reset ∧ LoopStatusTerms (pk 1 []) State.reset) ∧
    (Prompt 1 (pk 1 [1]) State.reset ∧ HoldTerms (pk 1 [1]) State.reset) ∧
    (Prompt 1 (pk 1 [1]) State.reset ∧ NewOscTerms (pk 1 [1]) State.reset) ∧
    (Prompt 1 (pk 1 []) State.reset ∧ ModelReadTerms (pk 1 []) State.reset) ∧
    (Prompt 3 (pk 3 [0, 0, 0, 0, 0, 0, 0, 0, 0, 0, 0, 0, 0, 0, 0, 0, 0, 0, 0, 0, 0, 0, 0, 0, 0, 0, 0, 0, 0, 0, 0, 0, 0, 0, 0, 0, 0, 0, 0, 0, 0, 0, 0, 0, 0, 0, 0, 0]) State.reset ∧ ModelWriteTerms (pk 3 [0, 0, 0, 0, 0, 0, 0, 0, 0, 0, 0, 0, 0, 0, 0, 0, 0, 0, 0, 0, 0, 0, 0, 0, 0, 0, 0, 0, 0, 0, 0, 0, 0, 0, 0, 0, 0, 0, 0, 0, 0, 0, 0, 0, 0, 0, 0, 0]) State.reset) :=
  ⟨⟨prompt_reset _ _, by decide⟩,
   ⟨prompt_reset _ _, by decide⟩,
   ⟨prompt_reset _ _, by decide⟩,
   ⟨prompt_reset _ _, by decide⟩,
   ⟨prompt_reset _ _, by decide⟩,
   ⟨prompt_reset _ _, by decide⟩,
   ⟨prompt_reset _ _, by decide⟩,
   ⟨prompt_reset _ _, by decide⟩,
   ⟨prompt_reset _ _, by decide⟩,
   ⟨prompt_reset _ _, by decide⟩,
   ⟨prompt_reset _ _, by decide⟩⟩

theorem witness_TallyCommandsAnswered :
    (Prompt 1 (pk 1 [0, 0, 0, 0, 0, 0, 0, 0, 2, 0, 0, 0, 0, 0, 0, 0, 196, 9, 0, 0, 0, 0, 0, 0]) State.reset ∧ StepTerms (pk 1 [0, 0, 0, 0, 0, 0, 0, 0, 2, 0, 0, 0, 0, 0, 0, 0, 196, 9, 0, 0, 0, 0, 0, 0]) State.reset) ∧
    (Prompt 1 (pk 1 [1, 0, 0, 0]) wEntry ∧ TallyCancelTerms (pk 1 [1, 0, 0, 0]) wEntry) ∧
    (Prompt 2 (pk 2 [1, 255, 0, 0]) State.reset ∧ TallyReadTerms (pk 2 [1, 255, 0, 0]) State.reset) ∧
    (Prompt 1 (pk 1 [15, 1, 0, 0, 0, 0, 0, 0, 196, 9, 0, 0, 0, 0, 0, 0]) State.reset ∧ OutDelayTerms (pk 1 [15, 1, 0, 0, 0, 0, 0, 0, 196, 9, 0, 0, 0, 0, 0, 0]) State.reset) ∧
    (Prompt 1 (pk 1 [0, 128, 0, 0, 0, 0, 0, 0, 196, 9, 0, 0, 0, 0, 0, 0]) State.reset ∧ CrookStepTerms (pk 1 [0, 128, 0, 0, 0, 0, 0, 0, 196, 9, 0, 0, 0, 0, 0, 0]) State.reset) ∧
    (Prompt 1 (pk 1 [0, 128, 0, 0, 0, 0, 0, 0, 0, 128, 198, 164, 126, 141, 3, 0]) State.reset ∧ CrookGatherTerms (pk 1 [0, 128, 0, 0, 0, 0, 0, 0, 0, 128, 198, 164, 126, 141, 3, 0]) State.reset) ∧
    (Prompt 1 (pk 1 [3]) State.reset ∧ CrookClearTerms (pk 1 [3]) State.reset) :=
  ⟨⟨prompt_reset _ _, by decide⟩,
   ⟨by decide, ⟨by decide, ⟨_, rfl, by decide⟩⟩⟩,
   ⟨prompt_reset _ _, by decide⟩,
   ⟨prompt_reset _ _, by decide⟩,
   ⟨prompt_reset _ _, by decide⟩,
   ⟨prompt_reset _ _, by decide⟩,
   ⟨prompt_reset _ _, by decide⟩⟩

theorem witness_OutputCommandsAnswered :
    (Prompt 1 (pk 1 [0, 64, 120, 125, 1, 0, 0, 0]) State.reset ∧ VcoTerms (pk 1 [0, 64, 120, 125, 1, 0, 0, 0]) State.reset) ∧
    (Prompt 1 (pk 1 []) State.reset ∧ VcoGroupReadTerms (pk 1 []) State.reset) ∧
    (Prompt 1 (pk 1 [3, 64, 2, 0]) State.reset ∧ PaddockTerms (pk 1 [3, 64, 2, 0]) State.reset) ∧
    (Prompt 1 (pk 1 [3]) State.reset ∧ PaddockGroupReadTerms (pk 1 [3]) State.reset) ∧
    (Prompt 1 (pk 1 [15, 0, 0, 0, 0, 0, 0, 0, 1, 0, 0, 0, 0, 0, 0, 0, 0, 0, 0, 0]) State.reset ∧ OutTerms (pk 1 [15, 0, 0, 0, 0, 0, 0, 0, 1, 0, 0, 0, 0, 0, 0, 0, 0, 0, 0, 0]) State.reset) ∧
    (Prompt 1 (pk 1 [15]) State.reset ∧ OutGroupReadTerms (pk 1 [15]) State.reset) ∧
    (Prompt 1 (pk 1 [0, 0, 0, 0, 0, 0, 0, 0, 2, 0, 0, 0, 0, 0, 0, 0, 1, 0, 0, 0, 2, 0, 0, 0]) wGated ∧ GateWindowTerms (pk 1 [0, 0, 0, 0, 0, 0, 0, 0, 2, 0, 0, 0, 0, 0, 0, 0, 1, 0, 0, 0, 2, 0, 0, 0]) wGated) ∧
    (Prompt 1 (pk 1 [15]) State.reset ∧ GateFlushTerms (pk 1 [15]) State.reset) ∧
    (Prompt 1 (pk 1 [15]) State.reset ∧ OutStatusTerms (pk 1 [15]) State.reset) ∧
    (Prompt 1 (pk 1 [0, 16, 165, 212, 232, 0]) State.reset ∧ MonTerms (pk 1 [0, 16, 165, 212, 232, 0]) State.reset) ∧
    (Prompt 1 (pk 1 []) State.reset ∧ MonGroupReadTerms (pk 1 []) State.reset) :=
  ⟨⟨prompt_reset _ _, by decide⟩,
   ⟨prompt_reset _ _, by decide⟩,
   ⟨prompt_reset _ _, by decide⟩,
   ⟨prompt_reset _ _, by decide⟩,
   ⟨prompt_reset _ _, by decide⟩,
   ⟨prompt_reset _ _, by decide⟩,
   ⟨by decide, by decide⟩,
   ⟨prompt_reset _ _, by decide⟩,
   ⟨prompt_reset _ _, by decide⟩,
   ⟨prompt_reset _ _, by decide⟩,
   ⟨prompt_reset _ _, by decide⟩⟩

theorem witness_TimeCommandsAnswered :
    (Prompt 1 (pk 1 [15, 0, 255, 255, 0, 0, 193, 111, 242, 134, 35, 0]) State.reset ∧ AlignTerms (pk 1 [15, 0, 255, 255, 0, 0, 193, 111, 242, 134, 35, 0]) State.reset) ∧
    (Prompt 1 (pk 1 [15]) State.reset ∧ AlignGroupReadTerms (pk 1 [15]) State.reset) ∧
    (Prompt 1 (pk 1 [0, 0, 0, 0, 0, 0, 0, 0, 2, 0, 0, 0, 0, 0, 0, 0, 0, 162, 148, 26, 29, 0, 0, 0]) State.reset ∧ GatherTerms (pk 1 [0, 0, 0, 0, 0, 0, 0, 0, 2, 0, 0, 0, 0, 0, 0, 0, 0, 162, 148, 26, 29, 0, 0, 0]) State.reset) ∧
    (Prompt 1 (pk 1 [4, 2, 255, 1, 0, 194, 1, 0, 255, 255, 0, 0]) State.reset ∧ TimeTerms (pk 1 [4, 2, 255, 1, 0, 194, 1, 0, 255, 255, 0, 0]) State.reset) ∧
    (Prompt 1 (pk 1 []) State.reset ∧ TimeGroupReadTerms (pk 1 []) State.reset) ∧
    (Prompt 1 (pk 1 [0, 0, 0, 0, 0, 0, 0, 0, 255, 201, 154, 59, 63, 66, 15, 0]) State.reset ∧ TimeWriteTerms (pk 1 [0, 0, 0, 0, 0, 0, 0, 0, 255, 201, 154, 59, 63, 66, 15, 0]) State.reset) ∧
    (Prompt 1 (pk 1 []) State.reset ∧ TimeReadTerms (pk 1 []) State.reset) ∧
    (Prompt 1 (pk 1 [2, 1, 16, 0]) State.reset ∧ SsctTerms (pk 1 [2, 1, 16, 0]) State.reset) ∧
    (Prompt 1 (pk 1 []) State.reset ∧ SsctGroupReadTerms (pk 1 []) State.reset) ∧
    (Prompt 2 ({ pk 2 [] with params := List.replicate 512 0 }) State.reset ∧ SsctLoadTerms ({ pk 2 [] with params := List.replicate 512 0 }) State.reset) ∧
    (Prompt 2 (pk 2 []) State.reset ∧ SsctReadTerms (pk 2 []) State.reset) ∧
    (Prompt 3 (pk 3 []) State.reset ∧ SsctSaveTerms (pk 3 []) State.reset) ∧
    (Prompt 1 (pk 1 []) State.reset ∧ SsctStatusTerms (pk 1 []) State.reset) :=
  ⟨⟨prompt_reset _ _, by decide⟩,
   ⟨prompt_reset _ _, by decide⟩,
   ⟨prompt_reset _ _, by decide⟩,
   ⟨prompt_reset _ _, by decide⟩,
   ⟨prompt_reset _ _, by decide⟩,
   ⟨prompt_reset _ _, by decide⟩,
   ⟨prompt_reset _ _, by decide⟩,
   ⟨prompt_reset _ _, by decide⟩,
   ⟨prompt_reset _ _, by decide⟩,
   ⟨prompt_ssctLoad, terms_ssctLoad⟩,
   ⟨prompt_reset _ _, by decide⟩,
   ⟨prompt_reset _ _, by decide⟩,
   ⟨prompt_reset _ _, by decide⟩⟩

theorem witness_RadioCommandsAnswered :
    (Prompt 1 (pk 1 [0, 2, 1, 1, 5, 1, 14, 3, 1, 31, 31, 15, 1, 1, 1, 0]) State.reset ∧ RfTerms (pk 1 [0, 2, 1, 1, 5, 1, 14, 3, 1, 31, 31, 15, 1, 1, 1, 0]) State.reset) ∧
    (Prompt 1 (pk 1 []) State.reset ∧ RfGroupReadTerms (pk 1 []) State.reset) ∧
    (Prompt 1 (pk 1 [63, 0, 0, 0, 0, 112, 56, 57]) State.reset ∧ ChanWriteTerms (pk 1 [63, 0, 0, 0, 0, 112, 56, 57]) State.reset) ∧
    (Prompt 1 (pk 1 [63]) State.reset ∧ ChanReadTerms (pk 1 [63]) State.reset) ∧
    (Prompt 1 (pk 1 [0]) State.reset ∧ RfRxTerms (pk 1 [0]) State.reset) ∧
    (Prompt 2 (pk 2 [1]) wChan ∧ RfTxTerms (pk 2 [1]) wChan) ∧
    (Prompt 2 (pk 2 [1, 0, 255, 0]) State.reset ∧ RfCaptureTerms (pk 2 [1, 0, 255, 0]) State.reset) ∧
    (Prompt 3 (pk 3 [15]) State.reset ∧ RfCalTerms (pk 3 [15]) State.reset) ∧
    (Prompt 1 (pk 1 []) State.reset ∧ RfStatusTerms (pk 1 []) State.reset) ∧
    (Prompt 1 (pk 1 [2]) wChan ∧ RfToneTerms (pk 1 [2]) wChan) :=
  ⟨⟨prompt_reset _ _, by decide⟩,
   ⟨prompt_reset _ _, by decide⟩,
   ⟨prompt_reset _ _, by decide⟩,
   ⟨prompt_reset _ _, by decide⟩,
   ⟨prompt_reset _ _, by decide⟩,
   ⟨by decide, by decide⟩,
   ⟨prompt_reset _ _, by decide⟩,
   ⟨prompt_reset _ _, by decide⟩,
   ⟨prompt_reset _ _, by decide⟩,
   ⟨by decide, by decide⟩⟩

theorem witness_NetworkCommandsAnswered :
    (Prompt 1 (pk 1 [0, 63, 0, 14, 14, 196, 8, 0, 254, 255, 0, 4, 0, 0, 160, 15, 254, 255, 255, 255, 128, 150, 152, 0, 0, 0, 0, 0]) State.reset ∧ CommonsTerms (pk 1 [0, 63, 0, 14, 14, 196, 8, 0, 254, 255, 0, 4, 0, 0, 160, 15, 254, 255, 255, 255, 128, 150, 152, 0, 0, 0, 0, 0]) State.reset) ∧
    (Prompt 1 (pk 1 []) State.reset ∧ CommonsGroupReadTerms (pk 1 []) State.reset) ∧
    (Prompt 1 (pk 1 [1, 0, 0, 0, 254, 255, 255, 255]) State.reset ∧ MgmtTerms (pk 1 [1, 0, 0, 0, 254, 255, 255, 255]) State.reset) ∧
    (Prompt 1 (pk 1 []) State.reset ∧ MgmtGroupReadTerms (pk 1 []) State.reset) ∧
    (Prompt 3 (pk 3 [0, 0, 0, 0, 0, 0, 0, 0, 0, 0, 0, 0, 0, 0, 0, 0]) State.reset ∧ CommonsKeyTerms (pk 3 [0, 0, 0, 0, 0, 0, 0, 0, 0, 0, 0, 0, 0, 0, 0, 0]) State.reset) ∧
    (Prompt 1 (pk 1 []) State.reset ∧ CommonsStatusTerms (pk 1 []) State.reset) ∧
    (Prompt 1 (pk 1 [1, 1, 255, 14, 14, 3, 0, 0, 254, 255, 255, 255]) State.reset ∧ DroveTerms (pk 1 [1, 1, 255, 14, 14, 3, 0, 0, 254, 255, 255, 255]) State.reset) ∧
    (Prompt 1 (pk 1 []) State.reset ∧ DroveGroupReadTerms (pk 1 []) State.reset) ∧
    (Prompt 1 (pk 1 [1, 0, 33, 0, 0, 0, 0, 0, 0, 0, 0, 0, 72, 232, 1, 0]) wLead ∧ DroveCmdTerms (pk 1 [1, 0, 33, 0, 0, 0, 0, 0, 0, 0, 0, 0, 72, 232, 1, 0]) wLead) ∧
    (Prompt 1 (pk 1 []) State.reset ∧ DroveStatusTerms (pk 1 []) State.reset) :=
  ⟨⟨prompt_reset _ _, by decide⟩,
   ⟨prompt_reset _ _, by decide⟩,
   ⟨prompt_reset _ _, by decide⟩,
   ⟨prompt_reset _ _, by decide⟩,
   ⟨prompt_reset _ _, by decide⟩,
   ⟨prompt_reset _ _, by decide⟩,
   ⟨prompt_reset _ _, by decide⟩,
   ⟨prompt_reset _ _, by decide⟩,
   ⟨by decide, by decide⟩,
   ⟨prompt_reset _ _, by decide⟩⟩

theorem witness_StoreCommandsAnswered :
    (Prompt 3 (pk 3 [1, 0, 0, 0]) State.reset ∧ ConfigSaveTerms (pk 3 [1, 0, 0, 0]) State.reset) ∧
    (Prompt 3 (pk 3 [31, 255, 0, 0, 7]) State.reset ∧ PageWriteTerms (pk 3 [31, 255, 0, 0, 7]) State.reset) ∧
    (Prompt 3 (pk 3 [31]) State.reset ∧ PageEraseTerms (pk 3 [31]) State.reset) ∧
    (Prompt 2 (pk 2 [31, 255, 0, 1]) State.reset ∧ PageReadTerms (pk 2 [31, 255, 0, 1]) State.reset) ∧
    (Prompt 1 (pk 1 []) State.reset ∧ StoreStatusTerms (pk 1 []) State.reset) ∧
    (Prompt 2 (pk 2 []) State.reset ∧ PageWearTerms (pk 2 []) State.reset) ∧
    (Prompt 3 (pk 3 [0, 1, 0, 0, 9]) State.reset ∧ PatchWriteTerms (pk 3 [0, 1, 0, 0, 9]) State.reset) ∧
    (Prompt 1 (pk 1 [2, 17]) State.reset ∧ StoreInjectTerms (pk 1 [2, 17]) State.reset) ∧
    (Prompt 2 (pk 2 [63, 16]) State.reset ∧ TelemReadTerms (pk 2 [63, 16]) State.reset) :=
  ⟨⟨prompt_reset _ _, by decide⟩,
   ⟨prompt_reset _ _, by decide⟩,
   ⟨prompt_reset _ _, by decide⟩,
   ⟨prompt_reset _ _, by decide⟩,
   ⟨prompt_reset _ _, by decide⟩,
   ⟨prompt_reset _ _, by decide⟩,
   ⟨prompt_reset _ _, by decide⟩,
   ⟨prompt_reset _ _, by decide⟩,
   ⟨prompt_reset _ _, by decide⟩⟩

theorem witness_EventCommandsAnswered :
    (Prompt 2 (pk 2 [31, 1, 1, 0, 0]) State.reset ∧ EvtConfigTerms (pk 2 [31, 1, 1, 0, 0]) State.reset) ∧
    (Prompt 1 (pk 1 [24, 1, 8, 0, 0]) State.reset ∧ EvtNotifyTerms (pk 1 [24, 1, 8, 0, 0]) State.reset) ∧
    (Prompt 2 (pk 2 [0, 0, 32, 1]) State.reset ∧ EvtStatusTerms (pk 2 [0, 0, 32, 1]) State.reset) ∧
    (Prompt 1 (pk 1 [24, 1, 8, 0, 0]) State.reset ∧ EvtClearTerms (pk 1 [24, 1, 8, 0, 0]) State.reset) ∧
    (Prompt 2 (pk 2 [32, 0, 0, 1]) State.reset ∧ EvtCountersTerms (pk 2 [32, 0, 0, 1]) State.reset) ∧
    (Prompt 2 (pk 2 [50, 1, 0, 0]) State.reset ∧ EvtQueueTerms (pk 2 [50, 1, 0, 0]) State.reset) :=
  ⟨⟨prompt_reset _ _, by decide⟩,
   ⟨prompt_reset _ _, by decide⟩,
   ⟨prompt_reset _ _, by decide⟩,
   ⟨prompt_reset _ _, by decide⟩,
   ⟨prompt_reset _ _, by decide⟩,
   ⟨prompt_reset _ _, by decide⟩⟩

theorem witness_PinCommandsAnswered :
    (Prompt 1 (pk 1 [23, 0, 0, 3, 4, 0, 0, 0]) State.reset ∧ PinTerms (pk 1 [23, 0, 0, 3, 4, 0, 0, 0]) State.reset) ∧
    (Prompt 1 (pk 1 [23]) State.reset ∧ PinGroupReadTerms (pk 1 [23]) State.reset) ∧
    (Prompt 1 (pk 1 [237, 94, 0, 0, 255, 255, 255, 0]) State.reset ∧ PinLockTerms (pk 1 [237, 94, 0, 0, 255, 255, 255, 0]) State.reset) ∧
    (Prompt 1 (pk 1 [222, 192, 0, 0, 255, 255, 255, 0]) wPinStep ∧ PinLockSecondTerms (pk 1 [222, 192, 0, 0, 255, 255, 255, 0]) wPinStep) ∧
    (Prompt 1 (pk 1 []) State.reset ∧ PinStatusTerms (pk 1 []) State.reset) ∧
    (Prompt 1 (pk 1 [95, 3]) State.reset ∧ OwnerSetTerms (pk 1 [95, 3]) State.reset) ∧
    (Prompt 1 (pk 1 []) State.reset ∧ OwnerReadTerms (pk 1 []) State.reset) ∧
    (Prompt 1 (pk 1 []) State.reset ∧ OwnerLockTerms (pk 1 []) State.reset) ∧
    (Prompt 1 (pk 1 [3]) State.reset ∧ PenResetTerms (pk 1 [3]) State.reset) ∧
    (Prompt 1 (pk 1 [3]) State.reset ∧ PenDisableTerms (pk 1 [3]) State.reset) ∧
    (Prompt 1 (pk 1 [3]) State.reset ∧ PenEnableTerms (pk 1 [3]) State.reset) :=
  ⟨⟨prompt_reset _ _, by decide⟩,
   ⟨prompt_reset _ _, by decide⟩,
   ⟨prompt_reset _ _, by decide⟩,
   ⟨by decide, by decide⟩,
   ⟨prompt_reset _ _, by decide⟩,
   ⟨prompt_reset _ _, by decide⟩,
   ⟨prompt_reset _ _, by decide⟩,
   ⟨prompt_reset _ _, by decide⟩,
   ⟨prompt_reset _ _, by decide⟩,
   ⟨prompt_reset _ _, by decide⟩,
   ⟨prompt_reset _ _, by decide⟩⟩

theorem witness_TestCommandsAnswered :
    (Prompt 1 (pk 1 [1, 4, 255, 255, 0, 0, 0, 0, 0, 228, 11, 84, 2, 0, 0, 0]) State.reset ∧ InjectTerms (pk 1 [1, 4, 255, 255, 0, 0, 0, 0, 0, 228, 11, 84, 2, 0, 0, 0]) State.reset) ∧
    (Prompt 1 (pk 1 [7, 1]) State.reset ∧ RefKillTerms (pk 1 [7, 1]) State.reset) ∧
    (Prompt 1 (pk 1 [15, 0, 1, 0]) State.reset ∧ SlotOverrunTerms (pk 1 [15, 0, 1, 0]) State.reset) ∧
    (Prompt 1 (pk 1 [4]) State.reset ∧ DrvTestTerms (pk 1 [4]) State.reset) ∧
    (Prompt 1 (pk 1 []) State.reset ∧ TestStatusTerms (pk 1 []) State.reset) :=
  ⟨⟨prompt_reset _ _, by decide⟩,
   ⟨prompt_reset _ _, by decide⟩,
   ⟨prompt_reset _ _, by decide⟩,
   ⟨prompt_reset _ _, by decide⟩,
   ⟨prompt_reset _ _, by decide⟩⟩

/-! ### The host's side, the crook and the boundary -/

theorem witness_StepRunsTheFrontCommand : ({ r0 with pending := [Instr.nop (pk 1 [])] } : State).pending = [Instr.nop (pk 1 [])] ∧ r0.pending = [] := by decide

theorem witness_ClosedInterfacesIgnoreTheHost : (wPow fun p => { p with held := true }).ifaceOpen = false ∧ (wPow fun p => { p with opened := false }).ifaceOpen = false ∧
    (wPow fun p => { p with state := .sleep }).ifaceOpen = false ∧ (0x58 : BitVec 7).toNat = (wPow fun p => { p with held := true }).i2cAddress := by decide

theorem witness_HostTransactionsServed :
    r0.ifaceOpen = true ∧ (pk 1 [1]).params.length ≤ 1024 ∧ ¬((pk 1 [1]).pen = 3 ∧ r0.cfg.com.mgmtEn = true) ∧ (r0.penSt 0).state = .active ∧ 0 < (r0.io 0).free ∧
    (let s := wCfg fun c => { c with com := { c.com with mgmtEn := true } }; s.ifaceOpen = true ∧ ({ pk 1 [] with pen := 3 } : Call).pen = 3 ∧ s.cfg.com.mgmtEn = true) ∧
    (let s := r0.updPen 1 fun x => { x with state := .disabled }; s.ifaceOpen = true ∧ (s.penSt 1).state = .disabled) ∧
    (let s := r0.updPen 1 fun x => { x with state := .resetting }; s.ifaceOpen = true ∧ (s.penSt 1).state = .resetting) ∧
    (let s := r0.updIo 0 fun x => { x with free := 0 }; s.ifaceOpen = true ∧ (s.penSt 0).state = .active ∧ (s.io 0).free = 0) ∧
    (let b : List Byte := [0x10, 1, 1, 0, 0, 0, 0, 0, 0xFF]; b.length ≠ 10 + fld b 4 2) ∧
    (let b : List Byte := [0x10, 1, 1, 0, 0, 0, 0, 0, 0xFF, 0xFF];
      b.length = 10 + fld b 4 2 ∧ fld b 4 2 ≤ 1024 ∧ crc16 (b.take (b.length - 2)) ≠ fld b (b.length - 2) 2) ∧
    (let r : Reply := { pen := 0, cls := 1, tag := 1, status := 0, opcode := 1, data := [] };
     ((r0.updIo 0 fun x => { x with replies := [r] }).io 0).oldest = some r) ∧
    ((0 : Byte) = 0 ∧ 5 < (6 : Byte).toNat ∧ ([] : List Byte).length ≠ 12 ∧ (List.replicate 12 (0 : Byte)).length = 12) ∧
    ((0x58 : BitVec 7).toNat = r0.i2cAddress ∧ (0x59 : BitVec 7).toNat ≠ r0.i2cAddress ∧ 4 < (5 : Byte).toNat ∧ 0 < 1) := by decide +kernel

theorem witness_GpioRegistersActOnLatches : r0.ifaceOpen = true ∧ r0.host.patchLoaded = none ∧
    (let s := { r0 with host := { r0.host with patchLoaded := some 1 } }; s.ifaceOpen = true ∧ s.host.patchLoaded ≠ none) ∧
    (0 : Byte).toNat + 20 ≤ 0x14 ∧ 0x20 ≤ (0x20 : Byte).toNat ∧ (0x20 : Byte).toNat + 224 ≤ 256 := by decide

/-- A crook frame whose CRC is right: the action `code` of pen 0, on no outputs. -/
def goodFrame (code : Nat) : List Byte :=
  let b : List Byte := [BitVec.ofNat 8 code, 0, 0, 0, 0, 0, 0, 0, 0, 0]
  b ++ le 2 (crc16 b)

/-- Pen 0 with a step and a gather loaded. -/
def wStepLoad : State := r0.updCrook 0 fun c => { c with step := some 1, gather := some (1, 0) }
def aCrookStep : Entry := { anEntry with flock := 1, crook := true, prog := [(0, 0)] }
def wCrook : State := { wStepLoad with tally := wStepLoad.tally.add aCrookStep }

/-- The same from a pin, EDGE 0, whose pen owns OUT0, a gated output. -/
def wCrookPin (code : Nat) : State :=
  { wCrook with cfg := { wGated.cfg with pins := wGated.cfg.pins.upd 8 fun p => { p with func := 3, sub := BitVec.ofNat 8 code } } }

theorem witness_CrookActionsFire :
    (0 < foldFs ∧ wCrook.ifaceOpen = true ∧ ∀ n ∈ [1, 2, 3, 4, 5], (goodFrame n).length = 12 ∧ (wCrook.setNow 7).crookCmd n (.frame (goodFrame n)) = some (decodeCrook (goodFrame n)) ∧
      (decodeCrook (goodFrame n)).code = n ∧ (wCrook.setNow 7).crookCause (decodeCrook (goodFrame n)) = 0) ∧
    (∀ n ∈ [1, 2, 3, 4, 5], (wCrookPin n).pinsRun = true ∧ (wCrookPin n).ifaceOpen = true ∧
      (((wCrookPin n).setNow 7).crookCmd n (.pin 8 true)).map (fun c => (c.code, ((wCrookPin n).setNow 7).crookCause c)) = some (n, 0)) ∧
    (let c := decodeCrook (goodFrame 1); let e := { aCrookStep with seq := 1 };
     wCrook.crookEntry c.pen = some e ∧ e.src = .step ∧ e.prog = (flockOuts e.flock).map (fun o => (o, 0)) ∧ (wCrook.out 0).running = false ∧
      ((wCrook.updOut 0 fun x => { x with running := true }).out 0).running = true) ∧
    (flockOuts 1 = [0] ∧ (wGated.outCfg 0).mode = 2 ∧ (wGated.out 0).gate = false ∧ (r0.outCfg 0).mode ≠ 2 ∧ wCrook.lp.held = false) ∧
    (let s := { wCrook with lp := { r0.lp with held := true } }; s.lp.held = true ∧ (s.setNow 7).crookCause (decodeCrook (goodFrame 4)) = 0) ∧
    ((wCrook.crook.getD 0 {}).gather = some (1, 0) ∧ (wCrook.gatherable 1).length ≤ wCrook.slotsLeft) ∧
    (let s := wCrook.updOutCfg 0 fun c => { c with config := 1 * 2 ^ 5 + 2 ^ 13 };
     let s : State := { s with tally := { s.tally with crookNew := List.replicate 30 anEntry } };
     (s.crook.getD 0 {}).gather = some (1, 0) ∧ s.slotsLeft < (s.gatherable 1).length) := by decide +kernel

theorem witness_CrookActionsRefused :
    r0.ifaceOpen = true ∧ (∀ n ∈ [1, 5], (r0.setNow 0).crookCause (decodeCrook (goodFrame n)) = 5 ∧ (r0.setNow 0).crookCmd n (.frame (goodFrame n)) = some (decodeCrook (goodFrame n))) ∧
    (let b := (goodFrame 4).take 11 ++ [0xFF]; b.length = 12 ∧ (r0.setNow 0).crookCause (decodeCrook b) = 1 ∧ (r0.setNow 0).crookCmd 4 (.frame b) = some (decodeCrook b)) ∧
    ([] : List Byte).length ≠ 12 ∧ (List.replicate 12 (0 : Byte)).length = 12 ∧ crc16 ((List.replicate 12 (0 : Byte)).take 10) ≠ fld (List.replicate 12 (0 : Byte)) 10 2 ∧
    (decodeCrook (goodFrame 6)).fault = 2 ∧ (decodeCrook (goodFrame 0)).fault = 2 ∧ (decodeCrook (goodFrame 5)).fault = 0 ∧
    (wPow fun p => { p with pinsAsleep := true }).pinsRun = false ∧ (wPow fun p => { p with pinsAsleep := true }).ifaceOpen = true ∧
    (let s := wCrookPin 2; s.pinsRun = true ∧ (s.setNow 0).crookCmd 2 (.pin 8 true) ≠ none ∧ (s.setNow 0).crookCmd 2 (.pin 8 false) = none) ∧
    (let s := r0.updPen 1 fun x => { x with state := .disabled }; (s.penSt 1).state ≠ .active) ∧
    (let s := r0.updCrook 0 fun c => { c with busyTo := 1 }; s.instant < (s.crook.getD 0 {}).busyTo) ∧ (r0.crook.getD 0 {}).busyTo ≤ r0.instant := by decide +kernel

theorem witness_BoundaryTakesEffect : r0.pow.held = false ∧ r0.pow.state ≠ .sleep ∧ r0.pow.suspended = false ∧ r0.pow.bootIn = 0 ∧ r0.host.staged = [] ∧ r0.bg.restore = [] ∧
    (let s := wPow fun p => { p with suspended := true, resume := true, booting := true }; s.pow.held = false ∧ s.pow.resume = true ∧ s.pow.npfail = false ∧ s.pow.bootIn = 0) ∧
    (let s := wPow fun p => { p with suspended := true }; s.pow.held = false ∧ s.pow.state ≠ .sleep ∧ s.pow.suspended = true ∧ s.pow.resume = false ∧ s.lp.dcoSeq = none ∧ s.ev.late = []) ∧
    (let s := wPow fun p => { p with booting := true, bootIn := 1 }; s.pow.held = false ∧ s.pow.state ≠ .sleep ∧ s.pow.suspended = false ∧ s.pow.bootIn ≠ 0) := by decide

/-! ### Power and reset -/

theorem witness_ResetsHoldTheDevice : 1000 ≤ 1000 ∧ r0.store.saving = none ∧ (wStore fun x => { x with saving := some [] }).store.saving ≠ none ∧ 99 < 100 ∧
    (let s := wPow fun p => { p with wdMissed := 62 }; s.pow.held = false ∧ s.pow.npfail = false ∧ s.pow.state ≠ .sleep ∧ 62 ≤ s.pow.wdMissed) ∧
    (wPow fun p => { p with npfail := true }).pow.npfail = true ∧ (wPow fun p => { p with state := .sleep }).pow.state = .sleep ∧
    (let s := wPow fun p => { p with softReset := some 0 }; s.pow.softReset = some 0 ∧ s.store.saving = none ∧ (s.setNow 0).allLow = true) ∧
    (let s := { wPow (fun p => { p with softReset := some 0 }) with store := { r0.store with saving := some [] } }; s.pow.softReset = some 0 ∧ s.store.saving ≠ none) ∧
    (let s := (wPow fun p => { p with softReset := some 0 }).updOut 15 fun x => { x with running := true };
     s.pow.softReset = some 0 ∧ 0 + secondFs ≤ (s.setNow secondFs).instant ∧ (s.setNow 0).allLow = false ∧ (s.setNow (secondFs - 1)).instant < 0 + secondFs) ∧
    r0.pow.softReset = none ∧
    (let s := wStore fun x => { x with phase := .erasing false 1 false }; s.store.phase = .erasing false 1 false ∧ (1 : Nat) ≠ 0) ∧
    (∀ b, r0.store.phase ≠ .erasing false b false) := by
  refine ⟨?_, ?_, ?_, ?_, ?_, ?_, ?_, ?_, ?_, ?_, ?_, ?_, fun b h => ?_⟩
  · decide
  · decide
  · decide
  · decide
  · decide
  · decide
  · decide
  · decide +kernel
  · decide
  · decide +kernel
  · decide
  · decide
  · exact absurd (show Phase.idle = _ from h) (by simp)

theorem witness_ResetReleaseStartsTheDevice : r0.pow.held = false ∧ (wPow fun p => { p with held := true }).pow.held = true := by decide

theorem witness_PowerEventsActOnTheSchedule : r0.pow.held = false ∧ r0.pow.state ≠ .sleep ∧ r0.store.saving = none ∧ r0.pow.idle = false ∧
    (wPow fun p => { p with idle := true }).pow.idle = true ∧ (wPow fun p => { p with held := true }).pow.held = true ∧
    (let s := wStore fun x => { x with saving := some [] }; s.store.saving = some [] ∧ s.pow.pinWait = false) ∧
    (let s := { wStore (fun x => { x with saving := some [] }) with pow := { r0.pow with pinWait := true } }; s.store.saving = some [] ∧ s.pow.pinWait = true) ∧
    (let s := { wPow (fun p => { p with sleepEntry := true }) with rf := { r0.rf with state := .off } };
     s.pow.sleepEntry = true ∧ s.pow.suspended = false ∧ s.rf.state = .off ∧ (s.setNow 0).allLow = true) ∧
    (let s := ({ wPow (fun p => { p with sleepEntry := true }) with rf := { r0.rf with state := .off } } : State).updOut 0 fun x => { x with running := true };
     s.pow.sleepFrom + secondFs ≤ (s.setNow secondFs).instant ∧ (s.setNow 0).allLow = false ∧ (s.setNow 0).instant < s.pow.sleepFrom + secondFs) ∧
    r0.pow.sleepEntry = false ∧ r0.rf.state ≠ .off ∧ (wPow fun p => { p with suspended := true }).pow.suspended = true ∧
    (let s := wPow fun p => { p with state := .sleep }; s.pow.state = .sleep ∧ s.pow.held = false ∧ 62000 ≤ 62000 ∧ s.lp.everLocked = false ∧ s.lp.held = false ∧
      { s with lp := { s.lp with everLocked := true } }.lp.everLocked = true ∧ { s with lp := { s.lp with held := true } }.lp.held = true) ∧ 61999 < 62000 := by
  decide +kernel
def wLocked : State := wFold 3 (wLp fun l => { l with aplLock := true, lockFold := some 2 })

theorem witness_OutputsReleaseAndRestart : ({ r0 with clk := { r0.clk with now := 1 } } : State).atBoundary = false ∧
    (let s := { wLocked with rel := { ordered := true } }; s.atBoundary = true ∧ s.rel.released = false ∧ s.rel.ordered = true ∧ s.lockStands = true) ∧
    (let s := { wLocked with cfg := { r0.cfg with autostart := true } }; s.atBoundary = true ∧ s.rel.released = false ∧ s.cfg.autostart = true ∧ s.lockStands = true) ∧
    ({ r0 with rel := { released := true } } : State).rel.released = true ∧ r0.rel.ordered = false ∧ r0.cfg.autostart = false ∧ r0.lp.aplLock = false ∧
    (let s := { wLocked with pow := { r0.pow with relock := true } };
     s.atBoundary = true ∧ s.pow.relock = true ∧ s.lp.aplLock = true ∧ s.tally.entries = [] ∧ (s.outCfg 0).mode ≠ 1 ∧
      ((s.updOutCfg 0 fun c => { c with config := 1 * 2 ^ 5 }).outCfg 0).mode = 1) ∧ r0.pow.relock = false := by
  decide +kernel

/-! ### References and loops -/

def wEdge : State := wCfg fun c => { c with refs := c.refs.upd 4 fun r => { r with mode := 4, deglitch := 1, runtMin := 20000000, div := 2 } }

theorem witness_ReferenceEdgesAreMeasured :
    (r0.refCfg 4).mode = 3 ∧ (wEdge.refCfg 4).mode ≠ 3 ∧ (wEdge.cand 4).killed = false ∧ wEdge.pow.held = false ∧ wEdge.pow.state ≠ .sleep ∧
    (let narrow : EdgePhase := { raw := 9999999, kept := 0 }; narrow.raw < (wEdge.refCfg 4).deglitch * 10000000) ∧
    (let short : EdgePhase := { raw := 10000000, kept := 0 };
     ¬short.raw < (wEdge.refCfg 4).deglitch * 10000000 ∧ ((max short.raw short.kept : Nat) : Int) < (wEdge.refCfg 4).runtMin) ∧
    (let joined : EdgePhase := { raw := 10000000, kept := 20000000 };
     ¬joined.raw < (wEdge.refCfg 4).deglitch * 10000000 ∧ (wEdge.refCfg 4).runtMin ≤ ((max joined.raw joined.kept : Nat) : Int)) ∧
    (wEdge.cand 4).inGlitch = false ∧ ((wEdge.updCand 4 fun c => { c with inGlitch := true }).cand 4).inGlitch = true ∧
    ((wEdge.updCand 4 fun c => { c with killed := true }).cand 4).killed = true ∧
    (true != (wEdge.refCfg 4).falling) = true ∧ (false != (wEdge.refCfg 4).falling) = false ∧ (wEdge.cand 4).divCount + 1 < (wEdge.refCfg 4).div ∧
    (let s := wEdge.updCand 4 fun c => { c with divCount := 1 }; (s.refCfg 4).div ≤ (s.cand 4).divCount + 1) := by decide +kernel
def wGate (x : Option Fu) (en : BitVec 4) (active : Bool) : State :=
  (wCfg fun c => { c with refs := c.refs.upd 0 fun r => { r with en := en } }).updCand 0 fun c => { c with active := active, gateEnd := some { start := 0, offset := x } }
def wQualify : State := (wCfg fun c => { c with refs := c.refs.upd 0 fun r => { r with mode := 0 } }).updCand 0 fun c =>
  { c with timing := true, timer := qualFolds (wEdge.refCfg 0), precClean := true }

theorem witness_ReferenceMonitorsReport : r0.pow.held = false ∧ r0.pow.state ≠ .sleep ∧
    (let s := r0.updCand 6 fun c => { c with active := true, lastEdge := some 0 };
     (s.setNow 48000000).windowExpired 6 = true ∧ (s.setNow 47999999).windowExpired 6 = false) ∧
    (let s := r0.updCand 7 fun c => { c with active := true, lastEdge := some 0 }; ∃ t, (s.setNow t).windowExpired 7 = true) ∧
    (let s := { wLp (fun l => { l with state := .locked }) with sel := { r0.sel with bell := some 6 } }; s.sel.bell = some 6 ∧ s.steering = true) ∧
    (let s := wGate (some 5) 2 true;
     (s.cand 0).gateEnd = some { start := 0, offset := some 5 } ∧ (s.refCfg 0).en.getLsbD 1 = true ∧ (s.cand 0).active = true ∧ s.schedule = true) ∧
    (wPow fun p => { p with suspended := true }).schedule = false ∧
    ((r0.cand 0).gateEnd.bind fun g => g.offset) = none ∧ ((wGate (some 5) 0 true).refCfg 0).en.getLsbD 1 = false ∧ ((wGate (some 5) 2 false).cand 0).active = false ∧
    (wQualify.slotDue 4 (inSlotAt 4) = true ∧ (wQualify.setNow (inSlotAt 4)).qualifies 0 = true ∧
      (((wQualify.setNow (inSlotAt 4)).fastMonitor 0 (wQualify.setNow (inSlotAt 4)).model).runtMonitor 0).dqTrips 0 = 0) ∧
    (let s := wQualify.updCand 0 fun c => { c with latched := { c.latched with trips := 1 } };
     s.slotDue 4 (inSlotAt 4) = true ∧ (s.setNow (inSlotAt 4)).qualifies 0 = true ∧
      (((s.setNow (inSlotAt 4)).fastMonitor 0 (s.setNow (inSlotAt 4)).model).runtMonitor 0).dqTrips 0 ≠ 0) ∧
    r0.slotDue 4 0 = false ∧ (r0.setNow 0).qualifies 0 = false ∧
    (let s := wFold 8000 { r0 with tdc := r0.tdc.upd 0 fun m => { m with armed := true } }; (s.tdc.getD 0 {}).armed = true ∧ (s.tdc.getD 0 {}).armFold + 8000 ≤ s.clk.absFold.toNat) ∧
    wLead.drv.state ≠ .off ∧ r0.drv.state = .off := by
  refine ⟨rfl, by decide, by decide +kernel, ⟨2 * beaconFolds 5 * foldFs, by decide +kernel⟩, by decide, by decide, by decide, by decide, by decide, by decide, by decide +kernel, by decide +kernel,
    by decide +kernel, by decide +kernel, by decide +kernel, by decide, by decide⟩
def wSlot (n : Nat) (s : State) : State := { s with clk := { s.clk with slot := n } }

theorem witness_LoopEventsMoveTheState : r0.clk.slot ≠ 1 ∧ (wPow fun p => { p with suspended := true }).schedule = false ∧
    (let s := wSlot 1 { wLp (fun l => { l with state := .acquire, cleanFolds := r0.cfg.lp.lockT * 800 }) with
                cfg := { r0.cfg with lp := { r0.cfg.lp with auto := false } } };
     s.schedule = true ∧ s.clk.slot = 1 ∧ s.lp.state = .acquire ∧ s.lp.frozen = false ∧ s.cfg.lp.auto = false ∧ s.cfg.lp.lockT * 800 ≤ s.lp.cleanFolds) ∧
    (let s := wLp fun l => { l with state := .acquire, stageBw := r0.cfg.lp.trackBw + 1, cleanFolds := r0.cfg.lp.lockT * 800 };
     s.lp.state = .acquire ∧ s.cfg.lp.auto = true ∧ s.atTrack = false ∧ ¬s.lp.cleanFolds < s.cfg.lp.lockT * 800) ∧
    r0.lp.state ≠ .acquire ∧ (wLp fun l => { l with frozen := true }).lp.frozen = true ∧ r0.lp.cleanFolds < r0.cfg.lp.lockT * 800 ∧
    (let s := wSlot 1 (wLp fun l => { l with state := .locked, outside := 64 }); s.schedule = true ∧ s.lp.state = .locked ∧ s.lp.frozen = false ∧ 64 ≤ s.lp.outside) ∧
    r0.lp.state ≠ .locked ∧ r0.lp.outside < 64 ∧
    (let s := wSlot 1 (wLp fun l => { l with stageBw := r0.cfg.lp.trackBw * 2, stageK := 0 });
     s.schedule = true ∧ s.lp.stageLeft = 0 ∧ s.cfg.lp.trackBw * 2 ^ s.lp.stageK < s.lp.stageBw ∧ s.lp.stageBw ≤ s.cfg.lp.trackBw * 2 ^ (s.lp.stageK + 1)) ∧
    (let s := wSlot 1 (wLp fun l => { l with stageBw := r0.cfg.lp.trackBw * 2 + 1, stageK := 0 });
     s.lp.stageLeft = 0 ∧ s.cfg.lp.trackBw * 2 ^ (s.lp.stageK + 1) < s.lp.stageBw) ∧ (wLp fun l => { l with stageLeft := 1 }).lp.stageLeft ≠ 0 ∧
    (let s := wLp fun l => { l with stageBw := r0.cfg.lp.trackBw }; s.lp.stageBw ≤ s.cfg.lp.trackBw * 2 ^ s.lp.stageK) ∧
    (wLp fun l => { l with aplLock := true }).lp.aplLock = true ∧ r0.lp.aplLock = false ∧ r0.ifaceOpen = true ∧ (wPow fun p => { p with held := true }).ifaceOpen = false ∧
    r0.mdl.closed = none ∧
    (let s := wSlot 1 (wMdl fun m => { m with closed := some (8000, 8000) }); s.schedule = true ∧ s.mdl.closed = some (8000, 8000)) ∧
    (let s := wLp fun l => { l with lockBy := some 5 }; s.lp.lockBy = some 5 ∧ s.lp.aplLock = false ∧ 5 ≤ (s.setNow 5).instant ∧ (s.setNow 4).instant < 5) ∧
    (wLp fun l => { l with lockBy := none }).lp.lockBy = none := by decide +kernel

/-! ### Slots -/

theorem witness_SlotsRestWithoutTheSchedule : (wPow fun p => { p with suspended := true }).schedule = false ∧
    (∀ n < 17, (wPow fun p => { p with suspended := true }).slotDue n (inSlotAt n) = false ∧ (wSlot (n + 1) r0).slotDue n (inSlotAt n) = false ∧ r0.slotDue n (inSlotAt n) = true) := by
  decide +kernel

theorem witness_DpllSlotStagesTheWord : r0.slotDue 0 (inSlotAt 0) = true ∧ (wLp fun l => { l with frozen := true }).slotDue 0 (inSlotAt 0) = true ∧
    (wLp fun l => { l with frozen := true }).lp.frozen = true ∧ r0.lp.frozen = false ∧ r0.lp.state = .freerun := by decide +kernel
def wMeasure (src : TallySrc) (keep : Bool) (at_ : Nat) : State :=
  let s := { r0 with sel := { r0.sel with bell := some 0 }, lp := { r0.lp with unmeasured := some (src, 1), dcoPay := 1 }
                     cfg := { r0.cfg with stile := { r0.cfg.stile with keep := keep } } }
  s.updCand 0 fun c => { c with sample := some (at_, 5) }
def wFlock : State :=
  wFold 2 { r0 with tally := r0.tally.add { anEntry with flock := 1, status := .applying, prog := [(0, 0)] } }

theorem witness_StileAndTallySlotMeasuresAndPays :
    let t := inSlotAt 1
    (let s := wLp fun l => { l with dcoPay := 1 }; s.slotDue 1 t = true ∧ s.lp.unmeasured = none ∧ s.noDevicePayout = false) ∧
    (let s := wMeasure .switch true (foldAt 1); s.slotDue 1 t = true ∧ s.lp.unmeasured = some (.switch, 1) ∧ s.sel.bell = some 0 ∧ (s.cand 0).sample = some (foldAt 1, 5) ∧
      s.lp.frozen = false ∧ s.lp.held = false ∧ foldAt (1 : BitVec 64).toNat ≤ foldAt 1 ∧ s.noDevicePayout = false ∧ s.cfg.stile.keep = true ∧ s.tally.entries = []) ∧
    (let s := wMeasure .switch false (foldAt 1); s.slotDue 1 t = true ∧ s.noDevicePayout = false ∧ s.cfg.stile.keep = false) ∧
    (let s := wMeasure .holdoverExit true (foldAt 1); s.slotDue 1 t = true ∧ s.noDevicePayout = false ∧ s.lp.unmeasured = some (.holdoverExit, 1)) ∧
    (let s := wMeasure .switch true (foldAt 1 - 1); s.slotDue 1 t = true ∧ (s.cand 0).sample = some (foldAt 1 - 1, 5) ∧ foldAt 1 - 1 < foldAt (1 : BitVec 64).toNat ∧
      (r0.cand 0).sample = none) ∧
    (let s := wFlock; let e := { anEntry with flock := 1, status := .applying, prog := [(0, 0)], seq := 1 };
     s.slotDue 1 t = true ∧ s.lp.unmeasured = none ∧ s.noDevicePayout = true ∧ (∀ n < 16, n ≠ 0 → (s.enterSlot 1 t).outHead n = none) ∧ (s.enterSlot 1 t).outHead 0 = some e ∧
      e.status = .applying ∧ e.src = .step ∧ e.immediate = false ∧ e.crook = false ∧ (s.out 0).running = false ∧ e.outApplied 0 ≠ e.amount) ∧
    (let s := wFlock.updOut 0 fun x => { x with running := true }; s.slotDue 1 t = true ∧ (s.out 0).running = true) ∧
    ((∀ n < 16, (r0.enterSlot 1 t).outHead n = none) ∧ r0.noDevicePayout = true ∧ r0.slotDue 1 t = true) := by decide +kernel
def aPass : Pass := { ebar := List.replicate 256 (some 1), mean := 0, bin := 254, fold := 0, learn := true }
def wPass : State := wFold 1 { wSsct (fun x => { x with pass := some aPass }) with cfg := { r0.cfg with ssct := { r0.cfg.ssct with mode := 2 } } }
def wGather : State :=
  { wSsct (fun x => { x with apply := .active }) with
    cfg := { r0.cfg with ssct := { r0.cfg.ssct with mode := 1 } }, lp := { r0.lp with state := .locked, err := some 5 } }

/-- OUT0 emits a pulse train whose pulse is in progress at the aligned start. -/
def wTrain : State :=
  let s := r0.updOutCfg 0 fun c => { c with config := 1 * 2 ^ 5, period := 1000, width := 999, alignOffset := 5 }
  wFold 9000 (s.updOut 0 fun x =>
    { x with running := true, origin := some 0, frame := some 0, lastStart := some (foldAt 9000), index := some (foldAt 9000 - 1), upTo := foldAt 9001 })

def wIndex : State := wFold 1 (r0.updOut 15 fun x => { x with index := some 7, upTo := foldAt 2 })

/-- Slot 3 has begun and output `o` is settled. -/
def settled (s : State) (o : Nat) : State := (s.enterSlot 3 (inSlotAt 3)).settle o (s.enterSlot 3 (inSlotAt 3)).instant

theorem crossMark_le (t : Nat) : crossMark t ≤ t := by
  unfold crossMark foldAt
  have := Nat.div_mul_le_self (t + crossFs) foldFs
  omega

/-- An output without plans that is settled already stays as it is. -/
theorem settle_settled (s : State) (o t : Nat) (hp : (s.out o).plans = []) (h : t ≤ (s.out o).upTo) :
    s.settle o t = s.updOut o fun x => { x with upTo := max x.upTo t } := by
  have hm := crossMark_le t
  simp [State.settle, State.settleSeg, State.settleTo, hp, h, forEach, show ¬(s.out o).upTo < crossMark t by omega]

/-- The aligned start of an index edge at `i` comes before the pulse of OUT0 is clear. -/
def cutsPulse (s : State) (i : Nat) : Bool :=
  (s.lastStartBy 0 (s.edgeFor 0 (s.indexPlan 0 i).target)).any fun l => s.edgeFor 0 (s.indexPlan 0 i).target < s.clearOf 0 l

theorem witness_ShaftAndSchedulerSlots :
    (let t := inSlotAt 2
     r0.slotDue 2 t = true ∧ r0.ssct.apply ≠ .active ∧ r0.lp.state ≠ .locked ∧ r0.cfg.ssct.mode ≠ 2 ∧ r0.ssct.pass = none ∧ r0.gatherError = none ∧
     (wCfg fun c => { c with ssct := { c.ssct with mode := 0 } }).cfg.ssct.mode = 0 ∧ (wLp fun l => { l with held := true }).lp.held = true ∧
     wGather.slotDue 2 t = true ∧ wGather.ssct.pass = none ∧ wGather.gatherError = some 5 ∧
     wPass.slotDue 2 t = true ∧ wPass.ssct.pass = some aPass ∧ aPass.fold ≠ wPass.clk.absFold.toNat ∧ aPass.bin < 255 ∧
      aPass.ebar.getD aPass.bin none = some 1 ∧ wPass.cfg.ssct.mode = 2 ∧ aPass.learn = true) ∧
    (let t := inSlotAt 3
     r0.slotDue 3 t = true ∧ (∀ o < 16, (r0.out o).index = none) ∧ r0.tally.entries = [] ∧
     (let s := wIndex;
      s.slotDue 3 t = true ∧ (∀ n < 16, n ≠ 15 → (s.out n).index = none) ∧ s.tally.entries = [] ∧ (s.out 15).index = some 7 ∧ 7 < s.foldStart ∧
        (settled s 15).lastStartBy 15 ((settled s 15).edgeFor 15 ((settled s 15).indexPlan 15 7).target) = none) ∧
     (wTrain.slotDue 3 t = true ∧ (∀ n < 16, n ≠ 0 → (wTrain.out n).index = none) ∧ (wTrain.out 0).index = some (foldAt 9000 - 1) ∧ foldAt 9000 - 1 < wTrain.foldStart ∧
        cutsPulse (settled wTrain 0) (foldAt 9000 - 1) = true) ∧
     (let e := { anEntry with src := .gather, flock := 0x8000, status := .applying, fixed := false, target := some 0 };
      let s := { r0 with tally := { r0.tally with entries := [e] } };
      s.slotDue 3 t = true ∧ (∀ n < 16, (s.out n).index = none) ∧ s.tally.entries = [e] ∧ flockOuts e.flock = [15] ∧ e.src = .gather ∧ e.status = .applying ∧
        e.fixed = false ∧ e.crook = false ∧ (∀ p ∈ (s.out 15).plans, p.seq ≠ some e.seq)) ∧
     (let e := { anEntry with flock := 1, status := .applying, immediate := true };
      let s := { r0 with tally := { r0.tally with entries := [e] } };
      s.slotDue 3 t = true ∧ s.tally.entries = [e] ∧ flockOuts e.flock = [0] ∧ e.src = .step ∧ e.immediate = true ∧ e.crook = false ∧ (s.out 0).running = false ∧
        e.outApplied 0 ≠ e.amount)) :=
  ⟨by decide +kernel, by decide +kernel, by decide, rfl,
    ⟨by decide +kernel, by decide +kernel, rfl, rfl, by decide, by rw [settled, settle_settled _ _ _ rfl (by decide)]; decide +kernel⟩,
    ⟨by decide +kernel, by decide +kernel, rfl, by decide, by rw [settled, settle_settled _ _ _ rfl (by decide)]; decide +kernel⟩, by decide +kernel, by decide +kernel⟩
def anOcc : Occ := { id := 1, fold := 0, ns := 0, detail := 0 }

theorem witness_EventSlotQueuesOccurrences : r0.slotDue 5 (inSlotAt 5) = true ∧ r0.ev.queue.length ≤ 64 ∧ (∀ n < 24, (r0.pin n).stamps = [] ∧ (r0.pin n).beyond = []) ∧
    (let s := wEv fun e => { e with occs := [anOcc], queue := List.replicate 63 anOcc };
     s.slotDue 5 (inSlotAt 5) = true ∧ s.ev.occs = [anOcc] ∧ s.ev.dropped = 0 ∧ s.ev.queue.length < 64) ∧
    (let s := wEv fun e => { e with occs := [anOcc], queue := List.replicate 64 anOcc }; s.ev.occs = [anOcc] ∧ s.ev.dropped = 0 ∧ 64 ≤ s.ev.queue.length) := by decide +kernel

theorem witness_CalibrationSlotRunsOneStep :
    let t := inSlotAt 12
    r0.slotDue 12 t = true ∧ r0.clk.inSec < 8 ∧ r0.bg.tdcMeas.length < 8 ∧ (wBg fun b => { b with tdcMeas := List.replicate 8 0 }).bg.tdcMeas.length = 8 ∧
    (let s := { wBg (fun b => { b with calQueue := [] }) with clk := { r0.clk with inSec := 8 } }; s.slotDue 12 t = true ∧ 8 ≤ s.clk.inSec ∧ s.bg.calQueue = [] ∧ 50 ≤ 50) ∧ 49 < 50 ∧
    (let s := wBg fun b => { b with calQueue := [{ which := [0], started := true, left := 3 }] };
     s.bg.calQueue = [{ which := [0], started := true, left := 3 }] ∧ s.slotDue 12 t = true) ∧
    (let s := wBg fun b => { b with calQueue := [{ which := [0] }] };
     s.slotDue 12 t = true ∧ s.bg.calQueue = [{ which := [0] }] ∧ (s.enterSlot 12 t).calMayStart (calFolds 0) = true) ∧
    (let s := { wBg (fun b => { b with calQueue := [{ which := [0] }] }) with rf := { r0.rf with state := .tx } }; (s.enterSlot 12 t).calMayStart (calFolds 0) = false) := by
  decide +kernel

theorem witness_ScrubAndTelemetrySlots : r0.slotDue 13 (inSlotAt 13) = true ∧ r0.bg.flips = [] ∧ r0.slotDue 15 (inSlotAt 15) = true ∧ r0.bg.closing = none ∧
    (let s := wBg fun b => { b with flips := [(3, 71)] }; s.slotDue 13 (inSlotAt 13) = true ∧ s.bg.flips = [(3, 71)]) ∧
    (let s := wBg fun b => { b with flips := [(3, 0), (3, 71)] }; s.slotDue 13 (inSlotAt 13) = true ∧ (0 : Nat) ≠ 71 ∧ 3 / 4 = s.clk.inSec ∧ s.bg.flips = [(3, 0), (3, 71)]) ∧
    (let s := wBg fun b => { b with closing := some [1], ring := List.replicate 63 [] };
     s.slotDue 15 (inSlotAt 15) = true ∧ s.bg.closing = some [1] ∧ s.bg.ring.length < 64) ∧
    (let s := wBg fun b => { b with closing := some [1], ring := List.replicate 64 [] }; s.bg.closing = some [1] ∧ 64 ≤ s.bg.ring.length) := by decide +kernel
def aStaged : Staged := { opcode := 1, call := pk 1 [], status := 0, body := .bytes [], commit := false }

theorem witness_SlotEndsReserveAndDroveSlot : r0.schedule = true ∧ r0.test.overrun = [] ∧ 1 ≠ 0 ∧ (∀ n < 16, r0.clk.slot ≤ n ∧ slotHolds n (inSlotAt n) = true) ∧
    (wSlot 16 r0).clk.slot = (15 : Fin 16).val + 1 ∧ (14 : Fin 16).val + 1 < (wSlot 16 r0).clk.slot ∧ slotHolds 15 0 = false ∧
    (let s := wSlot 16 { r0 with test := { r0.test with overrun := [(3, 1), (15, 65535)] } };
     s.test.overrun.find? (·.1 = (15 : Fin 16).val) = some ((15 : Fin 16).val, 65535) ∧ s.clk.slot ≤ 15 + 1) ∧
    (∀ n < 17, r0.slotDue n (inSlotAt n) = true) ∧
    ({ r0 with host := { r0.host with begun := some aStaged } } : State).host.begun = some aStaged ∧ r0.host.begun = none ∧ r0.drv.inbox = [] ∧ r0.drv.trip = none ∧ r0.drv.state = .off ∧
    (wDrv fun d => { d with state := .lead, yield := true }).drv.yield = true ∧ wLead.drv.yield = false ∧
    (let s := { wDrv (fun d => { d with state := .lead, trip := some 1000000 }) with cfg := { r0.cfg with drv := { r0.cfg.drv with ring := true } } };
     s.slotDue 9 (inSlotAt 9) = true ∧ s.drv.inbox = [] ∧ s.drv.trip = some 1000000 ∧
      (((1000000 : Nat) : Int) - (s.drv.acc * 1000 + (s.drv.c : Int))).natAbs ≤ 1000000 * (s.drv.retHop + 1) ∧ s.drv.state = .lead ∧ s.cfg.drv.ring = true ∧
      1000000 * (s.drv.retHop + 1) < (((1000001 : Nat) : Int) - (s.drv.acc * 1000 + (s.drv.c : Int))).natAbs) := by decide +kernel

/-! ### Outputs, tally, shaft, time, pins -/

def aWindow : Window := { fold := 0, start := 0, stop := 1 }
def wWindow (b gate : Bool) : State := wGated.updOut 0 fun x => { x with windows := [{ aWindow with begun := b }], gate := gate }
def aPlan : Plan := { start := 5, target := 5, deferred := false }

theorem witness_OutputEventsActOnTheirOutput :
    (let s := wWindow false false; (s.out 0).windows = [aWindow] ∧ aWindow.begun = false ∧ aWindow.from_ ≤ (s.setNow 0).instant ∧ (s.outCfg 0).mode = 2 ∧ (s.out 0).gate = false) ∧
    (∀ w ∈ (r0.out 0).windows, w.begun = true ∨ (r0.setNow 0).instant < w.from_) ∧
    (let w := { aWindow with begun := true }; let s := wWindow true true;
     (s.out 0).windows = [w] ∧ w.begun = true ∧ w.to ≤ (s.setNow w.to).instant ∧ (s.outCfg 0).mode = 2 ∧ (s.out 0).gate = true) ∧
    (let s := wWindow true true; ∀ w ∈ (s.out 0).windows, w.begun = false ∨ (s.setNow 0).instant < w.to) ∧
    ((r0.updOut 0 fun x => { x with plans := [aPlan] }).out 0).plans = [aPlan] ∧ (r0.out 0).plans = [] ∧ r0.clk.inSec = 0 ∧ r0.schedule = true ∧
    ({ r0.clk with inSec := 1 } : Clock).inSec ≠ 0 ∧ (wPow fun p => { p with suspended := true }).schedule = false ∧
    (let s := r0.updOut 0 fun x => { x with running := true };
     (s.out 0).running = true ∧ (s.outCfg 0).mode ≠ 1 ∧ s.cfg.monFtol < (s.freqError 0 1 secondFs).natAbs ∧ (s.freqError 0 1 0).natAbs ≤ s.cfg.monFtol) ∧
    (r0.out 0).running = false := by decide +kernel
def wDevice (a b : EStat) : State :=
  let t := (r0.tally.add { anEntry with status := a }).add { anEntry with status := b }
  wFold 2 { r0 with tally := t }
def wFlockHead (device : EStat) : State :=
  let t := (r0.tally.add { anEntry with flock := 1 }).add { anEntry with status := device }
  wFold 2 { r0 with tally := t }

theorem witness_TallyEntryActivates : ({ r0 with clk := { r0.clk with now := 1 } } : State).atBoundary = false ∧ r0.tally.find 1 = none ∧
    (let s := wDevice .applying .pending; (s.tally.find 1).map (·.status) = some .applying) ∧
    (let s := wDevice .pending .pending; s.atBoundary = true ∧ (s.tally.find 1).map (fun e => (e.status, e.isDevice)) = some (.pending, true) ∧
      (s.tally.deviceQueue.find? fun x => x.status = .applying || s.ready x).map (·.seq) = some 1) ∧
    (let s := wDevice .applying .pending;
     s.atBoundary = true ∧ (s.tally.find 2).map (fun e => (e.status, e.isDevice)) = some (.pending, true) ∧
      (s.tally.deviceQueue.find? fun x => x.status = .applying || s.ready x).map (·.seq) ≠ some 2 ∧ (∀ o < 16, (s.outHead o).map (·.seq) ≠ some 2) ∧
      (s.tally.deviceQueue.head?.map fun h => (h.status, h.seq)) = some (.applying, 1)) ∧
    (let s := wFlockHead .pending; s.atBoundary = true ∧ (s.tally.find 1).map (fun e => (e.status, e.isDevice, e.grazed)) = some (.pending, false, true) ∧
      (s.outHead 0).map (·.seq) = some 1 ∧ (s.tally.deviceQueue.any fun x => x.status = .applying && x.remaining ≠ 0) = false) ∧
    (let s := wFlockHead .applying; (s.tally.find 1).map (fun e => (e.isDevice, e.grazed)) = some (false, true) ∧
      (s.tally.deviceQueue.any fun x => x.status = .applying && x.remaining ≠ 0) = true) := by
  decide +kernel
def aLabel : Label := { diffSec := 1, diffFold := 0, at_ := 1, prev := some 1 }
def wLabel (valid : Bool) (prev : Option Int) : State :=
  { r0 with clk := { r0.clk with secIdx := 1 }, cfg := { r0.cfg with tod := { r0.cfg.tod with src := 1 } }
            tod := { r0.tod with uart := some { aLabel with prev := prev }, valid := valid } }
def wUart (pps : Nat) (edge : Option Nat) : State :=
  { wCfg (fun c => { c with pins := c.pins.upd 20 fun p => { p with func := 4 }, tod := { c.tod with pps := pps } }) with tod := { r0.tod with ppsEdges := (edge, none) } }

/-- The sentence of 07's worked example form: a ZDA sentence with its checksum. -/
def aSentence : List Byte :=
  let body : List Byte := ("GPZDA,120000.00,01,02,2030,00,00".toList.map fun c => BitVec.ofNat 8 c.toNat)
  let x := (xorAll body).toNat
  let d (n : Nat) : Byte := if n < 10 then BitVec.ofNat 8 (48 + n) else BitVec.ofNat 8 (55 + n)
  [36] ++ body ++ [42, d (x / 16), d (x % 16), 13, 10]
def errorOf (e : Except Nat Nat) : Option Nat := match e with | .error c => some c | .ok _ => none

theorem witness_ShaftAndTimeEvents : true ≠ r0.cfg.ssct.ref5 ∧ r0.ssct.lastIdx = none ∧
    (r0.cand (if r0.cfg.ssct.ref5 then 5 else 4)).killed = false ∧ ((r0.updCand 4 fun c => { c with killed := true }).cand 4).killed = true ∧
    (let s := { wSsct (fun x => { x with lastIdx := some 4 }) with cfg := { r0.cfg with ssct := { r0.cfg.ssct with mode := 1 } } };
     s.ssct.lastIdx = some 4 ∧ 4 < (s.setNow (4 + 20000000000000)).instant ∧ periodValid ((s.setNow (4 + 20000000000000)).instant - 4) = true ∧ s.ssct.apply = .idle ∧
      s.cfg.ssct.mode ≠ 0 ∧ periodValid ((s.setNow 5).instant - 4) = false) ∧
    (let s := wSsct fun x => { x with lastIdx := some 0, period := some 2 }; 3 * 2 ≤ 2 * ((s.setNow 3).instant - 0) ∧ 2 * ((s.setNow 2).instant - 0) < 3 * 2) ∧
    (r0.schedule = true ∧ slotHolds 4 0 = false ∧ slotHolds 4 (inSlotAt 4) = true ∧ r0.tod.compared ≠ some r0.clk.secIdx ∧ r0.todLabel = none) ∧
    ({ r0 with tod := { r0.tod with compared := some 0 } } : State).tod.compared = some r0.clk.secIdx ∧
    (let s := wLabel true (some 1); s.schedule = true ∧ s.tod.compared ≠ some s.clk.secIdx ∧ s.todLabel = some aLabel ∧ s.clk.secIdx ≤ aLabel.at_ + 1 ∧
      aLabel.prev = some aLabel.diffSec ∧ aLabel.diffSec ≠ 0 ∧ s.tod.valid = true) ∧ (wLabel false (some 1)).tod.valid = false ∧
    ((wLabel false none).todLabel.map fun l => (l.prev, l.diffSec)) = some (none, 1) ∧
    (r0.setNow 0).uartListens true = false ∧ ((wUart 0 none).setNow 0).uartListens false = true ∧ (wUart 0 none).pinsRun = true ∧ (wUart 0 none).cfg.tod.pps = 0 ∧
    (let s := wUart 1 none; (s.setNow 0).uartListens false = true ∧ s.cfg.tod.pps = 1 ∧ s.tod.ppsEdges.1 = none) ∧
    (let s := wUart 1 (some 0); s.tod.ppsEdges.1 = some 0 ∧ 10000000000000 ≤ (s.setNow 10000000000000).instant - 0 ∧ (s.setNow 10000000000000).instant - 0 ≤ 990000000000000 ∧
      ¬10000000000000 ≤ (s.setNow 9999999999999).instant - 0) ∧
    (wPow fun p => { p with pinsAsleep := true }).pinsRun = false ∧
    errorOf (readSentence []) = some 2 ∧ errorOf (readSentence aSentence) = none := by decide +kernel
def wCountPin : State := wCfg fun c => { c with pins := c.pins.upd 0 fun p => { p with func := 0, sub := 6 } }
def wResetPin : State := wCfg fun c => { c with pins := c.pins.upd 0 fun p => { p with func := 6, sub := 2 + 4 * 3 } }

theorem witness_PinAndTestPortEvents :
    (wCountPin.pinCfg 0).countsEdge true = true ∧ wCountPin.pinsRun = true ∧ (wCountPin.pin 0).stamped < 8 ∧
    (let s := wCountPin.updPin 0 fun p => { p with stamped := 8 }; (s.pin 0).stampFold = s.clk.absFold ∧ 8 ≤ (s.pin 0).stamped) ∧
    (r0.pinCfg 0).countsEdge true = false ∧ (wPow fun p => { p with pinsAsleep := true }).pinsRun = false ∧
    ((3 : Fin 4) ≠ 0 ∧ wResetPin.pinsRun = true ∧ (wResetPin.pinCfg 0).func = 6 ∧ (wResetPin.pinCfg 0).sub.toNat / 4 % 4 = (3 : Fin 4).val ∧
      (wResetPin.pinCfg 0).sub.toNat % 4 = 2 ∧ (wResetPin.pinCfg 0).sub.getLsbD 4 = !true) ∧ (r0.pinCfg 0).func ≠ 6 ∧
    (let s := { r0 with test := { r0.test with drvTest := 3 } }; 1 ≤ s.test.drvTest ∧ s.test.drvTest ≤ 3) ∧ r0.test.drvTest = 0 ∧
    (let s := { r0 with test := { r0.test with tap := .capDr, ir := 2 } }; s.test.tap = .capDr ∧ s.test.ir = 2) := by decide +kernel

/-! ### Queues, jobs and the store -/

def aNop : Packet := { opcode := 0x0001, call := pk 1 [] }
def anAudit : Packet := { opcode := 0x0002, call := pk 2 [] }

theorem witness_InterpreterSlotsServeQueues :
    let t := inSlotAt 6
    (r0.slotDue (interpAt t) t = true ∧ (∀ p, (r0.io p).queue = []) ∧ r0.host.begun = none) ∧
    (let s := wPacket 0x0001 1 false;
     s.slotDue (interpAt t) t = true ∧ (s.io aNop.call.pen).queue = [aNop] ∧ (∀ p, p ≠ aNop.call.pen → (s.io p).queue = []) ∧ aNop.call.cls.toNat ≤ 1 ∧ aNop.air = false ∧
      ((s.enterSlot (interpAt t) t).decide_ aNop).wait = false ∧ ((s.enterSlot (interpAt t) t).decide_ aNop).later = false) ∧
    (((wPacket 0x0001 1 false).enterSlot (interpAt t) t).decide_ aNop).act = id ∧
    (let s := wPacket 0x0002 2 false;
     (s.io anAudit.call.pen).queue = [anAudit] ∧ anAudit.call.cls = 2 ∧ ((s.enterSlot (interpAt t) t).decide_ anAudit).wait = false ∧
      ((s.enterSlot (interpAt t) t).decide_ anAudit).later = false) ∧
    (((wPacket 0x0002 2 false).enterSlot (interpAt t) t).decide_ anAudit).act = id ∧
    (r0.interpreting = false ∧ (∀ k ∈ (r0.io 0).queue, k.waits = false)) ∧
    (let s := wSlot 7 (wPacket 0x0001 1 true); let k := { aNop with waits := true };
     s.interpreting = true ∧ (s.io k.call.pen).queue = [k] ∧ k.waits = true ∧ k.air = false ∧ ((s.setNow t).decide_ k).wait = false ∧ ((s.setNow t).decide_ k).later = false) ∧
    (((wSlot 7 (wPacket 0x0001 1 true)).setNow t).decide_ { aNop with waits := true }).act = id ∧
    (let s := { wPacket 0x5016 3 true with store := { r0.store with journals := 4 } }; let k : Packet := { opcode := 0x5016, call := pk 3 [], waits := true };
     (s.io k.call.pen).queue = [k] ∧ k.waits = true ∧ ((s.setNow t).decide_ k).wait = true) :=
  ⟨by decide +kernel, by decide +kernel, rfl, by decide +kernel, rfl, by decide +kernel, by decide +kernel, rfl, by decide +kernel⟩

theorem witness_JobsAndPenResetsEnd :
    (let s := wStore fun x => { x with ended := [(wOwner, 0)] }; s.schedule = true ∧ s.store.ended = [(wOwner, 0)] ∧ wOwner.pen = 1) ∧
    (∀ x ∈ r0.store.ended, x.1.pen ≠ 1 ∨ x.1.engine ≠ .store) ∧ ({ r0 with clk := { r0.clk with now := 1 } } : State).atBoundary = false ∧
    (r0.penSt 1).state ≠ .resetting ∧ (wStore fun x => { x with settling := [(wOwner, 0)] }).storeHolds 1 = true ∧
    (let s := wFold 1 (r0.updPen 1 fun x => { x with state := .resetting });
     s.atBoundary = true ∧ (s.penSt 1).state = .resetting ∧ (s.penSt 1).since.toNat < s.clk.absFold.toNat ∧ s.storeHolds 1 = false ∧
      (∀ j ∈ s.bg.calQueue, j.owner = none)) := by decide +kernel

theorem witness_StoreEngineProgramsAndErases : r0.slotDue 10 (inSlotAt 10) = true ∧ (wStore fun x => { x with halted := true }).store.halted = true ∧
    (let s := { wStore (fun x => { x with jobs := [{ kind := .pageWrite 0 0 [7] }] }) with mdl := { r0.mdl with saveIn := 1 } };
     s.slotDue 10 (inSlotAt 10) = true ∧ storeQuiet s ∧ s.store.phase = .idle ∧ s.store.jobs = [{ kind := .pageWrite 0 0 [7] }]) ∧
    (let s := { r0 with mdl := { r0.mdl with saveIn := 1 } }; storeQuiet s ∧ s.store.phase = .idle ∧ s.store.jobs = []) ∧
    (let w := aWriting 0 0 true; let s := { wStore (fun x => { x with phase := .writing w }) with mdl := { r0.mdl with saveIn := 1 } };
     storeQuiet s ∧ s.store.phase = .writing w ∧ w.issued = true ∧ w.done = true ∧ w.fault = none ∧ w.idx + 1 < w.words.length) ∧
    (let w := aWriting 0 1 true; let s := { wStore (fun x => { x with phase := .writing w }) with mdl := { r0.mdl with saveIn := 1 } };
     storeQuiet s ∧ s.store.phase = .writing w ∧ w.kind = 0 ∧ w.fault = none ∧ w.idx + 1 = w.words.length) ∧
    (let w := aWriting 3 1 true; let s := { wStore (fun x => { x with phase := .writing w }) with mdl := { r0.mdl with saveIn := 1 } };
     storeQuiet s ∧ s.store.phase = .writing w ∧ w.kind = 3 ∧ s.store.restoring = false) ∧
    (let w := aWriting 0 0 false; (wStore fun x => { x with phase := .writing w }).store.phase = .writing w ∧ w.issued = true ∧ w.done = false) ∧
    (wStore fun x => { x with saving := some [] }).store.saving ≠ none ∧
    (let s := wStore fun x => { x with phase := .erasing true 31 false };
     s.store.saving = none ∧ s.store.phase = .erasing true 31 false ∧ s.store.restoring = false ∧ 31 < 32 ∧ flashOk s.store.flash = true) := by decide +kernel

theorem witness_StoreTimersQueueTheirJobs : r0.clk.slot ≠ 11 ∧ (wSlot 11 r0).schedule = true ∧ (wSlot 11 r0).clk.slot = 11 ∧
    (wMdl fun m => { m with saveIn := 1 }).mdl.saveIn ≠ 0 ∧ (wMdl fun m => { m with saveIn := 0 }).mdl.saveIn = 0 ∧ r0.store.hourIn ≠ 0 ∧
    (wStore fun x => { x with hourIn := 0 }).store.hourIn = 0 ∧ r0.store.ageCheck = false ∧
    (let s := wStore fun x => { x with ageCheck := true }; s.store.ageCheck = true ∧ s.bankAge < 126144000) ∧
    (let s := wStore fun x => { x with ageCheck := true, life := { x.life with opSeconds := 126144000 } };
     s.store.ageCheck = true ∧ 126144000 ≤ s.bankAge ∧ s.store.compacting = false) ∧ r0.compactionDue = false ∧
    (let s := wStore fun x => { x with jobs := [{ kind := .compaction true }], append := 765 };
     s.store.jobs = [{ kind := .compaction true }] ∧ s.store.phase = .idle ∧ s.store.halted = false ∧ s.store.comp = none ∧ s.store.append + 3 ≤ 768) ∧
    (wStore fun x => { x with phase := .erasing true 0 false }).store.phase ≠ .idle ∧ r0.store.retryDue = false ∧
    (let s := wStore fun x => { x with retryDue := true, failing := true };
     s.store.phase = .idle ∧ s.store.retryDue = true ∧ s.store.failing = true ∧ s.store.compacting = false) := by decide +kernel

/-! ### Radio and commons -/

def wRun (t : Nat) (x : Int) : State := wRf fun r => { r with state := .rx, run := [(t, x)] }
def wWin : State := wRf fun x => { x with win := some { openAt := 0 } }

theorem witness_FrontEndReceives :
    (let s := wRun 7 (2 * r0.cfg.com.ccaThr + 1); s.rf.state = .rx ∧ s.rf.inFrame = false ∧ s.rf.hop = none ∧
      s.rf.run.getLast? = some ((s.setNow 7).instant, 2 * r0.cfg.com.ccaThr + 1) ∧ 2 * s.cfg.com.ccaThr < 2 * r0.cfg.com.ccaThr + 1) ∧ r0.rf.state ≠ .rx ∧
    wWin.rf.win = some { openAt := 0 } ∧ 0 + 16 * bitFs wWin.rf.act.rate ≤ (wWin.setNow (16 * bitFs wWin.rf.act.rate)).instant ∧
    (wWin.setNow 0).instant < 0 + 16 * bitFs wWin.rf.act.rate ∧ r0.rf.win = none ∧ (r0.setNow 0).blockForms = false ∧
    (let s := wRf fun x => { x with state := .rx }; (s.setNow 20000000000).blockForms = true ∧ s.rf.act.fixedGain = false ∧ s.rf.frozen = false) ∧
    (let s := wRf fun x => { x with state := .rx, act := { x.act with fixedGain := true } }; (s.setNow 20000000000).blockForms = true ∧ s.rf.act.fixedGain = true ∧ s.rf.frozen = false) ∧
    (let s := wRf fun x => { x with state := .rx, frozen := true }; (s.setNow 20000000000).blockForms = true ∧ s.rf.frozen = true) ∧
    (let s := wRf fun x => { x with state := .rx, inFrame := true }; (s.setNow 20000000000).blockForms = true ∧ s.rf.inFrame = true) ∧
    r0.rf.hop = none ∧ (let s := wRf fun x => { x with hop := some 63, hopCal := true }; s.rf.hop = some 63 ∧ 63 < 64 ∧ s.rf.hopCal = true ∧ s.schedule = true) ∧
    (let s := { wRf (fun x => { x with hop := some 63, hopCal := true }) with pow := { r0.pow with suspended := true } }; s.rf.hop = some 63 ∧ s.rf.hopCal = true ∧ s.schedule = false) ∧
    (let s := wRf fun x => { x with hop := some 63 }; s.rf.hop = some 63 ∧ s.rf.hopCal = false ∧ s.rf.hops = []) ∧
    (let s := wRf fun x => { x with hop := some 63, hops := [1] };
     s.rf.hop = some 63 ∧ s.rf.hops = [1] ∧ s.rf.hopCal = false ∧ s.rfBusy = false ∧ s.calRunning = false ∧ s.pow.state = .run ∧ s.pow.sleepEntry = false) ∧
    r0.rf.state ≠ .tx ∧ r0.rf.inFrame = false ∧
    (wRf fun x => { x with state := .rx, inFrame := true }).rf.inFrame = true ∧ (wRf fun x => { x with state := .tx }).rf.state = .tx := by decide +kernel
def aFrame : TxFrame := { kind := 1, body := [], attempt := 1, fold := 0, seq := 0 }
def aHostTx : HostTx := { pen := 0, tag := 1, cls := 2, psdu := [1] }
def wCal (j : CalJob) : State := wBg fun b => { b with calQueue := [j] }
def anAir : AirFrame := { sfd := 0x904E, phr := 0, octets := [1] }

theorem witness_TransmissionsAndCalibrationsEnd : r0.rf.state ≠ .tx ∧
    (let s := wRf fun x => { x with state := .tx, air := some anAir };
     s.rf.state = .tx ∧ s.rf.tone = 0 ∧ s.rf.air = some anAir ∧ s.rf.cut = false ∧ s.rf.hostTx = none ∧ s.com.onAir = none) ∧
    (let s := wRf fun x => { x with state := .tx, air := some anAir, cut := true }; s.rf.state = .tx ∧ s.rf.tone = 0 ∧ s.rf.cut = true ∧ s.com.onAir = none) ∧
    (wRf fun x => { x with state := .tx }).rf.air = none ∧
    (let s := { wRf (fun x => { x with state := .tx, air := some anAir }) with com := { r0.com with onAir := some aFrame } };
     s.rf.state = .tx ∧ s.rf.tone = 0 ∧ s.rf.air = some anAir ∧ s.com.onAir = some aFrame ∧ aFrame.kind = 1) ∧
    (let s := wRf fun x => { x with state := .tx, hostTx := some aHostTx }; s.rf.state = .tx ∧ s.rf.tone = 0 ∧ s.rf.hostTx = some aHostTx) ∧
    (let s := wRf fun x => { x with state := .tx, tone := 1 }; s.rf.state = .tx ∧ s.rf.tone ≠ 0 ∧ 10 * s.cfg.rf.rlThr ≤ 10 * s.cfg.rf.rlThr) ∧
    (wPow fun p => { p with suspended := true }).schedule = false ∧ r0.clk.slot ≠ 13 ∧ (wSlot 13 r0).schedule = true ∧ (wSlot 13 r0).clk.slot = 13 ∧
    (r0.rf.lastCal.getD (2 : Fin 4).val none = none ∧ ∀ j ∈ r0.bg.calQueue, j.owner ≠ none ∨ (2 : Fin 4).val ∉ j.which) ∧
    (let s := wRf fun x => { x with lastCal := .replicate 4 (some (1501, 0)) };
     s.rf.lastCal.getD (0 : Fin 4).val none = some (1501, 0) ∧ (s.lp.onDie - 1501).natAbs < 1000 ∧ s.clk.secIdx < 0 + 900) ∧
    (let s := wRf fun x => { x with lastCal := .replicate 4 (some (1500, 0)) };
     s.rf.lastCal.getD (2 : Fin 4).val none = some (1500, 0) ∧ 1000 ≤ (s.lp.onDie - 1500).natAbs ∧ ∀ j ∈ s.bg.calQueue, j.owner ≠ none ∨ (2 : Fin 4).val ∉ j.which) ∧
    (wBg fun b => { b with calQueue := [] }).bg.calQueue = [] ∧
    (let j : CalJob := { which := [3], started := true }; (wCal j).schedule = true ∧ (wCal j).bg.calQueue = [j] ∧ j.which = [3] ∧ j.started = true ∧ j.left = 0) ∧
    (let j : CalJob := { which := [3, 2], started := true }; (wCal j).bg.calQueue = [j] ∧ j.which = 3 :: 2 :: [] ∧ j.started = true ∧ j.left = 0) ∧
    (let j : CalJob := { which := [3] }; (wCal j).bg.calQueue = [j] ∧ j.started = false) :=
  ⟨by decide, by decide, by decide, by decide, by decide, by decide, by decide, by decide, by decide, by decide, by decide, by decide, by decide, by decide, by decide, by decide, by decide, by decide⟩
def wMaster : State := { wCom (fun c => { c with state := .master }) with cfg := { r0.cfg with com := { r0.cfg.com with role := 1, beaconFold := 0 } } }

/-- Six blocks of 10 SYS microseconds that end in the present fold, each of the power `x`. -/
def sixBlocks (s : State) (x : Int) : List (Nat × Int) := (List.range 6).map fun k => (s.foldStart + (k + 1) * blockFs, x)
def wSend (f : TxFrame) (x : Int) : State :=
  { wMaster with com := { wMaster.com with queue := [f] }, rf := { r0.rf with state := .rx, run := sixBlocks wMaster x } }
def wTrack (f : Commons → Commons) : State := wCom fun c => f { c with state := .track, tracked := some 7 }

theorem macQuiet_of (s : State) (t : Nat) (a : s.com.lost = false) (b : s.com.ccaFold = none) (c : s.com.expect = none) (d : s.com.requests = [])
    (e : s.com.state ≠ .master) (f : s.com.reqFolds = []) (g : s.com.owed = []) : macQuiet s t :=
  ⟨a, b, by simp [c], by simp [d], .inl e, by simp [f], by simp [g]⟩

theorem witness_CommonsMacQueuesAndTimesOut :
    let t := inSlotAt 7
    (r0.slotDue 7 t = true ∧ r0.macRuns = false) ∧
    (let s := wCom fun c => { c with state := .search }; s.slotDue 7 t = true ∧ s.macRuns = true ∧ s.com.inbox = []) ∧ macQuiet (wCom fun c => { c with state := .search }) t ∧
    (let s := wMaster; s.slotDue 7 t = true ∧ s.macRuns = true ∧ s.com.inbox = [] ∧ s.com.lost = false ∧ s.com.expect = none ∧ s.com.requests = [] ∧ s.com.ccaFold = none ∧
      s.com.reqFolds = [] ∧ s.com.owed = [] ∧ s.com.state = .master ∧ s.deviceFold % s.periodFolds = s.cfg.com.beaconFold ∧
      (∀ f ∈ s.com.queue ++ s.com.onAir.toList, f.kind = 1 → f.due ≠ s.clk.absFold.toNat)) ∧ r0.com.state ≠ .master ∧
    (let s := wTrack fun c => { c with reqFolds := [0] };
     s.slotDue 7 t = true ∧ s.macRuns = true ∧ s.com.reqFolds = [0] ∧ s.com.tracked = some 7 ∧ 0 ≤ s.clk.absFold.toNat ∧ s.com.state = .track ∧ s.com.owed = []) ∧
    (let o : Owed := { dst := 1, reqSeq := 2, t2Sec := 3, t2Ns := 4, dueFold := 0 }; let s := wCom fun c => { c with state := .search, owed := [o] };
     s.slotDue 7 t = true ∧ s.macRuns = true ∧ s.com.owed = [o] ∧ o.dueFold ≤ r0.clk.absFold.toNat) ∧
    (let s := wCom fun c => { c with state := .search, ccaFold := some 0, queue := [aFrame] };
     s.slotDue 7 t = true ∧ s.macRuns = true ∧ s.com.inbox = [] ∧ s.com.ccaFold = some 0 ∧ s.com.queue = [aFrame] ∧ aFrame.attempt < s.cfg.com.maxCca ∧
      s.cfg.com.maxCca ≤ { aFrame with attempt := s.cfg.com.maxCca }.attempt ∧ aFrame.kind = 1) ∧
    macQuiet (wCom fun c => { c with state := .search, ccaFold := none, queue := [aFrame] }) t ∧
    (let s := wTrack fun c => { c with lost := true };
     s.slotDue 7 t = true ∧ s.macRuns = true ∧ s.com.lost = true ∧ s.com.state = .track ∧ s.com.inbox = [] ∧ s.com.ccaFold = none ∧ s.com.heard = []) ∧
    (r0.clk.slot ≠ 8 ∧ (wSlot 8 wMaster).clk.slot = 8 ∧ (wSlot 8 wMaster).macRuns = true) ∧
    (let r : Request := { seq := 0, t1 := 0, master := 1, fold := 0 }; let s := wSlot 8 (wFold 400 { wMaster with com := { wMaster.com with requests := [r] } });
     s.macRuns = true ∧ s.com.requests = [r] ∧ r.fold + 400 ≤ s.clk.absFold.toNat ∧ (wFold 399 s).clk.absFold.toNat < r.fold + 400) ∧
    r0.com.reqFolds = [] ∧ r0.com.queue = [] ∧ (r0.setNow t).ccaBlocks = none ∧
    (∀ o ∈ (wCom fun c => { c with owed := [{ dst := 1, reqSeq := 2, t2Sec := 3, t2Ns := 4, dueFold := 1 }] }).com.owed, r0.clk.absFold.toNat < o.dueFold) ∧
    (let s := { wSend aFrame 0 with rf := { r0.rf with state := .off } }; s.com.queue = [aFrame] ∧ (s.setNow t).mayCca aFrame = false) ∧
    (let x := 2 * r0.cfg.com.ccaThr; let s := wSend aFrame x;
     s.com.queue = [aFrame] ∧ (s.setNow t).mayCca aFrame = true ∧ (s.setNow t).ccaBlocks = some (6 * x) ∧ 12 * s.cfg.com.ccaThr ≤ 6 * x ∧ s.com.ccaFold = none) ∧
    (let x := 2 * r0.cfg.com.ccaThr - 1; let s := wSend aFrame x; (s.setNow t).mayCca aFrame = true ∧ (s.setNow t).ccaBlocks = some (6 * x) ∧ 6 * x < 12 * s.cfg.com.ccaThr) ∧
    (let f := { aFrame with kind := 2 }; let s := wSend f (2 * r0.cfg.com.ccaThr - 1); (s.setNow t).mayCca f = true) ∧
    (let s := wSlot 8 { wMaster with com := { wMaster.com with expect := some (0, 0) } };
     s.com.expect = some (0, 0) ∧ s.macRuns = true ∧ s.clk.slot = 8 ∧ 0 + 4000000000000 ≤ (s.setNow 4000000000000).instant ∧ (s.setNow 3999999999999).instant < 0 + 4000000000000) :=
  ⟨by decide +kernel, by decide +kernel, macQuiet_of _ _ rfl rfl rfl rfl (by decide) rfl rfl, by decide +kernel, by decide, by decide +kernel, by decide +kernel, by decide +kernel, macQuiet_of _ _ rfl rfl rfl rfl (by decide) rfl rfl,
    by decide +kernel, by decide +kernel, by decide +kernel, rfl, rfl, by decide +kernel, by decide, by decide +kernel, by decide +kernel, by decide +kernel, by decide +kernel, by decide +kernel⟩
def rxf (p : List Byte) : RxFrame := { modeSwitch := false, length := 255, fcsOk := true, psdu := p, seconds := 0, ns := 20000, rssi := 0 }
def inboundOf (p : List Byte) : Inbound := { frame := rxf p, at_ := 0 }
def wRx : State := { wCom (fun c => { c with state := .search }) with rf := { r0.rf with state := .rx } }

/-- A key, and a device 3 in the role `r` that holds it and for which one frame waits. -/
def aKey : List Byte := List.replicate 16 0
def wKeyed (r : Nat) (x : Inbound) (f : Commons → Commons) : State :=
  { wCom (fun c => f { c with state := .search, key := some aKey, inbox := [x] }) with
    cfg := { r0.cfg with com := { r0.cfg.com with role := r, devId := 3, mgmtEn := true, mgmtPeer := 9 } } }

/-- A frame of sender 9 with SEQ 5, tagged under the key. -/
def untagged (kind : Nat) (body : List Byte) : List Byte := [BitVec.ofNat 8 (16 * kind + 1), 0] ++ le 2 r0.cfg.com.netId ++ le 4 9 ++ le 2 5 ++ body
def tagOf (b : List Byte) : List Byte := (cmac aKey b).take 4
def tagged (b : List Byte) : Inbound := inboundOf (b ++ tagOf b)

theorem xorL_length (a b : List Nat) : (xorL a b).length = min a.length b.length := List.length_zipWith

theorem nextKey_length (k : List Nat) (rc : Nat) (h : k.length = 16) : (nextKey k rc).length = 16 := by simp [nextKey, xorL_length, h]

theorem aesRounds_length : ∀ (rc : List Nat) (b k : List Nat), rc ≠ [] → k.length = 16 → (aesRounds rc b k).length = 16
  | [], _, _, h, _ => absurd rfl h
  | [rc], b, k, _, h => by simp [aesRounds, xorL_length, nextKey_length k rc h, shiftRows]
  | rc :: r :: t, b, k, _, h => aesRounds_length (r :: t) _ _ (List.cons_ne_nil r t) (nextKey_length k rc h)

theorem tagOf_four (b : List Byte) : ∃ w x y z, tagOf b = [w, x, y, z] := by
  have h : (tagOf b).length = 4 := by simp [tagOf, cmac, aes, aesRounds_length, aKey]
  match tagOf b, h with
  | [w, x, y, z], _ => exact ⟨w, x, y, z, rfl⟩

theorem frameMet_keyed (r : Nat) (x : Inbound) : frameMet (wKeyed r x id) (inSlotAt 7) x :=
  ⟨show r0.slotDue 7 (inSlotAt 7) = true by decide +kernel, rfl, rfl, macQuiet_of _ _ rfl rfl rfl rfl (show MacState.search ≠ .master by decide) rfl rfl⟩

theorem frameTagged_keyed (s : State) (kind : Nat) (body : List Byte) (hn : s.cfg.com.netId = r0.cfg.com.netId) (hc : s.com.key = some aKey)
    (hk : fld (untagged kind body ++ tagOf (untagged kind body)) 0 1 = 16 * kind + 1)
    (h2 : fld (untagged kind body ++ tagOf (untagged kind body)) 2 2 = r0.cfg.com.netId) (hl : frameMin kind ≤ (untagged kind body).length + 4) :
    frameTagged s (tagged (untagged kind body)).frame.psdu kind := by
  obtain ⟨w, x, y, z, e⟩ := tagOf_four (untagged kind body)
  have l : (untagged kind body ++ tagOf (untagged kind body)).length - 4 = (untagged kind body).length := by simp [e]
  refine ⟨hk, h2.trans hn.symm, ?_, aKey, hc, ?_⟩
  · show frameMin kind ≤ (untagged kind body ++ tagOf (untagged kind body)).length
    simpa [e] using hl
  · show (cmac aKey ((untagged kind body ++ tagOf (untagged kind body)).take _)).take 4 = (untagged kind body ++ tagOf (untagged kind body)).drop _
    rw [show (tagged (untagged kind body)).frame.psdu.length - 4 = (untagged kind body).length from l, List.take_left, List.drop_left]; rfl

/-- A beacon, a request to device 3, one to device 4, a response to the request 8 of device 3, and a management packet that holds a NOP. -/
abbrev aBeacon : Inbound := tagged (untagged 1 (List.replicate 14 0))
abbrev aRequest : Inbound := tagged (untagged 2 (le 4 3))
abbrev elsewhere : Inbound := tagged (untagged 2 (le 4 4))
abbrev aResponse : Inbound := tagged (untagged 3 (le 4 3 ++ le 2 8 ++ List.replicate 14 0))
abbrev aMgmt : Inbound := tagged (untagged 4 (le 4 3 ++ packetBytes 0x0001 (pk 1 [])))

theorem aMgmt_packet : (aMgmt.frame.psdu.drop 14).take (aMgmt.frame.psdu.length - 18) = packetBytes 0x0001 (pk 1 []) := by
  obtain ⟨w, x, y, z, e⟩ := tagOf_four (untagged 4 (le 4 3 ++ packetBytes 0x0001 (pk 1 [])))
  show ((untagged 4 (le 4 3 ++ packetBytes 0x0001 (pk 1 [])) ++ tagOf _).drop 14).take ((untagged 4 (le 4 3 ++ packetBytes 0x0001 (pk 1 [])) ++ tagOf _).length - 18) = _
  rw [e]; rfl

/-- The request 8 that is open, sent at `t1` ns: the response comes 20 µs into device time, so that the delay is half of what is left of them. -/
def asked (t1 : Nat) (dvals : List Fs) (c : Commons) : Commons := { c with requests := [{ seq := 8, t1 := t1, master := 9, fold := 0 }], dvals := dvals }

theorem asked_met (t1 : Nat) (dvals : List Fs) : frameMet (wKeyed 2 aResponse (asked t1 dvals)) (inSlotAt 7) aResponse := by
  refine ⟨show r0.slotDue 7 (inSlotAt 7) = true by decide +kernel, rfl, rfl, rfl, rfl, ?_, ?_, .inl (show MacState.search ≠ .master by decide), ?_, ?_⟩
  · intro _ _ h; cases h
  · intro r h
    have e := List.mem_singleton.mp (show r ∈ [_] from h)
    subst e; show r0.clk.absFold.toNat < 400; decide
  · intro _ h; cases h
  · intro _ h; cases h

theorem witness_ReceivedFramesAreChecked :
    (r0.rf.state ≠ .rx ∧ wRx.rf.state = .rx ∧ { rxf [] with modeSwitch := true }.modeSwitch = true ∧ 255 < { rxf [] with length := 256 }.length ∧
      (rxf []).modeSwitch = false ∧ (rxf []).length ≤ 255 ∧ { rxf [] with fcsOk := false }.fcsOk = false ∧ (rxf []).fcsOk = true) ∧
    (frameHeard wRx (rxf []) ∧ wRx.macListens = true ∧ (wRf fun x => { x with state := .rx }).macListens = false) ∧
    (let s := { wRx with test := { r0.test with commons := { r0.test.commons with kind := 1 } } };
     s.rf.state = .rx ∧ s.test.commons.kind = 1 ∧ s.test.commons.every = 0 ∧ s.com.heldFrame = none) ∧
    (∀ b ∈ [[], [0x01], [0x61]], frameMet (wKeyed 2 (inboundOf b) id) (inSlotAt 7) (inboundOf b)) ∧
    (fld ([] : List Byte) 0 1 % 16 ≠ 1 ∧ fld [(0x01 : Byte)] 0 1 < 16 ∧ 96 ≤ fld [(0x61 : Byte)] 0 1) ∧
    (let b : List Byte := [0x51, 0, 0xFF, 0xFF]; fld b 0 1 % 16 = 1 ∧ 16 ≤ fld b 0 1 ∧ fld b 0 1 < 96 ∧ fld b 2 2 ≠ wRx.cfg.com.netId) ∧
    (let b : List Byte := [0x11, 0] ++ le 2 wRx.cfg.com.netId; fld b 2 2 = wRx.cfg.com.netId ∧ wRx.com.key = none ∧ b.length < frameMin (fld b 0 1 / 16)) ∧
    (let s := wKeyed 2 aBeacon fun c => { c with replay := [{ id := 9, seq := 5, secs := some 0 }] };
     frameMet s (inSlotAt 7) aBeacon ∧ frameTagged s aBeacon.frame.psdu 1 ∧ s.com.fresh (fld aBeacon.frame.psdu 4 4) (fld aBeacon.frame.psdu 8 2) (some (fld aBeacon.frame.psdu 10 6)) = false) ∧
    (frameTaken (wKeyed 1 elsewhere id) (inSlotAt 7) elsewhere 2 none ∧ fld elsewhere.frame.psdu 10 4 ≠ (wKeyed 1 elsewhere id).cfg.com.devId) ∧
    (frameTaken (wKeyed 2 aBeacon id) (inSlotAt 7) aBeacon 1 (some (fld aBeacon.frame.psdu 10 6)) ∧ (wKeyed 2 aBeacon id).replayRoom (fld aBeacon.frame.psdu 4 4) = true) ∧
    (let s := wKeyed 1 aRequest id;
     frameTaken s (inSlotAt 7) aRequest 2 none ∧ fld aRequest.frame.psdu 10 4 = s.cfg.com.devId ∧ s.cfg.com.role = 1 ∧ s.clk.absFold.toNat < aRequest.at_.toNat / foldFs + 8 ∧
      s.com.owed.length + ((s.com.queue ++ s.com.onAir.toList).filter fun x => x.kind = 3).length < 4 ∧
      4 ≤ { s.com with owed := List.replicate 4 { dst := 1, reqSeq := 2, t2Sec := 3, t2Ns := 4, dueFold := 1 } }.owed.length) ∧
    (∀ t1 dvals, let s := wKeyed 2 aResponse (asked t1 dvals); let r : Request := { seq := 8, t1 := t1, master := 9, fold := 0 };
     frameTaken s (inSlotAt 7) aResponse 3 none ∧ fld aResponse.frame.psdu 10 4 = s.cfg.com.devId ∧ s.com.requests = [r] ∧ r.seq = fld aResponse.frame.psdu 14 2 ∧
      r.master = fld aResponse.frame.psdu 4 4 ∧ s.com.dvals = dvals ∧ fld aResponse.frame.psdu 26 4 = 0 ∧ aResponse.rxFs = 20000 * 1000000) ∧
    (let d (t1 : Nat) : Fs := satFs (((20000 * 1000000 : Int) - ((t1 + 0) * 1000000 : Nat)) / 2)
     0 ≤ d 20000 ∧ d 20000 ≤ 10000000 ∧ d 20001 < 0 ∧ 10000000 < d 0 ∧ d 19999 ≤ 10000000 ∧ (List.replicate 8 (0 : Fs)).length = 8 ∧
      50000 < (d 19999 - meanI (List.replicate 8 0)).natAbs) ∧
    (let b := aMgmt.frame.psdu; let pkt := (b.drop 14).take (b.length - 18); let s := wKeyed 2 aMgmt id
     frameTaken s (inSlotAt 7) aMgmt 4 none ∧ fld b 10 4 = s.cfg.com.devId ∧ s.cfg.com.mgmtEn = true ∧ s.cfg.com.role ≠ 3 ∧ fld b 4 4 = s.cfg.com.mgmtPeer ∧
      pkt.length = 10 + fld pkt 4 2 ∧ crc16 (pkt.take (pkt.length - 2)) = fld pkt (pkt.length - 2) 2 ∧ (s.penSt 3).state = .active ∧ 0 < (s.io 3).free) := by
  refine ⟨by decide, ⟨by decide, by decide, by decide⟩, by decide, fun b _ => frameMet_keyed 2 _, by decide, by decide, by decide, ⟨⟨?_, rfl, rfl, ?_⟩, frameTagged_keyed _ 1 _ rfl rfl rfl rfl (by decide), ?_⟩,
    ⟨⟨frameMet_keyed 1 _, frameTagged_keyed _ 2 _ rfl rfl rfl rfl (by decide), rfl⟩, ?_⟩, ⟨⟨frameMet_keyed 2 _, frameTagged_keyed _ 1 _ rfl rfl rfl rfl (by decide), rfl⟩, rfl⟩,
    ⟨⟨frameMet_keyed 1 _, frameTagged_keyed _ 2 _ rfl rfl rfl rfl (by decide), rfl⟩, rfl, rfl, by decide, by decide, by decide⟩,
    fun t1 d => ⟨⟨asked_met t1 d, frameTagged_keyed _ 3 _ rfl rfl rfl rfl (by decide), rfl⟩, rfl, rfl, rfl, rfl, rfl, rfl, rfl⟩, by decide +kernel, ?_⟩
  · show r0.slotDue 7 (inSlotAt 7) = true
    decide +kernel
  · exact macQuiet_of _ _ rfl rfl rfl rfl (show MacState.search ≠ .master by decide) rfl rfl
  · rw [show fld aBeacon.frame.psdu 4 4 = 9 from rfl, show fld aBeacon.frame.psdu 8 2 = 5 from rfl, show fld aBeacon.frame.psdu 10 6 = 0 from rfl]
    decide
  · show fld elsewhere.frame.psdu 10 4 ≠ 3
    rw [show fld elsewhere.frame.psdu 10 4 = 4 from rfl]; decide
  · intro b pkt s
    have e : pkt = packetBytes 0x0001 (pk 1 []) := aMgmt_packet
    rw [e]
    exact ⟨⟨frameMet_keyed 2 _, frameTagged_keyed _ 4 _ rfl rfl rfl rfl (by decide +kernel), rfl⟩, rfl, rfl, show (2 : Nat) ≠ 3 by decide, rfl, by decide +kernel, by decide +kernel, rfl, Nat.zero_lt_succ 7⟩

/-! ### Drove -/

def wDrvState (x : DrvState) : State := wDrv fun d => { d with state := x }
def wLeadId (id : Nat) : State := { wLead with cfg := { r0.cfg with drv := { r0.cfg.drv with id := id } } }

/-- What a lead whose device id is 1 stages for fold 0, its whole frame, and the same with another TYPE. -/
def aNext : DrvNext := { fold := 0, head := (wLeadId 1).frameHead, unc := 0, cmd := false }
def leadFrame : List Sym := (wLeadId 1).ownFrame aNext
def otherFrame : List Sym := (wLeadId 1).ownFrame { aNext with head := 0 :: aNext.head.drop 1 }
def rxOf (w : List Sym) : DrvRx := { words := w, codesOk := true, tc := 0 }

/-- A fold in which `w` has arrived. -/
def wArrived (s : State) (w : List Sym) : State := { s with drv := { s.drv with inbox := [rxOf w] } }

theorem witness_DroveFramesAreSentAndJudged :
    (let s := { wLead with drv := { wLead.drv with next := some aNext, cast := some { cmd := 3, params := [], left := 1 } } };
     s.drv.state = .lead ∧ 0 = markLag s.clk.inSec ∧ s.drv.next = some aNext ∧ aNext.fold = s.clk.absFold.toNat ∧ s.drv.cast = some { cmd := 3, params := [], left := 1 }) ∧
    1 ≠ markLag wLead.clk.inSec ∧ (∀ x ∈ wLead.drv.next, x.fold ≠ wLead.clk.absFold.toNat) ∧ r0.drv.state ≠ .claim ∧ r0.drv.state ≠ .lead ∧ r0.drv.state = .off ∧
    (wPow fun p => { p with held := true }).pow.held = true ∧
    (let s := wDrv fun d => { d with state := .member, tx := .forward };
     s.drv.state ≠ .off ∧ s.pow.held = false ∧ s.drv.tx = .forward ∧ s.schedule = true ∧ s.test.drove.kind = 0 ∧ s.drv.heldFrame = none) ∧
    (wDrvState .member).drv.tx ≠ .forward ∧ { wDrvState .member with pow := { r0.pow with suspended := true } }.schedule = false ∧
    (let s := wArrived (wDrvState .member) leadFrame; s.slotDue 9 (inSlotAt 9) = true ∧ s.drv.inbox = [rxOf leadFrame] ∧ s.drv.trip = none ∧ s.drv.state = .member) ∧
    (let s := wArrived (wDrvState .listen) leadFrame; s.drv.state = .listen ∧ s.drv.quiet < 16 + 4 * s.cfg.drv.prio) ∧
    framed (List.replicate 60 Sym.k28_5) = false ∧ (framed otherFrame = true ∧ crcFault (symBytes otherFrame) = none ∧ fld (symBytes otherFrame) 1 1 / 16 = 0) ∧
    (let x := Sym.marker :: List.replicate 59 (Sym.data 1); framed x = true ∧ crcFault (symBytes x) ≠ none) ∧
    (framed leadFrame = true ∧ crcFault (symBytes leadFrame) = none ∧ (rxOf leadFrame).codesOk = true ∧ fld (symBytes leadFrame) 1 1 / 16 = 1) ∧
    (let s := wArrived (wLeadId 2) leadFrame; s.drv.state = .lead ∧ fld (symBytes leadFrame) 4 4 ≠ s.cfg.drv.id ∧ s.slotDue 9 (inSlotAt 9) = true) ∧
    (let s := wArrived { wLeadId 1 with drv := { wLead.drv with state := .claim, sent := some (0, 0), returned := 7 } } leadFrame;
     s.drv.state = .claim ∧ fld (symBytes leadFrame) 4 4 = s.cfg.drv.id ∧ s.drv.sent = some (0, 0) ∧ s.drv.gotOwn = false ∧ fld (symBytes leadFrame) 33 8 = 0 ∧
      7 ≤ s.drv.returned ∧ { s.drv with sent := some (1, 1) }.sent = some (1, 1)) := by
  decide +kernel

theorem witness_DroveStatesTimeOut : r0.drv.lock = false ∧ (wDrv fun d => { d with quiet := 15 }).drv.quiet < 16 ∧
    (let s := wDrv fun d => { d with state := .member, lock := true, quiet := 16 }; s.drv.lock = true ∧ 16 ≤ s.drv.quiet ∧ s.drv.state = .member) ∧
    (let s := wDrv fun d => { d with state := .lead, lock := true, quiet := 16 }; s.drv.lock = true ∧ 16 ≤ s.drv.quiet ∧ s.drv.state = .lead) ∧
    (wPow fun p => { p with suspended := true }).schedule = false ∧ r0.clk.slot ≠ 10 ∧ (wSlot 10 r0).schedule = true ∧ (wSlot 10 r0).clk.slot = 10 ∧
    (let s := { wDrv (fun d => { d with state := .listen, quiet := 16 + 4 * 254 }) with cfg := { r0.cfg with drv := { r0.cfg.drv with prio := 254 } } };
     s.schedule = true ∧ s.drv.state = .listen ∧ s.cfg.drv.prio ≠ 255 ∧ 16 + 4 * s.cfg.drv.prio ≤ s.drv.quiet) ∧ r0.drv.state ≠ .listen ∧
    (let s := wDrv fun d => { d with state := .claim, quiet := 64 }; s.schedule = true ∧ s.drv.state = .claim ∧ 64 ≤ s.drv.quiet) ∧ r0.drv.state ≠ .claim ∧ r0.drv.quiet < 64 ∧
    (let s := { wDrv (fun d => { d with state := .lead, sinceReturn := 16 }) with cfg := { r0.cfg with drv := { r0.cfg.drv with ring := true } } };
     s.schedule = true ∧ s.drv.state = .lead ∧ s.cfg.drv.ring = true ∧ s.drv.ringBroken = false ∧ 16 ≤ s.drv.sinceReturn) ∧ r0.drv.sinceReturn < 16 := by decide +kernel

theorem witness_EchoesAndDroveFreezes : r0.drv.state = .off ∧ (wLead.drv.state = .lead ∧ wLead.cfg.drv.ring = false) ∧ (let s := wDrvState .member; { s with clk := { s.clk with inSec := 1 } }.clk.inSec % 256 ≠ s.drv.hop) ∧
    (let s := wDrvState .member; s.drv.state ≠ .off ∧ s.drv.state ≠ .lead ∧ s.clk.inSec % 256 = s.drv.hop ∧ s.drv.echo.length < 8) ∧
    (0 ≤ divNear (((512000000 : Nat) : Int) - 512000000) 2 ∧ divNear (((1512000000 : Nat) : Int) - 512000000) 2 ≤ 500000000 ∧ 500000000 < divNear (((1512000002 : Nat) : Int) - 512000000) 2 ∧
      divNear (((511999998 : Nat) : Int) - 512000000) 2 < 0) ∧
    (let s := wDrv fun d => { d with state := .member, echo := List.replicate 8 0 }; s.drv.echo.length = 8 ∧ (divNear (((512000000 : Nat) : Int) - 512000000) 2 - s.drv.c).natAbs ≤ 2000000 ∧
      2000000 < (divNear (((516000002 : Nat) : Int) - 512000000) 2 - s.drv.c).natAbs) ∧
    (let s := wDrv fun d => { d with freezes := [1, 2] }; s.schedule = true ∧ 1 ∈ s.drv.freezes ∧ 1 ≤ s.clk.absFold.toNat + 1) ∧
    (let s := wDrv fun d => { d with freezes := [2] }; ∀ k ∈ s.drv.freezes, s.clk.absFold.toNat + 1 < k) ∧ (wPow fun p => { p with suspended := true }).schedule = false := by decide +kernel

/-! ### Rules over all commands -/

theorem witness_WrongClassIsRefused : commandOf (.nop (pk 1 [])) = some (0x0001, 1, pk 1 []) ∧ r0.ifaceOpen = true ∧ r0.schedule = true ∧ r0.clk.slot ≤ 14 ∧ (∀ p, (r0.io p).queue = []) ∧
    r0.host.begun = none ∧ ({ pk 1 [] with flags := 1 } : Call).flags ≠ 0 ∧ ({ pk 1 [] with rsv := 1 } : Call).rsv ≠ 0 ∧ (pk 0 []).flags = 0 ∧ (pk 0 []).rsv = 0 ∧ (pk 0 []).cls ≠ 1 ∧
    (r0.penSt 0).state = .active ∧ 0 < (r0.io 0).free := by decide
def wForce : State := { r0 with sel := { r0.sel with force := some 2 } }

theorem witness_SelectorPassChoosesTheBest : r0.slotDue 4 (inSlotAt 4) = true ∧ r0.sel.force = none ∧ wForce.sel.force = some 2 ∧ wForce.slotDue 4 (inSlotAt 4) = true := by decide +kernel

theorem witness_GroupWritesReadBack : VcoTerms (pk 1 [0, 188, 160, 101, 1, 0, 0, 0]) r0 ∧ SsctTerms (pk 1 [2, 1, 16, 0]) r0 ∧ PaddockTerms (pk 1 [0, 2, 0, 0]) r0 ∧
    RefRankTerms (pk 1 [5, 15, 15, 255]) r0 ∧ PinTerms (pk 1 [0, 0, 0, 0, 0, 0, 0, 0]) r0 :=
  ⟨by decide, by decide, by decide, by decide, by decide⟩

theorem witness_StagedResultsArePosted :
    (let s := { r0 with host := { r0.host with staged := [aStaged] } };
     s.pow.held = false ∧ s.pow.state ≠ .sleep ∧ s.pow.suspended = false ∧ s.host.staged = [aStaged] ∧ aStaged.commit = false ∧ aStaged.air = false ∧ (s.penSt 0).pinReset = 0 ∧ s.pow.bootIn = 0) ∧
    0x100 ≤ (0x0100 : BitVec 16).toNat ∧ (0x0100 : BitVec 16).toNat ≠ 0x500 ∧ (0 : BitVec 16).toNat < 0x100 := by decide

theorem witness_StagedChangesTakeEffect (op : BitVec 16) :
    let g := changes op (pk 1 [1]) (.bytes [])
    let s : State := { r0 with host := { r0.host with staged := [g] } }
    s.host.staged = [g] ∧ s.pow.held = false ∧ s.pow.state ≠ .sleep ∧ s.pow.suspended = false ∧ (s.penSt (pk 1 [1]).pen).pinReset = 0 ∧ s.pow.bootIn = 0 ∧ fld (pk 1 [1]).params 0 1 = 1 :=
  ⟨rfl, rfl, show PowerState.run ≠ .sleep by decide, rfl, rfl, rfl, rfl⟩

theorem witness_StepKeepsFlashCanonical : flashOk r0.store.flash = true := by decide

theorem witness_StepKeepsLedgerBalanced : r0.tally.balanced ∧ wEntry.tally.balanced := by
  unfold Tally.balanced Totals.balanced; decide

theorem witness_OnlyBoundariesWakesAndResetsMoveTheFold : mayReset .beaconDue = false ∧ mayReset .powerOnReset = true := by decide

theorem witness_OwnershipLockLastsUntilReset : ({ r0 with ownLock := true } : State).ownLock = true := by decide

/-! ### Numbers on the wire and in the registers, from the spec's worked examples -/

/-- A figure of the state after a command. -/
def after {α : Type} (c : Instr) (s : State) (f : State → α) : Option α :=
  match exec c s with
  | .next t => some (f t)
  | .fault _ => none
  | .refused _ => none

/-- 00, values in their wire forms. -/
theorem test_wire_phase : leI 8 1375000000000 = [0x00, 0xF6, 0x62, 0x24, 0x40, 0x01, 0x00, 0x00] ∧
    leI 8 (-2500) = [0x3C, 0xF6, 0xFF, 0xFF, 0xFF, 0xFF, 0xFF, 0xFF] := by decide

theorem test_wire_frequency : leI 6 1000000000 = [0x00, 0xCA, 0x9A, 0x3B, 0x00, 0x00] ∧ fldI [0x3C, 0xF6, 0xFF, 0xFF, 0xFF, 0xFF, 0xFF, 0xFF] 0 8 = -2500 := by decide

/-- The check values under which the named CRCs are known, over "123456789" (12 R278; 11 R247). -/
theorem test_crc_check_values : (let b := "123456789".toList.map fun c => BitVec.ofNat 8 c.toNat; crc16 b = 0x29B1 ∧ crc32c b = 0xE3069283 ∧ crc8 b = 0xF4) := by decide +kernel

/-- The first example of RFC 4493: the empty message. -/
theorem test_cmac_empty : cmac [0x2b, 0x7e, 0x15, 0x16, 0x28, 0xae, 0xd2, 0xa6, 0xab, 0xf7, 0x15, 0x88, 0x09, 0xcf, 0x4f, 0x3c] [] =
    [0xbb, 0x1d, 0x69, 0x29, 0xe9, 0x59, 0x37, 0x28, 0x7f, 0xa3, 0x7d, 0x12, 0x9b, 0x75, 0x67, 0x46] := by decide +kernel

/-- 13, the STEP packet, but for its CRC. -/
def stepCall (p : Pen) : Call :=
  { pen := p, cls := 1, flags := 0, tag := 0x2A, rsv := 0
    params := [0x10, 0, 0, 0, 0, 0, 0, 0, 0, 0, 0, 0, 0, 0, 0, 0, 0x3C, 0xF6, 0xFF, 0xFF, 0xFF, 0xFF, 0xFF, 0xFF] }

theorem test_step_packet : (packetBytes 0x2040 (stepCall 1)).length = 34 ∧ (packetBytes 0x2040 (stepCall 1)).take 10 = [0x50, 0x2A, 0x40, 0x20, 0x18, 0, 0, 0, 0x10, 0] := by
  decide +kernel

/-- 13, its reply, but for its CRC. -/
theorem test_step_reply : (({ pen := 1, cls := 1, tag := 0x2A, status := 0, opcode := 0x2040, data := le 4 42 ++ leI 8 (-2500) } : Reply).bytes false).take 20 =
    [0x58, 0x2A, 0, 0, 0x0C, 0, 0x40, 0x20, 0x2A, 0, 0, 0, 0x3C, 0xF6, 0xFF, 0xFF, 0xFF, 0xFF, 0xFF, 0xFF] := by decide +kernel

/-- 13: pen 2, which does not own OUT4, gets DENIED (0x0200). -/
theorem test_step_denied : after (.step (stepCall 2)) r0 (fun t => t.host.staged.map (·.status)) = some [0x0200] := by decide +kernel

theorem test_step_owner : after (.step (stepCall 1)) ((r0.updOutCfg 4 fun c => { c with delay := 2500 }).setCfg
    { (r0.updOutCfg 4 fun c => { c with delay := 2500 }).cfg with owners := r0.cfg.owners.upd 4 fun _ => 1 }) (fun t => t.host.staged.map (·.status)) = some [0] := by decide +kernel

/-- 06: COARSE, FINE and RESIDUAL at 6.0 GHz. -/
theorem test_delay_parts : delayParts 6000000000 2500000 = (30, 0, 0) ∧ delayParts 6000000000 2625000 = (31, 17, 833) ∧ delayParts 6000000000 2750000 = (33, 0, 0) := by
  decide +kernel

/-- 14: BELL_CHANGE's detail as REF1 is committed. -/
theorem test_selector_word : ({ r0 with sel := { r0.sel with lastCause := 1, state := .auto, shadow := some 1, bell := some 1 } } : State).selWord = 0x00011F11 := by decide

/-- 14: DPLL_STATE's detail as HOLDOVER is committed. -/
theorem test_loop_word : ({ wLp (fun l => { l with state := .holdover, everLocked := true, aplLock := true }) with mdl := { r0.mdl with valid := true } } : State).loopWord = 0xD3 := by
  decide +kernel

/-- 02: the activity window of a 25 MHz reference is 60 ns. -/
theorem test_activity_window :
    let s := wCfg fun c => { c with refs := c.refs.upd 0 fun r => { r with nomNum := 25000000, nomDen := 1, div := 25 } }
    s.windowOver 0 0 60000000 = true ∧ s.windowOver 0 0 59999999 = false := by decide +kernel

/-- 12: FREE 2 and GRANTED 2 read 0x22 in the pen's byte of CREDITS. -/
theorem test_credits : (let r : Reply := { pen := 2, cls := 1, tag := 0, status := 0, opcode := 1, data := [] }
    (r0.updIo 2 fun p => { p with free := 2, replies := [r, r] }).creditsWord / 256 ^ 2 % 256 = 0x22) := by decide +kernel

/-- 17: GPIO_SET with 0x0040_0000 sets the latch of GPIO22 alone. -/
theorem test_gpio_set : after (.gpioSet 0 [0, 0, 0x40, 0] 5) r0 (fun t => (List.range 24).filter fun n => (t.pin n).latch) = some [22] := by decide +kernel

/-- 12 R268, R270, R272: over I2C the device NACKs pointer 0x05, and a read of address 0x00 of the window gives IDENT, 0x1640. -/
theorem test_i2c : after (.badInstructionTransaction (.i2c 0x58 [5] 0) 0) r0 (fun t => t.host.nack) = some true ∧
    after (.badInstructionTransaction (.i2c 0x58 [3, 0] 2) 0) r0 (fun t => (t.host.nack, t.host.out)) = some (false, [0x40, 0x16]) := by decide +kernel

/-- 17: the first PIN_LOCK of the example waits for the second. -/
theorem test_pin_lock_first : after (.pinLock (pk 1 [0xED, 0x5E, 0, 0, 0, 3, 3, 0])) r0 (fun t => (t.io 0).pinStep) = some (some 0x00030300) := by decide +kernel

/-- 17: SUB 0x42 is CROOK0 of pen 2, GATE_ON. -/
theorem test_crook_pin : ((wCfg fun c => { c with pins := c.pins.upd 8 fun p => { p with func := 3, sub := 0x42 } }).crookCmd 2 (.pin 8 true)).map (fun c => (c.pen, c.code, c.pin)) =
    some (2, 2, true) := by decide +kernel

/-- 13 R308: NOP echoes its parameters. -/
theorem test_nop_echoes : after (.nop (pk 1 [1, 2, 3])) r0 (fun t => t.host.staged.map (·.body)) = some [.bytes [1, 2, 3]] := by decide +kernel

/-- 12 R280: a NOP of class BULK is refused with BAD_OPCODE (0x0102). -/
theorem test_nop_wrong_class : after (.nop (pk 2 [])) r0 (fun t => t.host.staged.map (·.status)) = some [St.badOpcode] := by decide +kernel

/-- 01 R15: a boundary's counters: fold 7,999 of a second is followed by fold 0 of the next. -/
theorem test_boundary_counts :
    let s := ({ r0 with clk := { r0.clk with absFold := 7999, inSec := 7999 } } : State).advance; s.clk.absFold = 8000 ∧ s.clk.inSec = 0 ∧ s.clk.seconds = 1 := by
  decide +kernel

/-- 15 R354: the header that reset's flash holds is one that recovery reads. -/
theorem test_reset_header : (headerOf State.reset.store.flash false).isSome = true := by decide +kernel

/-- 06, the worked example of a grazed step: at SLEW 1 ppm a fold moves 125 ps, 50 pieces of 2.5 ps. -/
theorem test_grazed_fold : grazedMove 250000 0 (slewFold 1000000000) 1000 = (125000, 0) := by decide

end Sys2Proof.Tests
end

section
/-! What counts folds. Every command but a boundary, a wake and a reset leaves alone the queue of commands, the fold counter, the ownership lock and the
ledger's residues (01 R15); the three that are left say what they make of the counter. -/

namespace Sys2Proof.Machine

/-- The queue of commands, the fold counter, the ownership lock and the ledger's residues stand. -/
structure State.Alike (s s' : State) : Prop where
  pending : s'.pending = s.pending
  absFold : s'.clk.absFold = s.clk.absFold
  ownLock : s'.ownLock = s.ownLock
  resids : s'.tally.resids = s.tally.resids

theorem State.Alike.refl (s : State) : s.Alike s := ⟨rfl, rfl, rfl, rfl⟩

theorem State.Alike.trans {a b c : State} (h : a.Alike b) (k : b.Alike c) : a.Alike c :=
  ⟨k.1.trans h.1, k.2.trans h.2, k.3.trans h.3, k.4.trans h.4⟩

theorem State.Alike.setNow (s : State) (t : Nat) : s.Alike (s.setNow t) := ⟨rfl, rfl, rfl, rfl⟩

/-- A step to a state in which the four figures stand. -/
def Steady (s : State) (o : Host.Outcome State Fault Refusal) : Prop := ∃ s', o = .next s' ∧ s.Alike s'

theorem Steady.next {s s' : State} (h : s.Alike s') : Steady s (.next s') := ⟨s', rfl, h⟩

theorem Steady.ite {s : State} {a b : Host.Outcome State Fault Refusal} (c : Prop) [Decidable c] (ha : Steady s a) (hb : Steady s b) :
    Steady s (if c then a else b) := by
  split
  · exact ha
  · exact hb

section
variable {s : State} {f : State → State}

theorem State.Alike.ite {a b : State} (c : Prop) [Decidable c] (ha : s.Alike a) (hb : s.Alike b) : s.Alike (if c then a else b) := by
  split
  · exact ha
  · exact hb

/-- A slot's task leaves the figures that its work leaves. -/
theorem State.Alike.inSlot (n t : Nat) (h : ∀ x : State, x.Alike (f x)) : s.Alike (s.inSlot n t f) :=
  .ite _ (.trans (b := s.enterSlot n t) ⟨rfl, rfl, rfl, rfl⟩ (h _)) (.setNow s t)

theorem State.Alike.inTask (n : Nat) (h : ∀ x : State, x.Alike (f x)) : s.Alike (s.inTask n f) := .ite _ (h s) (.refl s)

theorem State.Alike.inMac (h : ∀ x : State, x.Alike (f x)) : s.Alike (s.inMac f) := .inTask 7 fun x => .ite _ (h x) (.refl x)

theorem State.Alike.ifScheduled (h : ∀ x : State, x.Alike (f x)) : s.Alike (s.ifScheduled f) := .ite _ (h s) (.refl s)

theorem State.Alike.whileScheduled (t : Nat) (h : ∀ x : State, x.Alike (f x)) : s.Alike (s.whileScheduled t f) :=
  .ite _ (.trans (.setNow s t) (h _)) (.setNow s t)

/-- An action of the crook lane leaves the figures that its firing leaves. -/
theorem State.Alike.crookAct (code : Nat) (src : CrookSrc) {fire : CrookCmd → State → State} (h : ∀ c x, State.Alike x (fire c x)) :
    s.Alike (s.crookAct code src fire) :=
  ⟨State.crookAct_pending _ _ _ _ fun c x => (h c x).1, State.crookAct_absFold _ _ _ _ fun c x => (h c x).2,
    State.crookAct_ownLock _ _ _ _ fun c x => (h c x).3, State.crookAct_resids _ _ _ _ fun c x => (h c x).4⟩

end

/-! ### The rows whose work branches -/

theorem State.spiTx_alike (s : State) (l : List Byte) : s.Alike (s.spiTx l) := by
  unfold State.spiTx
  split
  · exact .refl s
  · exact .ite _ ⟨rfl, rfl, rfl, rfl⟩ (.ite _ ⟨rfl, rfl, rfl, rfl⟩ (.refl s))

theorem State.i2cTx_alike (s : State) (l : List Byte) (n : Nat) : s.Alike (s.i2cTx l n) := by
  unfold State.i2cTx
  split
  · exact ⟨rfl, rfl, rfl, rfl⟩
  · exact .ite _ ⟨rfl, rfl, rfl, rfl⟩ (.ite _ ⟨rfl, rfl, rfl, rfl⟩ (.ite _ ⟨rfl, rfl, rfl, rfl⟩ ⟨rfl, rfl, rfl, rfl⟩))

theorem execBadInstructionTransaction_steady (tx : BusTx) (t : Nat) (s : State) : Steady s (execBadInstructionTransaction tx t s) := by
  refine .next (.trans (.setNow s t) ?_)
  split
  · exact .ite _ (State.spiTx_alike _ _) (.refl _)
  · exact .ite _ (.refl _) (.ite _ (State.i2cTx_alike _ _ _) ⟨rfl, rfl, rfl, rfl⟩)

theorem execPreciseGateEnd_steady (i : Fin 8) (c : Computed) (t : Nat) (s : State) : Steady s (execPreciseGateEnd i c t s) := by
  refine .next (.trans (.setNow s t) (.ite _ ?_ (.refl _)))
  dsimp only
  split
  · refine .ite _ ⟨rfl, rfl, rfl, rfl⟩ ?_
    split <;> constructor <;> simp
  · exact ⟨rfl, rfl, rfl, rfl⟩

theorem execLearningObservation_steady (s : State) : Steady s (execLearningObservation s) := by
  refine .next (.inTask 0 fun x => ?_)
  split
  · constructor <;> simp
  · exact .refl x

theorem execRefEdge_steady (i : Fin 6) (rising : Bool) (phase : EdgePhase) (t : Nat) (s : State) : Steady s (execRefEdge i rising phase t s) := by
  refine .ite _ (.next (.setNow s t)) ?_
  refine .ite _ (.next (by constructor <;> simp)) ?_
  extract_lets runt s1 s2
  have h1 : s.Alike s1 := .ite _ (by constructor <;> simp) (by constructor <;> simp)
  have h2 : s.Alike s2 := h1.trans ⟨rfl, rfl, rfl, rfl⟩
  clear_value s2 s1
  refine .ite _ (.next (h1.trans (by constructor <;> simp))) (.ite _ (.next h1) ?_)
  exact .ite _ (.next (h2.trans (by constructor <;> simp))) (.next (h2.trans ⟨rfl, rfl, rfl, rfl⟩))

/-! ### Every row -/

/-- A command's row is its opcode's packet, delivered. -/
theorem exec_of_commandOf {c : Instr} {op : BitVec 16} {cls : BitVec 2} {q : Call} (h : commandOf c = some (op, cls, q)) (s : State) :
    exec c s = .next (deliver op q s) := by
  cases c <;> cases h <;> rfl

/-- A row that does no opcode's work, counts no fold and resets nothing leaves the four figures. -/
theorem exec_steady_of_row (c : Instr) (s : State) (hc : commandOf c = none) (hr : mayReset c = false) (hb : ∀ m, c ≠ .foldBoundary m)
    (hw : ∀ ns x, c ≠ .wakeRequest ns x) : Steady s (exec c s) := by
  cases c <;> cases hc <;> cases hr
  case foldBoundary m => exact absurd rfl (hb m)
  case wakeRequest ns x => exact absurd rfl (hw ns x)
  case badInstructionTransaction tx t => exact execBadInstructionTransaction_steady tx t s
  case preciseGateEnd i m t => exact execPreciseGateEnd_steady i m t s
  case learningObservation => exact execLearningObservation_steady s
  case refEdge i r p t => exact execRefEdge_steady i r p t s
  case stepFlock | gateOn | gateOff | freeze | gatherNow => exact .next (.trans (.setNow s _) (.crookAct _ _ fun c x => by constructor <;> simp))
  case beaconDue | delayReqDue | delayRespDue | exchangeTimeout => exact .next (.inMac fun x => by constructor <;> simp)
  case beaconMissed t => exact .next (.trans (.setNow s t) (.inMac fun x => by constructor <;> simp))
  case compaction => exact .next (.inTask 10 fun x => .ite _ (by constructor <;> simp) (.refl x))
  case reserveSlot => exact .next (.inSlot 16 _ fun x => .ite _ (by constructor <;> simp) (.refl x))
  case secondsComparison t => exact .next (.whileScheduled t fun x => .ite _ (by constructor <;> simp) (.refl x))
  case jobEnd | radioCalibrationEnd => exact .next (.trans (.setNow s _) (.ifScheduled fun x => by constructor <;> simp))
  case droveFreezeTakesEffect => exact .next (.ifScheduled fun x => by constructor <;> simp)
  case hourlyRecord t => exact .next (.trans (.setNow s t) (.inTask 10 fun x => by constructor <;> simp))
  case bwStageEnd | lockAchieved | lossOfLock | claimTimeout | leadTimeout | ringReturnTimeout | modelSaveTimer | refreshCheck | compactionRetry | radioCalDue =>
    exact .next (.inTask _ fun x => by constructor <;> simp)
  case dpllUpdateSlot | stileAndTallySlot | shaftTableSlot | outputSchedulerSlot | referenceMonitorsSlot | eventEngineSlot | commandInterpreterSlot |
      commonsMacSlot | droveSlot | storeEngineSlot | calibrationSlot | scrubSlot | telemetrySlot =>
    exact .next (.inSlot _ _ fun x => by constructor <;> simp)
  case gpioSet | gpioClr | gpioTgl | directRegisterWrite | flashWordProgramEnd | deferredCommandServed | longCommandStart =>
    exact .next (by constructor <;> simp)
  case pinInputLevelChange | npfailRise | tdcIntervalTimeout | jtagTckEdge => exact .next ⟨rfl, rfl, rfl, rfl⟩
  case writeCommandPacket | readReply | sleepEntry | slotEnd => exact .next (.trans (.setNow s _) (.ite _ (by constructor <;> simp) (.refl _)))
  case activityWindowExpiry | flashEraseEnd => exact .next (.trans (.setNow s _) (.ite _ (.refl _) (by constructor <;> simp)))
  case qualificationTimerExpiry => exact .next (.trans (.setNow s _) (.ite _ (by constructor <;> simp) (.refl _)))
  case outputReleaseTakesEffect | wakeDividerRestart | penResetEnd | resetRelease => exact .next (.ite _ (by constructor <;> simp) (.refl s))
  case carrierDetect => exact .next (.trans (.setNow s _) (.ite _ ⟨rfl, rfl, rfl, rfl⟩ (.refl _)))
  case apllLockAcquired | prbsCheckerLock => exact .next (.ite _ ⟨rfl, rfl, rfl, rfl⟩ (.refl s))
  all_goals
    simp only [exec, execTallyEntryActivation, execGateWindowStart, execGateWindowStop, execAlignedStart, execShaftIndexEdge, execShaftIndexTimeout,
      execMonSecondEnd, execUartSentence, execGpioEdge, execPenResetPinEdge, execApllLossOfLock, execApllLockTimeout, execNpfailFall, execLeadFrameTransmit,
      execDroveFrameReceived, execWordLockLoss, execEchoMeasurement, execCcaAttempt, execTxFrameEnd, execRadioFrameReceived, execDiversityWindowEnd, execRxBlock,
      execHopSettleComplete, execSynthUnlock, execCodeError]
    (repeat' split) <;> exact .next (by constructor <;> simp)

/-- A command that counts no fold and resets nothing leaves the four figures. -/
theorem exec_steady (c : Instr) (s : State) (hr : mayReset c = false) (hb : ∀ m, c ≠ .foldBoundary m) (hw : ∀ ns x, c ≠ .wakeRequest ns x) :
    Steady s (exec c s) := by
  cases hc : commandOf c with
  | none => exact exec_steady_of_row c s hc hr hb hw
  | some x =>
    rw [exec_of_commandOf hc]
    exact .next (by constructor <;> simp)

/-- A reset, where one comes, begins the fold counter again. -/
theorem exec_absFold_of_mayReset {c : Instr} {s s' : State} (hr : mayReset c = true) (h : exec c s = .next s') :
    s'.clk.absFold = s.clk.absFold ∨ s'.clk.absFold = 0 := by
  cases c <;> cases hr <;> simp only [exec, execPowerOnReset, execPinReset, execWatchdogExpiry, execSoftResetExecution, execHotsetSaveEnd] at h <;>
    (repeat' split at h) <;> cases h <;> simp

end Sys2Proof.Machine

open Sys2Proof Sys2Proof.Machine

/-- Settles O58: the boundary's and the wake's counts are `State.boundary_absFold` and `State.wake_absFold`; a reset clears the counter; every other command is
steady. -/
theorem onlyBoundariesWakesAndResetsMoveTheFold : Obligations.OnlyBoundariesWakesAndResetsMoveTheFold := by
  intro c s s' h
  refine ⟨fun hr hb hw => ?_, fun hr => exec_absFold_of_mayReset hr h, ?_, ?_⟩
  · obtain ⟨x, hx, ha⟩ := exec_steady c s hr hb hw
    cases hx.symm.trans h
    exact ha.absFold
  · rintro m rfl
    cases h
    exact State.boundary_absFold s m
  · rintro ns x rfl
    cases h
    split
    · rename_i hw
      simp only [Bool.and_eq_true, decide_eq_true_eq, Bool.not_eq_true'] at hw
      exact .inr ⟨hw.1.1, hw.1.2, State.wake_absFold s x⟩
    · exact .inl rfl
end

section
/-! What reset leaves, and where the slots of the fold rest (01 R15, R17, R32; 18 R414). -/

namespace Sys2Proof.Machine

/-- A slot is due exactly where the schedule runs, neither it nor a later one has begun, and the instant lies within it (01 R17). -/
theorem State.slotDue_iff (s : State) (n t : Nat) : s.slotDue n t = true ↔ s.schedule = true ∧ s.clk.slot ≤ n ∧ slotHolds n t = true := by
  simp [State.slotDue, and_assoc]

theorem State.slotDue_schedule {s : State} {n t : Nat} (h : s.slotDue n t = true) : s.schedule = true := (s.slotDue_iff n t).mp h |>.1

/-- A slot that is due begins and its task runs. -/
theorem State.inSlot_of_due {s : State} {n t : Nat} (h : s.slotDue n t = true) (f : State → State) : s.inSlot n t f = f (s.enterSlot n t) := by
  simp [State.inSlot, h]

/-- A slot that is not due is an instant that passes. -/
theorem State.inSlot_of_not_due {s : State} {n t : Nat} (h : s.slotDue n t = false) (f : State → State) : s.inSlot n t f = s.setNow t := by
  simp [State.inSlot, h]

theorem State.whileScheduled_of_not {s : State} (h : s.schedule = false) (t : Nat) (f : State → State) : s.whileScheduled t f = s.setNow t := by
  simp [State.whileScheduled, h]

/-- Without the schedule the interpreter comes to no packet that waits. -/
theorem State.serveWaiting_of_not_interpreting {s : State} (h : s.interpreting = false) (p : Pen) : s.serveWaiting p = s := by
  unfold State.serveWaiting
  split <;> simp [h]

theorem State.interpreting_of_not_schedule {s : State} (h : s.schedule = false) : s.interpreting = false := by simp [State.interpreting, h]

@[simp] theorem State.setNow_interpreting (s : State) (t : Nat) : (s.setNow t).interpreting = s.interpreting := rfl

end Sys2Proof.Machine

open Sys2Proof Sys2Proof.Machine

/-- Settles O60: each value is one that the reset state holds, read off it; the ledger's totals are all zero. -/
theorem resetValues : Obligations.ResetValues := by
  refine ⟨rfl, rfl, rfl, rfl, rfl, rfl, rfl, rfl, rfl, rfl, rfl, by decide, by decide, by decide, by decide, ?_⟩
  unfold Tally.balanced Totals.balanced
  decide

/-- Settles O27: each row of a slot is its task where the slot is due, and an instant that passes where it is not. -/
theorem slotsRestWithoutTheSchedule : Obligations.SlotsRestWithoutTheSchedule := by
  intro s t
  have rests {n : Nat} (h : s.slotDue n t = false) (f : State → State) :
      (.next (s.inSlot n t f) : Host.Outcome State Fault Refusal) = .next (s.setNow t) := congrArg _ (State.inSlot_of_not_due h f)
  refine ⟨fun n => s.slotDue_iff n t, fun h _ _ => rests h _, fun h => rests h _, fun h => rests h _, fun h => rests h _, fun h => rests h _, fun h => rests h _,
    fun h _ _ => rests h _, fun h => rests h _, fun h => rests h _, fun h _ => rests h _, fun h _ _ => rests h _, fun h _ _ => rests h _, fun h _ => rests h _,
    fun h _ => rests h _, fun h => ⟨fun n k => ?_, congrArg _ (State.whileScheduled_of_not h t _), fun p => ?_⟩⟩
  · show Host.Outcome.next _ = _
    simp [h]
  · have hi : (s.setNow t).serveWaiting p = s.setNow t := State.serveWaiting_of_not_interpreting (s := s.setNow t) (State.interpreting_of_not_schedule h) p
    exact ⟨congrArg _ hi, congrArg _ hi⟩
end

section
/-! The drove task of slot 9 part by part, the end of a slot and the reserve slot (01 R17–R20; 11 R252, R253, R256; 19 R437). -/

namespace Sys2Proof.Machine

/-! ### Counts of raised sources -/

/-- A raise counts one occurrence of its source, and of no other (14 R331). -/
theorem State.raise_count (s : State) (id detail k : Nat) :
    ((s.raise id detail).ev.srcs.getD k {}).count = (s.ev.srcs.getD k {}).count + if id = k ∧ k < 288 then 1 else 0 := by
  rw [State.raise_source]
  split <;> simp

theorem State.raiseIf_count (s : State) (c : Bool) (id detail k : Nat) :
    ((s.raiseIf c id detail).ev.srcs.getD k {}).count = (s.ev.srcs.getD k {}).count + if c = true ∧ id = k ∧ k < 288 then 1 else 0 := by
  cases c
  · simp [State.raiseIf]
  · simpa [State.raiseIf] using s.raise_count id detail k

/-! ### The parts of the drove task -/

/-- What the drove task does after its frames: the timeouts, the comparison of a round trip, and the next fold's frame. -/
def State.droveEnd (s : State) : State := s.claimTimeout.leadTimeout.ringTimeout.droveTimingSlot.stageFrame

theorem State.droveTask_of_no_frame {s : State} (h : s.drv.inbox = []) : s.droveTask = s.droveEnd := by
  have e : ({ s with drv := { s.drv with inbox := [] } } : State) = s := by rw [← h]
  unfold State.droveTask
  rw [h, e]
  rfl

theorem State.claimTimeout_of_not_due {s : State} (h : s.drv.state = .listen → s.cfg.drv.prio = 255 ∨ s.drv.quiet < 16 + 4 * s.cfg.drv.prio) :
    s.claimTimeout = s := by
  refine if_neg fun hc => ?_
  simp only [Bool.and_eq_true, decide_eq_true_eq] at hc
  obtain ⟨⟨hl, hp⟩, hq⟩ := hc
  rcases h hl with h | h
  · exact hp h
  · omega

theorem State.leadTimeout_of_not_due {s : State} (h : s.drv.state = .claim → s.drv.quiet < 64) : s.leadTimeout = s := by
  refine if_neg fun hc => ?_
  simp only [Bool.and_eq_true, decide_eq_true_eq] at hc
  have := h hc.1
  omega

theorem State.ringTimeout_of_not_lead {s : State} (h : s.drv.state ≠ .lead) : s.ringTimeout = s := by simp [State.ringTimeout, h]

theorem State.droveTimingSlot_of_no_trip {s : State} (h : s.drv.trip = none) : s.droveTimingSlot = s := by simp [State.droveTimingSlot, h]

theorem State.stageFrame_of_follower {s : State} (hc : s.drv.state ≠ .claim) (hl : s.drv.state ≠ .lead) : s.stageFrame = s := by
  simp [State.stageFrame, hc, hl]

/-- A device that neither claims nor leads, nor is about to claim, has nothing to do after its frames. -/
theorem State.droveEnd_of_follower {s : State} (hc : s.drv.state ≠ .claim) (hl : s.drv.state ≠ .lead)
    (hq : s.drv.state = .listen → s.cfg.drv.prio = 255 ∨ s.drv.quiet < 16 + 4 * s.cfg.drv.prio) (ht : s.drv.trip = none) : s.droveEnd = s := by
  unfold State.droveEnd
  rw [State.claimTimeout_of_not_due hq, State.leadTimeout_of_not_due fun h => absurd h hc, State.ringTimeout_of_not_lead hl,
    State.droveTimingSlot_of_no_trip ht, State.stageFrame_of_follower hc hl]

/-- The ring's timeout writes RING_BROKEN, and raises no source but its own. -/
theorem State.ringTimeout_writes (s : State) : ∃ b ev, s.ringTimeout = { s with drv := { s.drv with ringBroken := b }, ev := ev } ∧
    ∀ k, k ≠ Ev.drvRingBroken → (ev.srcs.getD k {}).count = (s.ev.srcs.getD k {}).count := by
  unfold State.ringTimeout
  split
  · refine ⟨true, _, rfl, fun k hk => ?_⟩
    exact (State.raise_count _ _ _ _).trans (by simp [Ne.symm hk])
  · exact ⟨_, _, rfl, fun k _ => rfl⟩

/-- The round trip is compared and gone; one of a ring's lead beyond 1 ns a hop is an occurrence (11 R256). -/
theorem State.droveTimingSlot_writes (s : State) : ∃ ev, s.droveTimingSlot = { s with drv := { s.drv with trip := none }, ev := ev } ∧
    (∀ k, k ≠ Ev.drvDelayCheck → (ev.srcs.getD k {}).count = (s.ev.srcs.getD k {}).count) ∧
    (∀ rt, s.drv.trip = some rt → s.drv.state = .lead → (ev.srcs.getD Ev.drvDelayCheck {}).count = (s.ev.srcs.getD Ev.drvDelayCheck {}).count +
      if s.cfg.drv.ring = true ∧ 1000000 * (s.drv.retHop + 1) < (rt - (s.drv.acc * 1000 + s.drv.c)).natAbs then 1 else 0) := by
  unfold State.droveTimingSlot
  cases ht : s.drv.trip with
  | none =>
    have e : ({ s with drv := { s.drv with trip := none } } : State) = s := by rw [← ht]
    exact ⟨s.ev, e.symm, fun k _ => rfl, fun rt h => absurd h (by simp)⟩
  | some rt =>
    dsimp only
    generalize hc : (decide (s.drv.state = DrvState.lead) && s.cfg.drv.ring && decide (1000000 * (s.drv.retHop + 1) < (rt - (s.drv.acc * 1000 + s.drv.c)).natAbs)) = c
    have hw : ∀ (x : State) (id d : Nat), x.raiseIf c id d = { x with ev := (x.raiseIf c id d).ev } := by cases c <;> exact fun _ _ _ => rfl
    refine ⟨_, hw _ _ _, fun k hk => (State.raiseIf_count _ _ _ _ _).trans (by simp [Ne.symm hk]), fun r hr hl => ?_⟩
    obtain rfl := Option.some.inj hr
    refine (State.raiseIf_count _ _ _ _ _).trans ?_
    subst hc
    simp [hl, Ev.drvDelayCheck]

/-- What the drove task does after its frames for a device that claims or leads, and is not about to change: RING_BROKEN, the round trip and the staged frame. -/
theorem State.droveEnd_of_own {s : State} (hl : s.drv.state ≠ .listen) (hc : s.drv.state = .claim → s.drv.quiet < 64) :
    ∃ b n ev, s.droveEnd = { s with drv := { s.drv with ringBroken := b, trip := none, next := n }, ev := ev } ∧
      (∀ k, k ≠ Ev.drvRingBroken → k ≠ Ev.drvDelayCheck → (ev.srcs.getD k {}).count = (s.ev.srcs.getD k {}).count) ∧
      (∀ rt, s.drv.trip = some rt → s.drv.state = .lead → (ev.srcs.getD Ev.drvDelayCheck {}).count = (s.ev.srcs.getD Ev.drvDelayCheck {}).count +
        if s.cfg.drv.ring = true ∧ 1000000 * (s.drv.retHop + 1) < (rt - (s.drv.acc * 1000 + s.drv.c)).natAbs then 1 else 0) ∧
      (s.drv.yield = true → n = s.drv.next) ∧
      (s.drv.state = .lead → s.drv.yield = false → ∃ x, n = some x ∧ x.fold = s.clk.absFold.toNat + 1 ∧ x.cmd = s.drv.cast.isSome ∧ x.unc = s.uncNs) := by
  unfold State.droveEnd
  rw [State.claimTimeout_of_not_due fun h => absurd h hl, State.leadTimeout_of_not_due hc]
  obtain ⟨b, e1, h1, k1⟩ := s.ringTimeout_writes
  rw [h1]
  obtain ⟨e2, h2, k2, k3⟩ := ({ s with drv := { s.drv with ringBroken := b }, ev := e1 } : State).droveTimingSlot_writes
  rw [h2]
  have counts : ∀ k, k ≠ Ev.drvRingBroken → k ≠ Ev.drvDelayCheck → (e2.srcs.getD k {}).count = (s.ev.srcs.getD k {}).count :=
    fun k ha hb => (k2 k hb).trans (k1 k ha)
  have check : ∀ rt, s.drv.trip = some rt → s.drv.state = .lead → (e2.srcs.getD Ev.drvDelayCheck {}).count = (s.ev.srcs.getD Ev.drvDelayCheck {}).count +
      if s.cfg.drv.ring = true ∧ 1000000 * (s.drv.retHop + 1) < (rt - (s.drv.acc * 1000 + s.drv.c)).natAbs then 1 else 0 :=
    fun rt ht hs => (k3 rt ht hs).trans (congrArg (· + _) (k1 _ (by decide)))
  unfold State.stageFrame
  split
  · refine ⟨b, s.drv.next, e2, rfl, counts, check, fun _ => rfl, fun hs hy => ?_⟩
    rename_i h
    simp [hs, hy] at h
  · rename_i h
    simp only [Bool.or_eq_true, not_or, Bool.not_eq_true] at h
    exact ⟨b, _, e2, rfl, counts, check, fun hy => absurd hy (by simp [h.2]), fun _ _ => ⟨_, rfl, rfl, rfl, rfl⟩⟩

theorem exec_droveSlot {s : State} {t : Nat} (h : s.slotDue 9 t = true) : exec (.droveSlot .ofState t) s = .next (s.enterSlot 9 t).droveTask :=
  congrArg _ (State.inSlot_of_due h _)

/-! ### The end of a slot, and the reserve slot -/

/-- A slot's last cycle counts only while no later slot has begun, at an instant within the slot. -/
theorem exec_slotEnd (s : State) (n : Fin 16) (h t : Nat) :
    exec (.slotEnd n h t) s = .next (if s.schedule = true ∧ s.clk.slot ≤ n.val + 1 ∧ slotHolds n.val t = true then (s.setNow t).endSlot n.val h else s.setNow t) := by
  show Host.Outcome.next _ = _
  congr 1
  refine if_congr ?_ rfl rfl
  simp [and_assoc, show (s.setNow t).clk.slot = s.clk.slot from rfl]

theorem State.endSlot_of_held {s : State} {n h : Nat} (hh : h ≠ 0) (hs : s.clk.slot ≤ n) : s.endSlot n h = s.cutTask n h :=
  if_pos (by simp [hh, hs])

theorem State.endSlot_of_done {s : State} {n h : Nat} (hd : h = 0 ∨ s.clk.slot = n + 1) :
    s.endSlot n h = match s.test.overrun.find? (·.1 = n) with
      | some x => (s.raise Ev.foldOverrun (overrunDetail n x.2)).mapTest fun y => { y with overrun := y.overrun.filter (·.1 ≠ n) }
      | none => s := by
  refine if_neg ?_
  rcases hd with rfl | hs
  · simp
  · simp [hs]

theorem State.finishBegun_of_none {s : State} (h : s.host.begun = none) : s.finishBegun = s := by simp [State.finishBegun, h]

end Sys2Proof.Machine

open Sys2Proof Sys2Proof.Machine

/-- Settles O34: a slot's end by whether its task still holds work, the reserve slot by whether a command is begun, and slot 9 without a frame by the parts of the
drove task that come after its frames. -/
theorem slotEndsReserveAndDroveSlot : Obligations.SlotEndsReserveAndDroveSlot := by
  intro s t hsch
  refine ⟨fun n h hn => ?_, fun n hs hh => ⟨fun h h0 hsn => ?_, fun h hd => ⟨fun hno => ?_, fun c hc => ?_⟩⟩, fun n _ => ⟨rfl, by simp [State.enterSlot]⟩,
    fun hdue => ⟨fun g hg => ?_, fun hb => ?_, ?_⟩, fun hdue hin => ⟨fun hst ht => ?_, fun hl => ?_, fun rt hl ht => ?_⟩⟩
  · rw [exec_slotEnd, if_neg]
    rintro ⟨-, h1, h2⟩
    rcases hn with hn | hn
    · omega
    · exact Bool.noConfusion (hn.symm.trans h2)
  · rw [exec_slotEnd, if_pos ⟨hsch, hs, hh⟩, State.endSlot_of_held (s := s.setNow t) h0 hsn]
    rfl
  · rw [exec_slotEnd, if_pos ⟨hsch, hs, hh⟩, State.endSlot_of_done (s := s.setNow t) hd]
    have hf : (s.setNow t).test.overrun.find? (·.1 = n.val) = none := List.find?_eq_none.mpr (by simpa using hno)
    rw [hf]
  · rw [exec_slotEnd, if_pos ⟨hsch, hs, hh⟩, State.endSlot_of_done (s := s.setNow t) hd]
    have hf : (s.setNow t).test.overrun.find? (·.1 = n.val) = some (n.val, c) := hc
    rw [hf]
    rfl
  · show Host.Outcome.next _ = _
    rw [State.inSlot_of_due hdue]
    have hf : (s.enterSlot 16 t).host.begun = some g := hg
    simp only [if_true, State.finishBegun, hf]
    rfl
  · show Host.Outcome.next _ = _
    rw [State.inSlot_of_due hdue]
    exact congrArg _ (State.finishBegun_of_none (s := s.enterSlot 16 t) hb)
  · exact congrArg _ (State.inSlot_of_due hdue _)
  · rw [exec_droveSlot hdue, State.droveTask_of_no_frame (s := s.enterSlot 9 t) hin]
    have hst' : (s.enterSlot 9 t).drv.state = .off ∨ (s.enterSlot 9 t).drv.state = .member := hst
    exact congrArg _ (State.droveEnd_of_follower (by rcases hst' with h | h <;> simp [h]) (by rcases hst' with h | h <;> simp [h])
      (by rcases hst' with h | h <;> simp [h]) ht)
  · obtain ⟨b, n, ev, he, -, -, hy, hn⟩ := State.droveEnd_of_own (s := s.enterSlot 9 t) (by simp [show (s.enterSlot 9 t).drv.state = .lead from hl])
      (by simp [show (s.enterSlot 9 t).drv.state = .lead from hl])
    rw [exec_droveSlot hdue, State.droveTask_of_no_frame (s := s.enterSlot 9 t) hin, he]
    exact ⟨_, rfl, rfl, hl, rfl, rfl, hy, hn hl⟩
  · obtain ⟨b, n, ev, he, -, hc, -⟩ := State.droveEnd_of_own (s := s.enterSlot 9 t) (by simp [show (s.enterSlot 9 t).drv.state = .lead from hl])
      (by simp [show (s.enterSlot 9 t).drv.state = .lead from hl])
    rw [exec_droveSlot hdue, State.droveTask_of_no_frame (s := s.enterSlot 9 t) hin, he]
    exact ⟨_, rfl, hc rt ht hl⟩
end

section
/-! A packet that stands alone in the queues: how the interpreter's slots and the events of waiting packets serve it (01 R18, R22; 12 R282–R284, R297). -/

namespace Sys2Proof.Machine

/-- `k` is the one packet that the queues hold. -/
structure State.Alone (s : State) (k : Packet) : Prop where
  own : (s.io k.call.pen).queue = [k]
  others : ∀ p, p ≠ k.call.pen → (s.io p).queue = []

/-- The interpreter decides to serve `k` with `sv`, which does nothing at once and gives its result to the boundary. -/
structure State.Serves (s : State) (k : Packet) (sv : Serve) : Prop where
  decides : s.decide_ k = sv
  wait : sv.wait = false
  act : sv.act = id
  later : sv.later = false
  air : k.air = false

/-- The result of a served packet, as it waits for the boundary. -/
def Packet.result (k : Packet) (sv : Serve) : Staged :=
  { opcode := k.opcode, call := k.call, status := sv.status, body := sv.body, commit := sv.commit, mark := sv.mark }

/-- A packet has left its queue, and the turn has passed to the next pen. -/
def State.taken (s : State) (k : Packet) : State := (s.updIo k.call.pen fun p => { p with queue := p.queue.erase k, pinStep := none }).turn k.call.pen

section
variable {s : State} {k : Packet} {sv : Serve}

theorem State.serve_of_serves (hs : s.Serves k sv) :
    s.serve k sv = (s.updIo k.call.pen fun p => { p with queue := p.queue.erase k, pinStep := none }, some (k.result sv)) := by
  simp [State.serve, hs.act, hs.later, hs.air, State.markAir, Packet.result]

theorem State.Alone.headOf (h : s.Alone k) (p : Pen) (f : Packet → Bool) : s.headOf p f = if p = k.call.pen ∧ f k = true then some k else none := by
  unfold State.headOf
  by_cases hp : p = k.call.pen
  · subst hp
    cases hf : f k <;> simp [h.own, hf]
  · simp [h.others p hp, hp]

/-- The heads that the pens show in turn begin with the one packet, where it is of the kind asked for. -/
theorem State.Alone.heads (h : s.Alone k) {f : Packet → Bool} (hf : f k = true) : ∃ r, (s.pensFrom.filterMap fun p => s.headOf p f) = k :: r := by
  refine filterMap_only _ _ _ (fun p _ => ?_) k.call.pen (mem_pensFrom s _) ?_
  · rw [h.headOf]; split <;> simp
  · rw [h.headOf, if_pos ⟨rfl, hf⟩]

theorem State.Alone.no_heads (h : s.Alone k) {f : Packet → Bool} (hf : f k = false) : (s.pensFrom.filterMap fun p => s.headOf p f) = [] :=
  filterMap_none _ _ fun p => by simp [h.headOf, hf]

theorem State.Alone.taken_queue (h : s.Alone k) (p : Pen) : ((s.taken k).io p).queue = [] := by
  have e : (s.taken k).io p = (s.updIo k.call.pen fun p => { p with queue := p.queue.erase k, pinStep := none }).io p := rfl
  rw [e, State.io_updIo]
  by_cases hp : k.call.pen = p
  · subst hp
    simp [h.own]
  · simp [hp, h.others p (Ne.symm hp)]

/-- Empty queues show no long command. -/
theorem State.longHeads_of_empty (h : ∀ p, (s.io p).queue = []) : s.longHeads = [] := by
  have hn (f : Packet → Bool) : (s.pensFrom.filterMap fun p => s.headOf p f) = [] := filterMap_none _ _ (headOf_none s f fun p x hx => by simp [h p] at hx)
  unfold State.longHeads
  rw [hn, hn]
  rfl

theorem State.serveControl_of_empty (h : ∀ p, (s.io p).queue = []) : s.serveControl = s :=
  controlPass_nothing 32 s fun p x hx => by simp [h p] at hx

theorem State.longPass_of_empty (h : ∀ p, (s.io p).queue = []) (hb : s.host.begun = none) (n : Nat) : s.longPass n = s := by
  cases n with
  | zero => rfl
  | succ n => simp [State.longPass, hb, State.longHeads_of_empty h, State.serveFirst]

theorem State.beginLong_of_empty (h : ∀ p, (s.io p).queue = []) : s.beginLong = s := by
  unfold State.beginLong
  split
  · rfl
  · simp [State.longHeads_of_empty h, State.serveFirst]

/-- A CONTROL or URGENT packet is served in the CONTROL pass, which then finds no other. -/
theorem State.Alone.serveControl (h : s.Alone k) (hs : s.Serves k sv) (hc : k.control = true) : s.serveControl = (s.taken k).stage (some (k.result sv)) := by
  obtain ⟨r, hr⟩ := h.heads hc
  have hi : (s.interpret k).1.turn k.call.pen = (s.taken k).stage (some (k.result sv)) := by
    simp only [State.interpret, hs.decides, hs.wait, State.serve_of_serves hs]
    rfl
  have he : ((s.taken k).stage (some (k.result sv))).controlPass 31 = (s.taken k).stage (some (k.result sv)) :=
    controlPass_nothing 31 _ fun p x (hx : x ∈ ((s.taken k).io p).queue) => by simp [h.taken_queue p] at hx
  show s.controlPass 32 = _
  rw [State.controlPass, hr]
  exact (congrArg (State.controlPass 31) hi).trans he

/-- A BULK or MAINT packet is left by the CONTROL pass. -/
theorem State.Alone.serveControl_of_long (h : s.Alone k) (hc : k.control = false) : s.serveControl = s := by
  show s.controlPass 32 = s
  rw [State.controlPass, h.no_heads hc]
  rfl

/-- A BULK or MAINT packet is the first of the long heads, and it is served. -/
theorem State.Alone.serveFirst (h : s.Alone k) (hs : s.Serves k sv) (hc : k.call.cls = 2 ∨ k.call.cls = 3) :
    s.serveFirst s.longHeads = (s.taken k, some (some (k.result sv))) := by
  have hh : ∃ r, s.longHeads = k :: r := by
    unfold State.longHeads
    rcases hc with hc | hc
    · obtain ⟨r, hr⟩ := h.heads (f := fun k => decide (k.call.cls = 2)) (by simp [hc])
      exact ⟨_, by rw [hr]; rfl⟩
    · obtain ⟨r, hr⟩ := h.heads (f := fun k => decide (k.call.cls = 3)) (by simp [hc])
      rw [h.no_heads (f := fun k => decide (k.call.cls = 2)) (by simp [hc]), hr]
      exact ⟨r, rfl⟩
  obtain ⟨r, hr⟩ := hh
  rw [hr, State.serveFirst, hs.decides, hs.wait, State.serve_of_serves hs]
  rfl

theorem State.Alone.longPass_one (h : s.Alone k) (hs : s.Serves k sv) (hc : k.call.cls = 2 ∨ k.call.cls = 3) (hb : s.host.begun = none) :
    s.longPass 1 = (s.taken k).stage (some (k.result sv)) := by
  simp [State.longPass, hb, h.serveFirst hs hc]

theorem State.Alone.beginLong (h : s.Alone k) (hs : s.Serves k sv) (hc : k.call.cls = 2 ∨ k.call.cls = 3) (hb : s.host.begun = none) :
    s.beginLong = { s.taken k with host := { (s.taken k).host with begun := some (k.result sv) } } := by
  simp [State.beginLong, hb, h.serveFirst hs hc]

/-- Long commands run until the packet has been served. -/
theorem State.Alone.longUntil (h : s.Alone k) (hs : s.Serves k sv) (hc : k.call.cls = 2 ∨ k.call.cls = 3) (hb : s.host.begun = none) :
    s.longUntil 33 k = (s.taken k).stage (some (k.result sv)) := by
  have hq : (((s.taken k).stage (some (k.result sv))).io k.call.pen).queue = [] := h.taken_queue _
  rw [State.longUntil, if_neg (by simp [h.own])]
  simp only [State.finishBegun, hb, h.serveFirst hs hc]
  rw [State.longUntil, if_pos (by simp [hq])]

/-- The two kinds of packets. -/
theorem Packet.control_or_long (k : Packet) : k.control = true ∨ (k.control = false ∧ (k.call.cls = 2 ∨ k.call.cls = 3)) := by
  have h : ∀ c : BitVec 2, decide (c.toNat ≤ 1) = true ∨ (decide (c.toNat ≤ 1) = false ∧ (c = 2 ∨ c = 3)) := by decide
  exact h k.call.cls

theorem Packet.not_control_of_long {k : Packet} (hc : k.call.cls = 2 ∨ k.call.cls = 3) : k.control = false := by
  rcases hc with hc | hc <;> simp [Packet.control, hc]

/-- The interpreter comes to the packet and serves it, whatever its class. -/
theorem State.Alone.reach (h : s.Alone k) (hs : s.Serves k sv) (hb : s.host.begun = none) : s.reach k = (s.taken k).stage (some (k.result sv)) := by
  unfold State.reach
  rcases k.control_or_long with hc | ⟨hn, hc⟩
  · simp [hc, h.serveControl hs hc]
  · simp [hn, h.serveControl_of_long hn, h.longUntil hs hc hb]

/-! ### The interpreter's slots -/

theorem State.interpSlot_of_empty (h : ∀ p, (s.io p).queue = []) (hb : s.host.begun = none) (done : Nat) (b : Bool) : s.interpSlot done b = s := by
  cases b <;> simp [State.interpSlot, State.serveControl_of_empty h, State.longPass_of_empty h hb, State.beginLong_of_empty h]

/-- A CONTROL packet is served, and nothing else is left for the slot. -/
theorem State.Alone.interpSlot_of_control (h : s.Alone k) (hs : s.Serves k sv) (hc : k.control = true) (hb : s.host.begun = none) (done : Nat) (b : Bool) :
    s.interpSlot done b = (s.taken k).stage (some (k.result sv)) := by
  have hq : ∀ p, (((s.taken k).stage (some (k.result sv))).io p).queue = [] := h.taken_queue
  have hl := State.longPass_of_empty hq hb done
  cases b <;> simp [State.interpSlot, h.serveControl hs hc, hl, State.beginLong_of_empty hq]

theorem State.Alone.interpSlot_of_long (h : s.Alone k) (hs : s.Serves k sv) (hc : k.call.cls = 2 ∨ k.call.cls = 3) (hb : s.host.begun = none) :
    s.interpSlot 0 false = s ∧ s.interpSlot 0 true = { s.taken k with host := { (s.taken k).host with begun := some (k.result sv) } } ∧
      s.interpSlot 1 false = (s.taken k).stage (some (k.result sv)) := by
  have hn := h.serveControl_of_long (Packet.not_control_of_long hc)
  exact ⟨by simp [State.interpSlot, hn, State.longPass], by simp [State.interpSlot, hn, State.longPass, h.beginLong hs hc hb],
    by simp [State.interpSlot, hn, h.longPass_one hs hc hb]⟩

theorem exec_commandInterpreterSlot {t : Nat} (h : s.slotDue (interpAt t) t = true) (done : Nat) (b : Bool) :
    exec (.commandInterpreterSlot done b t) s = .next ((s.enterSlot (interpAt t) t).interpSlot done b) :=
  congrArg _ (State.inSlot_of_due h _)

end

/-! ### Waiting packets -/

theorem State.serveWaiting_of_none_waits {s : State} {p : Pen} (h : ∀ k ∈ (s.io p).queue, k.waits = false) : s.serveWaiting p = s := by
  have hn : s.headOf p (·.waits) = none := List.find?_eq_none.mpr (by simpa using h)
  simp [State.serveWaiting, hn]

theorem State.serveWaiting_of_still_waits {s : State} {p : Pen} {k : Packet} {r : List Packet} (hq : (s.io p).queue = k :: r) (hk : k.waits = true)
    (hw : (s.decide_ k).wait = true) : s.serveWaiting p = s := by
  simp [State.serveWaiting, State.headOf, hq, hk, hw]

theorem State.Alone.serveWaiting {s : State} {k : Packet} {sv : Serve} (h : s.Alone k) (hs : s.Serves k sv) (hk : k.waits = true) (hi : s.interpreting = true)
    (hb : s.host.begun = none) : s.serveWaiting k.call.pen = (s.taken k).stage (some (k.result sv)) := by
  have hh : s.headOf k.call.pen (·.waits) = some k := by rw [h.headOf, if_pos ⟨rfl, hk⟩]
  simp [State.serveWaiting, hh, hi, hs.decides, hs.wait, h.reach hs hb]

end Sys2Proof.Machine

open Sys2Proof Sys2Proof.Machine

/-- Settles O39: an interpreter's slot with empty queues, with one CONTROL packet and with one long one, then the events of waiting packets. -/
theorem interpreterSlotsServeQueues : Obligations.InterpreterSlotsServeQueues := by
  intro s t
  dsimp only
  refine ⟨fun hdue => ⟨fun hq hb done b => ?_, fun k b done hown hothers hb hcls hair hw hact hl => ?_, fun k hown hothers hb hcls hair hw hact hl => ?_⟩,
    fun p hp => ?_, fun k hi hown hothers hb hk hair hw hact hl => ?_, fun k r hq hk hw => ?_⟩
  · rw [exec_commandInterpreterSlot hdue, State.interpSlot_of_empty (s := s.enterSlot (interpAt t) t) hq hb]
  · have ha : (s.enterSlot (interpAt t) t).Alone k := ⟨hown, hothers⟩
    rw [exec_commandInterpreterSlot hdue, ha.interpSlot_of_control ⟨rfl, hw, hact, hl, hair⟩ (by simpa [Packet.control] using hcls) hb]
    exact ⟨_, rfl, ha.taken_queue _, rfl⟩
  · have ha : (s.enterSlot (interpAt t) t).Alone k := ⟨hown, hothers⟩
    obtain ⟨h0, hbegin, h1⟩ := ha.interpSlot_of_long ⟨rfl, hw, hact, hl, hair⟩ hcls hb
    simp only [exec_commandInterpreterSlot hdue, h0, hbegin, h1]
    exact ⟨trivial, ⟨_, rfl, ha.taken_queue _, rfl, rfl⟩, ⟨_, rfl, ha.taken_queue _, hb, rfl⟩⟩
  · have h : (s.setNow t).serveWaiting p = s.setNow t := by
      rcases hp with hi | hk
      · exact State.serveWaiting_of_not_interpreting (s := s.setNow t) hi p
      · exact State.serveWaiting_of_none_waits (s := s.setNow t) hk
    exact ⟨congrArg _ h, congrArg _ h⟩
  · have ha : (s.setNow t).Alone k := ⟨hown, hothers⟩
    have h := ha.serveWaiting ⟨rfl, hw, hact, hl, hair⟩ hk hi hb
    exact ⟨_, congrArg Host.Outcome.next h, congrArg Host.Outcome.next h, ha.taken_queue _, rfl, rfl, rfl, rfl⟩
  · have h := State.serveWaiting_of_still_waits (s := s.setNow t) hq hk hw
    exact ⟨congrArg _ h, congrArg _ h⟩
end


section
/-! A boundary and a host transmission that waits: what a boundary's operations leave of the host's part and of the radio, and the refutation of O19 by a COMMONS
change that has the waiting transmission refused. -/

namespace Sys2Proof.Machine

/-! #### What leaves the host's part alone, and what the radio -/

@[simp] theorem forEach_host {α : Type} (l : List α) (f : α → State → State) (h : ∀ x s, (f x s).host = s.host) (s : State) :
    (forEach l f s).host = s.host := forEach_keeps (·.host) l f h s

@[simp] theorem forEach_rf {α : Type} (l : List α) (f : α → State → State) (h : ∀ x s, (f x s).rf = s.rf) (s : State) :
    (forEach l f s).rf = s.rf := forEach_keeps (·.rf) l f h s

@[simp] theorem State.configChange_host (s : State) (i : Nat) : (s.configChange i).host = s.host := rfl

@[simp] theorem State.inputChanges_host (s : State) (old : Settings) : (s.inputChanges old).host = s.host := by
  have inputs (s : State) := forEach_keeps (·.host) (List.range 6)
    (fun i s => if (s.refCfg i).input = (old.refs.getD i {}).input then s else s.configChange i) (fun _ _ => by split <;> rfl) s
  unfold State.inputChanges
  dsimp only
  split
  · exact inputs s
  · exact (State.configChange_host _ _).trans (inputs s)

@[simp] theorem State.commitPass_host (s : State) : s.commitPass.host = s.host := by
  simp only [State.commitPass]; split <;> simp

@[simp] theorem State.gradeEvents_host (s : State) (old : List (Nat × Nat)) : (s.gradeEvents old).host = s.host := by simp [State.gradeEvents]

@[simp] theorem State.commitGrades_host (s : State) : s.commitGrades.host = s.host := rfl

@[simp] theorem State.configFrames_host (s : State) : s.configFrames.host = s.host := by
  unfold State.configFrames; exact forEach_keeps (·.host) _ _ (fun _ _ => by split <;> simp) _

@[simp] theorem State.actCommand_host (s : State) (cmd seq : Nat) (params : List Byte) (ofs : Int) (commit : Nat) : (s.actCommand cmd seq params ofs commit).host = s.host := by
  simp only [State.actCommand]; (repeat' split) <;> simp

@[simp] theorem State.selfCommand_host (s : State) : s.selfCommand.host = s.host := by
  simp only [State.selfCommand]; (repeat' split) <;> simp

@[simp] theorem State.addStep_host (s : State) (e : Entry) : (s.addStep e).1.host = s.host := rfl

@[simp] theorem State.addGathers_host (s : State) (outs : List Nat) (pen : Pen) (fold target : Nat) : (s.addGathers outs pen fold target).host = s.host := by
  unfold State.addGathers; exact forEach_keeps (·.host) _ _ (fun _ _ => by rfl) _

@[simp] theorem State.broadcastGather_host (s : State) (f : BitVec 16) (fold : Nat) (offset : Fs) : (s.broadcastGather f fold offset).host = s.host := by
  simp only [State.broadcastGather]; split <;> simp

@[simp] theorem State.setDrove_host (s : State) (x : DrvState) (tx : DrvTx) : (s.setDrove x tx).host = s.host := by
  simp only [State.setDrove]; split <;> simp

@[simp] theorem State.limitStage_host (s : State) : s.limitStage.host = s.host := by
  simp only [State.limitStage]; (repeat' split) <;> simp

@[simp] theorem State.limitNew_host (s : State) : s.limitNew.host = s.host := by
  simp only [State.limitNew]; split <;> simp

@[simp] theorem State.enterHoldover_host (s : State) : s.enterHoldover.host = s.host := by
  simp only [State.enterHoldover]; split <;> simp

@[simp] theorem State.cancelEntry_host (s : State) (e : Entry) (cause : Nat) : (s.cancelEntry e cause).host = s.host := by simp [State.cancelEntry]

@[simp] theorem State.cancelSwitches_host (s : State) (cause : Nat) : (s.cancelSwitches cause).host = s.host := by simp [State.cancelSwitches]

@[simp] theorem State.freezeAtBoundary_host (s : State) : s.freezeAtBoundary.host = s.host := by simp [State.freezeAtBoundary]

@[simp] theorem State.resolveNone_host (s : State) (frozen graded : Bool) (oldBell : Option Nat) : (s.resolveNone frozen graded oldBell).host = s.host := by
  simp only [State.resolveNone]; (repeat' split) <;> simp

@[simp] theorem State.enterAcquire_host (s : State) (bw : Nat) : (s.enterAcquire bw).host = s.host := rfl

@[simp] theorem State.acquireNew_host (s : State) (src : TallySrc) (cause : Nat) : (s.acquireNew src cause).host = s.host := by simp [State.acquireNew]

@[simp] theorem State.resolveNext_host (s : State) (old : DpllState) (next : Option DpllState) : (s.resolveNext old next).host = s.host := by
  simp only [State.resolveNext]; split <;> simp

@[simp] theorem State.resolveBell_host (s : State) (b : Nat) (released frozen : Bool) (next : Option DpllState) (oldBell : Option Nat) (oldSel : SelState) : (s.resolveBell b released frozen next oldBell oldSel).host = s.host := by
  simp only [State.resolveBell]; (repeat' split) <;> simp

@[simp] theorem State.endEpisode_host (s : State) (old : DpllState) : (s.endEpisode old).host = s.host := by
  simp only [State.endEpisode]; split <;> simp

@[simp] theorem State.resolveDpll_host (s : State) (oldBell : Option Nat) (oldSel : SelState) (graded : Bool) : (s.resolveDpll oldBell oldSel graded).host = s.host := by
  simp only [State.resolveDpll]; (repeat' split) <;> simp

@[simp] theorem State.settleSsct_host (s : State) (x : Fs) : (s.settleSsct x).host = s.host := by
  simp only [State.settleSsct]; (repeat' split) <;> simp

@[simp] theorem State.shaftBoundary_host (s : State) : s.shaftBoundary.host = s.host := by simp [State.shaftBoundary]

@[simp] theorem State.fixGather_host (s : State) (e : Entry) (o : Nat) (shift : Fs) : (s.fixGather e o shift).host = s.host := rfl

@[simp] theorem State.takeFrame_host (s : State) (o : Nat) (p : Plan) : (s.takeFrame o p).host = s.host := rfl

@[simp] theorem State.gatherStill_host (s : State) (o : Nat) : (s.gatherStill o).host = s.host := by
  unfold State.gatherStill
  split
  · rfl
  · exact (forEach_keeps (·.host) _ _ (fun _ _ => by rfl) _).trans (by split <;> rfl)

@[simp] theorem State.moveOut_host (s : State) (e : Entry) (o : Nat) (x : Fs) : (s.moveOut e o x).host = s.host := by
  simp only [State.moveOut]; split <;> simp

@[simp] theorem State.stepStill_host (s : State) (o : Nat) : (s.stepStill o).host = s.host := by
  simp only [State.stepStill]; (repeat' split) <;> simp

@[simp] theorem State.payStill_host (s : State) : s.payStill.host = s.host := by
  unfold State.payStill; exact forEach_keeps (·.host) _ _ (fun _ _ => by split <;> simp) _

@[simp] theorem State.makeApplying_host (s : State) (e : Entry) : (s.makeApplying e).host = s.host := rfl

@[simp] theorem State.activateTally_host (s : State) : s.activateTally.host = s.host := by
  unfold State.activateTally
  exact (forEach_keeps (·.host) _ _ (fun _ _ => by (repeat' split) <;> rfl) _).trans (by split <;> rfl)

@[simp] theorem State.mapStore_host (s : State) (f : Store → Store) : (s.mapStore f).host = s.host := rfl

@[simp] theorem State.ownJob_host (s : State) (k : JobKind) : (s.ownJob k).host = s.host := rfl

@[simp] theorem State.saveModel_host (s : State) : s.saveModel.host = s.host := rfl

@[simp] theorem State.trimExtrap_host (s : State) : s.trimExtrap.host = s.host := by
  simp only [State.trimExtrap]; split <;> simp

@[simp] theorem State.newOscillator_host (s : State) (resetTemp : Bool) : (s.newOscillator resetTemp).host = s.host := by simp [State.newOscillator]

@[simp] theorem State.oscBoundary_host (s : State) : s.oscBoundary.host = s.host := by
  simp only [State.oscBoundary]; (repeat' split) <;> simp

@[simp] theorem State.shaftEvent_host (s : State) : s.shaftEvent.host = s.host := by
  simp only [State.shaftEvent]; split <;> simp

@[simp] theorem State.judgeBandwidth_host (s : State) : s.judgeBandwidth.host = s.host := by simp [State.judgeBandwidth]

@[simp] theorem State.droveCount_host (s : State) : s.droveCount.host = s.host := rfl

@[simp] theorem State.settleTo_host (s : State) (o t : Nat) : (s.settleTo o t).host = s.host := by
  simp only [State.settleTo]; (repeat' split) <;> simp

@[simp] theorem State.settleSeg_host (s : State) (o t : Nat) : (s.settleSeg o t).host = s.host := by
  simp only [State.settleSeg]; split <;> simp

@[simp] theorem State.startTrain_host (s : State) (o : Nat) (p : Plan) : (s.startTrain o p).host = s.host := by
  rw [State.startTrain, State.updOut_host, State.settleSeg_host]

@[simp] theorem State.settle_host (s : State) (o t : Nat) : (s.settle o t).host = s.host := by simp [State.settle]

@[simp] theorem State.putBy_host (s : State) (o edge : Nat) : (s.putBy o edge).host = s.host := by
  simp only [State.putBy]; split <;> simp

@[simp] theorem State.setRunningAt_host (s : State) (o t low : Nat) (again : Bool) : (s.setRunningAt o t low again).host = s.host := by
  rw [State.setRunningAt]
  split
  · rw [State.updOut_host, State.settle_host]
  split
  · rfl
  split
  · rfl
  · rw [State.updOut_host, State.putBy_host, State.settle_host]

@[simp] theorem State.setRunning_host (s : State) (o t : Nat) (again : Bool) : (s.setRunning o t again).host = s.host := by simp [State.setRunning]

@[simp] theorem State.runAll_host (s : State) (t : Nat) : (s.runAll t).host = s.host := by simp [State.runAll]

@[simp] theorem State.finishEntry_host (s : State) (e : Entry) : (s.finishEntry e).host = s.host := by simp [State.finishEntry]

@[simp] theorem State.wakeEntry_host (s : State) (o : Nat) (a : Fs) : (s.wakeEntry o a).host = s.host := by
  simp only [State.wakeEntry]; split <;> simp

@[simp] theorem State.regrid_host (s : State) (o : Nat) (carry : Fs) : (s.regrid o carry).host = s.host := by
  rw [State.regrid, State.updOut_host, State.settle_host]

@[simp] theorem State.restartDivider_host (o : Nat) (s : State) : (State.restartDivider o s).host = s.host := by simp [State.restartDivider]

@[simp] theorem State.restartDividers_host (s : State) : s.restartDividers.host = s.host := by
  simp only [State.restartDividers]; split <;> simp

@[simp] theorem State.releaseOutputs_host (s : State) : s.releaseOutputs.host = s.host := by
  simp only [State.releaseOutputs]; split <;> simp

@[simp] theorem State.lockBoundary_host (s : State) : s.lockBoundary.host = s.host := rfl

@[simp] theorem State.mapBg_host (s : State) (f : Background → Background) : (s.mapBg f).host = s.host := rfl

@[simp] theorem State.tdcBoundary_host (s : State) : s.tdcBoundary.host = s.host := by
  simp only [State.tdcBoundary]; split <;> simp

@[simp] theorem State.captureBoundary_host (s : State) : s.captureBoundary.host = s.host := rfl

@[simp] theorem State.rampUp_host (s : State) (f : Option (List Byte)) : (s.rampUp f).host = s.host := rfl

@[simp] theorem State.toneBoundary_host (s : State) : s.toneBoundary.host = s.host := by
  simp only [State.toneBoundary]; (repeat' split) <;> simp

@[simp] theorem State.hostTxBoundary_host (s : State) : s.hostTxBoundary.host = s.host := by
  simp only [State.hostTxBoundary]; (repeat' split) <;> simp

@[simp] theorem State.commonsRamp_host (s : State) : s.commonsRamp.host = s.host := by
  simp only [State.commonsRamp]; (repeat' split) <;> simp

@[simp] theorem State.commonsBoundary_host (s : State) : s.commonsBoundary.host = s.host := by
  simp only [State.commonsBoundary]; split <;> simp

@[simp] theorem State.keepCal_host (s : State) (c : Nat) (cal : SynthCal) : (s.keepCal c cal).host = s.host := rfl

@[simp] theorem State.calResult_host (s : State) (k c : Nat) (ok : Bool) (cal : SynthCal) (trim : List Int) : (s.calResult k c ok cal trim).host = s.host := by
  simp only [State.calResult]; (repeat' split) <;> simp

@[simp] theorem State.calBoundary_host (s : State) : s.calBoundary.host = s.host := by simp [State.calBoundary]

@[simp] theorem State.jobEffect_host (s : State) (o : JobOwner) (st : BitVec 16) : (s.jobEffect o st).host = s.host := by
  simp only [State.jobEffect]; (repeat' split) <;> simp

@[simp] theorem State.switchBank_host (s : State) : s.switchBank.host = s.host := rfl

@[simp] theorem State.storeBoundary_host (s : State) : s.storeBoundary.host = s.host := by
  simp only [State.storeBoundary]; split <;> simp

@[simp] theorem State.queueFrame_host (s : State) (f : TxFrame) : (s.queueFrame f).host = s.host := rfl

@[simp] theorem State.dpllEvent_host (s : State) : s.dpllEvent.host = s.host := by simp [State.dpllEvent]

@[simp] theorem State.noteSource_host (s : State) : s.noteSource.host = s.host := by
  simp only [State.noteSource]; split <;> simp

@[simp] theorem State.noteTime_host (s : State) : s.noteTime.host = s.host := by
  simp only [State.noteTime]; split <;> simp

@[simp] theorem State.telemBoundary_host (s : State) (sec : Nat) : (s.telemBoundary sec).host = s.host := by
  simp only [State.telemBoundary]; split <;> simp

@[simp] theorem State.noteAccepted_host (s : State) (g : Staged) : (s.noteAccepted g).host = s.host := by
  simp only [State.noteAccepted]; split <;> simp

@[simp] theorem State.setPen_host (s : State) (p : Pen) (st : PenState) : (s.setPen p st).host = s.host := rfl

@[simp] theorem State.endPenReset_host (s : State) (p : Pen) : (s.endPenReset p).host = s.host := by
  simp only [State.endPenReset]; split <;> simp

@[simp] theorem State.feedWatchdog_host (s : State) : s.feedWatchdog.host = s.host := rfl

@[simp] theorem State.raiseLate_host (s : State) : s.raiseLate.host = s.host := by
  unfold State.raiseLate; exact forEach_keeps (·.host) _ _ (fun _ _ => by rfl) _

/-! #### What comes before the staged changes leaves the radio alone -/

@[simp] theorem State.fixGather_rf (s : State) (e : Entry) (o : Nat) (shift : Fs) : (s.fixGather e o shift).rf = s.rf := rfl

@[simp] theorem State.fixPlanned_rf (s : State) (o : Nat) (q : BitVec 32) (shift : Fs) : (s.fixPlanned o q shift).rf = s.rf := by
  simp only [State.fixPlanned]; (repeat' split) <;> simp

@[simp] theorem State.raiseAligns_rf (s : State) : s.raiseAligns.rf = s.rf := by
  unfold State.raiseAligns
  exact forEach_keeps (·.rf) _ _ (fun o s => (forEach_rf _ _ (fun d s => s.raise_rf _ _) _).trans (State.updOut_rf _ _ _)) _

@[simp] theorem State.fixGathers_rf (s : State) : s.fixGathers.rf = s.rf := by simp [State.fixGathers]

@[simp] theorem State.addStep_rf (s : State) (e : Entry) : (s.addStep e).1.rf = s.rf := rfl

@[simp] theorem State.createCrookGathers_rf (s : State) : s.createCrookGathers.rf = s.rf := by
  unfold State.createCrookGathers; exact forEach_keeps (·.rf) _ _ (fun _ _ => by dsimp only; split <;> rfl) _

@[simp] theorem State.settleTo_rf (s : State) (o t : Nat) : (s.settleTo o t).rf = s.rf := by
  simp only [State.settleTo]; (repeat' split) <;> simp

@[simp] theorem State.settleSeg_rf (s : State) (o t : Nat) : (s.settleSeg o t).rf = s.rf := by
  simp only [State.settleSeg]; split <;> simp

@[simp] theorem State.startTrain_rf (s : State) (o : Nat) (p : Plan) : (s.startTrain o p).rf = s.rf := by
  rw [State.startTrain, State.updOut_rf, State.settleSeg_rf]

@[simp] theorem State.settle_rf (s : State) (o t : Nat) : (s.settle o t).rf = s.rf := by simp [State.settle]

@[simp] theorem State.settleNow_rf (o : Nat) (s : State) : (State.settleNow o s).rf = s.rf := by simp [State.settleNow]

@[simp] theorem State.outputsBoundary_rf (s : State) : s.outputsBoundary.rf = s.rf := by simp [State.outputsBoundary]

@[simp] theorem State.deliverSsct_rf (s : State) : s.deliverSsct.rf = s.rf := rfl

@[simp] theorem State.commitWord_rf (s : State) : s.commitWord.rf = s.rf := by
  simp only [State.commitWord]; (repeat' split) <;> simp

@[simp] theorem State.redeliver_rf (s : State) : s.redeliver.rf = s.rf := by
  simp only [State.redeliver]; (repeat' split) <;> simp

@[simp] theorem State.wordBoundary_rf (s : State) : s.wordBoundary.rf = s.rf := by
  simp only [State.wordBoundary]; split <;> simp

@[simp] theorem State.finishEntry_rf (s : State) (e : Entry) : (s.finishEntry e).rf = s.rf := by simp [State.finishEntry]

@[simp] theorem State.settleGather_rf (s : State) (e : Entry) : (s.settleGather e).rf = s.rf := by
  unfold State.settleGather
  split
  · exact forEach_keeps (·.rf) _ _ (fun _ _ => by split <;> rfl) _
  · rfl

@[simp] theorem State.finishAll_rf (s : State) : s.finishAll.rf = s.rf := by simp [State.finishAll]

@[simp] theorem State.moveSeconds_rf (s : State) (k : Int) : (s.moveSeconds k).rf = s.rf := rfl

@[simp] theorem State.takeJump_rf (s : State) : s.takeJump.rf = s.rf := by
  simp only [State.takeJump]; (repeat' split) <;> simp


/-! #### A waiting host transmission, and the staged list's length -/

@[simp] theorem State.updIo_stagedLength (s : State) (p : Pen) (f : PenIo → PenIo) : (s.updIo p f).host.staged.length = s.host.staged.length := rfl

theorem State.airReply_staged (s : State) (r : Reply) : (s.airReply r).host.staged = s.host.staged := by
  unfold State.airReply
  dsimp only
  split <;> rfl

theorem State.postReply_staged (s : State) (r : Reply) : (s.postReply r).host.staged = s.host.staged := by
  unfold State.postReply
  dsimp only
  split
  · exact State.airReply_staged _ r
  · rfl

theorem State.settleReplies_staged (s : State) : s.settleReplies.host.staged = s.host.staged := by
  unfold State.settleReplies
  exact forEach_keeps (·.host.staged) _ _ (fun _ _ => State.postReply_staged _ _) s

theorem State.post_staged (s : State) (g : Staged) (told : Option (List Byte)) : (s.post g told).host.staged = s.host.staged := by
  unfold State.post
  split
  · rfl
  · rw [State.noteAccepted_host, State.postReply_staged]

/-- A freeze of the drove takes back a staged HOLD, but removes nothing from the list. -/
theorem State.droveFreeze_stagedLength (s : State) (k : Nat) : (s.droveFreeze k).host.staged.length = s.host.staged.length := by
  unfold State.droveFreeze
  split
  · exact List.length_map _
  · rfl

theorem State.droveCommit_stagedLength (s : State) : s.droveCommit.host.staged.length = s.host.staged.length := by
  unfold State.droveCommit
  dsimp only
  rw [State.droveFreeze_stagedLength]
  (repeat' split) <;> simp

theorem State.commitLoops_stagedLength (s : State) (graded : Bool) (old : List (Nat × Nat)) :
    (s.commitLoops graded old).host.staged.length = s.host.staged.length := by
  simp [State.commitLoops, State.droveCommit_stagedLength]

theorem State.commitUnits_staged (s : State) (sec : Nat) : (s.commitUnits sec).host.staged = s.host.staged := by
  simp [State.commitUnits, State.settleReplies_staged]

/-! #### The front end and the MAC keep the host, the settings and a waiting host transmission -/

@[simp] theorem State.rest_keeps (s : State) : s.rest.host = s.host ∧ s.rest.cfg = s.cfg ∧ s.rest.rf.hostTx = s.rf.hostTx := by
  refine ⟨rfl, rfl, ?_⟩
  unfold State.rest
  dsimp only
  split <;> rfl

@[simp] theorem State.startHop_keeps (s : State) (c : Nat) :
    (s.startHop c).host = s.host ∧ (s.startHop c).cfg = s.cfg ∧ (s.startHop c).rf.hostTx = s.rf.hostTx := by
  unfold State.startHop
  dsimp only
  split <;> simp [State.invalidate]

@[simp] theorem State.nextHop_keeps (s : State) : s.nextHop.host = s.host ∧ s.nextHop.cfg = s.cfg ∧ s.nextHop.rf.hostTx = s.rf.hostTx := by
  unfold State.nextHop
  (repeat' split) <;> simp

@[simp] theorem State.takeRequest_keeps (s : State) (q : RfCfg × Nat) :
    (s.takeRequest q).host = s.host ∧ (s.takeRequest q).cfg = s.cfg ∧ (s.takeRequest q).rf.hostTx = s.rf.hostTx := by
  unfold State.takeRequest
  dsimp only
  (repeat' split) <;> exact ⟨rfl, rfl, rfl⟩

theorem State.takeDeferred_keeps (s : State) :
    s.takeDeferred.host = s.host ∧ s.takeDeferred.cfg = s.cfg ∧ s.takeDeferred.rf.hostTx = s.rf.hostTx := by
  have requests (l : List (RfCfg × Nat)) (x : State) :=
    forEach_keeps (fun s => (s.host, s.cfg, s.rf.hostTx)) l (fun q s => s.takeRequest q) (fun _ _ => by simp) x
  simp only [Prod.mk.injEq] at requests
  unfold State.takeDeferred
  split <;> simp [requests]

@[simp] theorem State.takeRf_keeps (s : State) : s.takeRf.host = s.host ∧ s.takeRf.cfg = s.cfg ∧ s.takeRf.rf.hostTx = s.rf.hostTx :=
  State.takeDeferred_keeps _

@[simp] theorem State.restRf_keeps (s : State) : s.restRf.host = s.host ∧ s.restRf.cfg = s.cfg ∧ s.restRf.rf.hostTx = s.rf.hostTx := by
  unfold State.restRf
  split <;> simp

@[simp] theorem State.setMac_keeps (s : State) (m : MacState) :
    (s.setMac m).host = s.host ∧ (s.setMac m).cfg = s.cfg ∧ (s.setMac m).rf = s.rf := by
  simp [State.setMac]

@[simp] theorem State.openUp_rf (s : State) : s.openUp.rf = s.rf := by
  unfold State.openUp
  exact (State.raise_rf _ _ _).trans (forEach_keeps (·.rf) _ _ (fun _ s => s.raise_rf _ _) _)

@[simp] theorem State.setDrove_rf (s : State) (x : DrvState) (tx : DrvTx) : (s.setDrove x tx).rf = s.rf := by
  simp only [State.setDrove]; split <;> simp

theorem State.boot_hostTx (s : State) : s.boot.rf.hostTx = s.rf.hostTx := by
  unfold State.boot
  dsimp only
  (repeat' split) <;> simp [State.droveOn]

theorem State.macForget_keeps (s : State) :
    s.macForget.host.staged = s.host.staged ∧ s.macForget.cfg = s.cfg ∧ s.macForget.rf = s.rf := by
  have replies (n : Nat) (x : State) := forEach_keeps (fun s => (s.host.staged, s.cfg, s.rf)) (List.range n)
    (fun _ s => s.updIo 3 PenIo.dropAir) (fun _ _ => rfl) x
  simp only [Prod.mk.injEq] at replies
  unfold State.macForget State.dropReplies
  exact replies _ _

/-- A host transmission that waits when the MAC takes the front end over is answered by one more staged result. -/
theorem State.hostYields_stagedLength (s : State) (h : HostTx) (waits : s.rf.hostTx = some h) (notBegun : h.started = false) :
    s.hostYields.host.staged.length = s.host.staged.length + 1 := by
  simp [State.hostYields, State.endHostTx, waits, notBegun]

@[simp] theorem State.hostYields_cfg (s : State) : s.hostYields.cfg = s.cfg := by
  simp only [State.hostYields, State.endHostTx]
  (repeat' split) <;> rfl

/-- COMMONS with the role 0 leaves a waiting host transmission alone. -/
theorem commitCommons_off (q : Call) (s : State) (off : fld q.params 0 1 = 0) :
    (commitCommons q s).rf.hostTx = s.rf.hostTx ∧ (commitCommons q s).cfg.com.role = 0 := by
  have role : (setCommons q.params s.cfg.com).role = 0 := off
  have forgets := State.macForget_keeps
  unfold commitCommons
  dsimp only
  (repeat' split) <;> simp_all

theorem State.macForget_hostYields_stagedLength (s : State) (h : HostTx) (waits : s.rf.hostTx = some h) (notBegun : h.started = false) :
    s.macForget.hostYields.host.staged.length = s.host.staged.length + 1 := by
  obtain ⟨staged, -, rf⟩ := State.macForget_keeps s
  rw [State.hostYields_stagedLength _ h (by rw [rf, waits]) notBegun, staged]

/-- COMMONS with another role than the present one, and not 0, makes a waiting host transmission yield. -/
theorem commitCommons_yields (q : Call) (s : State) (h : HostTx) (waits : s.rf.hostTx = some h) (notBegun : h.started = false)
    (on : fld q.params 0 1 ≠ 0) (new : fld q.params 0 1 ≠ s.cfg.com.role) :
    (commitCommons q s).host.staged.length = s.host.staged.length + 1 := by
  have role : (setCommons q.params s.cfg.com).role = fld q.params 0 1 := rfl
  unfold commitCommons
  dsimp only
  rw [role, if_neg new, if_neg on]
  simp only [State.takeRf_keeps, State.restRf_keeps, State.updCand_host, State.setMac_keeps]
  split
  · exact State.macForget_hostYields_stagedLength _ h waits notBegun
  · exact State.macForget_hostYields_stagedLength _ h waits notBegun

/-! #### The staged list through a boundary that commits -/

/-- The staged commands that a boundary commits: those of the pens that it does not reset. -/
def State.keptStaged (s : State) : List Staged :=
  s.host.staged.filter fun g => !(s.resettingPens s.host.staged).contains g.call.pen

/-- A boundary's work up to the pens' resets. -/
def State.afterPens (s : State) : State :=
  ((({ s with
    host := { s.host with staged := [] }
    test := { s.test with overrun := [] } }).latchRefs.secondBoundary.commitClears s.keptStaged).retire.commitPens s.host.staged)

/-- A boundary's work up to the staged changes. -/
def State.beforeChanges (s : State) : State := s.afterPens.restoreShadow.outputsBoundary.wordBoundary.finishAll.takeJump.boot

theorem forEach_post_staged (l : List (Staged × Option (List Byte))) (s : State) :
    (forEach l (fun g s => s.post g.1 g.2) s).host.staged = s.host.staged :=
  forEach_keeps (·.host.staged) l _ (fun _ _ => State.post_staged _ _ _) s

theorem State.withShadow_host (s x : State) : (s.withShadow x).host = s.host := rfl

theorem HostIo.staged_of_summary (h : HostIo) (x : BitVec 32) : ({ h with summary := x } : HostIo).staged = h.staged := rfl

theorem State.latchCopies_host (s : State) : s.latchCopies.host = { s.host with summary := BitVec.ofNat 32 s.summaryNow } := rfl

theorem State.latchCopies_staged (s : State) : s.latchCopies.host.staged = s.host.staged := by
  rw [State.latchCopies_host, HostIo.staged_of_summary]

/-- The rest of a boundary that commits: from the state `b` before the staged changes on. -/
def State.finishBoundary (s b : State) (sec : Nat) : State :=
  let x := b.commitAll s.keptStaged
  let s1 := ((x.1.withShadow (b.onShadow.commitAll s.keptStaged).1).inputChanges s.cfg).commitLoops s.gradedOut s.grades
  let s2 := (s1.commitUnits sec).capture 7 s.foldStart
  let s3 := forEach [1, 2, 3] (fun p s => s.endPenReset p) (forEach x.2 (fun g s => s.post g.1 g.2) s2)
  s3.feedWatchdog.latchCopies.raiseLate

theorem State.commitBoundary_eq (s : State) (sec : Nat) : s.commitBoundary sec = s.finishBoundary s.beforeChanges sec := rfl

/-- What a boundary's staged changes leave in the staged list stands there after the boundary. -/
theorem State.finishBoundary_stagedLength (s b : State) (sec : Nat) :
    (s.finishBoundary b sec).host.staged.length = (b.commitAll s.keptStaged).1.host.staged.length := by
  rw [State.finishBoundary, State.raiseLate_host, State.latchCopies_staged, State.feedWatchdog_host,
    forEach_host _ _ (fun p s => s.endPenReset_host p), forEach_post_staged, State.capture_host, State.commitUnits_staged,
    State.commitLoops_stagedLength, State.inputChanges_host, State.withShadow_host]

/-- The state that a boundary commits, its counters advanced. -/
def State.advanced (s : State) (m : BoundaryIn) : State :=
  ((({ s with pow := { s.pow with
    suspended := s.pow.suspended && !(s.pow.resume && !s.pow.npfail)
    resume := s.pow.resume && !(s.pow.resume && !s.pow.npfail) } } : State).wakePins.latchMon m).latchLive).advance

/-- A boundary of the running schedule, start-up over, commits. -/
theorem State.boundary_of_running (s : State) (m : BoundaryIn) (held : s.pow.held = false) (awake : s.pow.state ≠ .sleep)
    (running : s.pow.suspended = false) (booted : s.pow.bootIn = 0) :
    s.boundary m = (s.advanced m).commitBoundary s.clk.seconds.toNat := by
  unfold State.boundary State.advanced
  simp [held, awake, running, booted]

/-- With no setting to restore, the work from the pens' resets to the changes keeps a waiting host transmission. -/
theorem State.beforeChanges_hostTx (s : State) (none : s.afterPens.bg.restore = []) : s.beforeChanges.rf.hostTx = s.afterPens.rf.hostTx := by
  have restored : s.afterPens.restoreShadow.rf = s.afterPens.rf := by
    unfold State.restoreShadow
    rw [none]
    rfl
  unfold State.beforeChanges
  rw [State.boot_hostTx]
  simp [restored]

/-! #### The counterexample -/

/-- COMMONS of pen 0 with a role. -/
def commonsTo (role : Byte) : Call := { pen := 0, cls := 1, flags := 0, tag := 0, rsv := 0, params := role :: List.replicate 27 0 }

/-- The two changes of COMMONS that are staged: off, and beacon master. -/
def commonsChanges : List Staged := [changes 0x7010 (commonsTo 0) (.bytes []), changes 0x7010 (commonsTo 1) (.bytes [])]

/-- The host's transmission that has been taken and has not begun. -/
def waitingTx : HostTx := { pen := 0, tag := 7, cls := 1, psdu := [] }

/-- The device after reset, with both changes staged while the host's transmission waits. -/
def rivals : State :=
  { State.reset with
    host := { State.reset.host with staged := commonsChanges }
    rf := { State.reset.rf with hostTx := some waitingTx } }

/-- The state that the boundary after `rivals` commits. -/
def rivalsAdvanced : State := rivals.advanced { padMissed := [] }

theorem rivalsAdvanced_keptStaged : rivalsAdvanced.keptStaged = commonsChanges := by decide +kernel

theorem rivalsAdvanced_restore : rivalsAdvanced.afterPens.bg.restore = [] := by decide +kernel

theorem rivalsAdvanced_hostTx : rivalsAdvanced.afterPens.rf.hostTx = some waitingTx := by decide +kernel

theorem commitAll_commonsChanges (s : State) :
    (s.commitAll commonsChanges).1 = commitCommons (commonsTo 1) (commitCommons (commonsTo 0) s) := rfl

/-- The boundary leaves the refusal of the waiting transmission staged. -/
theorem rivals_boundary_staged : (rivals.boundary { padMissed := [] }).host.staged ≠ [] := by
  have waits : rivalsAdvanced.beforeChanges.rf.hostTx = some waitingTx :=
    (State.beforeChanges_hostTx _ rivalsAdvanced_restore).trans rivalsAdvanced_hostTx
  obtain ⟨stillWaits, off⟩ := commitCommons_off (commonsTo 0) rivalsAdvanced.beforeChanges rfl
  have longer := commitCommons_yields (commonsTo 1) (commitCommons (commonsTo 0) rivalsAdvanced.beforeChanges) waitingTx (stillWaits.trans waits) rfl
    (by decide) (by rw [off]; decide)
  apply List.ne_nil_of_length_eq_add_one
  rw [rivals.boundary_of_running _ rfl (by decide) rfl rfl, State.commitBoundary_eq, State.finishBoundary_stagedLength,
    ← rivalsAdvanced, rivalsAdvanced_keptStaged, commitAll_commonsChanges, longer]

/-- What holds of the state after FOLD_BOUNDARY holds of the boundary's result. -/
theorem of_exec_foldBoundary {s : State} {m : BoundaryIn} {P : State → Prop} (holds : ∃ s', exec (.foldBoundary m) s = .next s' ∧ P s') :
    P (s.boundary m) := by
  obtain ⟨s', step, result⟩ := holds
  cases step
  exact result

end Sys2Proof.Machine

open Sys2Proof Sys2Proof.Machine

/-- Refutes O19: a COMMONS that turns the MAC on while the host's transmission waits has it refused (10 R224), and the refusal is staged within the boundary that
has emptied the staged list, for the next one to post. -/
theorem not_boundaryTakesEffect : ¬ Obligations.BoundaryTakesEffect := by
  unfold Obligations.BoundaryTakesEffect
  intro holds
  obtain ⟨-, empty, -⟩ := of_exec_foldBoundary ((holds rivals { padMissed := [] } rfl (by decide)).1 ⟨.inl rfl, fun _ => rfl⟩)
  exact rivals_boundary_staged empty

end

section
/-! The hot-set save, the entry to SLEEP and the wake: what each leaves alone, and O22 (01 R32; 15 R367; 18 R416, R424–R427). -/

namespace Sys2Proof.Machine

/-! ### The save -/

/-- What every change of the store leaves alone, the begin of the save leaves alone. -/
theorem State.beginSave_keeps {β : Type} (g : State → β) (h : ∀ s f, g (State.mapStore s f) = g s) (s : State) : g s.beginSave = g s := by
  have ended (s : State) : g s.programEnd = g s := by
    unfold State.programEnd
    (repeat' split) <;> simp only [h]
  have done (s : State) (w : Writing) : g (s.recordDone w) = g s := by
    simp only [State.recordDone, State.updHead, State.noteWear, h]
    split <;> simp only [h]
  have compaction (s : State) (b : Bool) : g (s.cutCompaction b) = g s := by
    unfold State.cutCompaction
    split <;> simp only [h]
  have words (s : State) : g s.cutWords = g s := by
    unfold State.cutWords
    dsimp only
    (repeat' split) <;> simp only [h, ended, done, compaction]
  unfold State.beginSave State.cutStore
  dsimp only
  (repeat' split) <;> simp only [h, words, State.switchBank]

theorem State.beginSave_saving (s : State) : s.beginSave.store.saving ≠ none := by
  simp [State.beginSave, State.mapStore]

/-- What every change of the store and every raise leaves alone, the end of the save leaves alone. -/
theorem State.endSave_keeps {β : Type} (g : State → β) (h : ∀ s f, g (State.mapStore s f) = g s) (hr : ∀ s id d, g (State.raise s id d) = g s)
    (s : State) (bad : List Nat) : g (s.endSave bad) = g s := by
  unfold State.endSave
  split
  · rfl
  · exact h _ _
  · dsimp only
    rw [h]
    exact forEach_keeps g _ _ (fun _ _ => hr _ _ _) s

theorem State.endSave_saving (s : State) (bad : List Nat) : (s.endSave bad).store.saving = none := by
  unfold State.endSave
  split
  case h_1 none => exact none
  case h_2 => rfl
  case h_3 => rfl

theorem State.savedEvent_keeps {β : Type} (g : State → β) (hr : ∀ s id d, g (State.raise s id d) = g s) (s : State) (wrote : Bool) :
    g (s.savedEvent wrote) = g s := by
  unfold State.savedEvent State.raiseIf
  split
  · exact hr _ _ _
  · rfl

/-! ### The entry to SLEEP -/

theorem State.setDrove_state (s : State) (x : DrvState) (tx : DrvTx) : (s.setDrove x tx).drv.state = x := by
  simp only [State.setDrove, State.raiseIf]
  (repeat' split) <;> rfl

/-- What the drove, the candidates and the events do not hold, a change of the drove's state leaves alone. -/
theorem State.setDrove_keeps {β : Type} (g : State → β) (hd : ∀ (s : State) x, g { s with drv := x } = g s)
    (hc : ∀ s i f, g (State.updCand s i f) = g s) (hr : ∀ s id d, g (State.raise s id d) = g s) (s : State) (x : DrvState) (tx : DrvTx) :
    g (s.setDrove x tx) = g s := by
  simp only [State.setDrove, State.raiseIf]
  (repeat' split) <;> simp only [hr, hc, hd]

theorem State.droveOff_keeps {β : Type} (g : State → β) (hd : ∀ (s : State) x, g { s with drv := x } = g s)
    (hc : ∀ s i f, g (State.updCand s i f) = g s) (hr : ∀ s id d, g (State.raise s id d) = g s) (s : State) (tx : DrvTx) : g (s.droveOff tx) = g s := by
  unfold State.droveOff State.unlockDrove
  rw [State.setDrove_keeps g hd hc hr, hd]
  split
  · rw [hc, hd]
  · rfl

/-- The state as the entry to SLEEP ends, before its pins are latched and its outputs cut. -/
def State.savedForSleep (s : State) (bad : List Nat) : State :=
  (((s.droveOff .hiZ).beginSave).endSave bad).savedEvent ((s.droveOff .hiZ).beginSave.store.saving ≠ some [])

/-- What the drove, the candidates, the events and the store do not hold, turning the drove off and saving the hot set leave alone. -/
theorem State.savedForSleep_keeps {β : Type} (g : State → β) (hd : ∀ (s : State) x, g { s with drv := x } = g s)
    (hc : ∀ s i f, g (State.updCand s i f) = g s) (hr : ∀ s id d, g (State.raise s id d) = g s) (hs : ∀ s f, g (State.mapStore s f) = g s)
    (s : State) (bad : List Nat) : g (s.savedForSleep bad) = g s := by
  rw [State.savedForSleep, State.savedEvent_keeps g hr, State.endSave_keeps g hs hr, State.beginSave_keeps g hs, State.droveOff_keeps g hd hc hr]

theorem State.savedForSleep_drove (s : State) (bad : List Nat) : (s.savedForSleep bad).drv.state = .off := by
  rw [State.savedForSleep, State.savedEvent_keeps (·.drv.state) (fun _ _ _ => rfl), State.endSave_keeps (·.drv.state) (fun _ _ => rfl) (fun _ _ _ => rfl),
    State.beginSave_keeps (·.drv.state) (fun _ _ => rfl), State.droveOff, State.setDrove_state]

theorem State.enterSleep_pow (s : State) (bad : List Nat) :
    (s.enterSleep bad).pow = { s.pow with state := .sleep, sleepEntry := false, pinsAsleep := true } := by
  have kept : (s.savedForSleep bad).pow = s.pow :=
    State.savedForSleep_keeps (·.pow) (fun _ _ => rfl) (fun _ _ _ => rfl) (fun _ _ _ => rfl) (fun _ _ => rfl) s bad
  rw [← kept]
  rfl

theorem State.enterSleep_drove (s : State) (bad : List Nat) : (s.enterSleep bad).drv.state = .off := s.savedForSleep_drove bad

theorem State.enterSleep_lp (s : State) (bad : List Nat) : (s.enterSleep bad).lp = s.lp :=
  State.savedForSleep_keeps (·.lp) (fun _ _ => rfl) (fun _ _ _ => rfl) (fun _ _ _ => rfl) (fun _ _ => rfl) s bad

theorem State.enterSleep_cfg (s : State) (bad : List Nat) : (s.enterSleep bad).cfg = s.cfg :=
  State.savedForSleep_keeps (·.cfg) (fun _ _ => rfl) (fun _ _ _ => rfl) (fun _ _ _ => rfl) (fun _ _ => rfl) s bad

theorem Vec_getD_map {α β : Type} {n : Nat} (f : α → β) (v : Vec α n) (i : Nat) (a : α) (b : β) (small : i < n) :
    (v.map f).getD i b = f (v.getD i a) := by
  have inside : i < v.toList.length := v.length_eq.symm ▸ small
  simp [Vec.getD, Vec.map, inside]

/-- An output that is high at the end of the entry is cut there. -/
theorem State.enterSleep_lowAt (s : State) (bad : List Nat) (o : Nat) (small : o < 16) : ((s.enterSleep bad).out o).lowAt ≤ s.instant := by
  have outs : (s.enterSleep bad).outs = (s.savedForSleep bad).outs.map fun x => { x with lowAt := min x.lowAt s.instant } := rfl
  rw [State.out, outs, Vec_getD_map _ _ _ {} _ small]
  exact Nat.min_le_right _ _

/-! ### The wake -/

/-- What a wake sets, and what comes after it leaves alone: the power state, the settings, the loop's state, uncertainty and lock, the selector. -/
def State.woken (s : State) : Power × Settings × DpllState × Fs × Bool × Selector := (s.pow, s.cfg, s.lp.state, s.lp.unc, s.lp.aplLock, s.sel)

theorem State.loseCandidate_woken (s : State) (i : Nat) : (s.loseCandidate i).woken = s.woken := by
  simp only [State.loseCandidate, State.disqualify, State.freezeIfSteering]
  (repeat' split) <;> rfl

theorem State.commonsWake_woken (s : State) : s.commonsWake.woken = s.woken := by
  simp only [State.commonsWake, State.setMac, State.raiseIf]
  (repeat' split) <;> rfl

/-- What the radio, its events and the background work do not hold, the front end's new state leaves alone. -/
theorem State.radioWake_keeps {β : Type} (g : State → β) (hb : ∀ (s : State) r b, g { s with rf := r, bg := b } = g s) (s : State) :
    g s.radioWake = g s := by
  have hr (s : State) (r : Radio) : g { s with rf := r } = g s := hb s r s.bg
  have rest (s : State) : g s.rest = g s := hr _ _
  have hop (s : State) (c : Nat) : g (s.startHop c) = g s := by
    unfold State.startHop
    dsimp only
    split
    · rw [State.invalidate, hr, rest]
      exact hb s _ _
    · rw [rest]
      exact hb s _ _
  have next (s : State) : g s.nextHop = g s := by
    unfold State.nextHop
    split
    · split
      · rfl
      · rw [hop, hr]
    · rfl
  have request (q : RfCfg × Nat) (s : State) : g (s.takeRequest q) = g s := by
    unfold State.takeRequest State.withAnt State.invalidate
    dsimp only
    (repeat' split) <;> simp only [hr]
  have deferred (s : State) : g s.takeDeferred = g s := by
    unfold State.takeDeferred
    split
    · rfl
    · rw [next, forEach_keeps g _ _ request, hr]
  unfold State.radioWake State.takeRf
  split
  · rw [deferred, hr, rest]
  · rfl

theorem State.droveWake_keeps {β : Type} (g : State → β) (hd : ∀ (s : State) x, g { s with drv := x } = g s)
    (hc : ∀ s i f, g (State.updCand s i f) = g s) (hr : ∀ s id d, g (State.raise s id d) = g s) (s : State) : g s.droveWake = g s := by
  unfold State.droveWake State.droveOn
  split
  · exact State.setDrove_keeps g hd hc hr _ _ _
  · split
    · exact State.setDrove_keeps g hd hc hr _ _ _
    · rfl

/-- The state at a wake, its clock and its power state taken over. -/
def State.wakeClock (s : State) (interval : Nat) : State :=
  let s1 := s.passFolds ((s.clk.now + interval) / foldFs)
  { s1 with
    clk := { s1.clk with now := (s.clk.now + interval) % foldFs }
    pow := { s1.pow with state := s1.pow.from_, suspended := true, resume := true, relock := true, wdMissed := 0 } }

/-- The state at a wake with its loops and candidates. -/
def State.wakeCore (s : State) (interval : Nat) : State :=
  forEach (List.range 8) (fun i s => s.loseCandidate i) ((s.wakeClock interval).wakeLoops interval)

theorem State.wake_eq (s : State) (interval : Nat) :
    s.wake interval =
      (if (s.wakeCore interval).pow.state = .run then (s.wakeCore interval).commonsWake.radioWake else s.wakeCore interval).droveWake := by
  unfold State.wake State.wakeCore State.wakeClock
  rfl

theorem State.wakeCore_woken (s : State) (interval : Nat) : (s.wakeCore interval).woken = ((s.wakeClock interval).wakeLoops interval).woken :=
  forEach_keeps State.woken _ _ (fun i s => s.loseCandidate_woken i) _

theorem State.wake_woken (s : State) (interval : Nat) : (s.wake interval).woken = ((s.wakeClock interval).wakeLoops interval).woken := by
  rw [State.wake_eq, State.droveWake_keeps State.woken (fun _ _ => rfl) (fun _ _ _ => rfl) (fun _ _ _ => rfl), ← State.wakeCore_woken]
  split
  · rw [State.radioWake_keeps State.woken (fun _ _ _ => rfl), State.commonsWake_woken]
  · rfl

theorem State.wakeClock_lp (s : State) (interval : Nat) :
    (s.wakeClock interval).lp.everLocked = s.lp.everLocked ∧ (s.wakeClock interval).lp.held = s.lp.held ∧ (s.wakeClock interval).lp.unc = s.lp.unc :=
  ⟨rfl, rfl, rfl⟩

theorem State.wakeLoops_lp (s : State) (interval : Nat) :
    (s.wakeLoops interval).lp.aplLock = false ∧
    (s.wakeLoops interval).lp.state = (if !s.lp.everLocked && !s.lp.held then .freerun else .holdover) ∧
    (s.wakeLoops interval).lp.unc = (if !s.lp.everLocked && !s.lp.held then fsMax else satFs (s.lp.unc + (interval / 50 : Nat))) :=
  ⟨rfl, rfl, rfl⟩

theorem State.freezeIfSteering_cands (s : State) : s.freezeIfSteering.cands = s.cands := by
  unfold State.freezeIfSteering
  split <;> rfl

theorem State.disqualify_qualified (s : State) (i k : Nat) (causes : BitVec 6) :
    ((s.disqualify i causes).cand k).qualified = if i = k ∧ k < 8 then false else (s.cand k).qualified := by
  have updated (f : Cand → Cand) (id d : Nat) : ((s.updCand i f).raise id d).cand k = (s.updCand i f).cand k := rfl
  have frozen (s : State) : s.freezeIfSteering.cand k = s.cand k := by
    rw [State.cand, State.freezeIfSteering_cands, State.cand]
  unfold State.disqualify
  dsimp only
  split
  · rw [frozen, updated, State.cand_updCand, apply_ite Cand.qualified]
  · rw [updated, State.cand_updCand, apply_ite Cand.qualified]

theorem State.loseCandidate_qualified (s : State) (i k : Nat) :
    ((s.loseCandidate i).cand k).qualified = if i = k ∧ k < 8 then false else (s.cand k).qualified := by
  unfold State.loseCandidate
  rw [State.disqualify_qualified, State.cand_updCand, apply_ite Cand.qualified, ite_self]

/-- Each candidate that a loop over candidates loses is unqualified after it. -/
theorem forEach_loseCandidate_qualified (l : List Nat) (s : State) (k : Nat) (small : k < 8) (lost : k ∈ l ∨ (s.cand k).qualified = false) :
    ((forEach l (fun i s => s.loseCandidate i) s).cand k).qualified = false := by
  induction l generalizing s with
  | nil => exact lost.resolve_left List.not_mem_nil
  | cons i r ih =>
    refine ih (s.loseCandidate i) ?_
    rw [State.loseCandidate_qualified]
    by_cases here : i = k
    · exact .inr (if_pos ⟨here, small⟩)
    · rw [if_neg (fun h => here h.1)]
      exact lost.imp_left fun mem => (List.mem_cons.mp mem).resolve_left (Ne.symm here)

theorem State.updCand_advNew_qualified (s : State) (i k : Nat) (v : Option Nat) :
    ((s.updCand i fun c => { c with advNew := v }).cand k).qualified = (s.cand k).qualified := by
  rw [State.cand_updCand, apply_ite Cand.qualified, ite_self]

theorem State.raiseIf_cand (s : State) (c : Bool) (id detail k : Nat) : (s.raiseIf c id detail).cand k = s.cand k :=
  congrArg (fun v : Vec Cand 8 => v.getD k {}) (State.raiseIf_cands s c id detail)

theorem State.commonsWake_qualified (s : State) (k : Nat) : (s.commonsWake.cand k).qualified = (s.cand k).qualified := by
  unfold State.commonsWake
  split
  · rfl
  · rw [State.updCand_advNew_qualified, State.setMac, State.raiseIf_cand]
    rfl

theorem State.setDrove_qualified (s : State) (x : DrvState) (tx : DrvTx) (k : Nat) : ((s.setDrove x tx).cand k).qualified = (s.cand k).qualified := by
  unfold State.setDrove
  dsimp only
  rw [State.raiseIf_cand]
  split
  · exact State.updCand_advNew_qualified _ _ _ _
  · rfl

theorem State.droveWake_qualified (s : State) (k : Nat) : (s.droveWake.cand k).qualified = (s.cand k).qualified := by
  unfold State.droveWake State.droveOn
  split
  · exact State.setDrove_qualified _ _ _ _
  · split
    · exact State.setDrove_qualified _ _ _ _
    · rfl

theorem State.wake_qualified (s : State) (interval k : Nat) (small : k < 8) : ((s.wake interval).cand k).qualified = false := by
  have lost : ((s.wakeCore interval).cand k).qualified = false := forEach_loseCandidate_qualified _ _ _ small (.inl (List.mem_range.mpr small))
  rw [State.wake_eq, State.droveWake_qualified]
  split
  · rw [State.radioWake_keeps (fun s => (s.cand k).qualified) (fun _ _ _ => rfl), State.commonsWake_qualified, lost]
  · exact lost

/-! ### The rows -/

theorem exec_npfailFall_of_awake (s : State) (t : Nat) (held : s.pow.held = false) (awake : s.pow.state ≠ .sleep) :
    let fallen : State := { ({ s.setNow t with pow := { s.pow with npfail := true } } : State).raise Ev.npfail 0 with
      pow := { s.pow with npfail := true, suspended := true, resume := false } }
    exec (.npfailFall t) s = .next (if s.store.saving.isSome || s.pow.idle then fallen else fallen.beginSave) := by
  show execNpfailFall t s = _
  unfold execNpfailFall
  simp [held, awake]

theorem State.mayEnterSleep_iff (s : State) : s.mayEnterSleep = true ↔
    s.pow.sleepEntry = true ∧ s.pow.suspended = false ∧ s.rf.state = .off ∧ (s.allLow = true ∨ s.pow.sleepFrom + secondFs ≤ s.instant) := by
  simp only [State.mayEnterSleep, Bool.and_eq_true, Bool.or_eq_true, Bool.not_eq_true', decide_eq_true_eq, and_assoc]

theorem exec_sleepEntry (s : State) (bad : List Nat) (t : Nat) :
    exec (.sleepEntry ⟨bad, t⟩) s = .next (if (s.setNow t).mayEnterSleep then (s.setNow t).enterSleep bad else s.setNow t) := rfl

theorem exec_wakeRequest (s : State) (ns interval : Nat) :
    exec (.wakeRequest ns interval) s = .next (if s.pow.state = .sleep && !s.pow.held && 62000 ≤ ns then s.wake interval else s) := rfl

/-- The end of a save with an image, no pin reset waiting. -/
theorem exec_hotsetSaveEnd (s : State) (bad : List Nat) (t : Nat) (img : List (List Byte)) (saving : s.store.saving = some img) :
    exec (.hotsetSaveEnd bad t) s = .next (
      if s.pow.pinWait then ((s.setNow t).endSave bad).enterReset 1
      else if s.pow.npfail then { (s.setNow t).endSave bad with pow := { s.pow with idle := true } }
      else (((s.setNow t).endSave bad).savedEvent (img ≠ [])).resumeNext) := by
  have pow : ((s.setNow t).endSave bad).pow = s.pow := State.endSave_keeps (·.pow) (fun _ _ => rfl) (fun _ _ _ => rfl) _ _
  show execHotsetSaveEnd bad t s = _
  unfold execHotsetSaveEnd
  dsimp only
  rw [State.setNow_store, saving]
  dsimp only
  rw [pow]
  (repeat' split) <;> rfl

end Sys2Proof.Machine

open Sys2Proof Sys2Proof.Machine

/-- Settles O22, row by row: the save and the drove's end touch neither power nor loops, and what follows the wake's loops leaves them alone. -/
theorem powerEventsActOnTheSchedule : Obligations.PowerEventsActOnTheSchedule := by
  unfold Obligations.PowerEventsActOnTheSchedule
  intro s t
  refine ⟨?fall, ?again, ?unseen, rfl, ?saved, ?pin, ?noSave, ?sleep, ?notYet, ?wake, ?short⟩
  case fall =>
    intro held awake none idle
    rw [exec_npfailFall_of_awake s t held awake, none, idle]
    have keeps {β : Type} (g : State → β) (h : ∀ s f, g (State.mapStore s f) = g s) := State.beginSave_keeps g h
    refine ⟨_, rfl, ?_, ?_, State.beginSave_saving _, ?_, ?_⟩
    · exact congrArg Power.npfail (keeps (·.pow) (fun _ _ => rfl) _)
    · refine (keeps State.schedule (fun _ _ => rfl) _).trans ?_
      simp [State.schedule]
    · exact keeps (·.outs) (fun _ _ => rfl) _
    · exact keeps (·.cfg) (fun _ _ => rfl) _
  case again =>
    intro held awake busy
    have busy : (s.store.saving.isSome || s.pow.idle) = true := by
      rcases busy with saving | idle
      · simp [Option.isSome_iff_ne_none.mpr saving]
      · simp [idle]
    rw [exec_npfailFall_of_awake s t held awake, if_pos busy]
    exact ⟨_, rfl, rfl, by simp [State.schedule], rfl, rfl, rfl, rfl⟩
  case unseen =>
    intro held
    show execNpfailFall t s = _
    unfold execNpfailFall
    dsimp only [State.setNow]
    rw [if_pos (by simpa only [Bool.or_eq_true, decide_eq_true_eq] using held)]
  case saved =>
    intro img bad saving noPin
    rw [exec_hotsetSaveEnd s bad t img saving, noPin]
    have ended := State.endSave_saving (s.setNow t) bad
    have pow : ((s.setNow t).endSave bad).pow = s.pow := State.endSave_keeps (·.pow) (fun _ _ => rfl) (fun _ _ _ => rfl) _ _
    cases low : s.pow.npfail
    · rw [if_neg Bool.false_ne_true, if_neg Bool.false_ne_true]
      refine ⟨_, rfl, ?_, rfl, ?_⟩
      · exact (State.savedEvent_keeps (·.store.saving) (fun _ _ _ => rfl) _ _).trans ended
      · exact (congrArg Power.idle ((State.savedEvent_keeps (·.pow) (fun _ _ _ => rfl) _ _).trans pow) :)
    · exact ⟨_, rfl, ended, rfl, rfl⟩
  case pin =>
    intro img bad saving waits
    rw [exec_hotsetSaveEnd s bad t img saving, waits]
    exact ⟨_, rfl, rfl⟩
  case noSave =>
    intro bad none
    show execHotsetSaveEnd bad t s = _
    unfold execHotsetSaveEnd
    dsimp only
    rw [State.setNow_store, none]
  case sleep =>
    intro bad entry running off ready
    have may : (s.setNow t).mayEnterSleep = true := (State.mayEnterSleep_iff _).mpr ⟨entry, running, off, ready⟩
    have pow := State.enterSleep_pow (s.setNow t) bad
    rw [exec_sleepEntry, if_pos may]
    refine ⟨_, rfl, congrArg Power.state pow, ?_, ?_, congrArg Power.sleepEntry pow, congrArg Power.pinsAsleep pow, State.enterSleep_drove _ _,
      State.enterSleep_lp _ _, State.enterSleep_cfg _ _, fun o small => State.enterSleep_lowAt _ _ o small⟩
    · simp [State.ifaceOpen, pow]
    · simp [State.schedule, pow]
  case notYet =>
    intro bad blocked
    have mayNot : ¬ (s.setNow t).mayEnterSleep = true := by
      rw [State.mayEnterSleep_iff]
      rintro ⟨entry, running, off, ready⟩
      rcases blocked with none | suspended | radio | ⟨high, early⟩
      · exact absurd (none.symm.trans entry) Bool.false_ne_true
      · exact absurd (running.symm.trans suspended) Bool.false_ne_true
      · exact radio off
      · exact ready.elim (fun low => Bool.false_ne_true (high.symm.trans low)) (Nat.not_le.mpr early)
    rw [exec_sleepEntry, if_neg mayNot]
  case wake =>
    intro ns interval asleep held long
    rw [exec_wakeRequest, if_pos (by simp [asleep, held, long])]
    have woken := State.wake_woken s interval
    obtain ⟨lock, state, unc⟩ := State.wakeLoops_lp (s.wakeClock interval) interval
    obtain ⟨ever, standing, uncWas⟩ := State.wakeClock_lp s interval
    rw [ever, standing] at state unc
    rw [uncWas] at unc
    simp only [State.woken, Prod.mk.injEq] at woken
    obtain ⟨pow, cfg, stateIs, uncIs, lockIs, sel⟩ := woken
    refine ⟨_, rfl, congrArg Power.state pow, congrArg Power.suspended pow, congrArg Power.resume pow, State.wake_absFold s interval,
      fun i small => State.wake_qualified s interval i small, congrArg Power.relock pow, lockIs.trans lock, cfg, congrArg Selector.staged sel, ?_, ?_⟩
    · intro was
      have steered : (!s.lp.everLocked && !s.lp.held) = false := by
        rcases was with was | was <;> simp [was]
      exact ⟨by rw [stateIs, state, steered]; rfl, by rw [uncIs, unc, steered]; rfl⟩
    · intro never free
      exact ⟨by rw [stateIs, state, never, free]; rfl, by rw [uncIs, unc, never, free]; rfl⟩
  case short =>
    intro ns interval no
    rw [exec_wakeRequest, if_neg]
    rcases no with awake | held | short
    · simp [awake]
    · simp [held]
    · simp [short]

end

section
/-! Drove frames on their way in and out: what leaves at the marker, what is forwarded and kept, and how slot 9 judges and uses a frame, with O47 (01 R17, R32; 11
R246–R252, R261; 19 R432). -/

namespace Sys2Proof.Machine

/-! ### Sending and arriving -/

/-- The run of folds in which own frames have gone out, with the fold in hand. -/
def Drove.runTo (d : Drove) (k : Nat) : Nat × Nat :=
  match d.sent with
  | some (a, b) => if k ≤ b + 1 then (a, k) else (k, k)
  | none => (k, k)

theorem Drove.runTo_end (d : Drove) (k : Nat) : ∃ a, d.runTo k = (a, k) := by
  unfold Drove.runTo
  (repeat' split) <;> exact ⟨_, rfl⟩

/-- The staged frame of the fold leaves at the marker of a device that claims or leads. -/
theorem exec_leadFrameTransmit_of_due {s : State} {t : Nat} {x : DrvNext} (own : s.drv.state = .claim ∨ s.drv.state = .lead)
    (mark : t = markLag s.clk.inSec) (next : s.drv.next = some x) (fold : x.fold = s.clk.absFold.toNat) :
    exec (.leadFrameTransmit t) s = .next { s.setNow t with drv := { s.drv with
      frame := (s.setNow t).ownFrame x
      next := none
      sentAt := (s.setNow t).instant
      after := []
      sent := some (s.drv.runTo s.clk.absFold.toNat)
      cast := if x.cmd then s.drv.cast.bind Cast.spend else s.drv.cast
      tx := .own } } := by
  show execLeadFrameTransmit t s = _
  unfold execLeadFrameTransmit
  dsimp only
  rw [State.setNow_drv, next]
  dsimp only
  rw [if_neg]
  · rfl
  · rcases own with own | own <;> simp [own, mark, fold, State.setNow]

/-- Any other device and any other instant send nothing. -/
theorem exec_leadFrameTransmit_of_not_due {s : State} {t : Nat}
    (other : (s.drv.state ≠ .claim ∧ s.drv.state ≠ .lead) ∨ t ≠ markLag s.clk.inSec ∨ (∀ x ∈ s.drv.next, x.fold ≠ s.clk.absFold.toNat)) :
    exec (.leadFrameTransmit t) s = .next (s.setNow t) := by
  show execLeadFrameTransmit t s = _
  unfold execLeadFrameTransmit
  dsimp only
  rw [State.setNow_drv]
  cases next : s.drv.next with
  | none => rfl
  | some x =>
    dsimp only
    rw [if_pos]
    rcases other with ⟨noClaim, noLead⟩ | mark | fold
    · simp [noClaim, noLead]
    · simp [State.setNow, mark]
    · simp [State.setNow, fold x next]

theorem Injection.hit_of_none {j : Injection} (none : j.kind = 0) : j.hit = (false, j) := if_pos none

theorem State.forwardOn_writes (s : State) (w : List Sym) : ∃ words at_ after,
    s.forwardOn w = { s with drv := { s.drv with forwarded := words, sentAt := at_, after := after } } := by
  unfold State.forwardOn
  split <;> exact ⟨_, _, _, rfl⟩

theorem State.takeDrove_idle {s : State} (l : List DrvRx) (idle : s.schedule = false) : (s.takeDrove l).drv.inbox = s.drv.inbox := by
  simp [State.takeDrove, idle]

theorem State.takeDrove_running {s : State} (l : List DrvRx) (running : s.schedule = true) : (s.takeDrove l).drv.inbox =
    s.drv.inbox ++ l ++ (match s.drv.heldFrame with | some h => [{ h with fresh := false }] | none => []) :=
  if_pos running

/-- The device as a frame's marker arrives: captured, and forwarded where it forwards. -/
def State.marked (s : State) (w : List Sym) (t : Nat) : State :=
  ({ s.setNow t with drv := { s.drv with markIn := (s.setNow t).instant } } : State).forwardOn w

theorem State.marked_of_forward {s : State} (w : List Sym) (t : Nat) (forwards : s.drv.tx = .forward) :
    s.marked w t = { s.setNow t with drv := { s.drv with
      markIn := (s.setNow t).instant
      forwarded := forwardWords w s.drv.hopPs
      sentAt := (s.setNow t).instant + droveL * 1000
      after := [] } } := if_pos forwards

theorem State.marked_of_other {s : State} (w : List Sym) (t : Nat) (other : s.drv.tx ≠ .forward) :
    s.marked w t = { s.setNow t with drv := { s.drv with markIn := (s.setNow t).instant } } := if_neg other

/-- What the link's injection makes of a frame that arrives, and what waits for slot 9. -/
def State.receive (s : State) (words : List Sym) (codesOk : Bool) : State :=
  let j := s.test.drove
  let late := if j.hit.1 && j.kind = 4 then j.delay else 0
  let s1 := ({ s with test := { s.test with drove := if j.hit.1 then j.hit.2.count j.kind else j.hit.2 } } : State).capture 6 (s.instant + late)
  let f : DrvRx := { words := words, codesOk := codesOk, tc := tdcCode (s.instant + late) }
  if !j.hit.1 || j.kind = 4 then s1.takeDrove [f]
  else if j.kind = 2 then s1.takeDrove [{ f with words := words.modify 33 fun x => { x with byte := x.byte ^^^ 1 } }]
  else if j.kind = 3 then { s1.takeDrove [] with drv := { (s1.takeDrove []).drv with heldFrame := some f } }
  else s1.takeDrove []

theorem exec_droveFrameReceived_of_off {s : State} (w : List Sym) (ok : Bool) (t : Nat) (off : s.drv.state = .off ∨ s.pow.held = true) :
    exec (.droveFrameReceived w ok t) s = .next (s.setNow t) := by
  show execDroveFrameReceived w ok t s = _
  unfold execDroveFrameReceived
  dsimp only
  rw [State.setNow_drv, State.setNow_pow, if_pos]
  rcases off with off | off <;> simp [off]

theorem exec_droveFrameReceived_of_on {s : State} (w : List Sym) (ok : Bool) (t : Nat) (on : s.drv.state ≠ .off) (up : s.pow.held = false) :
    exec (.droveFrameReceived w ok t) s = .next ((s.marked w t).receive w ok) := by
  show execDroveFrameReceived w ok t s = _
  unfold execDroveFrameReceived State.marked
  dsimp only
  rw [State.setNow_drv, State.setNow_pow, if_neg (by simp [on, up])]
  generalize State.forwardOn _ w = s1
  unfold State.receive
  dsimp only
  split
  · rfl
  · split
    case h_1 two => rw [if_pos two]; rfl
    case h_2 three => rw [if_neg (show ¬ s1.test.drove.kind = 2 by rw [three]; decide), if_pos three]; rfl
    case h_3 notTwo notThree => rw [if_neg notTwo, if_neg notThree]; rfl

theorem State.receive_writes (s : State) (w : List Sym) (ok : Bool) : ∃ inbox held test tdc,
    s.receive w ok = { s with drv := { s.drv with inbox := inbox, heldFrame := held }, test := test, tdc := tdc } ∧
    (s.schedule = false → inbox = s.drv.inbox) := by
  unfold State.receive
  dsimp only
  (repeat' split) <;> exact ⟨_, _, _, _, rfl, fun idle => State.takeDrove_idle _ idle⟩

/-- With no injection on the link the frame waits as it came, before one that was held back. -/
theorem State.receive_of_no_injection {s : State} (w : List Sym) (ok : Bool) (quiet : s.test.drove.kind = 0) (running : s.schedule = true) :
    (s.receive w ok).drv.inbox = s.drv.inbox ++ [{ words := w, codesOk := ok, tc := tdcCode s.instant }] ++
      (match s.drv.heldFrame with | some h => [{ h with fresh := false }] | none => []) ∧ (s.receive w ok).drv.heldFrame = none := by
  have taken (s1 : State) (runs : s1.schedule = true) (drv : s1.drv = s.drv) (l : List DrvRx) : (s1.takeDrove l).drv.inbox = s.drv.inbox ++ l ++
      (match s.drv.heldFrame with | some h => [{ h with fresh := false }] | none => []) ∧ (s1.takeDrove l).drv.heldFrame = none := by
    rw [State.takeDrove_running l runs, drv]
    exact ⟨rfl, rfl⟩
  unfold State.receive
  dsimp only
  rw [Injection.hit_of_none quiet]
  simp only [Bool.not_false, Bool.true_or, if_true, Bool.false_and, Bool.false_eq_true, if_false, Nat.add_zero]
  exact taken _ running rfl _

/-! ### A frame that slot 9 accepts -/

/-- An accepted frame counts, keeps word lock, and touches REFD unless it is killed. -/
def State.acceptDrove (s : State) : State :=
  let s1 := { s with drv := { s.drv with accepted := s.drv.accepted + 1, lock := true, quiet := 0, gotFrame := true } }
  if (s1.cand 6).killed then s1 else s1.touch 6 s1.instant

theorem State.droveFrame_of_good {s : State} {x : DrvRx} (on : s.drv.state ≠ .off) (framed : framed x.words = true) (crc : crcFault (symBytes x.words) = none)
    (codes : x.codesOk = true) (kind : fld (symBytes x.words) 1 1 / 16 = 1 ∨ fld (symBytes x.words) 1 1 / 16 = 2) :
    s.droveFrame x = s.acceptDrove.useFrame (symBytes x.words) x.tc x.fresh := by
  unfold State.droveFrame
  dsimp only
  rw [if_neg (by simp [on, framed]), crc]
  dsimp only
  rw [if_neg]
  · rfl
  · rcases kind with kind | kind <;> simp [codes, kind]

/-- What is no frame, has a wrong code or is of another KIND is ignored. -/
theorem State.droveFrame_of_bad {s : State} {x : DrvRx} (bad : framed x.words = false ∨ (crcFault (symBytes x.words) = none ∧
    (x.codesOk = false ∨ (fld (symBytes x.words) 1 1 / 16 ≠ 1 ∧ fld (symBytes x.words) 1 1 / 16 ≠ 2)))) : s.droveFrame x = s := by
  unfold State.droveFrame
  dsimp only
  rcases bad with bad | ⟨crc, bad⟩
  · rw [if_pos (by simp [bad])]
  · split
    · rfl
    · rw [crc]
      dsimp only
      rw [if_pos]
      rcases bad with bad | ⟨noLead, noClaim⟩
      · simp [bad]
      · simp [noLead, noClaim]

theorem State.droveFrame_of_crc {s : State} {x : DrvRx} {k : Nat} (on : s.drv.state ≠ .off) (framed : framed x.words = true)
    (crc : crcFault (symBytes x.words) = some k) : s.droveFrame x =
      ({ s with drv := { s.drv with crcErrors := s.drv.crcErrors + 1, crcRaised := true } } : State).raiseIf (!s.drv.crcRaised) Ev.drvCrcError k := by
  unfold State.droveFrame
  dsimp only
  rw [if_neg (by simp [on, framed]), crc]

theorem State.updCand_advGrade {s : State} {i : Nat} {f : Cand → Cand} (keeps : ∀ c, (f c).advGrade = c.advGrade) (k : Nat) :
    ((s.updCand i f).cand k).advGrade = (s.cand k).advGrade := by
  rw [State.cand_updCand]
  split
  · exact keeps _
  · rfl

theorem State.touch_advGrade (s : State) (i t k : Nat) : ((s.touch i t).cand k).advGrade = (s.cand k).advGrade :=
  (State.updCand_advGrade (fun _ => by rfl) k).trans (State.updCand_advGrade (fun _ => by rfl) k)

theorem State.acceptDrove_writes (s : State) : ∃ cands,
    s.acceptDrove = { s with drv := { s.drv with accepted := s.drv.accepted + 1, lock := true, quiet := 0, gotFrame := true }, cands := cands } ∧
    ∀ k, (s.acceptDrove.cand k).advGrade = (s.cand k).advGrade := by
  unfold State.acceptDrove
  dsimp only
  split
  · exact ⟨_, rfl, fun _ => rfl⟩
  · exact ⟨_, rfl, fun k => State.touch_advGrade _ _ _ k⟩

/-- The grade a lead advertises follows the loop, the selector, the settings and the advertised grades alone. -/
theorem State.leadGrade_congr {s s' : State} (lp : s'.lp = s.lp) (sel : s'.sel = s.sel) (cfg : s'.cfg = s.cfg) (last : s'.drv.lastGrade = s.drv.lastGrade)
    (grades : ∀ k, (s'.cand k).advGrade = (s.cand k).advGrade) : s'.leadGrade = s.leadGrade := by
  simp only [State.leadGrade, State.advertise, State.egrade, State.refCfg, lp, sel, cfg, last, grades]

/-! ### A member's use of an accepted frame -/

/-- The drove without what a broadcast command adds to it. -/
def Drove.standing (d : Drove) : Drove := { d with lastCmd := none, gathers := [], freezes := [], floor := none, foldOfs := 0 }

/-- What a member holds of its lead and of itself: what labels, samples and commands leave alone. -/
def State.membership (s : State) : Drove × Option Nat × Settings × Tally × Vec Out 16 := (s.drv.standing, (s.cand 6).advNew, s.cfg, s.tally, s.outs)

theorem State.updCand_advNew {s : State} {i : Nat} {f : Cand → Cand} (keeps : ∀ c, (f c).advNew = c.advNew) (k : Nat) :
    ((s.updCand i f).cand k).advNew = (s.cand k).advNew := by
  rw [State.cand_updCand]
  split
  · exact keeps _
  · rfl

theorem State.updCand_membership {s : State} {i : Nat} {f : Cand → Cand} (keeps : ∀ c, (f c).advNew = c.advNew) :
    (s.updCand i f).membership = s.membership := by
  unfold State.membership
  rw [State.updCand_advNew keeps]
  rfl

/-- A newly advertised grade of REFD is all that is new of it. -/
theorem State.updCand_advNew_membership {s : State} {f : Cand → Cand} {v : Option Nat} (new : ∀ c, (f c).advNew = v) :
    (s.updCand 6 f).membership = (s.drv.standing, v, s.cfg, s.tally, s.outs) := by
  unfold State.membership
  rw [State.cand_updCand, if_pos ⟨rfl, by decide⟩, new]
  rfl

theorem State.memberCommand_membership (s : State) (w : List Byte) : (s.memberCommand w).membership = s.membership := by
  unfold State.memberCommand State.actCommand
  dsimp only
  (repeat' split) <;> rfl

theorem State.leadLabel_membership (s : State) (w : List Byte) (fresh : Bool) (x : Int) : (s.leadLabel w fresh x).membership = s.membership := by
  unfold State.leadLabel
  dsimp only
  (repeat' split) <;> rfl

theorem State.raiseFrom_membership (s : State) (id detail : Nat) : (s.raiseFrom id detail).membership = s.membership := by
  unfold State.raiseFrom
  split <;> rfl

theorem State.trip_membership (s : State) (i k : Nat) : (s.trip i k).membership = s.membership := by
  unfold State.trip State.gather
  split
  · exact State.updCand_membership fun _ => rfl
  · exact State.updCand_membership fun _ => rfl

theorem State.sampleAt_membership (s : State) (i t : Nat) (v : Fs) : (s.sampleAt i t v).membership = s.membership := by
  have accepted : (s.acceptSample i t v).membership = s.membership := State.updCand_membership fun _ => rfl
  unfold State.sampleAt
  dsimp only
  split
  · split
    · exact (State.raiseFrom_membership _ _ _).trans (s.trip_membership i 3)
    · exact accepted
  · exact accepted

theorem State.leadSample_membership (s : State) (w : List Byte) (tc : Nat) (fresh : Bool) (x : Int) : (s.leadSample w tc fresh x).membership = s.membership := by
  unfold State.leadSample
  dsimp only
  split
  · rfl
  · split
    · rfl
    · rw [State.sampleAt_membership]
      exact State.updCand_membership fun _ => rfl

theorem State.setDrove_member (s : State) : ∃ since after ev,
    s.setDrove .member .forward = { s with drv := { s.drv with state := .member, since := since, tx := .forward, after := after }, ev := ev } := by
  unfold State.setDrove State.raiseIf
  simp only [reduceCtorEq, decide_false, Bool.or_false, Bool.and_false, Bool.not_false, Bool.and_true, Bool.false_eq_true, if_false]
  split <;> exact ⟨_, _, _, rfl⟩

/-- A member keeps of an accepted frame its lead's ID, grade and ACC, RING_BROKEN and its own HOP, and REFD takes the grade. -/
theorem State.memberFrame_membership (s : State) (w : List Byte) (tc : Nat) (fresh : Bool) : ∃ since after,
    (s.memberFrame w tc fresh).membership = (({ s.drv with
      state := .member, since := since, tx := .forward, after := after
      hop := min 255 (fld w 49 1 + 1), grade := fld w 2 1 / 16, ringBroken := bit (fld w 1 1) 1, leadId := fld w 4 4, leadSeen := true
      acc := fld w 50 4 } : Drove).standing, some (fld w 2 1 / 16), s.cfg, s.tally, s.outs) := by
  unfold State.memberFrame
  dsimp only
  obtain ⟨since, after, ev, member⟩ := State.setDrove_member (s.noteLead w (s.drv.leadSeen && decide (s.drv.leadId ≠ fld w 4 4)))
  refine ⟨since, after, ?_⟩
  rw [State.memberCommand_membership, State.leadSample_membership, State.leadLabel_membership, member,
    State.updCand_advNew_membership (v := some (fld w 2 1 / 16)) fun _ => rfl]
  split <;> rfl

/-! ### A claimant's or lead's use of an accepted frame -/

/-- A frame of another device: it yields to a better rank, and on a chain to any. -/
theorem State.leadFrame_of_other {s : State} {w : List Byte} (tc : Nat) (fresh : Bool) (other : fld w 4 4 ≠ s.cfg.drv.id) : ∃ yields,
    s.leadFrame w tc fresh = { s with drv := { s.drv with grade := fld w 2 1 / 16, yield := yields } } ∧
    (yields = true ↔ s.drv.yield = true ∨ s.cfg.drv.ring = false ∨
      rankOf (fld w 2 1 / 16) (fld w 3 1) (fld w 4 4) < rankOf s.leadGrade s.cfg.drv.prio s.cfg.drv.id) := by
  unfold State.leadFrame
  dsimp only
  rw [if_neg other]
  split
  · rename_i better
    simp only [Bool.or_eq_true, Bool.not_eq_true', decide_eq_true_eq] at better
    exact ⟨true, rfl, iff_of_true rfl (.inr better)⟩
  · rename_i worse
    refine ⟨s.drv.yield, rfl, ?_⟩
    simp only [Bool.or_eq_true, Bool.not_eq_true', decide_eq_true_eq, not_or] at worse
    simp [worse.1, worse.2]

/-- An own frame that is not of the present run is another device with this ID. -/
theorem State.leadFrame_of_clash {s : State} {w : List Byte} {a b : Nat} (tc : Nat) (fresh : Bool) (own : fld w 4 4 = s.cfg.drv.id)
    (sent : s.drv.sent = some (a, b)) (outside : fld w 33 8 < a ∨ b < fld w 33 8) :
    s.leadFrame w tc fresh = ({ s with drv := { s.drv with grade := fld w 2 1 / 16 } } : State).raise Ev.drvIdClash (fld w 4 4) := by
  unfold State.leadFrame
  dsimp only
  rw [if_pos own, sent]
  dsimp only
  rw [if_neg]
  simp only [Bool.and_eq_true, decide_eq_true_eq]
  omega

/-- An own frame of the present run has returned, its ACC and hops noted. -/
theorem State.leadFrame_of_own {s : State} {w : List Byte} {a b : Nat} (tc : Nat) (fresh : Bool) (own : fld w 4 4 = s.cfg.drv.id)
    (sent : s.drv.sent = some (a, b)) (first : a ≤ fld w 33 8) (last : fld w 33 8 ≤ b) : ∃ trip,
    s.leadFrame w tc fresh =
      ({ s with drv := { s.drv with grade := fld w 2 1 / 16, acc := fld w 50 4, retHop := fld w 49 1, trip := trip } } : State).ownReturned := by
  unfold State.leadFrame
  dsimp only
  rw [if_pos own, sent]
  dsimp only
  rw [if_pos (by simp [first, last])]
  exact ⟨_, rfl⟩

/-- A claimant that becomes LEAD keeps its counts. -/
theorem State.setDrove_lead (s : State) (claims : s.drv.state = .claim) : ∃ since after cands ev,
    s.setDrove .lead .own =
      { s with drv := { s.drv with state := .lead, since := since, tx := .own, after := after, hop := 0 }, cands := cands, ev := ev } := by
  unfold State.setDrove State.raiseIf
  simp only [claims, ne_eq, reduceCtorEq, not_false_eq_true, decide_true, decide_false, Bool.or_false, Bool.or_true, Bool.and_true, Bool.and_false, Bool.not_false,
    Bool.false_eq_true, if_true, if_false]
  exact ⟨_, _, _, _, rfl⟩

/-- The first own frame of a fold counts; the eighth in a ring makes the device LEAD. -/
theorem State.ownReturned_facts {s : State} (own : s.drv.state = .claim ∨ s.drv.state = .lead) (first : s.drv.gotOwn = false) :
    s.ownReturned.drv.returned = s.drv.returned + 1 ∧ s.ownReturned.drv.sinceReturn = 0 ∧ s.ownReturned.drv.acc = s.drv.acc ∧
    s.ownReturned.drv.quiet = s.drv.quiet ∧ s.ownReturned.drv.state = if s.cfg.drv.ring = true ∧ 7 ≤ s.drv.returned then .lead else s.drv.state := by
  unfold State.ownReturned
  dsimp only
  rw [if_neg (by simp [first])]
  split
  · rename_i early
    have few : ¬ (s.cfg.drv.ring = true ∧ 7 ≤ s.drv.returned) := by
      rintro ⟨ring, many⟩
      simp only [ring, Bool.not_true, Bool.false_or, decide_eq_true_eq] at early
      omega
    exact ⟨rfl, rfl, rfl, rfl, (if_neg few).symm⟩
  · rename_i late
    have eighth : s.cfg.drv.ring = true ∧ 7 ≤ s.drv.returned := by
      simp only [Bool.or_eq_true, Bool.not_eq_true', decide_eq_true_eq, not_or, Bool.not_eq_false, not_lt] at late
      exact ⟨late.1, by omega⟩
    rw [if_pos eighth]
    split
    · rename_i claims
      obtain ⟨since, after, cands, ev, lead⟩ := State.setDrove_lead
        { s with drv := { s.drv with gotOwn := true, returned := s.drv.returned + 1, sinceReturn := 0 } } claims
      rw [lead]
      exact ⟨rfl, rfl, rfl, rfl, rfl⟩
    · rename_i noClaim
      have leads := own.resolve_left noClaim
      split <;> exact ⟨rfl, rfl, rfl, rfl, leads⟩

/-! ### Slot 9 with one frame -/

/-- The drove slot with its queue empty. -/
def State.emptied (s : State) (t : Nat) : State := { s.enterSlot 9 t with drv := { s.drv with inbox := [] } }

theorem exec_droveSlot_of_one {s : State} {t : Nat} {x : DrvRx} (due : s.slotDue 9 t = true) (one : s.drv.inbox = [x]) :
    exec (.droveSlot .ofState t) s = .next ((s.emptied t).droveFrame x).droveEnd := by
  have inbox : (s.enterSlot 9 t).drv.inbox = [x] := one
  rw [exec_droveSlot due, State.droveTask, inbox]
  rfl

/-- A device that forwards and is not about to claim rests after its frames. -/
theorem State.droveEnd_of_resting {s : State}
    (follows : s.drv.state = .member ∨ (s.drv.state = .listen ∧ (s.cfg.drv.prio = 255 ∨ s.drv.quiet < 16 + 4 * s.cfg.drv.prio)))
    (noTrip : s.drv.trip = none) : s.droveEnd = s := by
  rcases follows with member | ⟨listen, early⟩
  · exact State.droveEnd_of_follower (by simp [member]) (by simp [member]) (by simp [member]) noTrip
  · exact State.droveEnd_of_follower (by simp [listen]) (by simp [listen]) (fun _ => early) noTrip

theorem State.useFrame_of_own {s : State} (own : s.drv.state = .claim ∨ s.drv.state = .lead) (w : List Byte) (tc : Nat) (fresh : Bool) :
    s.useFrame w tc fresh = s.leadFrame w tc fresh := by
  unfold State.useFrame
  rcases own with own | own <;> rw [own]

theorem State.useFrame_of_follower {s : State} (follows : s.drv.state = .member ∨ s.drv.state = .listen) (w : List Byte) (tc : Nat) (fresh : Bool) :
    s.useFrame w tc fresh = s.memberFrame w tc fresh := by
  unfold State.useFrame
  rcases follows with follows | follows <;> rw [follows]

/-- What the slot does after an accepted frame changes of a device that claims or leads only RING_BROKEN, the round trip, the staged frame and events. -/
theorem State.droveEnd_of_accepted {s : State} (own : s.drv.state = .claim ∨ s.drv.state = .lead) (heard : s.drv.quiet = 0) : ∃ b n ev,
    s.droveEnd = { s with drv := { s.drv with ringBroken := b, trip := none, next := n }, ev := ev } ∧
    (ev.srcs.getD Ev.drvIdClash {}).count = (s.ev.srcs.getD Ev.drvIdClash {}).count := by
  obtain ⟨b, n, ev, writes, counts, -⟩ := State.droveEnd_of_own (s := s) (by rcases own with own | own <;> simp [own]) fun _ => by omega
  exact ⟨b, n, ev, writes, counts _ (by decide) (by decide)⟩

end Sys2Proof.Machine

open Sys2Proof Sys2Proof.Machine

/-- Settles O47: what leaves and what arrives by the rows themselves, slot 9 by what `droveFrame` makes of the one frame and what `droveEnd` then leaves alone. -/
theorem droveFramesAreSentAndJudged : Obligations.DroveFramesAreSentAndJudged := by
  unfold Obligations.DroveFramesAreSentAndJudged
  intro s t
  refine ⟨?sent, ?notSent, ?deaf, ?arrives, ?judged⟩
  case sent =>
    intro x own mark next fold
    rw [exec_leadFrameTransmit_of_due own mark next fold]
    refine ⟨_, rfl, rfl, rfl, rfl, rfl, rfl, fun c cast => ?_, ?_, rfl⟩
    · show (if x.cmd then s.drv.cast.bind Cast.spend else s.drv.cast) = _
      rw [cast]
      cases x.cmd <;> rfl
    · obtain ⟨a, run⟩ := s.drv.runTo_end s.clk.absFold.toNat
      exact ⟨a, congrArg some run⟩
  case notSent => exact exec_leadFrameTransmit_of_not_due
  case deaf => exact fun w ok off => exec_droveFrameReceived_of_off w ok t off
  case arrives =>
    intro w ok on up
    rw [exec_droveFrameReceived_of_on w ok t on up]
    obtain ⟨inbox, held, test, tdc, writes, idle⟩ := (s.marked w t).receive_writes w ok
    have received := State.receive_of_no_injection (s := s.marked w t) w ok
    rw [writes] at received ⊢
    by_cases forwards : s.drv.tx = .forward
    · rw [State.marked_of_forward w t forwards] at received idle ⊢
      exact ⟨_, rfl, rfl, rfl, rfl, rfl, rfl, rfl, rfl, rfl, fun _ => ⟨rfl, rfl, rfl⟩, fun other => absurd forwards other, idle,
        fun running quiet => received quiet running⟩
    · rw [State.marked_of_other w t forwards] at received idle ⊢
      exact ⟨_, rfl, rfl, rfl, rfl, rfl, rfl, rfl, rfl, rfl, fun own => absurd own forwards, fun _ => ⟨rfl, rfl, rfl⟩, idle,
        fun running quiet => received quiet running⟩
  case judged =>
    intro x due one noTrip
    refine ⟨fun follows => ⟨fun bad => ?_, fun k framed crc => ?_⟩, fun follows good => ?_, fun own good => ⟨fun other => ?_, fun a b mine sent =>
      ⟨fun first last fresh => ?_, fun outside => ?_⟩⟩⟩
    · rw [exec_droveSlot_of_one due one, State.droveFrame_of_bad bad, State.droveEnd_of_resting (s := s.emptied t) follows noTrip]
      rfl
    · have on : (s.emptied t).drv.state ≠ .off := by
        show s.drv.state ≠ .off
        rcases follows with member | ⟨listen, -⟩ <;> simp [*]
      rw [exec_droveSlot_of_one due one, State.droveFrame_of_crc on framed crc, State.droveEnd_of_resting]
      · rfl
      · rw [State.raiseIf_drv, State.raiseIf_cfg]
        exact follows
      · rw [State.raiseIf_drv]
        exact noTrip
    · obtain ⟨framed, crc, codes, kind⟩ := good
      have on : (s.emptied t).drv.state ≠ .off := by
        show s.drv.state ≠ .off
        rcases follows with member | listen <;> simp [*]
      obtain ⟨cands, writes, -⟩ := (s.emptied t).acceptDrove_writes
      obtain ⟨since, after, kept⟩ := (s.emptied t).acceptDrove.memberFrame_membership (symBytes x.words) x.tc x.fresh
      rw [exec_droveSlot_of_one due one, State.droveFrame_of_good on framed crc codes kind, State.useFrame_of_follower (by rw [writes]; exact follows)]
      generalize (s.emptied t).acceptDrove.memberFrame _ _ _ = joined at kept ⊢
      rw [writes] at kept
      simp only [State.membership, Prod.mk.injEq] at kept
      obtain ⟨drv, grade, cfg, tally, outs⟩ := kept
      have state : joined.drv.state = .member := congrArg Drove.state drv
      have trip : joined.drv.trip = none := (congrArg Drove.trip drv).trans noTrip
      rw [State.droveEnd_of_resting (.inl state) trip]
      exact ⟨_, rfl, state, congrArg Drove.accepted drv, congrArg Drove.lock drv, congrArg Drove.inbox drv, congrArg Drove.quiet drv, congrArg Drove.hop drv,
        congrArg Drove.leadId drv, congrArg Drove.grade drv, congrArg Drove.acc drv, congrArg Drove.ringBroken drv, grade, cfg, tally, outs⟩
    all_goals
      obtain ⟨framed, crc, codes, kind⟩ := good
      have on : (s.emptied t).drv.state ≠ .off := by
        show s.drv.state ≠ .off
        rcases own with claims | leads <;> simp [*]
      obtain ⟨cands, writes, grades⟩ := (s.emptied t).acceptDrove_writes
      rw [exec_droveSlot_of_one due one, State.droveFrame_of_good on framed crc codes kind, State.useFrame_of_own (by rw [writes]; exact own)]
    · have grade : (s.emptied t).acceptDrove.leadGrade = s.leadGrade := State.leadGrade_congr (by rw [writes]; rfl) (by rw [writes]; rfl) (by rw [writes]; rfl)
        (by rw [writes]; rfl) grades
      obtain ⟨yields, frame, iff⟩ := State.leadFrame_of_other (s := (s.emptied t).acceptDrove) x.tc x.fresh (by rw [writes]; exact other)
      rw [grade, writes] at iff
      obtain ⟨b, n, ev, ends, -⟩ := State.droveEnd_of_accepted (s := (s.emptied t).acceptDrove.leadFrame (symBytes x.words) x.tc x.fresh)
        (by rw [frame, writes]; exact own) (by rw [frame, writes])
      rw [ends, frame, writes]
      exact ⟨_, rfl, rfl, rfl, rfl, rfl, iff⟩
    · obtain ⟨trip, frame⟩ := State.leadFrame_of_own (s := (s.emptied t).acceptDrove) x.tc x.fresh (by rw [writes]; exact mine) (by rw [writes]; exact sent)
        first last
      rw [writes] at frame
      obtain ⟨returned, since, acc, quiet, state⟩ := State.ownReturned_facts (s := { s.emptied t with
          drv := { (s.emptied t).drv with
            accepted := (s.emptied t).drv.accepted + 1, lock := true, quiet := 0, gotFrame := true, grade := fld (symBytes x.words) 2 1 / 16
            acc := fld (symBytes x.words) 50 4, retHop := fld (symBytes x.words) 49 1, trip := trip }
          cands := cands }) own fresh
      rw [writes, frame]
      generalize State.ownReturned _ = returns at *
      have stays : returns.drv.state = .claim ∨ returns.drv.state = .lead := by
        rw [state]
        split
        · exact .inr rfl
        · exact own
      obtain ⟨b, n, ev, ends, -⟩ := State.droveEnd_of_accepted stays quiet
      rw [ends]
      exact ⟨_, rfl, returned, since, acc, state⟩
    · have frame := State.leadFrame_of_clash (s := (s.emptied t).acceptDrove) x.tc x.fresh (by rw [writes]; exact mine) (by rw [writes]; exact sent) outside
      obtain ⟨b, n, ev, ends, count⟩ := State.droveEnd_of_accepted (s := (s.emptied t).acceptDrove.leadFrame (symBytes x.words) x.tc x.fresh)
        (by rw [frame, State.raise_drv, writes]; exact own) (by rw [frame, State.raise_drv, writes])
      rw [frame, State.raise_count, if_pos ⟨rfl, by decide⟩, writes] at count
      rw [ends, frame, State.raise_drv, writes]
      exact ⟨_, rfl, rfl, rfl, count⟩

end

section
/-! Edges of the reference inputs: what the deglitch filter, the activity window, the runt monitor and the divider make of one, and what a divided edge leaves
alone, with O24 (01 R31; 02 R35–R37, R39, R46, R57; 19 R435). -/

namespace Sys2Proof.Machine

/-! ### A candidate's measurements -/

/-- What the monitors gather of a candidate, in the snapshot of the fold in hand or, where it crosses too late, of the next (01 R31). -/
def Cand.gathered (c : Cand) (late : Bool) : Meas := if late then c.late else c.meas

/-- The candidate with more gathered of it. -/
def Cand.gather (late : Bool) (f : Meas → Meas) (c : Cand) : Cand := if late then { c with late := f c.late } else { c with meas := f c.meas }

@[simp] theorem Cand.gather_gathered (late : Bool) (f : Meas → Meas) (c : Cand) : (c.gather late f).gathered late = f (c.gathered late) := by
  cases late <;> rfl

/-- Apart from its measurements the candidate stands. -/
theorem Cand.gather_keeps {β : Type} (g : Cand → β) (late : Bool) (f : Meas → Meas) (c : Cand)
    (blind : ∀ c a b, g { c with late := a, meas := b } = g c) : g (c.gather late f) = g c := by
  cases late <;> exact blind c _ _

@[simp] theorem Cand.gather_inGlitch (late : Bool) (f : Meas → Meas) (c : Cand) : (c.gather late f).inGlitch = c.inGlitch :=
  Cand.gather_keeps Cand.inGlitch late f c fun _ _ _ => rfl
@[simp] theorem Cand.gather_active (late : Bool) (f : Meas → Meas) (c : Cand) : (c.gather late f).active = c.active :=
  Cand.gather_keeps Cand.active late f c fun _ _ _ => rfl
@[simp] theorem Cand.gather_lastEdge (late : Bool) (f : Meas → Meas) (c : Cand) : (c.gather late f).lastEdge = c.lastEdge :=
  Cand.gather_keeps Cand.lastEdge late f c fun _ _ _ => rfl
@[simp] theorem Cand.gather_divCount (late : Bool) (f : Meas → Meas) (c : Cand) : (c.gather late f).divCount = c.divCount :=
  Cand.gather_keeps Cand.divCount late f c fun _ _ _ => rfl

theorem State.gather_eq (s : State) (i : Nat) (f : Meas → Meas) : s.gather i f = s.updCand i (Cand.gather s.crossesLate f) := by
  unfold State.gather Cand.gather
  cases s.crossesLate <;> rfl

theorem State.cand_updCand_self (s : State) {i : Nat} (f : Cand → Cand) (small : i < 8) : (s.updCand i f).cand i = f (s.cand i) := by
  rw [State.cand_updCand, if_pos ⟨rfl, small⟩]

/-! ### What the deglitch filter and the activity window make of an edge -/

/-- An edge seen behind the filter: it is no glitch, and an active one restarts the activity window (02 R39). -/
def Cand.seen (late active : Bool) (t : Nat) (c : Cand) : Cand :=
  if active then
    { c with inGlitch := false, active := true, wasActive := if late then c.wasActive.orElse fun _ => some c.active else c.wasActive, lastEdge := some t }
  else { c with inGlitch := false }

@[simp] theorem Cand.seen_gathered (late active : Bool) (t : Nat) (c : Cand) (k : Bool) : (c.seen late active t).gathered k = c.gathered k := by
  cases active <;> rfl
@[simp] theorem Cand.seen_divCount (late active : Bool) (t : Nat) (c : Cand) : (c.seen late active t).divCount = c.divCount := by
  cases active <;> rfl
@[simp] theorem Cand.seen_lastEdge (late active : Bool) (t : Nat) (c : Cand) : (c.seen late active t).lastEdge = if active then some t else c.lastEdge := by
  cases active <;> rfl

/-- Two changes of one candidate are one. -/
theorem State.updCand_updCand (s : State) (i : Nat) (f g : Cand → Cand) : (s.updCand i f).updCand i g = s.updCand i fun c => g (f c) := by
  simp [State.updCand, Vec.upd, List.modify_modify_eq, Function.comp_def]

theorem State.deglitch_of_wide (s : State) (i : Nat) : s.deglitch i false = s.updCand i fun c => { c with inGlitch := false } := rfl

theorem State.deglitch_of_narrow (s : State) (i : Nat) : s.deglitch i true =
    s.updCand i fun c => { c.gather s.crossesLate (fun m => { m with removed := m.removed + 1 }) with inGlitch := !c.inGlitch } := by
  rw [State.deglitch, if_pos rfl, State.gather_eq, State.updCand_updCand]
  simp only [Cand.gather_inGlitch, Bool.true_and]

/-- The filter passes an edge and, where it is active, the window restarts. -/
theorem State.touch_deglitch (s : State) (i t : Nat) (active : Bool) :
    (if active then (s.deglitch i false).touch i t else s.deglitch i false) = s.updCand i (Cand.seen s.crossesLate active t) := by
  cases active
  · rfl
  · rw [if_pos rfl, State.deglitch_of_wide, State.touch, State.setActive, State.updCand_updCand, State.updCand_updCand]
    rfl

/-! ### A divided edge -/

/-- A divided edge at `t` in the fold's measurement (02 R57). -/
def Meas.divided (t : Nat) (m : Meas) : Meas := { m with first := m.first.orElse fun _ => some (tdcCode t), last := some (tdcCode t), edges := m.edges + 1 }

/-- What the edges of an input have written of a candidate: the divider's count, its activity, its last edge and its measurement of divided edges. -/
def Cand.counts (late : Bool) (c : Cand) : Nat × Bool × Option Nat × Option Nat × Option Nat × Nat :=
  (c.divCount, c.active, c.lastEdge, (c.gathered late).first, (c.gathered late).last, (c.gathered late).edges)

/-- That of candidate `i`, with the interval measurements, the labels, the settings, the loop and the selector: what a phase sample and the outputs' index
edges leave alone. -/
def State.counts (late : Bool) (i : Nat) (s : State) :
    (Nat × Bool × Option Nat × Option Nat × Option Nat × Nat) × Vec TdcSlot 4 × Tod × Settings × LoopSt × Selector :=
  ((s.cand i).counts late, s.tdc, s.tod, s.cfg, s.lp, s.sel)

section
variable (late : Bool) (i : Nat)

theorem State.updCand_counts {s : State} {j : Nat} {f : Cand → Cand} (keeps : ∀ c, (f c).counts late = c.counts late) :
    (s.updCand j f).counts late i = s.counts late i := by
  have cand : ((s.updCand j f).cand i).counts late = (s.cand i).counts late := by
    rw [State.cand_updCand]
    split
    · exact keeps _
    · rfl
  exact Prod.ext cand rfl

theorem State.raiseFrom_counts (s : State) (id detail : Nat) : (s.raiseFrom id detail).counts late i = s.counts late i := by
  simp [State.counts, State.cand]

theorem State.trip_counts (s : State) (j k : Nat) : (s.trip j k).counts late i = s.counts late i := by
  rw [State.trip, State.gather_eq]
  exact State.updCand_counts late i fun c => by cases late <;> cases s.crossesLate <;> rfl

theorem State.acceptSample_counts (s : State) (j t : Nat) (v : Fs) : (s.acceptSample j t v).counts late i = s.counts late i :=
  State.updCand_counts late i fun _ => rfl

theorem State.sampleAt_counts (s : State) (j t : Nat) (v : Fs) : (s.sampleAt j t v).counts late i = s.counts late i := by
  have jumps (id detail : Nat) : (({ s.trip j 3 with mdl := { s.mdl with spoiled := true } } : State).raiseFrom id detail).counts late i = s.counts late i :=
    (State.raiseFrom_counts late i _ _ _).trans (s.trip_counts late i j 3)
  unfold State.sampleAt
  dsimp only
  split
  · split
    · exact jumps _ _
    · exact s.acceptSample_counts late i j t v
  · exact s.acceptSample_counts late i j t v

theorem State.gateEvent_counts (s : State) (j t : Nat) (v : Fs) : (s.gateEvent j t v).counts late i = s.counts late i :=
  State.updCand_counts late i fun _ => rfl

end

section
variable {β : Type} (g : State → β) (blind : ∀ s o f, g (State.updOut s o f) = g s)
include blind

theorem State.settleTo_keeps (s : State) (o t : Nat) : g (s.settleTo o t) = g s := by
  unfold State.settleTo
  dsimp only
  (repeat' split) <;> exact blind _ _ _

theorem State.settleSeg_keeps (s : State) (o t : Nat) : g (s.settleSeg o t) = g s := by
  unfold State.settleSeg
  dsimp only
  split
  · rw [State.settleTo_keeps g blind, blind, State.settleTo_keeps g blind]
  · exact s.settleTo_keeps g blind o t

theorem State.settle_keeps (s : State) (o t : Nat) : g (s.settle o t) = g s := by
  have starts (p : Plan) (s : State) : g (s.startTrain o p) = g s := (blind _ _ _).trans (s.settleSeg_keeps g blind o p.start)
  rw [State.settle, State.settleSeg_keeps g blind, forEach_keeps g _ _ starts]

theorem State.missOld_keeps (s : State) (o t : Nat) : g (s.missOld o t) = g s := by
  unfold State.missOld
  split
  · exact blind _ _ _
  · exact forEach_keeps g _ _ (fun _ _ => blind _ _ _) s

/-- An index edge writes its output alone. -/
theorem State.takeIndex_keeps (s : State) (o t : Nat) : g (s.takeIndex o t) = g s := by
  rw [State.takeIndex, blind, State.missOld_keeps g blind, State.settle_keeps g blind]

end

/-- A divided edge is captured, counted in the fold's measurement, and leaves the rest of the figures alone. -/
theorem State.dividedEdge_counts (s : State) (i t : Nat) : (s.dividedEdge i t).counts s.crossesLate i =
    ((s.capture i t).updCand i (Cand.gather s.crossesLate (Meas.divided t))).counts s.crossesLate i := by
  unfold State.dividedEdge
  dsimp only
  rw [forEach_keeps (State.counts s.crossesLate i), State.sampleAt_counts, State.gateEvent_counts, State.gather_eq]
  · rfl
  · intro o s'
    split
    · exact State.takeIndex_keeps _ (fun _ _ _ => rfl) _ _ _
    · rfl

/-! ### An edge of an input -/

/-- A runt of the given width (02 R46). -/
def Meas.runt (width : Nat) (m : Meas) : Meas := { m with runts := m.runts + 1, narrowest := some (min width (m.narrowest.getD width)) }

/-- An active edge behind the filter that is no runt: it is seen, noted for the sentences, and changes the divider's count by `n`. -/
def State.countEdge (s : State) (i : Nat) (n : Nat → Nat) : State :=
  { s.updCand i (fun c => { c.seen s.crossesLate true s.instant with divCount := n c.divCount }) with tod := s.tod.notePps i s.instant }

/-- An edge behind the filter (02 R35, R46): a runt, or one that is only seen, or the divided edge, or one that the divider counts. -/
def State.judgeEdge (s : State) (i : Nat) (active : Bool) (width : Nat) : State :=
  if width < (s.refCfg i).runtMin then s.updCand i fun c => (c.seen s.crossesLate active s.instant).gather s.crossesLate (Meas.runt width)
  else if !active then s.updCand i (Cand.seen s.crossesLate active s.instant)
  else if (s.refCfg i).div ≤ (s.cand i).divCount + 1 then (s.countEdge i fun _ => 0).dividedEdge i s.instant
  else s.countEdge i (· + 1)

theorem State.countEdge_eq (s : State) (i : Nat) (n : Nat → Nat) :
    ({ s.updCand i (Cand.seen s.crossesLate true s.instant) with tod := s.tod.notePps i s.instant } : State).updCand i
      (fun c => { c with divCount := n c.divCount }) = s.countEdge i n :=
  congrArg (fun x : State => { x with tod := s.tod.notePps i s.instant })
    ((s.updCand_updCand i _ _).trans (congrArg (s.updCand i) (funext fun c => by rw [Cand.seen_divCount])))

section
variable {s : State} {i : Fin 6} {rising : Bool} {phase : EdgePhase} {t : Nat}

/-- An input that is off, or of a device in reset or SLEEP, gives nothing (log 31). -/
theorem exec_refEdge_of_off (off : (s.refCfg i).mode = 3 ∨ s.pow.held = true ∨ s.pow.state = .sleep) :
    exec (.refEdge i rising phase t) s = .next (s.setNow t) := by
  have off' : ((s.setNow t).refCfg i).mode = 3 ∨ s.pow.held = true ∨ s.pow.state = .sleep := off
  show execRefEdge i rising phase t s = _
  unfold execRefEdge
  dsimp only
  rw [if_pos (by rcases off' with off | off | off <;> simp [off])]

section
variable (on : (s.refCfg i).mode ≠ 3) (up : s.pow.held = false) (awake : s.pow.state ≠ .sleep)
include on up awake

/-- The filter keeps a narrow phase and the edge that ends one, and a killed input gives no edge behind it (02 R37; 19 R435). -/
theorem exec_refEdge_of_stopped {narrow : Bool} (width : decide (phase.raw < (s.refCfg i).deglitch * 10000000) = narrow)
    (stopped : (s.cand i).passes narrow = false ∨ (s.cand i).killed = true) :
    exec (.refEdge i rising phase t) s = .next ((s.setNow t).deglitch i narrow) := by
  have on' : ((s.setNow t).refCfg i).mode ≠ 3 := on
  have width' : decide (phase.raw < ((s.setNow t).refCfg i).deglitch * 10000000) = narrow := width
  have stopped' : ((s.setNow t).cand i).passes narrow = false ∨ ((s.setNow t).cand i).killed = true := stopped
  show execRefEdge i rising phase t s = _
  unfold execRefEdge
  dsimp only
  rw [width', if_neg (by simp [on', up, awake]), if_pos (by rcases stopped' with stopped | stopped <;> simp [stopped])]

/-- An edge that the filter passes on an input that nothing kills is judged behind it. -/
theorem exec_refEdge_of_passed {active : Bool} (wide : decide (phase.raw < (s.refCfg i).deglitch * 10000000) = false) (clean : (s.cand i).inGlitch = false)
    (alive : (s.cand i).killed = false) (edge : (rising != (s.refCfg i).falling) = active) :
    exec (.refEdge i rising phase t) s = .next ((s.setNow t).judgeEdge i active (max phase.raw phase.kept)) := by
  have edge' : (rising != ((s.setNow t).refCfg i).falling) = active := edge
  have on' : ((s.setNow t).refCfg i).mode ≠ 3 := on
  have wide' : decide (phase.raw < ((s.setNow t).refCfg i).deglitch * 10000000) = false := wide
  have clean' : ((s.setNow t).cand i).inGlitch = false := clean
  have alive' : ((s.setNow t).cand i).killed = false := alive
  have count : (((s.setNow t).updCand i (Cand.seen (s.setNow t).crossesLate true (s.setNow t).instant)).cand i).divCount = ((s.setNow t).cand i).divCount := by
    rw [State.cand_updCand_self (small := by omega), Cand.seen_divCount]
  show execRefEdge i rising phase t s = _
  unfold execRefEdge State.judgeEdge
  dsimp only
  rw [if_neg (by simp [on', up, awake]), if_neg (by simp [Cand.passes, wide', clean', alive']), wide', edge', State.touch_deglitch]
  simp only [apply_ite Host.Outcome.next]
  rw [State.gather_eq, State.updCand_updCand]
  refine if_congr Iff.rfl rfl ?_
  cases active with
  | false => rfl
  | true =>
    refine if_congr Iff.rfl rfl (if_congr (Iff.of_eq ?_) (congrArg _ ?_) (congrArg _ ?_))
    · exact congrArg (fun n => ((s.setNow t).refCfg i).div ≤ n + 1) count
    · exact congrArg (State.dividedEdge · i (s.setNow t).instant) ((s.setNow t).countEdge_eq i fun _ => 0)
    · exact (s.setNow t).countEdge_eq i (· + 1)

end
end

section
variable (s : State) (i : Fin 6) {active : Bool} {width : Nat}

theorem State.judgeEdge_of_runt (short : (width : Int) < (s.refCfg i).runtMin) :
    s.judgeEdge i active width = s.updCand i fun c => (c.seen s.crossesLate active s.instant).gather s.crossesLate (Meas.runt width) := if_pos short

theorem State.judgeEdge_of_inactive (long : (s.refCfg i).runtMin ≤ (width : Int)) :
    s.judgeEdge i false width = s.updCand i (Cand.seen s.crossesLate false s.instant) := if_neg (Int.not_lt.mpr long)

/-- The active edges before the DIV-th count. -/
theorem State.judgeEdge_of_undivided (long : (s.refCfg i).runtMin ≤ (width : Int)) (few : (s.cand i).divCount + 1 < (s.refCfg i).div) :
    s.judgeEdge i true width = s.countEdge i (· + 1) := by
  rw [State.judgeEdge, if_neg (Int.not_lt.mpr long), if_neg (by decide), if_neg (Nat.not_le.mpr few)]

/-- The DIV-th is the divided edge. -/
theorem State.judgeEdge_of_divided (long : (s.refCfg i).runtMin ≤ (width : Int)) (enough : (s.refCfg i).div ≤ (s.cand i).divCount + 1) :
    s.judgeEdge i true width = (s.countEdge i fun _ => 0).dividedEdge i s.instant := by
  rw [State.judgeEdge, if_neg (Int.not_lt.mpr long), if_neg (by decide), if_pos enough]

end

theorem State.cand_countEdge (s : State) {i : Nat} (n : Nat → Nat) (small : i < 8) :
    (s.countEdge i n).cand i = { (s.cand i).seen s.crossesLate true s.instant with divCount := n (s.cand i).divCount } :=
  s.cand_updCand_self (fun c => { c.seen s.crossesLate true s.instant with divCount := n c.divCount }) small

theorem Meas.divided_first (t : Nat) (m : Meas) : (m.divided t).first = some (m.first.getD (tdcCode t)) := by
  rw [Meas.divided]
  cases m.first <;> rfl

/-- A divided edge in a candidate's figures: the divider at zero, its activity, and the edge in the fold's measurement. -/
theorem Cand.counts_of_divided (late : Bool) (t : Nat) (c : Cand) :
    (({ c.seen late true t with divCount := 0 } : Cand).gather late (Meas.divided t)).counts late =
      (0, true, some t, some ((c.gathered late).first.getD (tdcCode t)), some (tdcCode t), (c.gathered late).edges + 1) := by
  rw [Cand.counts, Cand.gather_gathered, Cand.gather_divCount, Cand.gather_active, Cand.gather_lastEdge, Meas.divided_first]
  rfl

/-- The DIV-th edge is in its candidate's figures, captured by the TDC and noted for the sentences; settings, loop and selector stand. -/
theorem State.judgeEdge_counts_of_divided (s : State) (i : Fin 6) {width : Nat} (long : (s.refCfg i).runtMin ≤ (width : Int))
    (enough : (s.refCfg i).div ≤ (s.cand i).divCount + 1) : (s.judgeEdge i true width).counts s.crossesLate i =
      ((0, true, some s.instant, some (((s.cand i).gathered s.crossesLate).first.getD (tdcCode s.instant)), some (tdcCode s.instant),
        ((s.cand i).gathered s.crossesLate).edges + 1), s.tdc.map (tdcMeet i (tdcCode s.instant)), s.tod.notePps i s.instant, s.cfg, s.lp, s.sel) := by
  have late : (s.countEdge i fun _ => 0).crossesLate = s.crossesLate := rfl
  have cand : (((s.countEdge i fun _ => 0).capture i s.instant).updCand i (Cand.gather s.crossesLate (Meas.divided s.instant))).cand i =
      ({ (s.cand i).seen s.crossesLate true s.instant with divCount := 0 } : Cand).gather s.crossesLate (Meas.divided s.instant) := by
    rw [State.cand_updCand_self _ _ (by omega)]
    exact congrArg _ (s.cand_countEdge (fun _ => 0) (by omega))
  have counts := (s.countEdge i fun _ => 0).dividedEdge_counts i s.instant
  rw [late] at counts
  rw [s.judgeEdge_of_divided i long enough, counts, State.counts, cand, Cand.counts_of_divided]
  rfl

end Sys2Proof.Machine

open Sys2Proof Sys2Proof.Machine

/-- Settles O24, branch by branch of the edge's way: the filter, the runt, the activity window, the divider; what the divided edge's sample and index edges
leave alone is `State.dividedEdge_counts`. -/
theorem referenceEdgesAreMeasured : Obligations.ReferenceEdgesAreMeasured := by
  intro s i rising phase t active narrow width m
  have gathered (c : Cand) : m c = c.gathered (s.setNow t).crossesLate := rfl
  have self (f : Cand → Cand) : ((s.setNow t).updCand i f).cand i = f (s.cand i) := (s.setNow t).cand_updCand_self f (by omega)
  refine ⟨exec_refEdge_of_off, fun on up awake => ⟨fun thin => ?_, fun wide stopped => ?_, fun wide clean alive => ⟨fun short => ?_, fun long edge => ?_,
    fun long edge few => ?_, fun long edge enough => ?_⟩⟩⟩
  · refine ⟨_, exec_refEdge_of_stopped on up awake thin (.inl rfl), ?_⟩
    rw [State.deglitch_of_narrow, self]
    refine ⟨?_, rfl, Cand.gather_lastEdge _ _ _, Cand.gather_divCount _ _ _, rfl⟩
    exact congrArg Meas.removed (Cand.gather_gathered (s.setNow t).crossesLate _ (s.cand i))
  · refine exec_refEdge_of_stopped on up awake wide (stopped.imp_left fun glitch => ?_)
    simp [Cand.passes, glitch]
  · rw [exec_refEdge_of_passed on up awake wide clean alive (active := active) rfl,
      (s.setNow t).judgeEdge_of_runt i (width := max phase.raw phase.kept) short]
    refine ⟨_, rfl, ?_⟩
    rw [self, gathered, gathered, Cand.gather_gathered, Cand.seen_gathered, Cand.gather_divCount, Cand.seen_divCount, Cand.gather_lastEdge, Cand.seen_lastEdge]
    exact ⟨rfl, rfl, rfl, rfl, rfl⟩
  · rw [exec_refEdge_of_passed on up awake wide clean alive edge, (s.setNow t).judgeEdge_of_inactive i long]
    refine ⟨_, rfl, ?_⟩
    rw [self]
    exact ⟨rfl, rfl, rfl, rfl⟩
  · rw [exec_refEdge_of_passed on up awake wide clean alive edge, (s.setNow t).judgeEdge_of_undivided i long few]
    refine ⟨_, rfl, ?_⟩
    rw [State.cand_countEdge _ _ (by omega)]
    exact ⟨rfl, rfl, rfl, rfl, rfl, rfl⟩
  · rw [exec_refEdge_of_passed on up awake wide clean alive edge]
    have counts := (s.setNow t).judgeEdge_counts_of_divided i long enough
    simp only [State.counts, Cand.counts, Prod.mk.injEq] at counts
    obtain ⟨⟨divider, act, edge, first, last, edges⟩, tdc, tod, cfg, lp, sel⟩ := counts
    exact ⟨_, rfl, divider, act, edge, edges, last, first, tdc, congrArg Tod.ppsEdges tod, cfg, lp, sel⟩
end

section
/-! The monitors' reports: an activity window that expires, a precise gate that ends, a qualification, an interval measurement without a result and a code
error, with O25 (01 R31, R32; 02 R39, R40, R43, R47, R48, R59; 10 R225; 11 R244). -/

namespace Sys2Proof.Machine

/-! ### Trips and events -/

/-- What happens in another domain counts one occurrence of its source in the fold in hand, unless it crosses too late (01 R29–R31). -/
theorem State.raiseFrom_count {s : State} (id detail : Nat) (known : id < 288) (inTime : s.crossesLate = false) :
    ((s.raiseFrom id detail).ev.srcs.getD id {}).count = (s.ev.srcs.getD id {}).count + 1 := by
  rw [State.raiseFrom, if_neg (by simp [inTime]), State.raise_count, if_pos ⟨rfl, known⟩]

/-- A trip sets its bit in what the snapshot shows, and no other. -/
def Meas.trip (k : Nat) (m : Meas) : Meas := { m with trips := m.trips ||| BitVec.ofNat 6 (2 ^ k) }

theorem State.trip_eq (s : State) (i k : Nat) : s.trip i k = s.updCand i (Cand.gather s.crossesLate (Meas.trip k)) := s.gather_eq i _

theorem Meas.trip_getLsbD_self (m : Meas) {k : Nat} (known : k < 6) : (m.trip k).trips.getLsbD k = true := by
  simp only [Meas.trip, BitVec.getLsbD_or, BitVec.getLsbD_ofNat, Nat.testBit_two_pow_self, known, decide_true, Bool.and_self, Bool.or_true]

/-! ### The activity window -/

/-- Activity lost: the candidate is inactive, and the snapshot shows LOS (02 R39). -/
def Cand.lost (late : Bool) (c : Cand) : Cand :=
  Cand.gather late (Meas.trip 0) { c with active := false, wasActive := if late then c.wasActive.orElse fun _ => some c.active else c.wasActive }

/-- The loss as it is told, before the freeze: the candidate, LOS, and what the commons MAC's slot is to learn. -/
def State.tellLoss (s : State) (i : Nat) : State :=
  let s1 := (s.updCand i (Cand.lost s.crossesLate)).raiseFrom (8 * i) (((s.cand i).lastEdge.map s.nsOf).getD 0)
  if i = 7 then { s1 with com := { s1.com with lost := true } } else s1

theorem State.loseActivity_eq (s : State) (i : Nat) :
    s.loseActivity i = if s.sel.bell = some i then (s.tellLoss i).freezeIfSteering else s.tellLoss i := by
  have told : (s.setActive i false).trip i 0 = s.updCand i (Cand.lost s.crossesLate) := by
    rw [State.trip_eq, State.setActive, State.updCand_updCand]
    rfl
  rw [State.loseActivity, told]
  rfl

/-- The loss writes candidates, events and what the MAC is to learn. -/
theorem State.tellLoss_keeps {β : Type} (g : State → β) (s : State) (i : Nat)
    (blind : ∀ s cands ev com, g { s with cands := cands, ev := ev, com := com } = g s) :
    g (s.tellLoss i) = g s := by
  unfold State.tellLoss State.raiseFrom
  dsimp only
  (repeat' split) <;> exact blind s _ _ _

theorem State.tellLoss_cand (s : State) {i : Nat} (small : i < 8) : (s.tellLoss i).cand i = (s.cand i).lost s.crossesLate := by
  have raised (id d : Nat) : ((s.updCand i (Cand.lost s.crossesLate)).raiseFrom id d).cand i = (s.cand i).lost s.crossesLate := by
    rw [State.cand, State.raiseFrom_cands]
    exact s.cand_updCand_self _ small
  unfold State.tellLoss
  dsimp only
  split <;> exact raised _ _

theorem State.freezeIfSteering_keeps {β : Type} (g : State → β) (blind : ∀ s lp, g { s with lp := lp } = g s) (s : State) : g s.freezeIfSteering = g s := by
  unfold State.freezeIfSteering
  split
  · exact blind s _
  · rfl

@[simp] theorem Cand.lost_active (late : Bool) (c : Cand) : (c.lost late).active = false := Cand.gather_active _ _ _

theorem Cand.lost_trips (late : Bool) (c : Cand) : ((c.lost late).gathered late).trips.getLsbD 0 = true := by
  rw [Cand.lost, Cand.gather_gathered]
  exact Meas.trip_getLsbD_self _ (by decide)

theorem State.tellLoss_com (s : State) (i : Nat) : (s.tellLoss i).com = if i = 7 then { s.com with lost := true } else s.com := by
  unfold State.tellLoss
  dsimp only
  split <;> rw [State.raiseFrom_com, State.updCand_com]

theorem State.tellLoss_count {s : State} {i : Nat} (small : i < 8) (inTime : s.crossesLate = false) :
    ((s.tellLoss i).ev.srcs.getD (8 * i) {}).count = (s.ev.srcs.getD (8 * i) {}).count + 1 := by
  have counted (d : Nat) := State.raiseFrom_count (s := s.updCand i (Cand.lost s.crossesLate)) (8 * i) d (by omega) inTime
  unfold State.tellLoss
  dsimp only
  split <;> exact counted _

/-- The freeze, where it comes, writes the loop alone. -/
theorem State.loseActivity_keeps {β : Type} (g : State → β) (blind : ∀ s lp, g { s with lp := lp } = g s) (s : State) (i : Nat) :
    g (s.loseActivity i) = g (s.tellLoss i) := by
  rw [State.loseActivity_eq]
  split
  · exact State.freezeIfSteering_keeps g blind _
  · rfl

/-- The loss of the bellwether freezes a loop that steers (01 R26; 02 R40). -/
theorem State.loseActivity_of_steering {s : State} {i : Nat} (bell : s.sel.bell = some i) (steers : s.steering = true) :
    (s.loseActivity i).lp = s.freezeInFold.lp := by
  have lp : (s.tellLoss i).lp = s.lp := s.tellLoss_keeps State.lp i fun _ _ _ _ => rfl
  have still : (s.tellLoss i).steering = true := by rw [State.steering, lp]; exact steers
  rw [State.loseActivity_eq, if_pos bell, State.freezeIfSteering, if_pos still, State.freezeInFold, lp]
  rfl

section
variable {s : State} {i : Fin 8} {t : Nat}

theorem exec_activityWindowExpiry_of_expired (up : s.pow.held = false) (awake : s.pow.state ≠ .sleep) (expired : (s.setNow t).windowExpired i = true) :
    exec (.activityWindowExpiry i t) s = .next ((s.setNow t).loseActivity i) := by
  show Host.Outcome.next (ite _ _ _) = _
  rw [if_neg (by simp [up, awake, expired])]

theorem exec_activityWindowExpiry_of_not (rests : (s.setNow t).windowExpired i = false ∨ s.pow.held = true ∨ s.pow.state = .sleep) :
    exec (.activityWindowExpiry i t) s = .next (s.setNow t) := by
  show Host.Outcome.next (ite _ _ _) = _
  rw [if_pos (by rcases rests with rests | rests | rests <;> simp [rests])]

end

/-! ### The precise gate -/

theorem beyond_eq_zero_iff (x thr : Fu) : beyond x thr = 0 ↔ ¬(thr < x ∨ thr < -x) := by
  unfold beyond
  (repeat' split) <;> simp_all

theorem State.freqEvent_writes (s : State) (i mon : Nat) (x : Fu) (dir : Int) : ∃ ev, s.freqEvent i mon x dir = { s with ev := ev } := by
  unfold State.freqEvent
  split <;> exact ⟨_, rfl⟩

/-- The candidate with the offset `y` that a gate which began at `start` has measured (02 R43, R47). -/
def Cand.measured (thr : Fu) (start : Nat) (y : Fu) (c : Cand) : Cand :=
  { c with
    gateEnd := none
    precOffset := y
    precDir := beyond y thr
    precClean := c.precClean || (decide (beyond y thr = 0) && c.timing && foldAt c.timerFrom ≤ start) }

/-- With the trip of an offset beyond PREC_THR. -/
def Cand.report (late : Bool) (thr : Fu) (start : Nat) (y : Fu) (c : Cand) : Cand :=
  if beyond y thr = 0 then c.measured thr start y else (c.measured thr start y).gather late (Meas.trip 2)

theorem Cand.report_precOffset (late : Bool) (thr : Fu) (start : Nat) (y : Fu) (c : Cand) : (c.report late thr start y).precOffset = y := by
  unfold Cand.report
  split
  · rfl
  · exact Cand.gather_keeps Cand.precOffset late _ _ fun _ _ _ => rfl

theorem Cand.report_gateEnd (late : Bool) (thr : Fu) (start : Nat) (y : Fu) (c : Cand) : (c.report late thr start y).gateEnd = none := by
  unfold Cand.report
  split
  · rfl
  · exact Cand.gather_keeps Cand.gateEnd late _ _ fun _ _ _ => rfl

theorem Cand.report_trips (late : Bool) (thr : Fu) (start : Nat) (y : Fu) (c : Cand) : ((c.report late thr start y).gathered late).trips.getLsbD 2 = true ↔
    (c.gathered late).trips.getLsbD 2 = true ∨ thr < y ∨ thr < -y := by
  unfold Cand.report
  split
  case isTrue within => exact (or_iff_left ((beyond_eq_zero_iff y thr).mp within)).symm
  case isFalse outside =>
    rw [Cand.gather_gathered, Meas.trip_getLsbD_self _ (by decide)]
    exact iff_of_true rfl (.inr (not_not.mp (mt (beyond_eq_zero_iff y thr).mpr outside)))

theorem State.updCand_report (s : State) (i : Nat) (thr : Fu) (start : Nat) (y : Fu) : s.updCand i (Cand.report s.crossesLate thr start y) =
    if beyond y thr = 0 then s.updCand i (Cand.measured thr start y) else (s.updCand i (Cand.measured thr start y)).trip i 2 := by
  split
  case isTrue within => exact congrArg (s.updCand i) (funext fun c => if_pos within)
  case isFalse outside =>
    rw [State.trip_eq, State.updCand_updCand]
    exact congrArg (s.updCand i) (funext fun c => if_neg outside)

/-- The report is the candidate's, with FREQ_HI or FREQ_LO of an offset beyond the threshold. -/
def State.reportGate (s : State) (i start : Nat) (y : Fu) : State :=
  (s.updCand i (Cand.report s.crossesLate (s.refCfg i).precThr start y)).freqEvent i 1 y (beyond y (s.refCfg i).precThr)

theorem State.reportGate_cand (s : State) {i : Nat} (start : Nat) (y : Fu) (small : i < 8) :
    (s.reportGate i start y).cand i = (s.cand i).report s.crossesLate (s.refCfg i).precThr start y := by
  obtain ⟨ev, writes⟩ := (s.updCand i (Cand.report s.crossesLate (s.refCfg i).precThr start y)).freqEvent_writes i 1 y (beyond y (s.refCfg i).precThr)
  rw [State.reportGate, writes]
  exact s.cand_updCand_self _ small

theorem State.reportGate_keeps {β : Type} (g : State → β) (blind : ∀ s cands ev, g { s with cands := cands, ev := ev } = g s)
    (s : State) (i start : Nat) (y : Fu) : g (s.reportGate i start y) = g s := by
  obtain ⟨ev, writes⟩ := (s.updCand i (Cand.report s.crossesLate (s.refCfg i).precThr start y)).freqEvent_writes i 1 y (beyond y (s.refCfg i).precThr)
  rw [State.reportGate, writes]
  exact blind s _ ev

section
variable {s : State} {i : Fin 8} {t : Nat}

/-- A gate of an active candidate's running monitor reports in steps of 0.01 ppm. -/
theorem exec_preciseGateEnd_of_offset (runs : s.schedule = true) {start : Nat} {x : Fu}
    (ended : (s.cand i).gateEnd = some { start := start, offset := some x }) (on : (s.refCfg i).en.getLsbD 1 = true) (active : (s.cand i).active = true) :
    exec (.preciseGateEnd i .ofState t) s = .next ((s.setNow t).reportGate i start (satFu (roundStep x 10000000))) := by
  have ended' : ((s.setNow t).cand i).gateEnd = some { start := start, offset := some x } := ended
  have on' : ((s.setNow t).refCfg i).en.getLsbD 1 = true := on
  have active' : ((s.setNow t).cand i).active = true := active
  show execPreciseGateEnd i .ofState t s = _
  unfold execPreciseGateEnd State.ifScheduled
  dsimp only
  rw [State.setNow_schedule, if_pos runs, ended']
  dsimp only
  rw [if_neg (by simp [on', active']), State.updCand_updCand]
  exact congrArg (fun s1 : State => Host.Outcome.next (s1.freqEvent i 1 _ _)) (State.updCand_report (s.setNow t) i _ start _).symm

theorem exec_preciseGateEnd_of_rest (rests : s.schedule = false) : exec (.preciseGateEnd i .ofState t) s = .next (s.setNow t) := by
  show execPreciseGateEnd i .ofState t s = _
  unfold execPreciseGateEnd State.ifScheduled
  dsimp only
  rw [State.setNow_schedule, if_neg (by simp [rests])]

/-- A gate without an offset, of a monitor that is off or of an inactive candidate, ends without a report (log 76). -/
theorem exec_preciseGateEnd_of_silent (runs : s.schedule = true)
    (silent : ((s.cand i).gateEnd.bind fun g => g.offset) = none ∨ (s.refCfg i).en.getLsbD 1 = false ∨ (s.cand i).active = false) :
    exec (.preciseGateEnd i .ofState t) s = .next ((s.setNow t).updCand i fun c => { c with gateEnd := none }) := by
  have silent' : (((s.setNow t).cand i).gateEnd.bind fun g => g.offset) = none ∨ ((s.setNow t).refCfg i).en.getLsbD 1 = false ∨
    ((s.setNow t).cand i).active = false := silent
  show execPreciseGateEnd i .ofState t s = _
  unfold execPreciseGateEnd State.ifScheduled
  dsimp only
  rw [State.setNow_schedule, if_pos runs]
  split
  case h_1 start x ended =>
    rw [if_pos]
    rw [ended] at silent'
    rcases silent' with silent' | silent' | silent'
    · cases silent'
    · rw [silent']; rfl
    · rw [silent']; simp
  · rfl

end

/-! ### Qualification -/

/-- What R47 and R48 hold of a candidate, which the fast and runt monitors leave alone. -/
def Cand.qualState (c : Cand) : Bool × Bool × Nat × Bool × BitVec 6 := (c.qualified, c.timing, c.timer, c.precClean, c.dqCause)

/-- That of candidate `i`, with the settings and the selector. -/
def State.qualState (i : Nat) (s : State) : (Bool × Bool × Nat × Bool × BitVec 6) × Settings × Selector := ((s.cand i).qualState, s.cfg, s.sel)

section
variable (i : Nat)

theorem State.updCand_qualState {s : State} {j : Nat} {f : Cand → Cand} (keeps : ∀ c, (f c).qualState = c.qualState) :
    (s.updCand j f).qualState i = s.qualState i := by
  have cand : ((s.updCand j f).cand i).qualState = (s.cand i).qualState := by
    rw [State.cand_updCand]
    split
    · exact keeps _
    · rfl
  exact Prod.ext cand rfl

theorem State.freqEvent_qualState (s : State) (j mon : Nat) (x : Fu) (dir : Int) : (s.freqEvent j mon x dir).qualState i = s.qualState i := by
  obtain ⟨ev, writes⟩ := s.freqEvent_writes j mon x dir
  rw [writes]
  rfl

theorem State.fastMonitor_qualState (s : State) (j : Nat) (model : Fu) : (s.fastMonitor j model).qualState i = s.qualState i := by
  unfold State.fastMonitor
  dsimp only
  split
  · exact State.updCand_qualState i fun _ => rfl
  · split
    · split
      · rfl
      · rw [State.freqEvent_qualState]
        exact State.updCand_qualState i fun _ => rfl
    · rfl

theorem State.runtMonitor_qualState (s : State) (j : Nat) : (s.runtMonitor j).qualState i = s.qualState i := by
  unfold State.runtMonitor
  dsimp only
  split
  · rfl
  · exact State.updCand_qualState i (f := fun c => { c with latched := { c.latched with trips := c.latched.trips ||| 16 } }) fun _ => rfl

/-- The conditions of R47 read nothing else. -/
theorem State.qualifies_congr {s s' : State} (same : s'.qualState i = s.qualState i) : s'.qualifies i = s.qualifies i := by
  simp only [State.qualState, Cand.qualState, Prod.mk.injEq] at same
  obtain ⟨⟨qualified, timing, timer, clean, -⟩, cfg, -⟩ := same
  have refCfg : s'.refCfg i = s.refCfg i := by rw [State.refCfg, cfg, State.refCfg]
  have refOff : s'.refOff i = s.refOff i := by rw [State.refOff, refCfg, State.refOff]
  rw [State.qualifies, refOff, refCfg, qualified, timing, timer, clean]
  rfl

end

/-- The fold's measurements judged: what stands before the causes are weighed. -/
def State.monitored (s : State) (model : Fu) (i : Nat) : State := (s.fastMonitor i model).runtMonitor i

theorem State.monitored_qualState (s : State) (model : Fu) (i : Nat) : (s.monitored model i).qualState i = s.qualState i :=
  (State.runtMonitor_qualState i _ _).trans (State.fastMonitor_qualState i _ _ _)

theorem State.disqualify_qualState (s : State) {i : Nat} (causes : BitVec 6) (small : i < 8) : (s.disqualify i causes).qualState i =
    ((false, false, 0, false, (if (s.cand i).qualified then 0 else (s.cand i).dqCause) ||| causes), s.cfg, s.sel) := by
  have frozen (s : State) : s.freezeIfSteering.qualState i = s.qualState i := State.freezeIfSteering_keeps (State.qualState i) (fun _ _ => rfl) s
  have updated (f : Cand → Cand) (id d : Nat) : ((s.updCand i f).raise id d).qualState i = ((f (s.cand i)).qualState, s.cfg, s.sel) :=
    Prod.ext (congrArg Cand.qualState (s.cand_updCand_self f small)) rfl
  unfold State.disqualify
  dsimp only
  split
  · rw [frozen, updated]
    rfl
  · rw [updated]
    rfl

theorem State.timing_of_qualifies {s : State} {i : Nat} (holds : s.qualifies i = true) : (s.cand i).timing = true ∧ (s.cand i).qualified = false := by
  simp only [State.qualifies, Bool.and_eq_true, Bool.not_eq_true'] at holds
  obtain ⟨⟨⟨⟨-, timing⟩, fresh⟩, -⟩, -⟩ := holds
  exact ⟨timing, fresh⟩

/-- A candidate whose conditions hold and whose timer runs qualifies with its causes cleared (02 R47). -/
theorem State.qualify_qualState {s : State} {i : Nat} (small : i < 8) (holds : s.qualifies i = true) :
    ((s.qualTimer i).qualify i).qualState i = ((true, (s.cand i).timing, (s.cand i).timer, (s.cand i).precClean, 0), s.cfg, s.sel) := by
  have running : s.qualTimer i = s := by
    rw [State.qualTimer, if_neg (by simp [(State.timing_of_qualifies holds).1])]
  rw [running, State.qualify, if_pos holds]
  exact Prod.ext (congrArg Cand.qualState (s.cand_updCand_self (fun c => { c with qualified := true, dqCause := 0 }) small)) rfl

/-- A candidate judged: without a cause the timer and the qualification, with one the disqualification (02 R47, R48). -/
theorem State.judge_qualState (s : State) (model : Fu) (i : Nat) : (s.judge model i).qualState i =
    (if (s.monitored model i).dqTrips i ≠ 0 then (s.monitored model i).disqualify i ((s.monitored model i).dqTrips i)
      else ((s.monitored model i).qualTimer i).qualify i).qualState i :=
  State.updCand_qualState i fun _ => rfl

/-- A candidate that waits for its qualification: without a cause it is qualified and its causes are cleared, with one it is not and its timer restarts. -/
theorem State.judge_qualState_of_qualifies {s : State} {i : Nat} (model : Fu) (small : i < 8) (holds : s.qualifies i = true) : (s.judge model i).qualState i =
    (if (s.monitored model i).dqTrips i = 0 then (true, (s.cand i).timing, (s.cand i).timer, (s.cand i).precClean, 0)
      else (false, false, 0, false, (s.cand i).dqCause ||| (s.monitored model i).dqTrips i), s.cfg, s.sel) := by
  have before := s.monitored_qualState model i
  have holds' := (State.qualifies_congr i before).trans holds
  simp only [State.qualState, Cand.qualState, Prod.mk.injEq] at before
  obtain ⟨⟨qualified, timing, timer, clean, cause⟩, cfg, sel⟩ := before
  rw [State.judge_qualState, ite_not]
  split
  · rw [State.qualify_qualState small holds', timing, timer, clean, cfg, sel]
  · rw [State.disqualify_qualState _ _ small, qualified, (State.timing_of_qualifies holds).2, cause, cfg, sel]
    rfl

theorem exec_qualificationTimerExpiry_of_due {s : State} {i : Fin 8} {t : Nat} (due : s.slotDue 4 t = true) (holds : (s.setNow t).qualifies i = true) :
    exec (.qualificationTimerExpiry i t) s = .next ((s.setNow t).judge (s.setNow t).model i) :=
  congrArg _ (if_pos (by rw [due, holds]; rfl))

theorem exec_qualificationTimerExpiry_of_not {s : State} {i : Fin 8} {t : Nat} (rests : s.slotDue 4 t = false ∨ (s.setNow t).qualifies i = false) :
    exec (.qualificationTimerExpiry i t) s = .next (s.setNow t) :=
  congrArg _ (if_neg (by rcases rests with rests | rests <;> simp [rests]))

/-! ### Interval measurements and code errors -/

theorem exec_codeError_of_on {s : State} (t : Nat) (on : s.drv.state ≠ .off) : exec (.codeError t) s =
    .next (({ s.setNow t with drv := { s.drv with codeErrors := s.drv.codeErrors + 1 } } : State).updCand 6
      (Cand.gather (s.setNow t).crossesLate fun m => { m with runts := m.runts + 1 })) := by
  show execCodeError t s = _
  unfold execCodeError
  dsimp only
  rw [State.setNow_drv, if_neg on, State.gather_eq]
  rfl

theorem exec_codeError_of_off {s : State} (t : Nat) (off : s.drv.state = .off) : exec (.codeError t) s = .next (s.setNow t) := if_pos off

end Sys2Proof.Machine

open Sys2Proof Sys2Proof.Machine

/-- Settles O25, row by row: a loss as it is told and the freeze after it, a gate's report, a candidate judged, and what the last two rows write. -/
theorem referenceMonitorsReport : Obligations.ReferenceMonitorsReport := by
  intro s t m
  have gathered (c : Cand) : m c = c.gathered (s.setNow t).crossesLate := rfl
  refine ⟨fun i up awake expired => ?_, fun i => exec_activityWindowExpiry_of_not, fun i start x ended on active runs => ?_,
    fun rests i => exec_preciseGateEnd_of_rest rests, fun i runs => exec_preciseGateEnd_of_silent runs, fun i due holds => ?_,
    fun i => exec_qualificationTimerExpiry_of_not, fun p armed passed => ?_, fun on => ?_, exec_codeError_of_off t⟩
  · have small : i.val < 8 := i.isLt
    have cand : (((s.setNow t).loseActivity i).cand i) = (s.cand i).lost (s.setNow t).crossesLate :=
      (State.loseActivity_keeps (State.cand · i) (fun _ _ => rfl) _ _).trans (State.tellLoss_cand _ small)
    have com : ((s.setNow t).loseActivity i).com = if i.val = 7 then { s.com with lost := true } else s.com :=
      (State.loseActivity_keeps State.com (fun _ _ => rfl) _ _).trans (State.tellLoss_com _ i)
    refine ⟨_, exec_activityWindowExpiry_of_expired up awake expired, ?_, ?_, fun inTime => ?_, fun last => ?_, fun other => ?_, fun bell steers => ?_⟩
    · rw [cand, Cand.lost_active]
    · rw [cand, gathered, Cand.lost_trips]
    · rw [State.loseActivity_keeps State.ev (fun _ _ => rfl), State.tellLoss_count small inTime]
      rfl
    · exact com.trans (if_pos (congrArg Fin.val last))
    · exact com.trans (if_neg fun seven => other (Fin.ext seven))
    · rw [State.loseActivity_of_steering (s := s.setNow t) bell steers]
      exact ⟨rfl, rfl, rfl⟩
  · have small : i.val < 8 := i.isLt
    have cand := (s.setNow t).reportGate_cand start (satFu (roundStep x 10000000)) small
    refine ⟨_, exec_preciseGateEnd_of_offset runs ended on active, ?_, ?_, ?_, State.reportGate_keeps State.cfg (fun _ _ _ => rfl) _ _ _ _,
      State.reportGate_keeps State.sel (fun _ _ _ => rfl) _ _ _ _, State.reportGate_keeps State.lp (fun _ _ _ => rfl) _ _ _ _⟩
    · rw [cand, Cand.report_precOffset]
    · rw [cand, Cand.report_gateEnd]
    · rw [cand, gathered, gathered]
      exact Cand.report_trips _ _ start _ (s.cand i)
  · have small : i.val < 8 := i.isLt
    have judged := State.judge_qualState_of_qualifies (s.setNow t).model small holds
    simp only [State.qualState, Prod.mk.injEq] at judged
    obtain ⟨cand, cfg, sel⟩ := judged
    refine ⟨_, exec_qualificationTimerExpiry_of_due due holds, cfg, sel, fun clean => ?_, fun trips => ?_⟩
    · obtain ⟨qualified, -, -, -, cause⟩ : _ ∧ _ ∧ _ ∧ _ ∧ _ := by simpa only [Cand.qualState, Prod.mk.injEq] using cand.trans (if_pos clean)
      exact ⟨qualified, cause⟩
    · obtain ⟨qualified, -, timer, -, cause⟩ : _ ∧ _ ∧ _ ∧ _ ∧ _ := by simpa only [Cand.qualState, Prod.mk.injEq] using cand.trans (if_neg trips)
      exact ⟨qualified, timer, cause⟩
  · exact ⟨_, rfl, (Vec_getD_upd_same s.tdc p _ {} p.isLt).trans (if_pos (by simp [armed, passed])), rfl⟩
  · rw [exec_codeError_of_on t on]
    refine ⟨_, rfl, rfl, ?_, rfl⟩
    rw [gathered, State.cand_updCand_self _ _ (by decide), Cand.gather_gathered]
    rfl
end

section
/-! What the selector's scan chooses, and what the reference-monitor slot leaves alone (02 R42–R49; 03 R60–R68; 06 R151). -/

namespace Sys2Proof.Machine

/-! ### The order of the candidates -/

/-- What R61 compares: the effective grade, and on equal grades the priority; the less is the better. -/
def State.merit (s : State) (i : Nat) : ℕ ×ₗ ℕ := toLex (s.egrade i, (s.refCfg i).prio)

theorem State.merit_lt_iff (s : State) (i b : Nat) :
    s.merit i < s.merit b ↔ s.egrade i < s.egrade b ∨ (s.egrade i = s.egrade b ∧ (s.refCfg i).prio < (s.refCfg b).prio) :=
  Prod.Lex.toLex_lt_toLex

theorem State.merit_le_iff (s : State) (i b : Nat) :
    s.merit i ≤ s.merit b ↔ s.egrade i < s.egrade b ∨ (s.egrade i = s.egrade b ∧ (s.refCfg i).prio ≤ (s.refCfg b).prio) :=
  Prod.Lex.toLex_le_toLex

theorem State.merit_eq_iff (s : State) (i b : Nat) :
    s.merit i = s.merit b ↔ s.egrade i = s.egrade b ∧ (s.refCfg i).prio = (s.refCfg b).prio := by
  simp [State.merit]

/-- Only the eight candidates qualify (02 R51). -/
theorem State.lt_of_eligible {s : State} {i : Nat} (ok : s.eligible i = true) : i < 8 := by
  by_contra outside
  have absent : s.cand i = {} := List.getD_eq_default _ _ (by rw [s.cands.length_eq]; omega)
  simp [State.eligible, absent] at ok

/-! ### The scan -/

section
variable {s : State} {i : Nat}

theorem State.better_of_not_eligible (best : Option Nat) (out : s.eligible i = false) : s.better best i = best := by
  simp [State.better, out]

theorem State.better_none (ok : s.eligible i = true) : s.better none i = some i := by
  simp [State.better, ok]

theorem State.better_some (b : Nat) (ok : s.eligible i = true) : s.better (some b) i = if s.merit i < s.merit b then some i else some b := by
  simp only [State.better, ok, State.merit_lt_iff, ite_or, Bool.not_true, Bool.false_eq_true, if_false, Bool.and_eq_true, decide_eq_true_eq]

end

/-- `best` is the first of the best among the eligible candidates below `n`. -/
def State.FirstBest (s : State) (n : Nat) : Option Nat → Prop
  | none => ∀ i < n, s.eligible i = false
  | some b => b < n ∧ s.eligible b = true ∧ ∀ i < n, s.eligible i = true → s.merit b ≤ s.merit i ∧ (i < b → s.merit b < s.merit i)

/-- One turn of R61's loop. -/
theorem State.FirstBest.better {s : State} {n : Nat} {best : Option Nat} (h : s.FirstBest n best) : s.FirstBest (n + 1) (s.better best n) := by
  cases ok : s.eligible n with
  | false =>
    rw [State.better_of_not_eligible best ok]
    cases best with
    | none => exact Nat.forall_lt_succ_right.mpr ⟨h, ok⟩
    | some b =>
      obtain ⟨below, good, least⟩ := h
      exact ⟨by omega, good, Nat.forall_lt_succ_right.mpr ⟨least, fun fit => by simp [ok] at fit⟩⟩
  | true =>
    cases best with
    | none =>
      rw [State.better_none ok]
      exact ⟨n.lt_succ_self, ok, Nat.forall_lt_succ_right.mpr
        ⟨fun i lower fit => by simp [h i lower] at fit, fun _ => ⟨le_rfl, fun self => absurd self n.lt_irrefl⟩⟩⟩
    | some b =>
      obtain ⟨below, good, least⟩ := h
      rw [State.better_some b ok]
      split
      case isTrue beats =>
        have ahead (i : Nat) (lower : i < n) (fit : s.eligible i = true) : s.merit n < s.merit i := beats.trans_le (least i lower fit).1
        exact ⟨n.lt_succ_self, ok, Nat.forall_lt_succ_right.mpr
          ⟨fun i lower fit => ⟨(ahead i lower fit).le, fun _ => ahead i lower fit⟩, fun _ => ⟨le_rfl, fun self => absurd self n.lt_irrefl⟩⟩⟩
      case isFalse kept =>
        exact ⟨by omega, good, Nat.forall_lt_succ_right.mpr ⟨least, fun _ => ⟨not_lt.mp kept, fun before => absurd before below.not_gt⟩⟩⟩

/-- R61's loop over the candidates below `n`. -/
theorem State.firstBest_scan (s : State) (n : Nat) : s.FirstBest n ((List.range n).foldl s.better none) := by
  induction n with
  | zero => exact fun i below => absurd below i.not_lt_zero
  | succ n ih =>
    rw [List.range_succ, List.foldl_append]
    exact ih.better

/-! ### The choice -/

/-- What the scan finds, before the bellwether is weighed. -/
def State.scanned (s : State) : Option Nat := (List.range 8).foldl s.better none

theorem State.firstBest_scanned (s : State) : s.FirstBest 8 s.scanned := s.firstBest_scan 8

/-- `w` is the bellwether and ties with `x`. -/
def State.BellTies (s : State) (w x : Nat) : Prop := s.sel.bell = some w ∧ s.eligible w = true ∧ s.merit w = s.merit x

theorem State.rank_of_scanned_none {s : State} (found : s.scanned = none) : s.rank = none := by
  rw [State.rank, ← State.scanned, found]
  cases s.sel.bell <;> rfl

theorem State.rank_of_tie {s : State} {w x : Nat} (found : s.scanned = some x) (tie : s.BellTies w x) : s.rank = some w := by
  obtain ⟨bell, ok, same⟩ := tie
  obtain ⟨grade, prio⟩ := (s.merit_eq_iff w x).mp same
  rw [State.rank, ← State.scanned, found, bell]
  simp [ok, grade, prio]

theorem State.rank_of_no_tie {s : State} {x : Nat} (found : s.scanned = some x) (noTie : ∀ w, ¬s.BellTies w x) : s.rank = some x := by
  rw [State.rank, ← State.scanned, found]
  cases bell : s.sel.bell with
  | none => rfl
  | some w =>
    have differs := noTie w
    simp only [State.BellTies, bell, State.merit_eq_iff, true_and] at differs
    simpa [and_assoc] using fun ok grade prio => absurd ⟨ok, grade, prio⟩ differs

/-- The choice of R61 and R62: an eligible candidate of the least grade and priority, the bellwether where it ties, else the first. -/
structure State.Chosen (s : State) (b : Nat) : Prop where
  eligible : s.eligible b = true
  least : ∀ i, s.eligible i = true → s.merit b ≤ s.merit i
  keepsBell : ∀ w, s.BellTies w b → b = w
  first : s.sel.bell ≠ some b → ∀ i < b, s.eligible i = true → s.merit i ≠ s.merit b

theorem State.rank_eq_none_iff (s : State) : s.rank = none ↔ ∀ i < 8, s.eligible i = false := by
  have best := s.firstBest_scanned
  cases found : s.scanned with
  | none =>
    rw [found] at best
    exact iff_of_true (State.rank_of_scanned_none found) best
  | some x =>
    rw [found] at best
    obtain ⟨small, good, -⟩ := best
    refine iff_of_false (fun none => ?_) fun empty => by simp [empty x small] at good
    by_cases tie : ∃ w, s.BellTies w x
    · obtain ⟨w, tie⟩ := tie
      cases (State.rank_of_tie found tie).symm.trans none
    · cases (State.rank_of_no_tie found (not_exists.mp tie)).symm.trans none

theorem State.chosen_of_rank {s : State} {b : Nat} (h : s.rank = some b) : s.Chosen b := by
  have best := s.firstBest_scanned
  cases found : s.scanned with
  | none => cases (State.rank_of_scanned_none found).symm.trans h
  | some x =>
    rw [found] at best
    obtain ⟨-, good, least⟩ := best
    by_cases tie : ∃ w, s.BellTies w x
    · obtain ⟨w, tie⟩ := tie
      obtain rfl : w = b := Option.some.inj ((State.rank_of_tie found tie).symm.trans h)
      obtain ⟨bell, ok, same⟩ := tie
      exact
        { eligible := ok
          least := fun i fit => same ▸ (least i (State.lt_of_eligible fit) fit).1
          keepsBell := fun v ⟨bell', _⟩ => Option.some.inj (bell.symm.trans bell')
          first := fun other => absurd bell other }
    · obtain rfl : x = b := Option.some.inj ((State.rank_of_no_tie found (not_exists.mp tie)).symm.trans h)
      exact
        { eligible := good
          least := fun i fit => (least i (State.lt_of_eligible fit) fit).1
          keepsBell := fun w same => absurd ⟨w, same⟩ tie
          first := fun _ i lower fit => ((least i (State.lt_of_eligible fit) fit).2 lower).ne' }

/-! ### The pass -/

theorem State.pass_shadow (s : State) : s.pass.shadow = s.rank := by
  unfold State.pass
  dsimp only
  split
  · rfl
  · split <;> rfl

/-- The pass shows the force that it used (03 R72). -/
theorem State.pass_force (s : State) : s.pass.force = s.sel.force := by
  unfold State.pass
  dsimp only
  split
  case h_1 free => exact free.symm
  case h_2 f forced => split <;> exact forced.symm

section
variable {s : State} {f : Nat}

/-- Without a force the pass takes what R61 chooses, and is in AUTO where that is a candidate (03 R65, R66). -/
theorem State.pass_of_no_force (free : s.sel.force = none) : s.pass.bell = s.rank ∧ s.pass.state = if s.rank.isSome then .auto else .none := by
  rw [State.pass, free]
  exact ⟨rfl, rfl⟩

theorem State.pass_of_forced_eligible (forced : s.sel.force = some f) (ok : s.eligible f = true) : s.pass.bell = some f ∧ s.pass.state = .forced := by
  simp [State.pass, forced, ok]

/-- The device follows no other candidate than the forced one (03 R67). -/
theorem State.pass_of_forced_ineligible (forced : s.sel.force = some f) (out : s.eligible f = false) :
    s.pass.bell = none ∧ s.pass.state = .forcedInvalid := by
  simp [State.pass, forced, out]

end

/-! ### What the judging writes -/

/-- The judging writes the candidates and the events, and the loop only where a bellwether can freeze it (02 R49). -/
def State.Judged (s s' : State) : Prop :=
  ∃ cands ev lp, s' = { s with cands := cands, ev := ev, lp := lp } ∧ (s.sel.bell = none → lp = s.lp)

theorem State.Judged.refl (s : State) : s.Judged s := ⟨s.cands, s.ev, s.lp, rfl, fun _ => rfl⟩

theorem State.Judged.trans {a b c : State} (h : a.Judged b) (k : b.Judged c) : a.Judged c := by
  obtain ⟨_, _, _, rfl, first⟩ := h
  obtain ⟨_, _, _, rfl, second⟩ := k
  exact ⟨_, _, _, rfl, fun free => (second free).trans (first free)⟩

theorem State.Judged.ite {s a b : State} (c : Prop) [Decidable c] (ha : s.Judged a) (hb : s.Judged b) : s.Judged (if c then a else b) := by
  split
  · exact ha
  · exact hb

theorem State.Judged.updCand (s : State) (i : Nat) (f : Cand → Cand) : s.Judged (s.updCand i f) := ⟨_, _, _, rfl, fun _ => rfl⟩

theorem State.Judged.raise (s : State) (id detail : Nat) : s.Judged (s.raise id detail) := ⟨_, _, _, rfl, fun _ => rfl⟩

theorem State.Judged.freqEvent (s : State) (i mon : Nat) (x : Fu) (dir : Int) : s.Judged (s.freqEvent i mon x dir) :=
  .ite _ (.refl s) (.raise s _ _)

/-- The freeze comes to a bellwether only. -/
theorem State.Judged.freeze {s : State} {i : Nat} (bell : s.sel.bell = some i) : s.Judged s.freezeIfSteering :=
  .ite _ ⟨_, _, _, rfl, fun none => by cases bell.symm.trans none⟩ (.refl s)

theorem State.Judged.fastMonitor (s : State) (i : Nat) (model : Fu) : s.Judged (s.fastMonitor i model) := by
  unfold State.fastMonitor
  refine .ite _ (.updCand s i _) ?_
  split
  · exact .ite _ (.refl s) ((State.Judged.updCand s i _).trans (.freqEvent _ _ _ _ _))
  · exact .refl s

theorem State.Judged.runtMonitor (s : State) (i : Nat) : s.Judged (s.runtMonitor i) :=
  .ite _ (.refl s) ((State.Judged.updCand s i _).trans (.raise _ _ _))

theorem State.Judged.disqualify (s : State) (i : Nat) (causes : BitVec 6) : s.Judged (s.disqualify i causes) := by
  have told (f : Cand → Cand) (id d : Nat) : s.Judged ((s.updCand i f).raise id d) := (State.Judged.updCand s i f).trans (.raise _ id d)
  unfold State.disqualify
  dsimp only
  split
  case isTrue trips =>
    rw [Bool.and_eq_true, decide_eq_true_eq] at trips
    exact (told _ _ _).trans (.freeze trips.1)
  case isFalse => exact told _ _ _

theorem State.Judged.qualTimer (s : State) (i : Nat) : s.Judged (s.qualTimer i) := .ite _ (.updCand s i _) (.refl s)

theorem State.Judged.qualify (s : State) (i : Nat) : s.Judged (s.qualify i) :=
  .ite _ ((State.Judged.updCand s i _).trans (.raise _ _ _)) (.refl s)

theorem State.Judged.judge (s : State) (model : Fu) (i : Nat) : s.Judged (s.judge model i) := by
  have monitored : s.Judged (s.monitored model i) := (State.Judged.fastMonitor s i model).trans (.runtMonitor _ i)
  exact (monitored.trans (.ite _ (.disqualify _ i _) ((State.Judged.qualTimer _ i).trans (.qualify _ i)))).trans (.updCand _ i _)

/-- The eight candidates judged. -/
def State.judgeAll (s : State) : State := forEach (List.range 8) (fun i s => s.judge s.model i) s

theorem State.Judged.judgeAll (s : State) : s.Judged s.judgeAll :=
  forEach_inv s.Judged _ _ (fun i x h => h.trans (.judge x x.model i)) s (.refl s)

/-! ### The slot -/

/-- MON_FAIL writes the events alone (06 R151). -/
theorem forEach_monitorOut_writes (l : List Nat) (s : State) : ∃ ev, forEach l (fun o s => s.monitorOut o) s = { s with ev := ev } := by
  refine forEach_inv (fun x => ∃ ev, x = { s with ev := ev }) l _ (fun o x h => ?_) s ⟨s.ev, rfl⟩
  obtain ⟨ev, rfl⟩ := h
  unfold State.monitorOut State.raiseIf
  dsimp only
  split <;> exact ⟨_, rfl⟩

/-- The pass is that of the candidates as judged, and stands staged. -/
theorem State.monitorSlot_eq (s : State) : ∃ ev,
    s.monitorSlot = { s.judgeAll with sel := { s.judgeAll.sel with staged := some s.judgeAll.pass }, ev := ev } :=
  forEach_monitorOut_writes (List.range 16) { s.judgeAll with sel := { s.judgeAll.sel with staged := some s.judgeAll.pass } }

end Sys2Proof.Machine

open Sys2Proof Sys2Proof.Machine

/-- Settles O51: the pass is that of the candidates as the slot has judged them; its shadow is what R61 and R62 choose, and what the slot still raises changes
none of it. -/
theorem selectorPassChoosesTheBest : Obligations.SelectorPassChoosesTheBest := by
  intro s t due
  have runs : exec (.referenceMonitorsSlot t) s = .next (s.enterSlot 4 t).monitorSlot :=
    congrArg Host.Outcome.next (State.inSlot_of_due due State.monitorSlot)
  obtain ⟨ev, slot⟩ := (s.enterSlot 4 t).monitorSlot_eq
  rw [slot] at runs
  obtain ⟨_, _, _, judged, loop⟩ := State.Judged.judgeAll (s.enterSlot 4 t)
  generalize (s.enterSlot 4 t).judgeAll = x at runs judged
  have bell : x.sel.bell = s.sel.bell := judged ▸ rfl
  have force : x.sel.force = s.sel.force := judged ▸ rfl
  refine ⟨_, x.pass, runs, rfl, bell, force, judged ▸ rfl, fun free => judged ▸ loop free, judged ▸ rfl, judged ▸ rfl, ?_, fun b shadow => ?_,
    fun free => ?_, fun f forced => ?_⟩
  · rw [x.pass_shadow]
    exact x.rank_eq_none_iff
  · have best := State.chosen_of_rank (x.pass_shadow.symm.trans shadow)
    refine ⟨State.lt_of_eligible best.eligible, best.eligible, fun i _ ok => (x.merit_le_iff b i).mp (best.least i ok), fun w was ok grade prio => ?_,
      fun other i lower ok same => ?_⟩
    · exact best.keepsBell w ⟨bell.trans was, ok, (x.merit_eq_iff w b).mpr ⟨grade, prio⟩⟩
    · exact best.first (fun kept => other (bell.symm.trans kept)) i lower ok ((x.merit_eq_iff i b).mpr same)
  · obtain ⟨taken, state⟩ := State.pass_of_no_force (force.trans free)
    rw [x.pass_shadow, taken, state, x.pass_force]
    refine ⟨rfl, force.trans free, ?_⟩
    cases x.rank <;> simp
  · have stands := force.trans forced
    exact ⟨x.pass_force.trans stands, State.pass_of_forced_eligible stands, State.pass_of_forced_ineligible stands⟩
end

section
/-! Slot 0 part by part: what reading the temperature, steering, counting and the fit's sums leave of the loops, and the word that is staged, with O28 (01 R17,
R26; 04 R76, R78, R84; 05 R106, R113). -/

namespace Sys2Proof.Machine

/-! ### Work on the loops -/

/-- What slot 0 leaves of the loops until it stages a word: the freeze, the staged and the committed word, the SSCT term, the die's temperature. -/
def LoopSt.word (l : LoopSt) : Bool × Option Dco × Fu × Fu × Int := (l.frozen, l.staged, l.dco, l.ssctTerm, l.onDie)

/-- The same with what steers: the state, the loop term and the integrator. -/
def LoopSt.stance (l : LoopSt) : (Bool × Option Dco × Fu × Fu × Int) × DpllState × Fu × Fu := (l.word, l.state, l.loop, l.integ)

/-- Work that writes the loops, the model and the events alone, and of the loops leaves the figure `keep` as it is. -/
def State.LoopWork {β : Type} (keep : LoopSt → β) (s s' : State) : Prop :=
  ∃ lp mdl ev, s' = { s with lp := lp, mdl := mdl, ev := ev } ∧ keep lp = keep s.lp

section
variable {β : Type} {keep : LoopSt → β}

theorem State.LoopWork.refl (s : State) : s.LoopWork keep s := ⟨_, _, _, rfl, rfl⟩

theorem State.LoopWork.trans {a b c : State} (h : a.LoopWork keep b) (k : b.LoopWork keep c) : a.LoopWork keep c := by
  obtain ⟨_, _, _, rfl, first⟩ := h
  obtain ⟨_, _, _, rfl, second⟩ := k
  exact ⟨_, _, _, rfl, second.trans first⟩

theorem State.LoopWork.ite {s a b : State} (c : Prop) [Decidable c] (ha : s.LoopWork keep a) (hb : s.LoopWork keep b) :
    s.LoopWork keep (if c then a else b) := by
  split
  · exact ha
  · exact hb

theorem State.LoopWork.kept {s s' : State} (h : s.LoopWork keep s') : keep s'.lp = keep s.lp := by
  obtain ⟨_, _, _, rfl, kept⟩ := h
  exact kept

theorem State.LoopWork.writeLp {s : State} {l : LoopSt} (same : keep l = keep s.lp) : s.LoopWork keep { s with lp := l } := ⟨_, _, _, rfl, same⟩

theorem State.LoopWork.writeMdl (s : State) (m : Model) : s.LoopWork keep { s with mdl := m } := ⟨_, _, _, rfl, rfl⟩

theorem State.LoopWork.raise (s : State) (id detail : Nat) : s.LoopWork keep (s.raise id detail) := ⟨_, _, _, rfl, rfl⟩

theorem State.LoopWork.raiseIf (s : State) (c : Bool) (id detail : Nat) : s.LoopWork keep (s.raiseIf c id detail) := .ite _ (.raise s id detail) (.refl s)

theorem State.LoopWork.observe (s : State) : s.LoopWork keep s.observe := .writeMdl s _

end

theorem State.LoopWork.word {s s' : State} (h : s.LoopWork LoopSt.stance s') : s.LoopWork LoopSt.word s' := by
  obtain ⟨_, _, _, rfl, kept⟩ := h
  exact ⟨_, _, _, rfl, congrArg Prod.fst kept⟩

/-! ### The parts of the slot -/

theorem State.LoopWork.convertTsense (s : State) (code : Nat) : s.LoopWork LoopSt.stance (s.convertTsense code) :=
  .ite _ (.writeLp rfl) (.ite _ (.writeLp rfl) ((State.LoopWork.writeLp rfl).trans (.raiseIf _ _ _ _)))

/-- Once the die's temperature is noted, reading the temperature moves nothing that steers. -/
theorem State.LoopWork.takeTemp (s : State) (onDie : Int) (code : Nat) :
    State.LoopWork LoopSt.stance { s with lp := { s.lp with onDie := onDie } } (s.takeTemp onDie code) :=
  (State.LoopWork.convertTsense _ code).trans (.writeLp rfl)

theorem State.LoopWork.judgeSpan (s : State) : s.LoopWork LoopSt.stance s.judgeSpan := (State.LoopWork.writeLp rfl).trans (.raiseIf _ _ _ _)

theorem State.LoopWork.growUnc (s : State) : s.LoopWork LoopSt.stance s.growUnc :=
  .ite _ ((State.LoopWork.writeLp rfl).trans (.raise _ _ _)) (.writeLp rfl)

theorem State.LoopWork.endStage (s : State) : s.LoopWork LoopSt.word s.endStage := .ite _ (.refl s) (.ite _ (.writeLp rfl) (.writeLp rfl))

theorem State.LoopWork.checkLock (s : State) : s.LoopWork LoopSt.word s.checkLock := .ite _ (.writeLp rfl) (.refl s)

theorem State.LoopWork.checkLoss (s : State) : s.LoopWork LoopSt.word s.checkLoss := .ite _ (.writeLp rfl) (.refl s)

theorem State.LoopWork.trackCounts (s : State) (e : Option Fs) (win : List (Nat × Fs)) : s.LoopWork LoopSt.word (s.trackCounts e win) := .writeLp rfl

theorem State.LoopWork.track (s : State) (e : Option Fs) : s.LoopWork LoopSt.word (s.track e) := by
  have counts (win : List (Nat × Fs)) : s.LoopWork LoopSt.word (s.trackCounts e win).endStage.checkLock.checkLoss :=
    (((State.LoopWork.trackCounts s e win).trans (.endStage _)).trans (.checkLock _)).trans (.checkLoss _)
  exact .ite _ (counts _) ((counts _).trans (.writeLp rfl))

theorem State.LoopWork.filterStep (s : State) (b t : Nat) (e : Fs) : s.LoopWork LoopSt.word (s.filterStep b t e) := by
  refine .writeLp ?_
  dsimp only
  split <;> rfl

theorem State.LoopWork.loopStep (s : State) : s.LoopWork LoopSt.word s.loopStep := by
  unfold State.loopStep
  split
  · exact .writeLp rfl
  · exact (State.LoopWork.writeLp rfl).trans (State.LoopWork.growUnc _).word
  · split
    · exact (State.LoopWork.filterStep s _ _ _).trans (.track _ _)
    · exact .track s none

/-- In FREERUN the loop term moves towards 0, and nothing else does (04 R78). -/
theorem State.loopStep_of_freerun {s : State} (free : s.lp.state = .freerun) : s.loopStep = { s with lp := { s.lp with loop := s.moveLoop 0 } } := by
  rw [State.loopStep, free]

/-! ### The word -/

theorem State.stageWord_eq (s : State) : ∃ mdl ev,
    s.stageWord = { s with lp := { s.lp with staged := some (makeDco s.lp.loop s.devicePayout s.lp.ssctTerm) }, mdl := mdl, ev := ev } := by
  unfold State.stageWord
  dsimp only
  split <;> exact ⟨_, _, rfl⟩

theorem State.stageWord_steers (s : State) : s.stageWord.lp.loop = s.lp.loop ∧ s.stageWord.lp.integ = s.lp.integ := by
  obtain ⟨_, _, word⟩ := s.stageWord_eq
  rw [word]
  exact ⟨rfl, rfl⟩

/-- The total of a staged word: the three terms within ±500 ppm (04 R76). -/
theorem makeDco_total (loop : Fu) (pay : Option (Entry × Fs)) (ssct : Fu) :
    (makeDco loop pay ssct).total = clampI (-500000000000) 500000000000 (loop + (pay.map fun x => 8000 * x.2).getD 0 + ssct) := rfl

/-- The payout's term: a fold's share of the head, at most SLEW × 125 µs (05 R106, R113). -/
theorem State.devicePayout_term (s : State) : ((s.devicePayout.map fun x => 8000 * x.2).getD 0 : Fu) = (match s.tally.payingDevice with
    | some e => 8000 * clampI (-(s.cfg.stile.slew / 8000)) (s.cfg.stile.slew / 8000) e.remaining
    | none => 0) := by
  unfold State.devicePayout
  cases s.tally.payingDevice <;> rfl

/-! ### The slot -/

/-- Slot 0 as its work begins: no error of the fold yet, and the die's temperature noted. -/
def State.dpllBegun (s : State) (onDie : Int) (t : Nat) : State :=
  { s.enterSlot 0 t with lp := { s.lp with err := none, onDie := onDie }, pow := { s.pow with slotDone := true } }

/-- The temperature and the span judged: what the rest of the slot sees. -/
def State.dpllReady (s : State) (onDie : Int) (code t : Nat) : State :=
  (({ s.enterSlot 0 t with lp := { s.lp with err := none }, pow := { s.pow with slotDone := true } } : State).takeTemp onDie code).judgeSpan

theorem State.LoopWork.dpllReady (s : State) (onDie : Int) (code t : Nat) :
    (s.dpllBegun onDie t).LoopWork LoopSt.stance (s.dpllReady onDie code t) :=
  (State.LoopWork.takeTemp _ onDie code).trans (.judgeSpan _)

section
variable {s : State} {onDie : Int} {code t : Nat} (due : s.slotDue 0 t = true)
include due

theorem exec_dpllUpdateSlot_of_frozen (frozen : s.lp.frozen = true) : ∃ x, exec (.dpllUpdateSlot onDie code t) s = .next x.consumeSamples.observe ∧
    (s.dpllBegun onDie t).LoopWork LoopSt.stance x := by
  have ready := State.LoopWork.dpllReady s onDie code t
  have stays : (s.dpllReady onDie code t).lp.frozen = true := (congrArg (·.1.1) ready.kept).trans frozen
  refine ⟨_, congrArg Host.Outcome.next ((State.inSlot_of_due due _).trans (if_pos stays)), ?_⟩
  exact ready.trans (.ite _ (.growUnc _) (.refl _))

theorem exec_dpllUpdateSlot_of_steering (free : s.lp.frozen = false) :
    exec (.dpllUpdateSlot onDie code t) s = .next (s.dpllReady onDie code t).loopStep.observe.consumeSamples.stageWord := by
  have stays : ¬(s.dpllReady onDie code t).lp.frozen = true := by
    rw [show (s.dpllReady onDie code t).lp.frozen = _ from (congrArg (·.1.1) (State.LoopWork.dpllReady s onDie code t).kept).trans free]
    exact Bool.false_ne_true
  exact congrArg Host.Outcome.next ((State.inSlot_of_due due _).trans (if_neg stays))

end

theorem State.cand_consumeSamples (s : State) (i : Nat) (small : i < 8) : (s.consumeSamples.cand i).newSample = false := by
  have taken := Vec_getD_map (fun c : Cand => { c with newSample := false }) s.cands i ({} : Cand) ({} : Cand) small
  exact congrArg Cand.newSample taken

end Sys2Proof.Machine

open Sys2Proof Sys2Proof.Machine

/-- Settles O28: every part of the slot before the word is work on the loops that leaves the word's other terms, and what a freeze keeps, as they are. -/
theorem dpllSlotStagesTheWord : Obligations.DpllSlotStagesTheWord := by
  intro s onDie code t due
  refine ⟨fun frozen => ?_, fun free => ?_, fun free rests => ?_⟩
  · obtain ⟨x, runs, lp, mdl, ev, rfl, kept⟩ := exec_dpllUpdateSlot_of_frozen (onDie := onDie) (code := code) due frozen
    simp only [LoopSt.stance, LoopSt.word, Prod.mk.injEq] at kept
    obtain ⟨⟨-, staged, -, -, die⟩, -, loop, integ⟩ := kept
    exact ⟨_, runs, staged, loop, integ, die, State.cand_consumeSamples _, rfl, rfl, rfl, rfl⟩
  · have runs := exec_dpllUpdateSlot_of_steering (onDie := onDie) (code := code) due free
    obtain ⟨lp, mdl, ev, worked, kept⟩ := (State.LoopWork.dpllReady s onDie code t).word.trans ((State.LoopWork.loopStep _).trans (.observe _))
    rw [worked] at runs
    obtain ⟨mdl', ev', word⟩ := State.stageWord_eq (State.consumeSamples { s.dpllBegun onDie t with lp := lp, mdl := mdl, ev := ev })
    rw [word] at runs
    simp only [LoopSt.word, Prod.mk.injEq] at kept
    obtain ⟨-, -, dco, ssct, die⟩ := kept
    refine ⟨_, _, runs, rfl, ?_, die, State.cand_consumeSamples _, rfl, rfl, rfl, rfl, dco⟩
    rw [makeDco_total, State.devicePayout_term]
    exact congrArg (fun x : Fu => clampI _ _ (_ + _ + x)) ssct
  · have ready := State.LoopWork.dpllReady s onDie code t
    obtain ⟨-, state, loop, integ⟩ : _ ∧ _ ∧ _ ∧ _ := by simpa only [LoopSt.stance, Prod.mk.injEq] using ready.kept
    have cfg : (s.dpllReady onDie code t).cfg = s.cfg := by
      obtain ⟨_, _, _, writes, -⟩ := ready
      rw [writes]
      rfl
    have moved := State.loopStep_of_freerun (state.trans rests)
    obtain ⟨loop', integ'⟩ := (s.dpllReady onDie code t).loopStep.observe.consumeSamples.stageWord_steers
    refine ⟨_, exec_dpllUpdateSlot_of_steering due free, loop'.trans ?_, integ'.trans ?_⟩
    · show (s.dpllReady onDie code t).loopStep.lp.loop = _
      rw [moved, State.moveLoop, cfg, loop]
      rfl
    · show (s.dpllReady onDie code t).loopStep.lp.integ = _
      rw [moved]
      exact integ
end

section
/-! A part of a slot's task as a row of its own, the loop's own events in the DPLL's slot, a learning observation and the APLL's flags, with O26 (01 R18, R26; 04
R76, R79, R87–R89, R97, R98). -/

namespace Sys2Proof.Machine

/-! ### A part of a slot's task -/

/-- A part of the task of the slot in which the sequencer stands happens. -/
theorem State.inTask_of_standing {s : State} {n : Nat} (runs : s.schedule = true) (stands : s.clk.slot = n + 1) (f : State → State) : s.inTask n f = f s :=
  if_pos (by simp [runs, stands])

/-- Anywhere else it does not. -/
theorem State.inTask_of_elsewhere {s : State} {n : Nat} (h : s.schedule = false ∨ s.clk.slot ≠ n + 1) (f : State → State) : s.inTask n f = s :=
  if_neg (by rcases h with h | h <;> simp [h])

/-! ### Lock, its loss and the stages -/

/-- The bandwidth is narrow and LOCK_T is clean (04 R88). -/
theorem State.checkLock_of_met {s : State} (acquires : s.lp.state = .acquire) (free : s.lp.frozen = false) (narrow : s.cfg.lp.auto = false ∨ s.atTrack = true)
    (clean : s.cfg.lp.lockT * 800 ≤ s.lp.cleanFolds) : s.checkLock = { s with lp := { s.lp with nextState := some .locked } } :=
  if_pos (by rcases narrow with h | h <;> simp [acquires, free, clean, h])

theorem State.checkLock_of_unmet {s : State} (h : s.lp.state ≠ .acquire ∨ s.lp.frozen = true ∨ (s.cfg.lp.auto = true ∧ s.atTrack = false) ∨
    s.lp.cleanFolds < s.cfg.lp.lockT * 800) : s.checkLock = s := by
  refine if_neg ?_
  rcases h with h | h | ⟨h, h'⟩ | h
  · simp [h]
  · simp [h]
  · simp [h, h']
  · simp [Nat.not_le.mpr h]

theorem State.checkLoss_of_met {s : State} (locked : s.lp.state = .locked) (free : s.lp.frozen = false) (out : 64 ≤ s.lp.outside) :
    s.checkLoss = { s with lp := { s.lp with nextState := some .acquire } } :=
  if_pos (by simp [locked, free, out])

theorem State.checkLoss_of_unmet {s : State} (h : s.lp.state ≠ .locked ∨ s.lp.frozen = true ∨ s.lp.outside < 64) : s.checkLoss = s := by
  refine if_neg ?_
  rcases h with h | h | h
  · simp [h]
  · simp [h]
  · simp [Nat.not_le.mpr h]

/-- A stage stands while its folds run, and once the bandwidth is that of tracking. -/
theorem State.endStage_of_standing {s : State} (h : s.lp.stageLeft ≠ 0 ∨ s.lp.stageBw ≤ s.cfg.lp.trackBw * 2 ^ s.lp.stageK) : s.endStage = s :=
  if_pos (by rcases h with h | h <;> simp [State.atTrack, h])

section
variable {s : State} (out : s.lp.stageLeft = 0)
include out

theorem State.endStage_of_out (wide : s.cfg.lp.trackBw * 2 ^ s.lp.stageK < s.lp.stageBw) :
    s.endStage = if s.lp.stageBw ≤ s.cfg.lp.trackBw * 2 ^ (s.lp.stageK + 1) then
      { s with lp := { s.lp with stageBw := s.cfg.lp.trackBw, stageK := 0, stageLeft := 0, cleanFolds := if s.cfg.lp.auto then 0 else s.lp.cleanFolds } }
    else { s with lp := s.lp.stage s.lp.stageBw (s.lp.stageK + 1) } :=
  if_neg (by simp [out, State.atTrack, wide])

theorem State.endStage_of_last (wide : s.cfg.lp.trackBw * 2 ^ s.lp.stageK < s.lp.stageBw) (last : s.lp.stageBw ≤ s.cfg.lp.trackBw * 2 ^ (s.lp.stageK + 1)) :
    s.endStage = { s with lp := { s.lp with
      stageBw := s.cfg.lp.trackBw, stageK := 0, stageLeft := 0, cleanFolds := if s.cfg.lp.auto then 0 else s.lp.cleanFolds } } :=
  (State.endStage_of_out out wide).trans (if_pos last)

theorem State.endStage_of_halved (wide : s.cfg.lp.trackBw * 2 ^ (s.lp.stageK + 1) < s.lp.stageBw) :
    s.endStage = { s with lp := { s.lp with stageK := s.lp.stageK + 1, stageLeft := stageFolds s.lp.stageBw (s.lp.stageK + 1) } } := by
  have wider : s.cfg.lp.trackBw * 2 ^ s.lp.stageK ≤ s.cfg.lp.trackBw * 2 ^ (s.lp.stageK + 1) :=
    Nat.mul_le_mul_left _ (Nat.pow_le_pow_right (by decide) (Nat.le_succ _))
  exact (State.endStage_of_out out (wider.trans_lt wide)).trans (if_neg (Nat.not_le.mpr wide))

end

/-! ### A learning observation -/

/-- One more observation at a temperature: the span widened, the count on by one up to its last value (04 R95, R98). -/
def Model.counted (m : Model) (te : Int) : Model :=
  { m with span := widen m.span (divNear te 10000000000), nObs := if m.nObs.toNat = 2 ^ 32 - 1 then m.nObs else m.nObs + 1 }

/-- The fit moves the coefficients and their covariance: neither the span, nor the count, nor the residuals. -/
theorem Model.fit_keeps (m : Model) (n : Nat) (te : Int) (y : Fu) :
    (m.fit n te y).span = m.span ∧ (m.fit n te y).nObs = m.nObs ∧ (m.fit n te y).residuals = m.residuals := ⟨rfl, rfl, rfl⟩

/-- A residual joins the last 3,600, of which σ_y and σ_d are formed anew (04 R100). -/
theorem Model.noteResidual_eq (m : Model) (r : Fu) : ∃ sigmaY sigmaD,
    m.noteResidual r = { m with residuals := (r :: m.residuals).take 3600, sigmaY := sigmaY, sigmaD := sigmaD } := ⟨_, _, rfl⟩

/-- The model `m` as the fit has left it takes the place of the old one: its residual at the observation joins the others (04 R95, R100; log 80). -/
def State.noteFit (s : State) (m : Model) (y : Fu) (te : Int) : State :=
  let m' := m.noteResidual (y - m.predict te)
  { s with mdl := { m' with closed := none, valid := s.mdl.valid || 3600 ≤ m'.nObs.toNat } }

theorem State.learn_eq (s : State) (a b : Int) : s.learn a b =
    s.noteFit ((s.mdl.counted (divNear b 8000)).fit (s.cfg.lp.tempHorizon * 86400) (divNear b 8000) (divNear a 8000)) (divNear a 8000) (divNear b 8000) := rfl

theorem State.noteFit_eq (s : State) (m : Model) (y : Fu) (te : Int) : ∃ sigmaY sigmaD,
    s.noteFit m y te = { s with mdl := { m with
      residuals := ((y - m.predict te) :: m.residuals).take 3600, sigmaY := sigmaY, sigmaD := sigmaD,
      closed := none, valid := s.mdl.valid || decide (3600 ≤ m.nObs.toNat) } } := by
  obtain ⟨sigmaY, sigmaD, noted⟩ := m.noteResidual_eq (y - m.predict te)
  refine ⟨sigmaY, sigmaD, ?_⟩
  unfold State.noteFit
  rw [noted]

/-- The prediction is made of none of the figures that a residual moves, nor of whether it stands. -/
theorem Model.predict_noted (m : Model) (teff : Int) (l : List Fu) (sigmaY : Fu) (sigmaD : Nat) (closed : Option (Int × Int)) (valid : Bool) :
    ({ m with residuals := l, sigmaY := sigmaY, sigmaD := sigmaD, closed := closed, valid := valid } : Model).predict teff = m.predict teff := by
  unfold Model.predict Model.spans
  rfl

/-! ### The APLL's flags -/

theorem exec_apllLossOfLock_of_locked {s : State} (t : Nat) (locked : s.lp.aplLock = true) :
    exec (.apllLossOfLock t) s = .next ((s.setNow t).loseLock.raiseFrom Ev.apllUnlock 0) := if_pos locked

theorem exec_apllLossOfLock_of_unlocked {s : State} (t : Nat) (unlocked : s.lp.aplLock = false) : exec (.apllLossOfLock t) s = .next (s.setNow t) :=
  if_neg (by simp [unlocked])

/-- What crosses too late for the snapshot waits for the next one, under its source (01 R29–R31). -/
theorem State.raiseFrom_late {s : State} (id detail : Nat) (late : s.crossesLate = true) :
    (s.raiseFrom id detail).ev.late.map (·.id) = s.ev.late.map (·.id) ++ [id] := by
  rw [State.raiseFrom, if_pos late]
  exact List.map_append

theorem exec_apllLockTimeout_of_due {s : State} {t d : Nat} (deadline : s.lp.lockBy = some d) (unlocked : s.lp.aplLock = false) (due : d ≤ (s.setNow t).instant) :
    exec (.apllLockTimeout t) s = .next (({ s.setNow t with lp := { s.lp with apllUnlock := true, lockBy := none } } : State).raise Ev.apllUnlock 0) := by
  show execApllLockTimeout t s = _
  simp [execApllLockTimeout, deadline, unlocked, Nat.not_lt.mpr due]

theorem exec_apllLockTimeout_of_not_due {s : State} {t : Nat}
    (h : s.lp.lockBy = none ∨ s.lp.aplLock = true ∨ ∃ d, s.lp.lockBy = some d ∧ (s.setNow t).instant < d) :
    exec (.apllLockTimeout t) s = .next (s.setNow t) := by
  show execApllLockTimeout t s = _
  rcases h with no | locked | ⟨d, deadline, early⟩
  · simp [execApllLockTimeout, no]
  · cases h : s.lp.lockBy <;> simp [execApllLockTimeout, h, locked]
  · simp [execApllLockTimeout, deadline, early]

end Sys2Proof.Machine

open Sys2Proof Sys2Proof.Machine

/-- Settles O26, row by row: where the sequencer stands in another slot a part of the task is nothing; in it, by whether its condition is met; an observation by
what the fit leaves of the model; the APLL's flags by the lock and by the deadline. -/
theorem loopEventsMoveTheState : Obligations.LoopEventsMoveTheState := by
  intro s t
  have rests (h : s.schedule = false ∨ s.clk.slot ≠ 1) (f : State → State) : (.next (s.inTask 0 f) : Host.Outcome State Fault Refusal) = .next s :=
    congrArg _ (State.inTask_of_elsewhere h f)
  refine ⟨fun h => ⟨rests h _, rests h _, rests h _, rests h _⟩, fun runs stands => ?_, fun opened => congrArg _ (if_pos opened),
    fun closed => congrArg _ (if_neg (by simp [closed])), fun locked => ?_, exec_apllLossOfLock_of_unlocked t, fun d deadline unlocked due => ?_,
    exec_apllLockTimeout_of_not_due⟩
  · have task {f : State → State} {s' : State} (h : f s = s') : (.next (s.inTask 0 f) : Host.Outcome State Fault Refusal) = .next s' :=
      congrArg _ ((State.inTask_of_standing runs stands f).trans h)
    refine ⟨fun ⟨acquires, free, narrow, clean⟩ => task (State.checkLock_of_met acquires free narrow clean), fun h => task (State.checkLock_of_unmet h),
      fun ⟨locked, free, out⟩ => task (State.checkLoss_of_met locked free out), fun h => task (State.checkLoss_of_unmet h),
      fun out wide last => task (State.endStage_of_last out wide last), fun out wide => task (State.endStage_of_halved out wide),
      fun h => task (State.endStage_of_standing h), fun idle => task (by simp only [idle]), fun a b sums => ?_⟩
    have observes : exec .learningObservation s = .next (s.learn a b) := task (by simp only [sums])
    obtain ⟨span, count, residuals⟩ := (s.mdl.counted (divNear b 8000)).fit_keeps (s.cfg.lp.tempHorizon * 86400) (divNear b 8000) (divNear a 8000)
    rw [State.learn_eq] at observes
    generalize (s.mdl.counted (divNear b 8000)).fit (s.cfg.lp.tempHorizon * 86400) (divNear b 8000) (divNear a 8000) = m at observes span count residuals
    obtain ⟨sigmaY, sigmaD, noted⟩ := s.noteFit_eq m (divNear a 8000) (divNear b 8000)
    rw [noted] at observes
    exact ⟨_, observes, rfl, count, rfl, span,
      congrArg₂ (fun x l => ((divNear a 8000 - x) :: l).take 3600) (m.predict_noted _ _ sigmaY sigmaD none _).symm residuals, rfl⟩
  · exact ⟨_, exec_apllLossOfLock_of_locked t locked, State.raiseFrom_lp _ _ _, State.raiseFrom_mdl _ _ _,
      fun inTime => State.raiseFrom_count Ev.apllUnlock 0 (by decide) inTime, fun late => State.raiseFrom_late Ev.apllUnlock 0 late,
      State.raiseFrom_cfg _ _ _, State.raiseFrom_outs _ _ _⟩
  · refine ⟨_, exec_apllLockTimeout_of_due deadline unlocked due, rfl, ?_, rfl, rfl⟩
    rw [State.raise_count, if_pos ⟨rfl, by decide⟩]
    rfl
end

section
/-! The store's timers row by row, and how a compaction at the head of an idle engine begins, with O42 (01 R18; 04 R99; 15 R356, R359, R361, R362). -/

namespace Sys2Proof.Machine

/-- A part of a slot's task that changes nothing changes nothing wherever the sequencer stands. -/
theorem State.inTask_of_idle {s : State} (n : Nat) {f : State → State} (idle : f s = s) : s.inTask n f = s := by
  rw [State.inTask, idle, ite_self]

/-! ### Timers -/

theorem State.modelTimer_of_running {s : State} (runs : s.mdl.saveIn ≠ 0) : s.modelTimer = s := if_pos runs

/-- MODEL_SAVE hours have passed: the timer starts again, and the model's record is queued (04 R99). -/
theorem State.modelTimer_of_out {s : State} (out : s.mdl.saveIn = 0) :
    s.modelTimer = ({ s with mdl := { s.mdl with saveIn := 3600 * s.cfg.lp.modelSave } } : State).saveModel := if_neg (not_not.mpr out)

theorem State.hourly_of_running {s : State} (runs : s.store.hourIn ≠ 0) : s.hourly = s := if_pos runs

/-- The hour's records: COUNTERS, then a WEAR part each that has changed (15 R356). -/
theorem State.hourly_of_out {s : State} (out : s.store.hourIn = 0) :
    s.hourly = (s.mapStore fun x => { x with hourIn := 3600, ageCheck := true, retryDue := x.failing }).ownJob (.records
      ({ type := 3, payload := s.store.life.bytes } :: s.store.changedWear.map fun p => { type := 7, payload := wearPayload s.store.wear p })) :=
  if_neg (not_not.mpr out)

theorem State.refreshCheck_of_unasked {s : State} (unasked : s.store.ageCheck = false) : s.refreshCheck = s := if_pos (by simp [unasked])

/-- The age check ends, and asks for a refresh where the bank is four device-years old and none is under way (15 R362). -/
theorem State.refreshCheck_of_asked {s : State} (asked : s.store.ageCheck = true) :
    s.refreshCheck = if 126144000 ≤ s.bankAge ∧ s.store.compacting = false then (s.mapStore fun x => { x with ageCheck := false }).ownJob (.compaction true)
      else s.mapStore fun x => { x with ageCheck := false } := by
  simp [State.refreshCheck, asked]

theorem State.compRetryIdle_of_busy {s : State} (busy : s.store.phase ≠ .idle) : s.compRetryIdle = s := if_neg busy

theorem State.compRetryIdle_of_not_due {s : State} (unasked : s.store.retryDue = false) : s.compRetryIdle = s := by
  have same : s.mapStore (fun x => { x with retryDue := false }) = s := by rw [State.mapStore, ← unasked]
  rw [State.compRetryIdle, State.compRetry, unasked]
  simp [same]

/-- A compaction that has failed is tried again in front of the other jobs (15 R361). -/
theorem State.compRetryIdle_of_due {s : State} (idle : s.store.phase = .idle) (asked : s.store.retryDue = true) (failing : s.store.failing = true)
    (free : s.store.compacting = false) :
    s.compRetryIdle = s.mapStore fun x => { x with retryDue := false, jobs := { kind := .compaction false } :: x.jobs } :=
  (if_pos idle).trans (if_pos (by simp [asked, failing, free]))

/-! ### A compaction begins -/

section
variable {s : State} {j : StoreJob} {r : List StoreJob} {b : Bool} (jobs : s.store.jobs = j :: r) (kind : j.kind = .compaction b)
  (idle : s.store.phase = .idle) (unbegun : s.store.comp = none)
include jobs kind idle unbegun

theorem State.compactionDue_of_head (runs : s.store.halted = false) : s.compactionDue = true := by
  simp [State.compactionDue, jobs, kind, idle, unbegun, runs]

/-- An idle engine with a compaction at its head begins that compaction. -/
theorem State.goOn_of_compaction : s.goOn = (s.updHead fun j => { j with begun := true }).startCompaction := by
  rw [State.goOn, if_pos idle, State.nextOp, jobs]
  simp only [kind, unbegun]

end

/-- With room for its INTENT, a compaction begins by writing it at the append point of the active bank, under the next SEQ (15 R354, R359). -/
theorem State.startCompaction_of_room {s : State} (room : s.store.append + 3 ≤ 768) : ∃ w : Writing,
    s.startCompaction.store.phase = .writing w ∧ w.base = bankWord s.store.bankB + s.store.append ∧ w.kind = 1 ∧ w.type = 8 ∧
      s.startCompaction.store.comp = some .intent ∧ s.startCompaction.store.maxSeq = s.store.maxSeq + 1 ∧
      s.startCompaction.store.flash = s.store.flash := by
  unfold State.startCompaction
  dsimp only
  rw [if_neg (Nat.not_lt.mpr room)]
  exact ⟨_, rfl, rfl, rfl, rfl, rfl, rfl, rfl⟩

end Sys2Proof.Machine

open Sys2Proof Sys2Proof.Machine

/-- Settles O42, row by row: a timer by whether it has run out, the age check by the bank's age, a compaction by its start, a retry by whether one is due. -/
theorem storeTimersQueueTheirJobs : Obligations.StoreTimersQueueTheirJobs := by
  intro s t
  have rests {x : State} (h : x.schedule = false ∨ x.clk.slot ≠ 11) (f : State → State) : (.next (x.inTask 10 f) : Host.Outcome State Fault Refusal) = .next x :=
    congrArg _ (State.inTask_of_elsewhere h f)
  have idles {x : State} {f : State → State} (h : f x = x) : (.next (x.inTask 10 f) : Host.Outcome State Fault Refusal) = .next x :=
    congrArg _ (State.inTask_of_idle 10 h)
  refine ⟨fun h => ⟨rests h _, rests (x := s.setNow t) h _, rests h _, rests h _, rests h _⟩, fun h => idles (State.modelTimer_of_running h),
    fun h => idles (State.hourly_of_running (s := s.setNow t) h), fun h => idles (State.refreshCheck_of_unasked h), fun h => idles (if_neg (by simp [h])),
    fun h => idles (State.compRetryIdle_of_busy h), fun h => idles (State.compRetryIdle_of_not_due h), fun runs stands => ?_⟩
  have task {x x' : State} {f : State → State} (here : x.schedule = true ∧ x.clk.slot = 11) (h : f x = x') :
      (.next (x.inTask 10 f) : Host.Outcome State Fault Refusal) = .next x' := congrArg _ ((State.inTask_of_standing here.1 here.2 f).trans h)
  have here : s.schedule = true ∧ s.clk.slot = 11 := ⟨runs, stands⟩
  refine ⟨fun out => ⟨_, task here (State.modelTimer_of_out out), rfl, rfl, rfl⟩, fun out => ?_, fun asked young => ?_, fun asked old free => ?_,
    fun j r b jobs kind idle going unbegun room => ?_, fun idle asked failing free => task here (State.compRetryIdle_of_due idle asked failing free)⟩
  · refine ⟨_, s.store.changedWear.map fun p => { type := 7, payload := wearPayload s.store.wear p },
      task (x := s.setNow t) here (State.hourly_of_out out), rfl, rfl, rfl, fun x part => ?_, rfl⟩
    obtain ⟨_, _, rfl⟩ := List.mem_map.mp part
    rfl
  · refine task here ((State.refreshCheck_of_asked asked).trans (if_neg ?_))
    rintro ⟨old, free⟩
    rcases young with young | busy
    · exact Nat.not_le.mpr young old
    · exact Bool.false_ne_true (free.symm.trans busy)
  · exact task here ((State.refreshCheck_of_asked asked).trans (if_pos ⟨old, free⟩))
  · obtain ⟨w, writes, base, ofCompaction, type, comp, seq, flash⟩ :=
      State.startCompaction_of_room (s := s.updHead fun j => { j with begun := true }) room
    exact ⟨_, w, task here ((if_pos (State.compactionDue_of_head jobs kind idle unbegun going)).trans (State.goOn_of_compaction jobs kind idle unbegun)),
      comp, writes, base, ofCompaction, type, seq, flash⟩
end

section
/-! The books of the tally (05 R127): a ledger balances where its residues are zero, so what leaves the residues alone keeps it balanced, and so does a reset,
which empties it. -/

namespace Sys2Proof.Machine

theorem Totals.balanced_iff_resid (t : Totals) : t.balanced ↔ t.resid = 0 := by
  have split : t.resid = t.entered - (t.applied + t.cancelled + t.opened) := by unfold Totals.resid; ring
  rw [split, Totals.balanced, sub_eq_zero]

theorem Tally.balanced_iff_resids (t : Tally) : t.balanced ↔ (∀ r ∈ t.resids.1.toList, r = 0) ∧ ∀ r ∈ t.resids.2.toList, r = 0 := by
  simp only [Tally.balanced, Totals.balanced_iff_resid, Tally.resids, Vec.map, List.forall_mem_map]

theorem Tally.balanced_of_resids_eq {t t' : Tally} (h : t'.resids = t.resids) (ht : t.balanced) : t'.balanced := by
  rw [Tally.balanced_iff_resids, h, ← Tally.balanced_iff_resids]
  exact ht

theorem Tally.balanced_empty : Tally.balanced {} := by
  unfold Tally.balanced Totals.balanced
  decide

/-- A command that may reset leaves the residues where the reset does not come, and an empty tally where it does (18 R414). -/
theorem exec_tally_of_mayReset {c : Instr} {s s' : State} (hr : mayReset c = true) (h : exec c s = .next s') :
    s'.tally.resids = s.tally.resids ∨ s'.tally = {} := by
  cases c <;> cases hr
  case powerOnReset =>
    cases h
    exact .inr rfl
  case pinReset ns =>
    simp only [exec, execPinReset] at h
    split at h
    · cases h
      exact .inl rfl
    · split at h <;> cases h
      · exact .inl rfl
      · exact .inr rfl
  case watchdogExpiry =>
    cases h
    split
    · exact .inl rfl
    · exact .inr rfl
  case softResetExecution t =>
    cases h
    split
    · split
      · exact .inr rfl
      · exact .inl rfl
    · exact .inl rfl
  case hotsetSaveEnd bad t =>
    cases saving : s.store.saving with
    | none =>
      simp only [exec, execHotsetSaveEnd, State.setNow_store, saving] at h
      cases h
      exact .inl rfl
    | some img =>
      cases (exec_hotsetSaveEnd s bad t img saving).symm.trans h
      split
      · exact .inr rfl
      · split <;> exact .inl (by simp [State.resumeNext])

/-- A boundary, a wake and every command that resets nothing leave the residues. -/
theorem exec_resids {c : Instr} {s s' : State} (hr : mayReset c = false) (h : exec c s = .next s') : s'.tally.resids = s.tally.resids := by
  by_cases hb : ∃ m, c = .foldBoundary m
  · obtain ⟨m, rfl⟩ := hb
    cases h
    exact State.boundary_resids s m
  by_cases hw : ∃ ns x, c = .wakeRequest ns x
  · obtain ⟨ns, x, rfl⟩ := hw
    cases (exec_wakeRequest s ns x).symm.trans h
    split <;> simp
  obtain ⟨x, hx, ha⟩ := exec_steady c s hr (not_exists.mp hb) fun ns x e => hw ⟨ns, x, e⟩
  cases hx.symm.trans h
  exact ha.resids

/-- Every command keeps the ledger balanced. -/
theorem exec_keeps_balanced {c : Instr} {s s' : State} (hs : s.tally.balanced) (h : exec c s = .next s') : s'.tally.balanced := by
  cases hr : mayReset c with
  | false => exact Tally.balanced_of_resids_eq (exec_resids hr h) hs
  | true =>
    rcases exec_tally_of_mayReset hr h with kept | empty
    · exact Tally.balanced_of_resids_eq kept hs
    · rw [empty]
      exact Tally.balanced_empty

end Sys2Proof.Machine

open Sys2Proof Sys2Proof.Machine

/-- Settles O57: the step is idle, or the command at the queue's front, which keeps the balance. -/
theorem stepKeepsLedgerBalanced : Obligations.StepKeepsLedgerBalanced := by
  intro s s' hs h
  cases hq : s.pending with
  | nil =>
    simp only [step, hq] at h
    cases h
    exact hs
  | cons c rest =>
    simp only [step, hq] at h
    exact exec_keeps_balanced (s := { s with pending := rest }) hs h
end

section
/-! Activation of a pending entry at a boundary (05 R112, R113, R115): which entry may start, and what its start changes. -/

namespace Sys2Proof.Machine

/-- The entry that heads the device's queue: the first there that is APPLYING or ready. -/
def State.deviceHead (s : State) : Option Entry := s.tally.deviceQueue.find? fun x => x.status = .applying || s.ready x

/-- A device entry is being paid. -/
def State.devicePays (s : State) : Bool := s.tally.deviceQueue.any fun x => x.status = .applying && x.remaining ≠ 0

/-- A sequence number heads the queue of some output. -/
def State.headsOutput (s : State) (q : BitVec 32) : Bool := (List.range 16).any fun o => (s.outHead o).map (·.seq) = some q

/-- An entry heads a queue in which it may start; a grazed one waits while a device entry pays (log 30). -/
def State.mayStart (s : State) (q : BitVec 32) (e : Entry) : Bool :=
  (e.isDevice && decide (s.deviceHead.map (·.seq) = some q)) || (s.headsOutput q && !(e.grazed && s.devicePays))

section
variable {s : State} {q : BitVec 32} {e : Entry}

/-! ### What the row does -/

theorem exec_tallyEntryActivation_elsewhere (h : s.atBoundary = false) : exec (.tallyEntryActivation q) s = .next s := by
  simp [exec, execTallyEntryActivation, h]

theorem exec_tallyEntryActivation_of_absent (h : s.tally.find q = none) : exec (.tallyEntryActivation q) s = .next s := by
  simp [exec, execTallyEntryActivation, h]

/-- At a boundary the entry of the number starts where it is PENDING and may start. -/
theorem exec_tallyEntryActivation_of_entry (hb : s.atBoundary = true) (h : s.tally.find q = some e) :
    exec (.tallyEntryActivation q) s = .next (if e.status = .pending && s.mayStart q e then s.makeApplying e else s) := by
  simp only [exec, execTallyEntryActivation, hb, if_true, h]
  rfl

theorem exec_tallyEntryActivation_rests (h : s.tally.find q = some e) (hn : e.status ≠ .pending ∨ s.mayStart q e = false) :
    exec (.tallyEntryActivation q) s = .next s := by
  cases hb : s.atBoundary with
  | false => exact exec_tallyEntryActivation_elsewhere hb
  | true =>
    rw [exec_tallyEntryActivation_of_entry hb h]
    rcases hn with hn | hn <;> simp [hn]

theorem exec_tallyEntryActivation_starts (hb : s.atBoundary = true) (h : s.tally.find q = some e) (hp : e.status = .pending)
    (hm : s.mayStart q e = true) : exec (.tallyEntryActivation q) s = .next (s.makeApplying e) := by
  rw [exec_tallyEntryActivation_of_entry hb h, if_pos (by simp [hp, hm])]

/-! ### What a start changes -/

theorem Tally.find_seq {t : Tally} (h : t.find q = some e) : e.seq = q := by
  simpa using List.find?_some h

/-- An update of a number's entry that keeps the number is seen at that number and at no other. -/
theorem Tally.find_updEntry (t : Tally) (q k : BitVec 32) (f : Entry → Entry) (hf : ∀ e, (f e).seq = e.seq) :
    (t.updEntry q f).find k = if k = q then (t.find k).map f else t.find k := by
  have same : (fun x : Entry => decide (x.seq = k)) ∘ (fun x => if x.seq = q then f x else x) = fun x => decide (x.seq = k) := by
    funext x
    simp only [Function.comp_apply]
    split <;> simp [hf]
  simp only [Tally.find, Tally.updEntry, List.find?_map, same]
  cases hx : t.entries.find? fun x => decide (x.seq = k) with
  | none => simp
  | some x =>
    have hk : x.seq = k := by simpa using List.find?_some hx
    by_cases hq : k = q <;> simp [hk, hq]

/-- An entry that starts becomes APPLYING from the boundary on; nothing else changes. -/
theorem State.makeApplying_starts (h : s.tally.find q = some e) (hp : e.status = .pending) :
    (s.makeApplying e).tally.find q = some { e with status := .applying, movedTo := s.foldStart + 1 } ∧
    (s.makeApplying e).tally.entries.length = s.tally.entries.length ∧ (∀ k, k ≠ q → (s.makeApplying e).tally.find k = s.tally.find k) ∧
    s.makeApplying e = { s with tally := { s.tally with entries := (s.makeApplying e).tally.entries } } := by
  have found (k : BitVec 32) := Tally.find_updEntry s.tally e.seq k
    (fun x => if x.status = .pending then { x with status := .applying, movedTo := s.foldStart + 1 } else x) (by intro x; split <;> rfl)
  rw [Tally.find_seq h] at found
  refine ⟨?_, List.length_map _, fun k hk => ?_, rfl⟩
  · simp [State.makeApplying, Tally.find_seq h, found, h, hp]
  · simp [State.makeApplying, Tally.find_seq h, found, hk]

/-! ### Which entries may start -/

theorem State.mayStart_of_deviceHead (hd : e.isDevice = true) (hh : s.deviceHead.map (·.seq) = some q) : s.mayStart q e = true := by
  simp [State.mayStart, hd, hh]

theorem State.mayStart_of_headsOutput (ho : s.headsOutput q = true) (hg : e.grazed = false ∨ s.devicePays = false) : s.mayStart q e = true := by
  rcases hg with hg | hg <;> simp [State.mayStart, ho, hg]

theorem State.mayStart_of_no_head (hd : s.deviceHead.map (·.seq) ≠ some q) (ho : s.headsOutput q = false) : s.mayStart q e = false := by
  simp [State.mayStart, hd, ho]

theorem State.mayStart_of_grazed (hd : e.isDevice = false) (hg : e.grazed = true) (hp : s.devicePays = true) : s.mayStart q e = false := by
  simp [State.mayStart, hd, hg, hp]

/-- An APPLYING entry at the front of the device's queue stays its head. -/
theorem State.deviceHead_of_applying (hh : s.tally.deviceQueue.head? = some e) (ha : e.status = .applying) : s.deviceHead = some e := by
  obtain ⟨r, hr⟩ := List.head?_eq_some_iff.mp hh
  simp [State.deviceHead, hr, ha]

end

end Sys2Proof.Machine

open Sys2Proof Sys2Proof.Machine

/-- Settles O36: the row starts the entry of its number or rests, as `State.mayStart` says, and each clause is a case of that. -/
theorem tallyEntryActivates : Obligations.TallyEntryActivates := by
  intro s q
  refine ⟨exec_tallyEntryActivation_elsewhere, exec_tallyEntryActivation_of_absent, fun e found => ?_⟩
  have rests (waits : s.mayStart q e = false) := exec_tallyEntryActivation_rests found (.inr waits)
  have starts (atB : s.atBoundary = true) (pends : e.status = .pending) (may : s.mayStart q e = true) :=
    And.intro (exec_tallyEntryActivation_starts atB found pends may) (State.makeApplying_starts found pends)
  refine ⟨fun done => exec_tallyEntryActivation_rests found (.inl done), fun noDev noOut => ?_, fun h front applying other noOut => ?_,
    fun atB pends isDev headDev => ?_, fun atB pends headOut free => ?_, fun noDev grazed busy => rests (State.mayStart_of_grazed noDev grazed busy)⟩
  · exact rests (State.mayStart_of_no_head (of_decide_eq_false noDev) noOut)
  · refine rests (State.mayStart_of_no_head ?_ noOut)
    rw [State.deviceHead_of_applying front applying]
    simpa using other
  · exact ⟨_, starts atB pends (State.mayStart_of_deviceHead isDev (of_decide_eq_true headDev))⟩
  · exact ⟨_, starts atB pends (State.mayStart_of_headsOutput headOut free)⟩
end

section
/-! What an event of an output leaves alone: the settling of its counters, a train that starts, a gate that opens or closes; MON's judgement of one output; and
O35 (06 R138–R141, R152; 07 R156, R161). -/

namespace Sys2Proof.Machine

/-! ### An event of one output -/

/-- An event of output `o`: the settings, the tally and the other outputs stay, and of the output itself the figure `keep`. -/
structure State.OutEvent {β : Type} (o : Nat) (keep : Out → β) (s s' : State) : Prop where
  cfg : s'.cfg = s.cfg
  tally : s'.tally = s.tally
  others : ∀ n, n ≠ o → s'.out n = s.out n
  kept : keep (s'.out o) = keep (s.out o)

/-- The lists of an output, which the settling of its counters leaves as they are. -/
def Out.lists (x : Out) : List Window × List Plan × List (Option Nat × BitVec 32) × List (BitVec 32 × Fs) := (x.windows, x.plans, x.aligns, x.begun)

theorem State.out_updOut_self (s : State) (o : Fin 16) (f : Out → Out) : (s.updOut o f).out o = f (s.out o) := by
  rw [State.out_updOut, if_pos ⟨rfl, o.isLt⟩]

theorem State.out_updOut_other (s : State) {o n : Nat} (f : Out → Out) (other : n ≠ o) : (s.updOut o f).out n = s.out n := by
  rw [State.out_updOut, if_neg fun h => other h.1.symm]

section
variable {β : Type} {keep : Out → β} {o : Nat}

theorem State.OutEvent.refl (s : State) : s.OutEvent o keep s := ⟨rfl, rfl, fun _ _ => rfl, rfl⟩

theorem State.OutEvent.trans {a b c : State} (h : a.OutEvent o keep b) (k : b.OutEvent o keep c) : a.OutEvent o keep c :=
  ⟨k.cfg.trans h.cfg, k.tally.trans h.tally, fun n hn => (k.others n hn).trans (h.others n hn), k.kept.trans h.kept⟩

/-- What keeps a figure keeps what is read off it. -/
theorem State.OutEvent.map {γ : Type} {s s' : State} (h : s.OutEvent o keep s') (g : β → γ) : s.OutEvent o (fun x => g (keep x)) s' :=
  ⟨h.cfg, h.tally, h.others, congrArg g h.kept⟩

theorem State.OutEvent.updOut {f : Out → Out} (s : State) (same : ∀ x, keep (f x) = keep x) : s.OutEvent o keep (s.updOut o f) where
  cfg := rfl
  tally := rfl
  others n other := s.out_updOut_other f other
  kept := by
    rw [State.out_updOut]
    split
    · exact same _
    · rfl

theorem State.OutEvent.raiseFrom (s : State) (id detail : Nat) : s.OutEvent o keep (s.raiseFrom id detail) := by
  have outs (n : Nat) : (s.raiseFrom id detail).out n = s.out n := by simp [State.out]
  exact ⟨by simp, by simp, fun n _ => outs n, congrArg keep (outs o)⟩

/-! ### Settling and starting -/

theorem State.settleTo_event (s : State) (o t : Nat) : s.OutEvent o Out.lists (s.settleTo o t) := by
  unfold State.settleTo
  dsimp only
  (repeat' split) <;> exact .updOut s fun _ => rfl

theorem State.settleSeg_event (s : State) (o t : Nat) : s.OutEvent o Out.lists (s.settleSeg o t) := by
  unfold State.settleSeg
  dsimp only
  split
  · exact ((s.settleTo_event o _).trans (.updOut _ fun _ => by rfl)).trans (State.settleTo_event _ o t)
  · exact s.settleTo_event o t

/-- A train that starts leaves the gate's windows. -/
theorem State.startTrain_event (s : State) (o : Nat) (p : Plan) : s.OutEvent o Out.windows (s.startTrain o p) :=
  ((s.settleSeg_event o p.start).map Prod.fst).trans (.updOut _ fun _ => rfl)

theorem State.settle_event (s : State) (o t : Nat) : s.OutEvent o Out.windows (s.settle o t) :=
  (forEach_inv (s.OutEvent o Out.windows) _ _ (fun p x h => h.trans (x.startTrain_event o p)) s (.refl s)).trans
    ((State.settleSeg_event _ o t).map Prod.fst)

end

/-- A start takes its plan from the list, and leaves its ALIGN_DONE and its gather to the boundary (07 R156, R161). -/
theorem State.startTrain_out (s : State) (o : Fin 16) (p : Plan) :
    ((s.startTrain o p).out o).frame = some p.start ∧ ((s.startTrain o p).out o).pulsesLeft = p.count ∧
    ((s.startTrain o p).out o).plans = (s.out o).plans.filter (· ≠ p) ∧
    ((s.startTrain o p).out o).aligns = (s.out o).aligns ++ [(p.crook, p.detail (s.outCfg o).delay false)] ∧
    ((s.startTrain o p).out o).begun = (s.out o).begun ++ (p.seq.map fun q => (q, p.shift)).toList := by
  have settled := (s.settleSeg_event o p.start).kept
  simp only [Out.lists, Prod.mk.injEq] at settled
  obtain ⟨-, plans, aligns, begun⟩ := settled
  rw [State.startTrain, State.out_updOut_self]
  exact ⟨rfl, rfl, by rw [plans], by rw [aligns], by rw [begun]⟩

/-- A start writes the outputs alone. -/
theorem State.startTrain_writes (s : State) (o : Nat) (p : Plan) : s.startTrain o p = { s with outs := (s.startTrain o p).outs } :=
  s.settleSeg_keeps (fun x => { x with outs := (s.startTrain o p).outs }) (fun _ _ _ => rfl) o p.start

/-! ### The gate -/

section
variable {s : State} {o : Fin 16} (t : Nat) (gated : (s.outCfg o).mode = 2)
include gated

theorem State.openGate_of_closed (closed : (s.out o).gate = false) : s.OutEvent o Out.windows (s.openGate o t) ∧
    ((s.openGate o t).out o).gate = true ∧ ((s.openGate o t).out o).openAt = t := by
  rw [State.openGate, if_neg (by simp [gated, closed])]
  refine ⟨(s.settle_event o t).trans (.updOut _ fun _ => rfl), ?_, ?_⟩ <;> rw [State.out_updOut_self]

theorem State.closeGate_of_open (crook : Bool) (opened : (s.out o).gate = true) : s.OutEvent o Out.windows (s.closeGate o t crook) ∧
    ((s.closeGate o t crook).out o).gate = false := by
  rw [State.closeGate, if_neg (by simp [gated, opened])]
  dsimp only
  split
  · refine ⟨((s.settle_event o t).trans (.updOut _ fun _ => by rfl)).trans (.raiseFrom _ _ _), ?_⟩
    rw [State.out, State.raiseFrom_outs, ← State.out, State.out_updOut_self]
  · refine ⟨(s.settle_event o t).trans (.updOut _ fun _ => rfl), ?_⟩
    rw [State.out_updOut_self]

end

section
variable {s : State} {o : Fin 16} {t : Nat} {w : Window} {r : List Window}

theorem exec_gateWindowStart_of_first (first : (s.out o).windows = w :: r) (unbegun : w.begun = false) (due : w.from_ ≤ (s.setNow t).instant) :
    exec (.gateWindowStart o t) s = .next (((s.setNow t).openGate o w.from_).updOut o fun x =>
      { x with windows := x.windows.map fun v => if v = w then { v with begun := true } else v }) := by
  have found : (((s.setNow t).out o).windows.find? fun w => !w.begun && w.from_ ≤ (s.setNow t).instant) = some w := by
    rw [show ((s.setNow t).out o).windows = w :: r from first, List.find?_cons_of_pos (by simp [unbegun, due])]
  simp only [exec, execGateWindowStart, found]

theorem exec_gateWindowStart_of_not_due (h : ∀ w ∈ (s.out o).windows, w.begun = true ∨ (s.setNow t).instant < w.from_) :
    exec (.gateWindowStart o t) s = .next (s.setNow t) := by
  have absent : (((s.setNow t).out o).windows.find? fun w => !w.begun && w.from_ ≤ (s.setNow t).instant) = none :=
    List.find?_eq_none.mpr fun w hw => by rcases h w hw with begun | early <;> simp [*]
  simp only [exec, execGateWindowStart, absent]

theorem exec_gateWindowStop_of_first (first : (s.out o).windows = w :: r) (begun : w.begun = true) (due : w.to ≤ (s.setNow t).instant) :
    exec (.gateWindowStop o t) s = .next (((s.setNow t).closeGate o w.to false).updOut o fun x =>
      { x with windows := x.windows.filter (· ≠ w) }) := by
  have found : (((s.setNow t).out o).windows.find? fun w => w.begun && w.to ≤ (s.setNow t).instant) = some w := by
    rw [show ((s.setNow t).out o).windows = w :: r from first, List.find?_cons_of_pos (by simp [begun, due])]
  simp only [exec, execGateWindowStop, found]

theorem exec_gateWindowStop_of_not_due (h : ∀ w ∈ (s.out o).windows, w.begun = false ∨ (s.setNow t).instant < w.to) :
    exec (.gateWindowStop o t) s = .next (s.setNow t) := by
  have absent : (((s.setNow t).out o).windows.find? fun w => w.begun && w.to ≤ (s.setNow t).instant) = none :=
    List.find?_eq_none.mpr fun w hw => by rcases h w hw with unbegun | early <;> simp [*]
  simp only [exec, execGateWindowStop, absent]

end

/-! ### Starts and MON -/

theorem exec_alignedStart_of_first {s : State} {o : Fin 16} {p : Plan} {r : List Plan} (first : (s.out o).plans = p :: r) :
    exec (.alignedStart o) s = .next (s.startTrain o p) := by
  simp only [exec, execAlignedStart, first]

theorem exec_alignedStart_of_none {s : State} {o : Fin 16} (empty : (s.out o).plans = []) : exec (.alignedStart o) s = .next s := by
  simp only [exec, execAlignedStart, empty]

/-- MON finds a running output that is no PULSE output beyond the tolerance, by `n` periods that took `aux` fs (06 R152). -/
def State.offFrequency (s : State) (o n aux : Nat) : Bool :=
  n ≠ 0 && (s.out o).running && (s.outCfg o).mode ≠ 1 && s.cfg.monFtol < (s.freqError o n aux).natAbs

theorem State.offFrequency_iff {s : State} {o n aux : Nat} : s.offFrequency o n aux = true ↔
    n ≠ 0 ∧ (s.out o).running = true ∧ (s.outCfg o).mode ≠ 1 ∧ s.cfg.monFtol < (s.freqError o n aux).natAbs := by
  simp [State.offFrequency, and_assoc]

theorem exec_monSecondEnd_elsewhere {s : State} (l : List (Nat × Nat × Nat)) (h : s.clk.inSec ≠ 0 ∨ s.schedule = false) :
    exec (.monSecondEnd l) s = .next s :=
  congrArg _ (if_pos (by simpa using h))

theorem exec_monSecondEnd_one {s : State} (o : Fin 16) (n aux : Nat) (begins : s.clk.inSec = 0) (runs : s.schedule = true) :
    exec (.monSecondEnd [(o.val, n, aux)]) s
      = .next (s.raiseIf (s.offFrequency o n aux) (0x40 + 4 * o.val + 1) (detailSat (divNear (s.freqError o n aux) 1000000))) := by
  simp [exec, execMonSecondEnd, begins, runs, forEach, State.offFrequency, o.isLt]

end Sys2Proof.Machine

open Sys2Proof Sys2Proof.Machine

/-- Settles O35, row by row: a window by the gate's event and what it then writes of the queue, a start by its train, a second's end by MON's judgement. -/
theorem outputEventsActOnTheirOutput : Obligations.OutputEventsActOnTheirOutput := by
  intro s o t
  refine ⟨fun w r first unbegun due gated closed => ?_, exec_gateWindowStart_of_not_due, fun w r first begun due gated opened => ?_,
    exec_gateWindowStop_of_not_due, fun p r first => ?_, exec_alignedStart_of_none, ?_, exec_monSecondEnd_elsewhere,
    fun n aux begins runs counted running noPulse beyond => ?_, fun n aux h => ?_⟩
  · obtain ⟨event, gate, openAt⟩ := State.openGate_of_closed (s := s.setNow t) w.from_ gated closed
    refine ⟨_, exec_gateWindowStart_of_first first unbegun due, ?_, ?_, ?_, fun n _ other => (State.out_updOut_other _ _ other).trans (event.others n other),
      event.cfg, event.tally⟩
    · rw [State.out_updOut_self, gate]
    · rw [State.out_updOut_self, openAt]
    · rw [State.out_updOut_self, event.kept, ← first]
      rfl
  · obtain ⟨event, gate⟩ := State.closeGate_of_open (s := s.setNow t) w.to gated false opened
    refine ⟨_, exec_gateWindowStop_of_first first begun due, ?_, ?_, fun n _ other => (State.out_updOut_other _ _ other).trans (event.others n other),
      event.cfg, event.tally⟩
    · rw [State.out_updOut_self, gate]
    · rw [State.out_updOut_self, event.kept]
      exact (congrArg _ first).trans (List.filter_cons_of_neg (by simp))
  · obtain ⟨frame, count, plans, aligns, begun⟩ := s.startTrain_out o p
    have left : (s.out o).plans.filter (· ≠ p) = r.filter (· ≠ p) := by rw [first, List.filter_cons_of_neg (by simp)]
    exact ⟨_, exec_alignedStart_of_first first, frame, count, plans.trans left, aligns, begun, fun n _ other => (s.startTrain_event o p).others n other,
      s.startTrain_writes o p⟩
  · exact congrArg _ (ite_self s)
  · rw [exec_monSecondEnd_one o n aux begins runs, State.offFrequency_iff.mpr ⟨counted, running, noPulse, beyond⟩]
    rfl
  · by_cases here : s.clk.inSec = 0 ∧ s.schedule = true
    · have fine : s.offFrequency o n aux = false := Bool.eq_false_of_not_eq_true fun off => by
        obtain ⟨counted, running, noPulse, beyond⟩ := State.offFrequency_iff.mp off
        rcases h with uncounted | stopped | pulse | within
        · exact counted uncounted
        · exact Bool.false_ne_true (stopped.symm.trans running)
        · exact noPulse pulse
        · exact Int.not_le.mpr beyond within
      rw [exec_monSecondEnd_one o n aux here.1 here.2, fine]
      rfl
    · exact exec_monSecondEnd_elsewhere _ ((not_and_or.mp here).imp_right Bool.eq_false_of_not_eq_true)
end

section
/-! Index edges, their absence, the comparison of seconds and time sentences, each by what it writes, with O37 (01 R31; 07 R170–R174; 08 R182, R185, R187, R189;
19 R435). -/

namespace Sys2Proof.Machine

/-! ### An index edge (08 R182, R185, R187, R189) -/

/-- What fades out asks for FADE_OUT where it is applied, and for nothing where it is not (08 R185). -/
theorem Ssct.fadeOut_eq (x : Ssct) : x.fadeOut = { x with turn := if x.apply = .fadeIn ∨ x.apply = .active then some .fadeOut else none } := by
  unfold Ssct.fadeOut
  cases x.apply <;> simp

theorem exec_shaftIndexEdge_of_source {s : State} (t : Nat) (alive : (s.cand (if s.cfg.ssct.ref5 then 5 else 4)).killed = false) :
    exec (.shaftIndexEdge s.cfg.ssct.ref5 t) s = .next ((s.setNow t).shaftIndex (s.setNow t).instant) :=
  if_pos ((Bool.and_eq_true _ _).mpr ⟨decide_eq_true rfl, congrArg Bool.not alive⟩)

theorem exec_shaftIndexEdge_of_killed {s : State} (t : Nat) (killed : (s.cand (if s.cfg.ssct.ref5 then 5 else 4)).killed = true) :
    exec (.shaftIndexEdge s.cfg.ssct.ref5 t) s = .next (s.setNow t) :=
  if_neg fun h => Bool.false_ne_true ((congrArg Bool.not killed).symm.trans ((Bool.and_eq_true _ _).mp h).2)

theorem exec_shaftIndexEdge_of_other {s : State} {r : Bool} (t : Nat) (other : r ≠ s.cfg.ssct.ref5) : exec (.shaftIndexEdge r t) s = .next (s.setNow t) :=
  if_neg fun h => other (of_decide_eq_true ((Bool.and_eq_true _ _).mp h).1)

/-- The first edge of a source begins a revolution and settles what was delivered before it. -/
theorem State.shaftIndex_first {s : State} (ti : Nat) (first : s.ssct.lastIdx = none) :
    s.shaftIndex ti = { s with ssct := { s.ssct.discard with
      lastIdx := some ti, net := 0, settle := some (s.ssct.settle.getD 0 + s.ssct.net), gatherOk := true, learnOk := true } } := by
  simp only [State.shaftIndex, first]

/-- What an index edge asks of the application: FADE_IN of an idle one by a valid P, while the mode is not OFF, and the fade-out of an applied one by another. -/
def Ssct.ask (x : Ssct) (valid : Bool) (mode : Nat) : Ssct :=
  if valid then (if x.apply = .idle && mode ≠ 0 then { x with turn := some .fadeIn } else x) else x.fadeOut

/-- It asks, and changes nothing else. -/
theorem Ssct.ask_writes (x : Ssct) (valid : Bool) (mode : Nat) : ∃ turn, x.ask valid mode = { x with turn := turn } := by
  unfold Ssct.ask
  split
  · split <;> exact ⟨_, rfl⟩
  · exact ⟨_, x.fadeOut_eq⟩

theorem Ssct.ask_of_valid {x : Ssct} {mode : Nat} (idle : x.apply = .idle) (on : mode ≠ 0) : (x.ask true mode).turn = some .fadeIn := by
  simp [Ssct.ask, idle, on]

theorem Ssct.ask_of_invalid (x : Ssct) (mode : Nat) :
    (x.ask false mode).turn = if x.apply = .fadeIn ∨ x.apply = .active then some .fadeOut else none := congrArg Ssct.turn x.fadeOut_eq

/-- An edge after another forms P, settles, and asks what P's validity says. -/
theorem State.shaftIndex_next {s : State} {l ti : Nat} (last : s.ssct.lastIdx = some l) (later : l < ti) :
    ∃ x : Ssct, s.shaftIndex ti = { s with ssct := x.ask (periodValid (ti - l)) s.cfg.ssct.mode } ∧ x.lastIdx = some ti ∧ x.period = some (ti - l) ∧
      x.missing = false ∧ x.net = 0 ∧ x.apply = s.ssct.apply ∧ x.settle = some (s.ssct.settle.getD 0 + s.ssct.net) ∧ x.bins = s.ssct.bins := by
  simp only [State.shaftIndex, last, if_neg (Nat.not_le.mpr later)]
  exact ⟨_, rfl, rfl, rfl, rfl, rfl, rfl, rfl, rfl⟩

section
variable {s : State} {t l p : Nat} (last : s.ssct.lastIdx = some l) (formed : s.ssct.period = some p)
include last formed

theorem exec_shaftIndexTimeout_of_late (late : 3 * p ≤ 2 * ((s.setNow t).instant - l)) : exec (.shaftIndexTimeout t) s =
    .next { s.setNow t with ssct := { s.ssct.discard.fadeOut with missing := true, pauseIdx := true } } := by
  simp only [exec, execShaftIndexTimeout, State.setNow_ssct, last, formed, if_pos late]

theorem exec_shaftIndexTimeout_of_early (early : 2 * ((s.setNow t).instant - l) < 3 * p) : exec (.shaftIndexTimeout t) s = .next (s.setNow t) := by
  simp only [exec, execShaftIndexTimeout, State.setNow_ssct, last, formed, if_neg (Nat.not_le.mpr early)]

end

/-! ### The comparison of seconds (07 R173, R174) -/

theorem State.whileScheduled_of_running {s : State} (runs : s.schedule = true) (t : Nat) (f : State → State) : s.whileScheduled t f = f (s.setNow t) :=
  if_pos runs

theorem exec_secondsComparison {s : State} {t : Nat} (runs : s.schedule = true) :
    exec (.secondsComparison t) s = .next (if slotHolds 4 t then (s.setNow t).compareSeconds else s.setNow t) :=
  congrArg Host.Outcome.next (State.whileScheduled_of_running runs t _)

theorem State.compareSeconds_of_compared {s : State} (done : s.tod.compared = some s.clk.secIdx) : s.compareSeconds = s := if_pos done

/-- The seconds of this device second are compared. -/
def State.noteCompared (s : State) : State := { s with tod := { s.tod with compared := some s.clk.secIdx } }

section
variable {s : State} (new : s.tod.compared ≠ some s.clk.secIdx)
include new

theorem State.compareSeconds_of_no_label (unlabelled : s.todLabel = none) : s.compareSeconds = s.noteCompared := by
  simp only [State.compareSeconds, if_neg new, unlabelled, State.noteCompared]

theorem State.compareSeconds_of_label {l : Label} (label : s.todLabel = some l) (recent : s.clk.secIdx ≤ l.at_ + 1) :
    s.compareSeconds = s.noteCompared.judgeLabel l := by
  simp only [State.compareSeconds, if_neg new, label, if_pos recent, State.noteCompared]

end

/-- Work on the time of day that leaves the device's own count, the settings, VALID and the staged change of seconds. -/
structure State.TodWork (s s' : State) : Prop where
  clk : s'.clk = s.clk
  cfg : s'.cfg = s.cfg
  valid : s'.tod.valid = s.tod.valid
  jump : s'.tod.jump = s.tod.jump

theorem State.compareFold_work (s : State) (l : Label) : s.TodWork (s.compareFold l) := by
  unfold State.compareFold State.raiseIf
  (repeat' split) <;> exact ⟨rfl, rfl, rfl, rfl⟩

/-- Before a difference that stands acts, judging a label is work on the time of day alone. -/
theorem State.judgeLabel_eq (s : State) (l : Label) :
    ∃ x, s.TodWork x ∧ s.judgeLabel l = if l.prev = some l.diffSec then x.actOnDiff l.diffSec else x := by
  obtain ⟨clk, cfg, valid, jump⟩ := s.compareFold_work l
  refine ⟨_, ?_, rfl⟩
  split <;> exact ⟨clk, cfg, valid, jump⟩

/-- While the seconds are invalid a standing difference is staged. -/
theorem State.actOnDiff_of_invalid {s : State} (d : Int) (invalid : s.tod.valid = false) :
    s.actOnDiff d = { s with tod := { s.tod with jump := some d } } := if_pos (by rw [invalid]; rfl)

section
variable {s : State} {d : Int} (valid : s.tod.valid = true) (differs : d ≠ 0)
include valid differs

/-- TIME_ACCEPT stages it. -/
theorem State.actOnDiff_of_accept (accept : s.cfg.tod.accept = true) : s.actOnDiff d = { s with tod := { s.tod with jump := some d } } := by
  simp [State.actOnDiff, valid, differs, accept]

/-- Without TIME_ACCEPT it is a conflict. -/
theorem State.actOnDiff_of_refuse (refuse : s.cfg.tod.accept = false) :
    ∃ ev, s.actOnDiff d = { s with tod := { s.tod with conflict := true, raisedSec := some d }, ev := ev } := by
  simp only [State.actOnDiff, valid, differs, refuse, State.raiseIf, Bool.not_true, Bool.false_eq_true, if_false]
  split <;> exact ⟨_, rfl⟩

end

/-! ### Time sentences (07 R170–R172) -/

section
variable {s : State} {pin : Bool} {bytes : List Byte} {span t : Nat}

theorem exec_uartSentence_of_deaf (deaf : (s.setNow t).uartListens pin = false ∨ s.pinsRun = false) :
    exec (.uartSentence pin bytes span t) s = .next (s.setNow t) :=
  if_pos (by rcases deaf with h | h <;> simp [h, show (s.setNow t).pinsRun = s.pinsRun from rfl])

/-- The label that a sentence gives whose second began `n` device seconds after the present one did. -/
def State.sentenceLabel (s : State) (utc : Nat) (n : Int) : State :=
  s.setLabel 1 { diffSec := (utc : Int) + s.cfg.tod.taiUtc - (s.clk.seconds.toNat + n), diffFold := 0, at_ := s.clk.secIdx }

theorem State.sentenceLabel_eq (s : State) (utc : Nat) (n : Int) : ∃ l : Label,
    s.sentenceLabel utc n = { s with tod := { s.tod with uart := some l } } ∧ l.diffFold = 0 ∧ l.at_ = s.clk.secIdx ∧ l.time = s.instant ∧
      l.diffSec = (utc : Int) + s.cfg.tod.taiUtc - (s.clk.seconds.toNat + n) := by
  unfold State.sentenceLabel State.setLabel Label.after
  cases s.tod.uart <;> exact ⟨_, rfl, rfl, rfl, rfl, rfl⟩

section
variable (listens : (s.setNow t).uartListens pin = true) (runs : s.pinsRun = true)
include listens runs

theorem exec_uartSentence_of_error {c : Nat} (bad : readSentence bytes = .error c) :
    exec (.uartSentence pin bytes span t) s = .next ((s.setNow t).raiseFrom Ev.todError c) := by
  simp [exec, execUartSentence, listens, show (s.setNow t).pinsRun = true from runs, bad]

variable {utc : Nat} (good : readSentence bytes = .ok utc)
include good

/-- Without TOD_PPS the sentence's own start labels. -/
theorem exec_uartSentence_of_own_start (own : s.cfg.tod.pps = 0) : exec (.uartSentence pin bytes span t) s =
    .next ((s.setNow t).sentenceLabel utc (((s.setNow t).instant - span - (s.setNow t).secondStart) / secondFs)) := by
  simp [exec, execUartSentence, listens, show (s.setNow t).pinsRun = true from runs, good, own, State.sentenceLabel]

/-- With it, the latest edge of the input named, where it lies 10 ms to 990 ms before the sentence's end. -/
theorem exec_uartSentence_of_edge {x : Nat} (named : s.cfg.tod.pps ≠ 0) (edge : s.tod.ppsEdge s.cfg.tod.pps = some x) :
    exec (.uartSentence pin bytes span t) s =
      .next (if 10000000000000 ≤ (s.setNow t).instant - x && (s.setNow t).instant - x ≤ 990000000000000 then
        (s.setNow t).sentenceLabel utc (divNear (x - (s.setNow t).secondStart) secondFs)
      else (s.setNow t).raiseFrom Ev.todError 6) := by
  simp only [exec, execUartSentence, listens, show (s.setNow t).pinsRun = true from runs, good, State.setNow_cfg, State.setNow_tod, if_neg named, edge,
    State.sentenceLabel, Bool.not_true, Bool.or_self, Bool.false_eq_true, if_false, apply_ite Host.Outcome.next]

theorem exec_uartSentence_of_no_edge (named : s.cfg.tod.pps ≠ 0) (noEdge : s.tod.ppsEdge s.cfg.tod.pps = none) :
    exec (.uartSentence pin bytes span t) s = .next ((s.setNow t).raiseFrom Ev.todError 6) := by
  simp [exec, execUartSentence, listens, show (s.setNow t).pinsRun = true from runs, good, named, noEdge]

end

end

/-- A rejected sentence is an occurrence of TOD_ERROR, in time or late, and nothing else (01 R31; 07 R171). -/
theorem State.raiseFrom_todError (s : State) (c : Nat) :
    (s.raiseFrom Ev.todError c).tod = s.tod ∧ (s.raiseFrom Ev.todError c).clk = s.clk ∧
    (s.crossesLate = false → ((s.raiseFrom Ev.todError c).ev.srcs.getD Ev.todError {}).count = (s.ev.srcs.getD Ev.todError {}).count + 1) ∧
    (s.crossesLate = true → (s.raiseFrom Ev.todError c).ev.late.map (·.id) = s.ev.late.map (·.id) ++ [Ev.todError]) :=
  ⟨State.raiseFrom_tod s _ c, State.raiseFrom_clk s _ c, State.raiseFrom_count _ _ (by decide), State.raiseFrom_late _ _⟩

end Sys2Proof.Machine

open Sys2Proof Sys2Proof.Machine

/-- Settles O37, row by row: an index edge by whether one came before it, the comparison by what the label before it told, a sentence by what labels it. -/
theorem shaftAndTimeEvents : Obligations.ShaftAndTimeEvents := by
  intro s t
  refine ⟨fun r => exec_shaftIndexEdge_of_other t, exec_shaftIndexEdge_of_killed t, fun alive first => ?_, fun l alive last later => ?_,
    fun l p last formed late => ?_, fun l p last formed => exec_shaftIndexTimeout_of_early last formed, fun runs rests => ?_,
    fun runs holds new => ⟨fun unlabelled => ?_, fun l label recent => ?_⟩, fun pin bytes span => exec_uartSentence_of_deaf,
    fun pin bytes span c listens runs bad => ⟨_, exec_uartSentence_of_error listens runs bad, State.raiseFrom_todError _ _⟩,
    fun pin bytes span utc listens runs good named => ⟨?_, fun x edge fits => ?_⟩, fun pin bytes span utc listens runs good own => ?_⟩
  · refine ⟨_, (exec_shaftIndexEdge_of_source t alive).trans (congrArg _ (State.shaftIndex_first (s := s.setNow t) _ first)), ?_⟩
    exact ⟨rfl, rfl, rfl, rfl, rfl, rfl, rfl, rfl⟩
  · obtain ⟨x, index, lastIdx, period, missing, net, apply, settle, bins⟩ := State.shaftIndex_next (s := s.setNow t) last later
    refine ⟨_, (exec_shaftIndexEdge_of_source t alive).trans (congrArg _ index), ?_⟩
    obtain ⟨turn, asks⟩ := x.ask_writes (periodValid ((s.setNow t).instant - l)) s.cfg.ssct.mode
    have fadeIn (valid : periodValid ((s.setNow t).instant - l) = true) (idle : s.ssct.apply = .idle) (on : s.cfg.ssct.mode ≠ 0) : turn = some .fadeIn := by
      rw [← Ssct.ask_of_valid (apply.trans idle) on, ← valid, asks]
    have fadeOut (invalid : periodValid ((s.setNow t).instant - l) = false) :
        turn = if s.ssct.apply = .fadeIn ∨ s.ssct.apply = .active then some .fadeOut else none := by
      rw [show s.ssct.apply = x.apply from apply.symm, ← x.ask_of_invalid s.cfg.ssct.mode, ← invalid, asks]
    simp only [State.setNow_cfg, asks]
    exact ⟨lastIdx, period, missing, net, apply, fadeIn, fadeOut, settle, bins, rfl, rfl⟩
  · refine ⟨_, exec_shaftIndexTimeout_of_late last formed late, ?_⟩
    rw [Ssct.fadeOut_eq]
    exact ⟨rfl, rfl, rfl, rfl, rfl, rfl, rfl⟩
  · rw [exec_secondsComparison runs]
    rcases rests with elsewhere | done
    · rw [if_neg (by simp [elsewhere])]
    · rw [State.compareSeconds_of_compared (s := s.setNow t) done, ite_self]
  · rw [exec_secondsComparison runs, if_pos holds, State.compareSeconds_of_no_label (s := s.setNow t) new unlabelled]
    rfl
  · obtain ⟨x, ⟨clk, cfg, valid, jump⟩, judged⟩ := State.judgeLabel_eq (s.setNow t).noteCompared l
    have compared := exec_secondsComparison (t := t) runs
    rw [if_pos holds, State.compareSeconds_of_label (s := s.setNow t) new label recent, judged] at compared
    have seconds : x.clk.seconds = s.clk.seconds := by rw [clk]; rfl
    refine ⟨fun stands differs was => ?_, fun stands was => ?_, fun moves => ?_⟩
    · rw [if_pos stands] at compared
      have accepts : x.cfg.tod.accept = s.cfg.tod.accept := congrArg (·.tod.accept) cfg
      cases accept : s.cfg.tod.accept with
      | true =>
        rw [State.actOnDiff_of_accept (valid.trans was) differs (accepts.trans accept)] at compared
        exact ⟨_, compared, seconds, rfl⟩
      | false =>
        obtain ⟨ev, refused⟩ := State.actOnDiff_of_refuse (valid.trans was) differs (accepts.trans accept)
        rw [refused] at compared
        exact ⟨_, compared, seconds, jump, rfl, rfl⟩
    · rw [if_pos stands, State.actOnDiff_of_invalid _ (valid.trans was)] at compared
      exact ⟨_, compared, rfl, seconds⟩
    · rw [if_neg moves] at compared
      exact ⟨_, compared, jump, valid, seconds⟩
  · rintro (noEdge | ⟨x, edge, fits⟩)
    · exact ⟨_, exec_uartSentence_of_no_edge listens runs good named noEdge, State.raiseFrom_todError _ _⟩
    · refine ⟨_, (exec_uartSentence_of_edge listens runs good named edge).trans (congrArg _ (if_neg ?_)), State.raiseFrom_todError _ _⟩
      exact ne_true_of_eq_false fits
  · obtain ⟨l, labelled, fold, at_, -, diff⟩ := (s.setNow t).sentenceLabel_eq utc (divNear (x - (s.setNow t).secondStart) secondFs)
    rw [exec_uartSentence_of_edge listens runs good named edge, if_pos fits, labelled]
    exact ⟨_, l, rfl, rfl, fold, at_, diff, rfl⟩
  · obtain ⟨l, labelled, fold, at_, time, diff⟩ :=
      (s.setNow t).sentenceLabel_eq utc (((s.setNow t).instant - span - (s.setNow t).secondStart) / secondFs)
    rw [exec_uartSentence_of_own_start listens runs good own, labelled]
    exact ⟨_, l, rfl, rfl, fold, at_, time, diff, rfl⟩
end

section
/-! Slot 2 as what it bins, a bin of the pass and the SSCT term; slot 3 as one round for each output; with O30 (01 R17; 06 R147, R148; 07 R156, R157, R161; 08
R185, R186, R188, R189, R191). -/

namespace Sys2Proof.Machine

/-! ### Slot 2: what is binned -/

/-- The shaft table once the fold's error is binned, where there is one, and the mode noted (08 R188, R189). -/
def State.binned (s : State) : Ssct :=
  match s.gatherError with
  | some e => { s.ssct.gather (s.ssct.angle s.foldStart) e with learnOk := decide (s.cfg.ssct.mode = 2) && s.ssct.learnOk }
  | none => { s.ssct with gatherOk := false, learnOk := decide (s.cfg.ssct.mode = 2) && s.ssct.learnOk }

theorem State.noteMode_eq (s : State) :
    s.noteMode = { s with ssct := { s.ssct with learnOk := decide (s.cfg.ssct.mode = 2) && s.ssct.learnOk } } := by
  unfold State.noteMode
  split <;> simp [*]

theorem State.shaftSlot_eq (s : State) : s.shaftSlot = ({ s with ssct := s.binned } : State).passBin.stageTerm := by
  unfold State.shaftSlot State.binned
  cases s.gatherError <;> exact congrArg (fun x => x.passBin.stageTerm) (State.noteMode_eq _)

/-- Slot 2 as the pass has its turn. -/
def State.shaftBegun (s : State) (t : Nat) : State := { s.enterSlot 2 t with ssct := s.binned }

theorem exec_shaftTableSlot {s : State} {t : Nat} (due : s.slotDue 2 t = true) : exec (.shaftTableSlot t) s = .next (s.shaftBegun t).passBin.stageTerm :=
  congrArg Host.Outcome.next ((State.inSlot_of_due due _).trans (State.shaftSlot_eq _))

/-- Binning leaves the table, its residuals and the pass. -/
theorem State.binned_keeps (s : State) : s.binned.bins = s.ssct.bins ∧ s.binned.resid = s.ssct.resid ∧ s.binned.pass = s.ssct.pass := by
  unfold State.binned
  cases s.gatherError <;> exact ⟨rfl, rfl, rfl⟩

theorem State.binned_of_error {s : State} {e : Fs} (error : s.gatherError = some e) : s.binned =
    { s.ssct.gather (s.ssct.angle s.foldStart) e with learnOk := decide (s.cfg.ssct.mode = 2) && s.ssct.learnOk } := by
  rw [State.binned, error]

theorem State.binned_of_no_error {s : State} (noError : s.gatherError = none) : s.binned =
    { s.ssct with gatherOk := false, learnOk := decide (s.cfg.ssct.mode = 2) && s.ssct.learnOk } := by
  rw [State.binned, noError]

/-- No error counts outside a learning mode, an applied correction, lock, and a loop that is not held (08 R188, R191). -/
theorem State.gatherError_of_off {s : State} (off : s.cfg.ssct.mode = 0 ∨ s.ssct.apply ≠ .active ∨ s.lp.state ≠ .locked ∨ s.lp.held = true) :
    s.gatherError = none :=
  if_neg (by rcases off with h | h | h | h <;> simp [h])

/-! ### Slot 2: a bin of the pass -/

/-- A bin of the pass writes the shaft table and the events alone, and leaves what is gathered; only a pass in LEARN moves a bin. -/
theorem State.passBin_writes (s : State) : ∃ x ev, s.passBin = { s with ssct := x, ev := ev } ∧
    x.acc = s.ssct.acc ∧ x.wgt = s.ssct.wgt ∧ x.gatherOk = s.ssct.gatherOk ∧ (s.cfg.ssct.mode ≠ 2 ∨ s.ssct.pass = none → x.bins = s.ssct.bins) := by
  unfold State.passBin State.raiseIf
  dsimp only
  cases pass : s.ssct.pass with
  | none => exact ⟨_, _, rfl, rfl, rfl, rfl, fun _ => rfl⟩
  | some p =>
    dsimp only
    cases p.ebar.getD p.bin none with
    | none =>
      dsimp only
      (repeat' split) <;> exact ⟨_, _, rfl, rfl, rfl, rfl, fun _ => rfl⟩
    | some e =>
      cases learns : decide (s.cfg.ssct.mode = 2) && p.learn with
      | false =>
        simp only [Bool.false_eq_true, if_false]
        (repeat' split) <;> exact ⟨_, _, rfl, rfl, rfl, rfl, fun _ => rfl⟩
      | true =>
        have moves : ¬(s.cfg.ssct.mode ≠ 2 ∨ some p = none) := by simp_all
        simp only [if_true]
        (repeat' split) <;> exact ⟨_, _, rfl, rfl, rfl, rfl, fun h => absurd h moves⟩

theorem State.passBin_of_none {s : State} (idle : s.ssct.pass = none) : s.passBin = s := by
  simp only [State.passBin, idle]

/-- A pass in LEARN moves one bin by its share, within ±200 ps, and goes on to the next (08 R189, R191). -/
theorem State.passBin_of_learning {s : State} {p : Pass} {e : Fs} (pass : s.ssct.pass = some p) (later : p.fold ≠ s.clk.absFold.toNat) (more : p.bin < 255)
    (visited : p.ebar.getD p.bin none = some e) (learns : s.cfg.ssct.mode = 2) (throughout : p.learn = true) : ∃ ev,
    s.passBin = { s with ev := ev, ssct := { s.ssct with
      pass := some { p with bin := p.bin + 1 }
      bins := upd s.ssct.bins p.bin fun _ => clampI (-200000) 200000 (s.ssct.binAt p.bin + divNear (e - p.mean) (2 ^ s.cfg.ssct.shift))
      resid := upd s.ssct.resid p.bin fun _ => e - p.mean } } := by
  simp only [State.passBin, State.raiseIf, pass, if_neg later, visited, learns, throughout, if_neg more.ne, decide_true, Bool.and_self, if_true]
  split <;> exact ⟨_, rfl⟩

/-! ### Slot 3: rounds -/

theorem forEach_rests {α : Type} {l : List α} {f : α → State → State} {s : State} (rests : ∀ n ∈ l, f n s = s) : forEach l f s = s := by
  induction l with
  | nil => rfl
  | cons a r ih => rw [forEach, List.foldl_cons, rests a List.mem_cons_self]; exact ih fun n hn => rests n (List.mem_cons_of_mem a hn)

/-- A loop in which one round alone has something to do. -/
theorem forEach_once {α : Type} {l : List α} {f : α → State → State} {s s' : State} {o : α} (distinct : l.Nodup) (mem : o ∈ l) (acts : f o s = s')
    (before : ∀ n ∈ l, n ≠ o → f n s = s) (after : ∀ n ∈ l, n ≠ o → f n s' = s') : forEach l f s = s' := by
  induction l with
  | nil => exact absurd mem List.not_mem_nil
  | cons a r ih =>
    obtain ⟨fresh, distinct⟩ := List.nodup_cons.mp distinct
    rw [forEach, List.foldl_cons]
    rcases List.mem_cons.mp mem with rfl | mem
    · rw [acts]
      exact forEach_rests fun n hn => after n (List.mem_cons_of_mem _ hn) fun same => fresh (same ▸ hn)
    · rw [before a List.mem_cons_self fun same => fresh (same ▸ mem)]
      exact ih distinct mem (fun n hn => before n (List.mem_cons_of_mem a hn)) fun n hn => after n (List.mem_cons_of_mem a hn)

/-- What one round makes so, and no round undoes, is so after the loop. -/
theorem forEach_makes {α : Type} {p : State → Prop} {l : List α} {f : α → State → State} {n : α} (mem : n ∈ l) (makes : ∀ s, p (f n s))
    (keeps : ∀ m s, p s → p (f m s)) (s : State) : p (forEach l f s) := by
  induction l generalizing s with
  | nil => exact absurd mem List.not_mem_nil
  | cons a r ih =>
    rw [forEach, List.foldl_cons]
    rcases List.mem_cons.mp mem with rfl | mem
    · exact forEach_inv p r f keeps _ (makes s)
    · exact ih mem _

/-- An output's round of slot 3. -/
def State.outRound (o : Nat) (s : State) : State := ((s.planIndex o).scheduleGather o).payImmediate o s.foldStart (s.foldStart + foldFs)

theorem exec_outputSchedulerSlot {s : State} {t : Nat} (due : s.slotDue 3 t = true) :
    exec (.outputSchedulerSlot t) s = .next (forEach (List.range 16) State.outRound (s.enterSlot 3 t)) :=
  congrArg Host.Outcome.next (State.inSlot_of_due due _)

/-! ### Slot 3: the index edge -/

section
variable {β : Type} (g : State → β) (blind : ∀ s o f, g (State.updOut s o f) = g s)
include blind

theorem State.planIndex_keeps (s : State) (o : Nat) : g (s.planIndex o) = g s := by
  unfold State.planIndex
  split
  · split
    · rfl
    · exact (blind _ _ _).trans (s.settle_keeps g blind o _)
  · rfl

theorem State.scheduleGather_keeps (s : State) (o : Nat) : g (s.scheduleGather o) = g s := by
  unfold State.scheduleGather
  split
  · exact blind _ _ _
  · rfl

end

section
variable {β : Type} (g : State → β) (unpaid : ∀ s c t, g { s with cfg := c, tally := t } = g s)
include unpaid

theorem State.moveOut_keeps (s : State) (e : Entry) (o : Nat) (x : Fs) : g (s.moveOut e o x) = g s := by
  unfold State.moveOut
  dsimp only
  split <;> exact unpaid s _ _

/-- Immediate changes leave what reads neither the settings nor the tally. -/
theorem State.payImmediate_keeps (s : State) (o a b : Nat) : g (s.payImmediate o a b) = g s := by
  refine forEach_keeps g _ _ (fun e s => ?_) s
  unfold State.moveImmediate
  split
  · rfl
  · exact ite_after g _ _ _ (s.moveOut_keeps g unpaid _ _ _)

/-- An output's round leaves what reads none of the outputs, the settings and the tally. -/
theorem State.outRound_keeps (blind : ∀ s o f, g (State.updOut s o f) = g s) (o : Nat) (s : State) : g (s.outRound o) = g s := by
  rw [State.outRound, State.payImmediate_keeps g unpaid, State.scheduleGather_keeps g blind, State.planIndex_keeps g blind]

end

theorem State.planIndex_of_none {s : State} {o : Nat} (noEdge : (s.out o).index = none) : s.planIndex o = s := by
  simp only [State.planIndex, noEdge]

theorem State.planIndex_of_edge {s : State} {o ti : Nat} (edge : (s.out o).index = some ti) (before : ti < s.foldStart) :
    s.planIndex o = (s.settle o s.instant).updOut o fun x => { (x.addPlan ((s.settle o s.instant).indexPlan o ti)) with index := none } := by
  simp only [State.planIndex, edge, if_neg (Nat.not_le.mpr before)]

/-- No index edge of a fold before waits for output `o`. -/
def State.edgeTaken (o : Nat) (s : State) : Prop := ∀ x ∈ (s.out o).index, s.foldStart ≤ x

theorem State.edgeTaken_congr {s s' : State} {o : Nat} (index : (s'.out o).index = (s.out o).index) (clk : s'.clk = s.clk) :
    s'.edgeTaken o ↔ s.edgeTaken o := by
  unfold State.edgeTaken State.foldStart
  rw [index, clk]

theorem State.planIndex_takes (s : State) (o : Fin 16) : (s.planIndex o).edgeTaken o := by
  unfold State.planIndex
  split
  · rename_i ti edge
    split
    · rename_i now
      intro x hx
      cases edge.symm.trans hx
      exact now
    · intro x hx
      rw [State.out_updOut_self] at hx
      exact nomatch hx
  · rename_i noEdge
    intro x hx
    exact nomatch noEdge.symm.trans hx

theorem State.planIndex_others (s : State) {o n : Nat} (other : n ≠ o) : (s.planIndex o).out n = s.out n := by
  unfold State.planIndex
  split
  · split
    · rfl
    · exact (State.out_updOut_other _ _ other).trans ((s.settle_event o _).others n other)
  · rfl

theorem State.scheduleGather_index (s : State) (o n : Nat) : ((s.scheduleGather o).out n).index = (s.out n).index := by
  unfold State.scheduleGather
  split
  · rw [State.out_updOut]
    split <;> rfl
  · rfl

/-- After its planning, an output's round leaves what the planning left of every index edge. -/
theorem State.outRound_index (o n : Nat) (s : State) : ((s.outRound o).out n).index = ((s.planIndex o).out n).index :=
  (State.payImmediate_keeps (fun x => (x.out n).index) (fun _ _ _ => rfl) _ _ _ _).trans (State.scheduleGather_index _ o n)

theorem State.outRound_clk (o : Nat) (s : State) : (s.outRound o).clk = s.clk :=
  State.outRound_keeps (·.clk) (fun _ _ _ => rfl) (fun _ _ _ => rfl) o s

/-- A round takes its own output's index edge and gives no output another. -/
theorem State.outRound_takes (o : Fin 16) (s : State) : (s.outRound o).edgeTaken o :=
  (State.edgeTaken_congr (s.outRound_index o o) ((s.outRound_clk o).trans (s.planIndex_keeps (·.clk) (fun _ _ _ => rfl) o).symm)).mpr (s.planIndex_takes o)

theorem State.outRound_keeps_taken (m : Nat) (n : Fin 16) (s : State) (taken : s.edgeTaken n) : (s.outRound m).edgeTaken n := by
  by_cases same : n.val = m
  · exact same ▸ s.outRound_takes n
  · refine (State.edgeTaken_congr ?_ (s.outRound_clk m)).mpr taken
    rw [State.outRound_index, State.planIndex_others s same]

/-! ### Slot 3: an index edge's start -/

section
variable {s : State} {o ti : Nat}

/-- Where no pulse has begun before it, the start is the base edge for the target. -/
theorem State.indexPlan_of_clear (clear : s.lastStartBy o (s.edgeFor o (s.indexPlan o ti).target) = none) :
    (s.indexPlan o ti).start = s.edgeFor o (s.indexPlan o ti).target ∧ (s.indexPlan o ti).deferred = false := by
  have clear : s.lastStartBy o (s.edgeFor o (ti + (s.outCfg o).alignOffset.toNat)) = none := clear
  simp [State.indexPlan, clear]

/-- A start that would cut a pulse moves past it (07 R157). -/
theorem State.indexPlan_of_pulse {l : Nat} (pulse : s.lastStartBy o (s.edgeFor o (s.indexPlan o ti).target) = some l)
    (early : s.edgeFor o (s.indexPlan o ti).target < s.clearOf o l) :
    (s.indexPlan o ti).start = s.edgeFrom o (s.clearOf o l + 1) ∧ (s.indexPlan o ti).deferred = true := by
  have pulse : s.lastStartBy o (s.edgeFor o (ti + (s.outCfg o).alignOffset.toNat)) = some l := pulse
  have early : s.edgeFor o (ti + (s.outCfg o).alignOffset.toNat) < s.clearOf o l := early
  simp [State.indexPlan, pulse, early]

end

/-! ### Slot 3: what heads an output's queue -/

theorem mem_flockOuts {f : BitVec 16} {n : Nat} : n ∈ flockOuts f ↔ n < 16 ∧ f.getLsbD n = true := by
  simp [flockOuts]

/-- A flock of one output names it and no other. -/
theorem getLsbD_of_flockOuts {f : BitVec 16} {o : Nat} (one : flockOuts f = [o]) : f.getLsbD o = true ∧ ∀ n < 16, n ≠ o → f.getLsbD n = false := by
  refine ⟨(mem_flockOuts.mp (one ▸ List.mem_singleton_self o)).2, fun n small other => Bool.eq_false_of_not_eq_true fun named => other ?_⟩
  exact List.mem_singleton.mp (one ▸ mem_flockOuts.mpr ⟨small, named⟩)

/-- No entry of the tally names output `o`. -/
def State.unnamed (s : State) (o : Nat) : Prop := ∀ e ∈ s.tally.entries, e.flock.getLsbD o = false

theorem State.unnamed_of_empty {s : State} (empty : s.tally.entries = []) (o : Nat) : s.unnamed o := fun _ he => nomatch empty ▸ he

theorem State.unnamed_of_sole {s : State} {e : Entry} {o n : Nat} (sole : s.tally.entries = [e]) (one : flockOuts e.flock = [o]) (small : n < 16)
    (other : n ≠ o) : s.unnamed n := fun x hx => by
  rw [sole, List.mem_singleton] at hx
  exact hx ▸ (getLsbD_of_flockOuts one).2 n small other

/-- A payout renames nothing. -/
theorem State.moveOut_unnamed {s : State} {n : Nat} (free : s.unnamed n) (e : Entry) (o : Nat) (x : Fs) : (s.moveOut e o x).unnamed n := by
  have paid : (s.moveOut e o x).tally = s.tally.payOut e o x := by
    unfold State.moveOut
    dsimp only
    split <;> rfl
  intro y hy
  rw [paid] at hy
  obtain ⟨z, hz, rfl⟩ := List.mem_map.mp hy
  split <;> exact free z hz

section
variable {s : State} {o : Nat}

theorem State.outHead_of_unnamed (free : s.unnamed o) : s.outHead o = none := by
  have queue : s.tally.outQueue o = [] := List.filter_eq_nil_iff.mpr fun e he => by simp [free e he]
  rw [State.outHead, queue]
  rfl

theorem State.scheduleGather_of_no_head (noHead : s.gatherHead o = none) : s.scheduleGather o = s := by
  simp only [State.scheduleGather, noHead]

theorem State.payImmediate_of_unnamed (free : s.unnamed o) (a b : Nat) : s.payImmediate o a b = s := by
  have fired : (s.tally.entries.filter fun e => e.crook && e.status = .applying && e.flock.getLsbD o) = [] :=
    List.filter_eq_nil_iff.mpr fun e he => by simp [free e he]
  rw [State.payImmediate, State.outHead_of_unnamed free, fired]
  rfl

/-- Past the index edge there is nothing to do for an output that no entry names. -/
theorem State.outRound_of_unnamed (free : (s.planIndex o).unnamed o) : s.outRound o = s.planIndex o := by
  have noHead : (s.planIndex o).gatherHead o = none := by rw [State.gatherHead, State.outHead_of_unnamed free]; rfl
  rw [State.outRound, State.scheduleGather_of_no_head noHead, State.payImmediate_of_unnamed free]

theorem State.outRound_rests (noEdge : (s.out o).index = none) (free : s.unnamed o) : s.outRound o = s := by
  have planned := State.planIndex_of_none noEdge
  rw [State.outRound_of_unnamed (planned.symm ▸ free), planned]

end

section
variable {s : State} {o : Nat} {e : Entry} (sole : s.tally.entries = [e]) (one : flockOuts e.flock = [o]) (applying : e.status = .applying)
  (noCrook : e.crook = false)
include sole one applying noCrook

/-- An APPLYING entry alone in the tally heads the queue of the output that it names. -/
theorem State.outHead_of_sole : s.outHead o = some e := by
  have named := (getLsbD_of_flockOuts one).1
  have flock : e.flock ≠ 0#16 := fun zero => by simp [zero] at named
  simp [State.outHead, Tally.outQueue, sole, Entry.isOpen, Entry.isDevice, applying, noCrook, named, flock]

theorem State.payImmediate_of_sole (a b : Nat) : s.payImmediate o a b =
    if e.src = .step ∧ e.immediate = true then s.moveImmediate e.seq o (max a e.movedTo) b else s := by
  have fired : (s.tally.entries.filter fun e => e.crook && e.status = .applying && e.flock.getLsbD o) = [] := by simp [sole, noCrook]
  rw [State.payImmediate, State.outHead_of_sole sole one applying noCrook, fired]
  split <;> simp [forEach, *]

/-- A GATHER not yet planned is planned, and nothing is paid (07 R161). -/
theorem State.outRound_of_gather (noEdge : (s.out o).index = none) (gathers : e.src = .gather) (unfixed : e.fixed = false)
    (unplanned : ∀ p ∈ (s.out o).plans, p.seq ≠ some e.seq) :
    s.outRound o = s.updOut o fun x => x.addPlan (s.planGather o (e.target.getD 0) (s.foldStart + foldFs) e.seq) := by
  have head : s.gatherHead o = some e := by
    simpa [State.gatherHead, State.outHead_of_sole sole one applying noCrook, Option.filter, gathers, applying, unfixed] using unplanned
  rw [State.outRound, State.planIndex_of_none noEdge, State.scheduleGather, head]
  refine (State.payImmediate_of_sole ?_ one applying noCrook _ _).trans (if_neg (by simp [gathers]))
  exact sole

/-- What an IMMEDIATE step moves its output by in the fold: all that is left of one that does not run, of a running one what its edges allow (06 R147, R148). -/
def State.immediateStep (s : State) (e : Entry) (o : Nat) : Fs :=
  if (s.out o).running then
    immediateMove (e.amount - e.outApplied o) (s.risingEdges o (max s.foldStart e.movedTo) (s.foldStart + foldFs)) (s.halfLow o)
  else e.amount - e.outApplied o

theorem State.outRound_of_immediate (noEdge : (s.out o).index = none) (steps : e.src = .step) (immediate : e.immediate = true) :
    s.outRound o = if s.immediateStep e o = 0 then s else s.moveOut e o (s.immediateStep e o) := by
  have head : s.gatherHead o = none := by
    simp [State.gatherHead, State.outHead_of_sole sole one applying noCrook, Option.filter, steps]
  have found : s.tally.find e.seq = some e := by simp [Tally.find, sole]
  rw [State.outRound, State.planIndex_of_none noEdge, State.scheduleGather_of_no_head head, State.payImmediate_of_sole sole one applying noCrook,
    if_pos ⟨steps, immediate⟩]
  simp only [State.moveImmediate, found, State.immediateStep]
  rfl

end

end Sys2Proof.Machine

open Sys2Proof Sys2Proof.Machine

/-- Settles O30: slot 2 by what is binned, whether a pass is in progress and the term that is staged last; slot 3 round by round, of which at most one acts. -/
theorem shaftAndSchedulerSlots : Obligations.ShaftAndSchedulerSlots := by
  intro s t
  refine ⟨fun due => ?_, fun due => ?_⟩
  · have runs := exec_shaftTableSlot due
    obtain ⟨table, resid, pass⟩ := s.binned_keeps
    obtain ⟨x, ev, turned, acc, wgt, ok, stands⟩ := (s.shaftBegun t).passBin_writes
    have writes := runs
    rw [turned] at writes
    refine ⟨⟨_, writes, rfl, rfl, rfl, rfl, rfl, rfl⟩, fun off => ⟨_, writes, ?_⟩, fun still => ⟨_, writes, ?_⟩, fun idle noError => ?_, fun e idle error => ?_,
      fun p x busy later more visited learns throughout => ?_⟩
    · have off : (s.shaftBegun t).ssct = _ := State.binned_of_no_error (State.gatherError_of_off off)
      rw [off] at acc wgt ok
      exact ⟨acc, wgt, ok⟩
    · exact (stands (still.imp_right pass.trans)).trans table
    · rw [runs, State.passBin_of_none (pass.trans idle), State.shaftBegun, State.binned_of_no_error noError]
      rfl
    · rw [runs, State.passBin_of_none (pass.trans idle), State.shaftBegun, State.binned_of_error error]
      rfl
    · obtain ⟨ev, moved⟩ := State.passBin_of_learning (s := s.shaftBegun t) (pass.trans busy) later more visited learns throughout
      rw [moved] at runs
      have share : s.binned.binAt p.bin = s.ssct.binAt p.bin := congrArg (·.getD (p.bin % 256) 0) table
      exact ⟨_, runs, rfl, by rw [← table, ← share]; rfl, by rw [← resid]; rfl⟩
  · have runs := exec_outputSchedulerSlot due
    have alone {o : Nat} {s' : State} (small : o < 16) (acts : (s.enterSlot 3 t).outRound o = s')
        (before : ∀ n < 16, n ≠ o → (s.enterSlot 3 t).outRound n = s.enterSlot 3 t) (after : ∀ n < 16, n ≠ o → s'.outRound n = s') :
        exec (.outputSchedulerSlot t) s = .next s' :=
      runs.trans (congrArg _ (forEach_once List.nodup_range (List.mem_range.mpr small) acts (fun n hn => before n (List.mem_range.mp hn))
        fun n hn => after n (List.mem_range.mp hn)))
    refine ⟨⟨_, runs, fun o small => ?_, ?_, ?_, ?_⟩, fun noEdge empty => ?_, fun o ti small others empty edge before => ⟨?_, ?_, ?_, ?_⟩,
      fun o e small noEdge sole one gathers applying unfixed noCrook unplanned => ?_, fun o e small noEdge sole one steps applying immediate noCrook => ?_⟩
    · have clk : (forEach (List.range 16) State.outRound (s.enterSlot 3 t)).clk = _ := forEach_keeps (·.clk) _ _ State.outRound_clk _
      have taken := forEach_makes (List.mem_range.mpr small) (State.outRound_takes ⟨o, small⟩) (State.outRound_keeps_taken · ⟨o, small⟩) (s.enterSlot 3 t)
      rw [State.edgeTaken, State.foldStart, clk] at taken
      exact taken
    · exact forEach_keeps (·.lp) _ _ (State.outRound_keeps _ (fun _ _ _ => rfl) fun _ _ _ => rfl) _
    · exact forEach_keeps (·.sel) _ _ (State.outRound_keeps _ (fun _ _ _ => rfl) fun _ _ _ => rfl) _
    · exact forEach_keeps (·.host) _ _ (State.outRound_keeps _ (fun _ _ _ => rfl) fun _ _ _ => rfl) _
    · exact runs.trans (congrArg _ (forEach_rests fun n hn => State.outRound_rests (noEdge n (List.mem_range.mp hn)) (State.unnamed_of_empty empty n)))
    · have tally : ((s.enterSlot 3 t).planIndex o).tally = s.tally := State.planIndex_keeps (·.tally) (fun _ _ _ => rfl) _ o
      have free (n : Nat) : ((s.enterSlot 3 t).planIndex o).unnamed n := State.unnamed_of_empty (tally ▸ empty) n
      rw [← State.planIndex_of_edge (s := s.enterSlot 3 t) edge before]
      refine alone small (State.outRound_of_unnamed (free o)) (fun n small other => ?_) fun n small other => ?_
      · exact State.outRound_rests (others n small other) (State.unnamed_of_empty empty n)
      · exact State.outRound_rests ((congrArg Out.index (State.planIndex_others _ other)).trans (others n small other)) (free n)
    · exact congrArg (fun c : Settings => ti + (c.outs.getD o {}).alignOffset.toNat) ((s.enterSlot 3 t).settle_event o _).cfg
    · exact State.indexPlan_of_clear
    · exact fun l => State.indexPlan_of_pulse
    · refine alone small (State.outRound_of_gather (s := s.enterSlot 3 t) sole one applying noCrook (noEdge o small) gathers unfixed unplanned)
        (fun n small other => ?_) fun n small other => ?_
      · exact State.outRound_rests (noEdge n small) (State.unnamed_of_sole sole one small other)
      · exact State.outRound_rests ((congrArg Out.index (State.out_updOut_other _ _ other)).trans (noEdge n small)) (State.unnamed_of_sole sole one small other)
    · have rests (n : Nat) (small : n < 16) (other : n ≠ o) : (s.enterSlot 3 t).outRound n = s.enterSlot 3 t :=
        State.outRound_rests (noEdge n small) (State.unnamed_of_sole sole one small other)
      have acts := State.outRound_of_immediate (s := s.enterSlot 3 t) sole one applying noCrook (noEdge o small) steps immediate
      refine Eq.trans (alone small acts rests fun n small other => ?_) rfl
      split
      · exact rests n small other
      · refine State.outRound_rests ?_ (State.moveOut_unnamed (State.unnamed_of_sole (s := s.enterSlot 3 t) sole one small other) e o _)
        exact (State.moveOut_keeps (fun x => (x.out n).index) (fun _ _ _ => rfl) _ e o _).trans (noEdge n small)
end

section
/-! The front end's receiving rows by what they write: carrier detection, the diversity window, blocks and their gain, the two ends of a hop and the loss of lock,
with O43 (01 R31, R32; 09 R202, R206–R212, R215, R219, R221, R222). -/

namespace Sys2Proof.Machine

/-! ### Carrier detection (09 R212) -/

theorem State.hasCarrier_iff (s : State) : s.hasCarrier = true ↔ s.rf.state = .rx ∧ s.rf.inFrame = false ∧ s.rf.hop = none ∧
    ∃ x, s.rf.run.getLast? = some (s.instant, x) ∧ 2 * s.cfg.com.ccaThr < x := by
  unfold State.hasCarrier
  cases last : s.rf.run.getLast? with
  | none => simp
  | some b =>
    obtain ⟨x, rssi⟩ := b
    simp [and_assoc]

theorem exec_carrierDetect_of_carrier {s : State} {t : Nat} (carrier : (s.setNow t).hasCarrier = true) :
    exec (.carrierDetect .ofState t) s = .next { s.setNow t with rf := { s.rf with
      inFrame := true, divShort := false, win := if s.rf.act.diversity then some { openAt := (s.setNow t).instant } else none } } :=
  congrArg _ (if_pos carrier)

theorem exec_carrierDetect_of_none {s : State} {t : Nat} (silent : (s.setNow t).hasCarrier = false) :
    exec (.carrierDetect .ofState t) s = .next (s.setNow t) :=
  congrArg _ (if_neg (by simp [silent]))

/-! ### The diversity window's end (09 R212) -/

@[simp] theorem State.seeSfd_false (s : State) : s.seeSfd false = s := by simp [State.seeSfd]

theorem exec_diversityWindowEnd_of_due {s : State} {t : Nat} {w : DivWin} {sfd : Bool} (opened : s.rf.win = some w)
    (due : sfd = true ∨ w.openAt + 16 * bitFs s.rf.act.rate ≤ (s.setNow t).instant) :
    exec (.diversityWindowEnd .ofState sfd t) s = .next (((s.setNow t).seeSfd sfd).withAnt
      { ((s.setNow t).seeSfd sfd).rf with win := none, divShort := sfd, kept := if w.otherWins then !s.rf.kept else s.rf.kept }) := by
  have win : ((s.setNow t).seeSfd sfd).rf.win = some w := opened
  have ends : ¬ ((!sfd && decide (((s.setNow t).seeSfd sfd).instant < w.openAt + 16 * bitFs ((s.setNow t).seeSfd sfd).rf.act.rate)) = true) := by
    rcases due with early | late
    · simp [early]
    · simp [show ((s.setNow t).seeSfd sfd).instant = (s.setNow t).instant from rfl, show ((s.setNow t).seeSfd sfd).rf.act = s.rf.act from rfl, late]
  show execDiversityWindowEnd .ofState sfd t s = _
  unfold execDiversityWindowEnd
  simp only [win, if_neg ends]
  rfl

theorem exec_diversityWindowEnd_of_open {s : State} {t : Nat} {w : DivWin} (opened : s.rf.win = some w)
    (early : (s.setNow t).instant < w.openAt + 16 * bitFs s.rf.act.rate) : exec (.diversityWindowEnd .ofState false t) s = .next (s.setNow t) := by
  show execDiversityWindowEnd .ofState false t s = _
  simp [execDiversityWindowEnd, opened, early]

theorem exec_diversityWindowEnd_of_none {s : State} (sfd : Bool) (t : Nat) (closed : s.rf.win = none) :
    exec (.diversityWindowEnd .ofState sfd t) s = .next ((s.setNow t).seeSfd sfd) := by
  have win : ((s.setNow t).seeSfd sfd).rf.win = none := closed
  show execDiversityWindowEnd .ofState sfd t s = _
  simp only [execDiversityWindowEnd, win]

/-! ### Blocks and their gain (09 R206–R211) -/

/-- The state that a formed block leaves before its gain step: its records, its saturation and its place among the last six. -/
def State.blockNoted (s : State) (rssi : Int) (sat : Bool) (iq : List (Int × Int)) : State :=
  let ant := s.rf.rfbAt (s.instant - blockFs)
  let record := rssiRecord true ant s.rf.gain sat s.rf.chan rssi
  ((s.captureRecords record (iq.map (iqRecord ant s.rf.gain))).judgeSat sat record).noteBlock rssi

section
variable {s : State} {t : Nat} (rssi : Int) (sat : Bool) (peak : Int) (sfd : Bool) (iq : List (Int × Int))

theorem exec_rxBlock_of_unformed (unformed : (s.setNow t).blockForms = false) :
    exec (.rxBlock rssi sat peak sfd iq t) s = .next ((s.setNow t).seeSfd sfd) := by
  have still : ((s.setNow t).seeSfd sfd).blockForms = false := unformed
  exact if_pos (by rw [still]; rfl)

theorem exec_rxBlock_of_formed (formed : (s.setNow t).blockForms = true) :
    exec (.rxBlock rssi sat peak sfd iq t) s = .next ((((s.setNow t).seeSfd sfd).blockNoted rssi sat iq).agcStep sat peak) := by
  have still : ((s.setNow t).seeSfd sfd).blockForms = true := formed
  exact if_neg (by rw [still]; decide)

end

/-- A capture's records write the capture and its reply. -/
theorem State.captureRecords_writes (s : State) (record : Nat) (iq : List Nat) :
    ∃ capture host, s.captureRecords record iq = { s with rf := { s.rf with capture := capture }, host := host } := by
  unfold State.captureRecords
  dsimp only
  (repeat' split) <;> exact ⟨_, _, rfl⟩

theorem State.judgeSat_writes (s : State) (sat : Bool) (record : Nat) : ∃ clean stands ev, s.judgeSat sat record =
    { s with rf := { s.rf with satBlocks := if sat then s.rf.satBlocks + 1 else s.rf.satBlocks, cleanBlocks := clean, satStands := stands }, ev := ev } := by
  unfold State.judgeSat State.raiseFrom
  dsimp only
  (repeat' split) <;> exact ⟨_, _, _, rfl⟩

/-- Before its gain step a block moves no gain, no antenna and no frame. -/
theorem State.blockNoted_writes (s : State) (rssi : Int) (sat : Bool) (iq : List (Int × Int)) : ∃ capture clean stands win host ev,
    s.blockNoted rssi sat iq = { s with
      rf := { s.rf with
        capture := capture, cleanBlocks := clean, satStands := stands, win := win
        satBlocks := if sat then s.rf.satBlocks + 1 else s.rf.satBlocks
        run := (s.rf.run ++ [(s.instant, rssi)]).drop (s.rf.run.length - 5) }
      host := host
      ev := ev } := by
  unfold State.blockNoted
  dsimp only
  obtain ⟨capture, host, records⟩ := s.captureRecords_writes
    (rssiRecord true (s.rf.rfbAt (s.instant - blockFs)) s.rf.gain sat s.rf.chan rssi) (iq.map (iqRecord (s.rf.rfbAt (s.instant - blockFs)) s.rf.gain))
  rw [records]
  obtain ⟨clean, stands, ev, judged⟩ := State.judgeSat_writes { s with rf := { s.rf with capture := capture }, host := host } sat
    (rssiRecord true (s.rf.rfbAt (s.instant - blockFs)) s.rf.gain sat s.rf.chan rssi)
  rw [judged]
  exact ⟨_, _, _, _, _, _, rfl⟩

theorem agcNext_eq (g : Nat) (sat : Bool) (peak : Int) :
    agcNext g sat peak = if sat ∨ -30 < peak then g - 1 else if peak < -250 ∧ g < 5 then g + 1 else g := by
  simp [agcNext]

section
variable {s : State} (sat : Bool) (peak : Int)

theorem State.agcStep_of_frozen (frozen : s.rf.frozen = true) : s.agcStep sat peak = s := if_pos frozen

variable (free : s.rf.frozen = false)
include free

theorem State.agcStep_of_fixed (fixed : s.rf.act.fixedGain = true) :
    s.agcStep sat peak = { s with rf := { s.rf with shadowGain := agcNext s.rf.shadowGain sat peak } } := by
  simp [State.agcStep, free, fixed]

/-- In AUTO the gain and its shadow take the step together, and a changed gain leaves samples invalid (log 55). -/
theorem State.agcStep_of_auto (auto : s.rf.act.fixedGain = false) : ∃ invalid, s.agcStep sat peak =
    { s with rf := { s.rf with gain := agcNext s.rf.gain sat peak, shadowGain := agcNext s.rf.gain sat peak, invalid := invalid } } := by
  unfold State.agcStep
  simp only [free, auto, Bool.false_eq_true, if_false]
  split <;> exact ⟨_, rfl⟩

end

/-! ### The state between frames, and hops (09 R202, R205) -/

/-- Work on the front end that begins and ends no frame: settings, gain, tuner, antenna and hops. -/
structure State.Retuned (s s' : State) : Prop where
  writes : s' = { s with rf := s'.rf, bg := s'.bg }
  inFrame : s'.rf.inFrame = s.rf.inFrame
  dropped : s'.rf.dropped = s.rf.dropped
  received : s'.rf.received = s.rf.received

theorem State.Retuned.refl (s : State) : s.Retuned s := ⟨rfl, rfl, rfl, rfl⟩

theorem State.Retuned.trans {a b c : State} (h : a.Retuned b) (k : b.Retuned c) : a.Retuned c where
  writes := by rw [k.writes, h.writes]
  inFrame := k.inFrame.trans h.inFrame
  dropped := k.dropped.trans h.dropped
  received := k.received.trans h.received

theorem State.Retuned.ite {s a b : State} (c : Prop) [Decidable c] (ha : s.Retuned a) (hb : s.Retuned b) : s.Retuned (if c then a else b) := by
  split
  · exact ha
  · exact hb

/-- At rest the front end takes its state, and in IDLE the tuner's codes. -/
theorem State.rest_writes (s : State) : ∃ rxFrom tuneA tuneB,
    s.rest = { s with rf := { s.rf with state := s.rfRest, rxFrom := rxFrom, tuneA := tuneA, tuneB := tuneB } } := by
  unfold State.rest Radio.tune
  dsimp only
  split <;> exact ⟨_, _, _, rfl⟩

theorem State.restRf_writes (s : State) : ∃ state rxFrom tuneA tuneB,
    s.restRf = { s with rf := { s.rf with state := state, rxFrom := rxFrom, tuneA := tuneA, tuneB := tuneB } } := by
  unfold State.restRf
  split
  · exact ⟨_, _, _, _, rfl⟩
  · exact ⟨_, s.rest_writes⟩

/-- A hop that begins stands before those still to come; only the channel waits for its end. -/
theorem State.startHop_writes (s : State) (c : Nat) : ∃ state cal rxFrom tuneA tuneB invalid bg, s.startHop c = { s with
    rf := { s.rf with hop := some c, hopCal := cal, state := state, rxFrom := rxFrom, tuneA := tuneA, tuneB := tuneB, invalid := invalid }
    bg := bg } := by
  unfold State.startHop
  dsimp only
  generalize ({ s.bg with acc := _ } : Background) = bg
  obtain ⟨rxFrom, tuneA, tuneB, rest⟩ := State.rest_writes { s with rf := { s.rf with hop := some c, hopCal := !s.calNear c }, bg := bg }
  rw [rest]
  split <;> exact ⟨_, _, _, _, _, _, _, rfl⟩

theorem State.startHop_retuned (s : State) (c : Nat) : s.Retuned (s.startHop c) := by
  obtain ⟨state, cal, rxFrom, tuneA, tuneB, invalid, bg, hop⟩ := s.startHop_writes c
  rw [hop]
  exact ⟨rfl, rfl, rfl, rfl⟩

theorem State.nextHop_of_none {s : State} (none : s.rf.hops = []) : s.nextHop = s := by
  simp only [State.nextHop, none]

/-- The first of the queued hops begins where nothing stands in its way. -/
theorem State.nextHop_of_free {s : State} {c : Nat} {r : List Nat} (next : s.rf.hops = c :: r) (free : s.rfBusy = false) (settled : s.rf.hop = none)
    (cal : s.calRunning = false) (awake : s.rfRest ≠ .off) : s.nextHop = ({ s with rf := { s.rf with hops := r } } : State).startHop c := by
  simp [State.nextHop, next, free, settled, cal, awake]

theorem State.nextHop_retuned (s : State) : s.Retuned s.nextHop := by
  unfold State.nextHop
  split
  · split
    · exact .refl s
    · rename_i r _ _
      exact .trans (b := { s with rf := { s.rf with hops := r } }) ⟨rfl, rfl, rfl, rfl⟩ (State.startHop_retuned _ _)
  · exact .refl s

theorem State.invalidate_retuned (s : State) (n : Nat) : s.Retuned (s.invalidate n) := ⟨rfl, rfl, rfl, rfl⟩

theorem State.takeRequest_retuned (s : State) (q : RfCfg × Nat) : s.Retuned (s.takeRequest q) := by
  unfold State.takeRequest
  extract_lets r c g r1 s1 s2 s3
  have tuned : s.Retuned s1 := by
    unfold s1
    split <;> exact ⟨rfl, rfl, rfl, rfl⟩
  have gained : s.Retuned s2 := .ite _ tuned (tuned.trans (s1.invalidate_retuned 8))
  clear_value s1 s2
  have rated : s.Retuned s3 := .ite _ gained (gained.trans (s2.invalidate_retuned 24))
  clear_value s3
  exact .ite _ rated (rated.trans ⟨rfl, rfl, rfl, rfl⟩)

theorem State.takeDeferred_retuned (s : State) : s.Retuned s.takeDeferred := by
  unfold State.takeDeferred
  split
  · exact .refl s
  · refine .trans (b := forEach s.rf.deferred (fun q s => s.takeRequest q) { s with rf := { s.rf with deferred := [] } }) ?_ (State.nextHop_retuned _)
    exact forEach_inv s.Retuned _ _ (fun q x h => h.trans (x.takeRequest_retuned q)) _ ⟨rfl, rfl, rfl, rfl⟩

theorem State.endFrame_retuned (s : State) : ({ s with rf := { s.rf with inFrame := false } } : State).Retuned s.endFrame := by
  refine .trans (b := (s.withAnt s.rf.clearFrame).rest) ?_ (State.takeDeferred_retuned _)
  obtain ⟨rxFrom, tuneA, tuneB, rest⟩ := (s.withAnt s.rf.clearFrame).rest_writes
  rw [rest]
  exact ⟨rfl, rfl, rfl, rfl⟩

/-- A frame's end leaves the front end without a frame, and writes nothing but the front end and the account of its work (09 R221). -/
theorem State.endFrame_writes (s : State) : ∃ rf bg, s.endFrame = { s with rf := rf, bg := bg } ∧ rf.inFrame = false ∧ rf.dropped = s.rf.dropped ∧
    rf.received = s.rf.received := by
  obtain ⟨writes, inFrame, dropped, received⟩ := s.endFrame_retuned
  exact ⟨_, _, writes, inFrame, dropped, received⟩

/-! ### The two ends of a hop (09 R202, R219; log 102) -/

section
variable {s : State} {c : Nat} (e : HopEnd) (t : Nat)

theorem exec_hopSettleComplete_of_none (none : s.rf.hop = none) : exec (.hopSettleComplete e t) s = .next (s.setNow t) := by
  show execHopSettleComplete e t s = _
  simp only [execHopSettleComplete, State.setNow_rf, none]

variable (hop : s.rf.hop = some c)
include hop

theorem exec_hopSettleComplete_of_calibrated (cal : s.rf.hopCal = true) : exec (.hopSettleComplete e t) s =
    .next (if s.schedule then (s.setNow t).hopCalibrated c e else s.setNow t) := by
  show execHopSettleComplete e t s = _
  simp only [execHopSettleComplete, State.setNow_rf, hop, cal, if_true]
  rfl

theorem exec_hopSettleComplete_of_settled (settled : s.rf.hopCal = false) :
    exec (.hopSettleComplete e t) s = .next ((s.setNow t).tuned c).restRf.nextHop := by
  show execHopSettleComplete e t s = _
  simp only [execHopSettleComplete, State.setNow_rf, hop, settled, Bool.false_eq_true, if_false]

end

/-- The settings with a synthesiser calibration's result where it lies within its limits. -/
def State.calKept (s : State) (c : Nat) (e : HopEnd) : Settings := if e.inLimits then (s.keepCal c e.cal).cfg else s.cfg

theorem State.calKept_chan (s : State) {c : Nat} (e : HopEnd) (small : c < 64) (good : e.inLimits = true) :
    (s.calKept c e).chans.getD c {} = { s.chan c with calValid := true, band := e.cal.band, amp := e.cal.amp, calTemp := s.dieDegrees } := by
  rw [State.calKept, if_pos good]
  exact Vec_getD_upd_same _ _ _ _ small

/-- A synthesiser's calibration keeps its time, its result within its limits, and reports. -/
theorem State.calResult_synth (s : State) (c : Nat) (e : HopEnd) : ∃ last, s.calResult 2 c e.inLimits e.cal [] =
    (({ s with rf := { s.rf with lastCal := last }, cfg := s.calKept c e } : State).raise Ev.rcalDone (2 + 256 * c)).raiseIf (!e.inLimits) Ev.rcalFail
      (2 + 256 * c) := by
  unfold State.calResult State.calKept
  cases e.inLimits <;> exact ⟨_, rfl⟩

/-- After its calibration a hop keeps its place and settles. -/
theorem State.hopCalibrated_writes (s : State) (c : Nat) (e : HopEnd) : ∃ last state rxFrom tuneA tuneB ev, s.hopCalibrated c e = { s with
      rf := { s.rf with
        lastCal := last, hopCal := false, state := state, rxFrom := rxFrom, tuneA := tuneA, tuneB := tuneB
        invalid := max s.rf.invalid (s.instant + basebandFs 48) }
      cfg := s.calKept c e
      ev := ev } ∧
    (ev.srcs.getD Ev.rcalDone {}).count = (s.ev.srcs.getD Ev.rcalDone {}).count + 1 ∧
    (ev.srcs.getD Ev.rcalFail {}).count = (s.ev.srcs.getD Ev.rcalFail {}).count + if e.inLimits then 0 else 1 := by
  obtain ⟨last, result⟩ := s.calResult_synth c e
  have count (k : Nat) : (((s.calResult 2 c e.inLimits e.cal []).ev.srcs.getD k {}).count) = (s.ev.srcs.getD k {}).count +
      (if Ev.rcalDone = k ∧ k < 288 then 1 else 0) + if (!e.inLimits) = true ∧ Ev.rcalFail = k ∧ k < 288 then 1 else 0 := by
    rw [result, State.raiseIf_count, State.raise_count]
  obtain ⟨ev, told⟩ : ∃ ev, s.calResult 2 c e.inLimits e.cal [] = { s with rf := { s.rf with lastCal := last }, cfg := s.calKept c e, ev := ev } := by
    rw [result, State.raiseIf]
    split <;> exact ⟨_, rfl⟩
  rw [told] at count
  unfold State.hopCalibrated
  rw [told]
  obtain ⟨state, rxFrom, tuneA, tuneB, rest⟩ := State.restRf_writes
    { s with rf := { s.rf with lastCal := last, hopCal := false }, cfg := s.calKept c e, ev := ev }
  refine ⟨last, state, rxFrom, tuneA, tuneB, ev, congrArg (·.invalidate 48) rest, ?_, ?_⟩
  · rw [show (ev.srcs.getD Ev.rcalDone {}).count = _ from count Ev.rcalDone]
    simp [Ev.rcalDone, Ev.rcalFail]
  · rw [show (ev.srcs.getD Ev.rcalFail {}).count = _ from count Ev.rcalFail]
    cases e.inLimits <;> simp [Ev.rcalDone, Ev.rcalFail]

/-- A front end that is awake, outside frames and calibrations, rests in RX or IDLE, and the next hop begins from there. -/
theorem State.restRf_nextHop {s : State} {d : Nat} {r : List Nat} (next : s.rf.hops = d :: r) (free : s.rfBusy = false) (settled : s.rf.hop = none)
    (noCal : s.rf.hopCal = false) (cal : s.calRunning = false) (run : s.pow.state = .run) (stays : s.pow.sleepEntry = false) :
    s.restRf.nextHop.rf.chan = s.rf.chan ∧ s.restRf.nextHop.rf.hop = some d ∧ s.restRf.nextHop.rf.hops = r := by
  have rests : s.rfRest = .rx ∨ s.rfRest = .idle := by
    simp only [State.rfRest, run, stays, noCal, cal, ne_eq, not_true_eq_false, decide_false, Bool.or_self, Bool.false_eq_true, if_false]
    split <;> simp
  obtain ⟨rxFrom, tuneA, tuneB, rest⟩ := s.rest_writes
  have still : s.rest.rfBusy = false := by
    rw [rest]
    simp only [State.rfBusy, Bool.or_eq_false_iff, decide_eq_false_iff_not] at free ⊢
    refine ⟨⟨free.1.1, ?_⟩, free.2⟩
    rcases rests with rx | idle <;> simp [*]
  have awake : s.rest.rfRest ≠ .off := by
    rw [rest]
    show s.rfRest ≠ .off
    rcases rests with rx | idle <;> simp [*]
  rw [State.restRf, if_neg (by simp [free]),
    State.nextHop_of_free (by rw [rest]; exact next) still (by rw [rest]; exact settled) (by rw [rest]; exact cal) awake]
  obtain ⟨state, cal, rxFrom', tuneA', tuneB', invalid, bg, hop⟩ := State.startHop_writes { s.rest with rf := { s.rest.rf with hops := r } } d
  rw [hop, rest]
  exact ⟨rfl, rfl, rfl⟩

/-! ### Loss of lock (09 R215, R222) -/

/-- The loss of lock as it is told. -/
def State.unlocked (s : State) : State :=
  ({ s with rf := { s.rf with lock := false } } : State).raiseFrom Ev.synthUnlock (s.rf.chan + 256 * b2n (s.rf.state = .tx))

@[simp] theorem State.unlocked_rf (s : State) : s.unlocked.rf = { s.rf with lock := false } := State.raiseFrom_rf _ _ _

@[simp] theorem State.unlocked_com (s : State) : s.unlocked.com = s.com := State.raiseFrom_com _ _ _

theorem State.unlocked_count {s : State} (inTime : s.crossesLate = false) :
    (s.unlocked.ev.srcs.getD Ev.synthUnlock {}).count = (s.ev.srcs.getD Ev.synthUnlock {}).count + 1 :=
  State.raiseFrom_count (s := { s with rf := { s.rf with lock := false } }) _ _ (by decide) inTime

theorem State.unlocked_dropCount (s : State) : (s.unlocked.ev.srcs.getD Ev.rxDropped {}).count = (s.ev.srcs.getD Ev.rxDropped {}).count := by
  unfold State.unlocked State.raiseFrom
  split
  · rfl
  · rw [State.raise_count, if_neg (by decide)]
    exact BitVec.add_zero _

section
variable {s : State} (t : Nat)

theorem exec_synthUnlock_of_tx (sends : s.rf.state = .tx) :
    exec (.synthUnlock t) s = .next { (s.setNow t).unlocked with rf := { s.rf with lock := false, cut := true, tone := 0 } } := by
  refine (if_pos sends).trans ?_
  show Host.Outcome.next { (s.setNow t).unlocked with rf := { (s.setNow t).unlocked.rf with cut := true, tone := 0 } } = _
  rw [State.unlocked_rf]
  rfl

variable (receives : s.rf.state ≠ .tx)
include receives

theorem exec_synthUnlock_of_frame (inFrame : s.rf.inFrame = true) : exec (.synthUnlock t) s = .next ((s.setNow t).unlocked.dropRx 3).endFrame := by
  have still : (s.setNow t).unlocked.rf.inFrame = true := by rw [State.unlocked_rf]; exact inFrame
  exact (if_neg receives).trans (if_pos still)

theorem exec_synthUnlock_of_no_frame (noFrame : s.rf.inFrame = false) : exec (.synthUnlock t) s = .next (s.setNow t).unlocked := by
  have still : ¬ (s.setNow t).unlocked.rf.inFrame = true := by rw [State.unlocked_rf]; simpa using noFrame
  exact (if_neg receives).trans (if_neg still)

end

end Sys2Proof.Machine

open Sys2Proof Sys2Proof.Machine

/-- Settles O43, row by row: a carrier by what it is, the window's end by whether it is due, a block by whether it forms and what its gain step finds, a hop by
which of its two ends comes, and a loss of lock by what the front end was doing. -/
theorem frontEndReceives : Obligations.FrontEndReceives := by
  intro s t
  refine ⟨?carrier, ?silence, ?due, fun w => exec_diversityWindowEnd_of_open, fun sfd => exec_diversityWindowEnd_of_none sfd t,
    fun rssi sat peak sfd iq => exec_rxBlock_of_unformed rssi sat peak sfd iq, ?auto, ?fixed, ?frozen, fun ok cal => exec_hopSettleComplete_of_none _ t,
    ?suspended, ?calibrated, ?settled, ?next, ?unlocked, ?dropped, ?cut⟩
  case carrier =>
    intro x rx noFrame noHop last above
    exact exec_carrierDetect_of_carrier ((State.hasCarrier_iff _).mpr ⟨rx, noFrame, noHop, x, last, above⟩)
  case silence =>
    intro h
    refine exec_carrierDetect_of_none (Bool.eq_false_iff.mpr fun carrier => ?_)
    obtain ⟨rx, noFrame, noHop, x, last, above⟩ := (State.hasCarrier_iff _).mp carrier
    rcases h with h | h | h | h
    · exact h rx
    · exact Bool.false_ne_true (noFrame.symm.trans h)
    · exact h noHop
    · exact absurd (h x last) (not_le.mpr above)
  case due =>
    intro w sfd opened due
    exact ⟨_, exec_diversityWindowEnd_of_due opened due, rfl, rfl, rfl, rfl, rfl⟩
  case auto =>
    intro rssi sat peak iq formed auto free
    obtain ⟨capture, clean, stands, win, host, ev, noted⟩ := (s.setNow t).blockNoted_writes rssi sat iq
    obtain ⟨invalid, steps⟩ := State.agcStep_of_auto (s := (s.setNow t).blockNoted rssi sat iq) sat peak (by rw [noted]; exact free)
      (by rw [noted]; exact auto)
    rw [exec_rxBlock_of_formed _ _ _ _ _ formed, State.seeSfd_false, steps, noted]
    exact ⟨_, rfl, rfl, agcNext_eq _ _ _, rfl, rfl, rfl, rfl⟩
  case fixed =>
    intro rssi sat peak iq formed fixed free
    obtain ⟨capture, clean, stands, win, host, ev, noted⟩ := (s.setNow t).blockNoted_writes rssi sat iq
    have steps := State.agcStep_of_fixed (s := (s.setNow t).blockNoted rssi sat iq) sat peak (by rw [noted]; exact free) (by rw [noted]; exact fixed)
    rw [exec_rxBlock_of_formed _ _ _ _ _ formed, State.seeSfd_false, steps, noted]
    exact ⟨_, rfl, rfl, rfl, rfl, rfl⟩
  case frozen =>
    intro rssi sat peak sfd iq formed h
    have frozen : ((s.setNow t).seeSfd sfd).rf.frozen = true := by
      rcases h with frozen | ⟨seen, inFrame⟩
      · simp [State.seeSfd, frozen]
      · simp [State.seeSfd, seen, inFrame]
    obtain ⟨capture, clean, stands, win, host, ev, noted⟩ := ((s.setNow t).seeSfd sfd).blockNoted_writes rssi sat iq
    have steps := State.agcStep_of_frozen (s := ((s.setNow t).seeSfd sfd).blockNoted rssi sat iq) sat peak (by rw [noted]; exact frozen)
    rw [exec_rxBlock_of_formed _ _ _ _ _ formed, steps, noted]
    exact ⟨_, rfl, frozen, rfl, rfl⟩
  case suspended =>
    intro c ok cal hop calibrates stopped
    rw [exec_hopSettleComplete_of_calibrated _ t hop calibrates, if_neg (by simp [stopped])]
  case calibrated =>
    intro c ok cal hop small calibrates runs
    obtain ⟨last, state, rxFrom, tuneA, tuneB, ev, writes, done, failed⟩ := (s.setNow t).hopCalibrated_writes c ⟨ok, cal⟩
    rw [exec_hopSettleComplete_of_calibrated _ t hop calibrates, if_pos runs, writes]
    refine ⟨_, rfl, hop, rfl, rfl, rfl, rfl, fun good => ?_, fun bad => if_neg (by simp [bad]), done, failed⟩
    have kept := (s.setNow t).calKept_chan ⟨ok, cal⟩ small good
    exact ⟨congrArg Chan.calValid kept, congrArg Chan.band kept, congrArg Chan.calTemp kept, (congrArg Chan.freq kept :)⟩
  case settled =>
    intro c ok cal hop settled last
    obtain ⟨state, rxFrom, tuneA, tuneB, rest⟩ := ((s.setNow t).tuned c).restRf_writes
    have stays : ((s.setNow t).tuned c).restRf.nextHop = ((s.setNow t).tuned c).restRf := State.nextHop_of_none (by rw [rest]; exact last)
    rw [exec_hopSettleComplete_of_settled _ t hop settled, stays, rest]
    exact ⟨_, rfl, rfl, rfl, rfl, rfl, rfl⟩
  case next =>
    intro c d r ok cal hop settled next free noCal run stays
    rw [exec_hopSettleComplete_of_settled _ t hop settled]
    exact ⟨_, rfl, State.restRf_nextHop (s := (s.setNow t).tuned c) next free rfl rfl noCal run stays⟩
  case unlocked =>
    intro receives noFrame
    rw [exec_synthUnlock_of_no_frame t receives noFrame, State.unlocked]
    simp [receives, b2n]
  case dropped =>
    intro receives inFrame
    obtain ⟨rf, bg, ended, noFrame, dropped, -⟩ := ((s.setNow t).unlocked.dropRx 3).endFrame_writes
    have count (k : Nat) : (((s.setNow t).unlocked.dropRx 3).ev.srcs.getD k {}).count =
      ((s.setNow t).unlocked.ev.srcs.getD k {}).count + if Ev.rxDropped = k ∧ k < 288 then 1 else 0 := State.raise_count _ _ _ _
    rw [exec_synthUnlock_of_frame t receives inFrame, ended]
    refine ⟨_, rfl, noFrame, dropped.trans ?_, fun inTime => ?_, ?_⟩
    · simp [State.dropRx]
    · rw [count, if_neg (by decide), State.unlocked_count inTime]
      exact BitVec.add_zero _
    · rw [count, if_pos (by decide), State.unlocked_dropCount]
      rfl
  case cut =>
    intro sends
    exact ⟨_, exec_synthUnlock_of_tx t sends, rfl, State.unlocked_com _, State.unlocked_count⟩

end

section
/-! A received frame from its end in the front end to what slot 7 makes of it: the injection on its link, the checks of R238 in their order, and what a frame that
they take does by its TYPE, with O46 (01 R17, R18; 09 R203, R220, R222; 10 R232, R233, R236, R238–R240; 19 R432). -/

namespace Sys2Proof.Machine

/-! ### The frame's end (09 R203, R220, R222; 19 R432) -/

section
variable {s : State} {f : RxFrame} (t : Nat)

theorem exec_radioFrameReceived_of_deaf (deaf : s.rf.state ≠ .rx) : exec (.radioFrameReceived f t) s = .next (s.setNow t) := if_pos deaf

variable (receives : s.rf.state = .rx)
include receives

theorem exec_radioFrameReceived_of_header (fault : f.modeSwitch = true ∨ 255 < f.length) :
    ∃ cause, exec (.radioFrameReceived f t) s = .next ((s.setNow t).dropRx cause).endFrame := by
  show ∃ cause, execRadioFrameReceived f t s = _
  cases switch : f.modeSwitch with
  | true => exact ⟨1, by simp [execRadioFrameReceived, receives, switch]⟩
  | false =>
    have long : 255 < f.length := fault.resolve_left (by simp [switch])
    exact ⟨2, by simp [execRadioFrameReceived, receives, switch, long]⟩

variable (plain : f.modeSwitch = false) (short : f.length ≤ 255)
include plain short

theorem exec_radioFrameReceived_of_bad_fcs (bad : f.fcsOk = false) : exec (.radioFrameReceived f t) s = .next (s.setNow t).endFrame := by
  show execRadioFrameReceived f t s = _
  simp [execRadioFrameReceived, receives, plain, Nat.not_lt.mpr short, bad]

theorem exec_radioFrameReceived_of_good (good : f.fcsOk = true) : exec (.radioFrameReceived f t) s =
    .next ((s.setNow t).endFrame.receiveFrame ((s.setNow t).inbound ((s.setNow t).rxStamped f))) := by
  show execRadioFrameReceived f t s = _
  simp [execRadioFrameReceived, receives, plain, Nat.not_lt.mpr short, good]

end

/-- A frame taken in counts, and waits for slot 7 where the MAC listens. -/
theorem State.takeIn_eq (s : State) (f : Inbound) : s.takeIn f = { s with
    rf := { s.rf with received := s.rf.received + 1 }
    com := if s.macListens then { s.com with inbox := s.com.inbox ++ [f] } else s.com } := by
  unfold State.takeIn
  dsimp only
  split <;> rfl

theorem State.releaseHeld_of_none {s : State} (none : s.com.heldFrame = none) : s.releaseHeld = s := by
  simp only [State.releaseHeld, none]

section
variable {s : State} (f : Inbound) (none : s.com.heldFrame = none)
include none

theorem State.receiveFrame_of_no_injection (quiet : s.test.commons.kind = 0) : s.receiveFrame f = s.takeIn f := by
  have taken : (s.takeIn f).com.heldFrame = Option.none := by
    rw [State.takeIn_eq]
    dsimp only
    split <;> exact none
  unfold State.receiveFrame
  dsimp only
  rw [Injection.hit_of_none quiet]
  exact State.releaseHeld_of_none taken

/-- A drop that acts once takes the frame, counts, and is used up. -/
theorem State.receiveFrame_of_drop (drops : s.test.commons.kind = 1) (once : s.test.commons.every = 0) : s.receiveFrame f =
    { s with test := { s.test with commons := { s.test.commons with kind := 0, seen := 0, drop := s.test.commons.drop + 1 } } } := by
  have hit : s.test.commons.hit = (true, { s.test.commons with kind := 0, seen := 0 }) := by simp [Injection.hit, drops, once]
  unfold State.receiveFrame
  dsimp only
  rw [hit, drops]
  exact State.releaseHeld_of_none none

end

/-! ### Slot 7 after its frames (10 R225, R230, R232, R233, R241) -/

/-- What slot 7 does after the frames it has received. -/
def State.macEnd (s : State) : State := s.beaconMissed.backoff.exchangeTimeout.beaconDue.delayReqDue.delayRespDue

theorem State.beaconMissed_of_early {s : State} (early : ∀ e q, s.com.expect = some (e, q) → s.instant < e + 4000000000000) : s.beaconMissed = s := by
  unfold State.beaconMissed
  split
  · rename_i e q expect
    exact if_neg (Nat.not_le.mpr (early e q expect))
  · rfl

theorem State.backoff_of_none {s : State} (none : s.com.ccaFold = none) : s.backoff = s := by
  have cleared : s.backoff = { s with com := { s.com with ccaFold := Option.none } } := by
    unfold State.backoff
    rw [none]
  exact cleared.trans (congrArg (fun x => { s with com := { s.com with ccaFold := x } }) none.symm)

theorem State.exchangeTimeout_of_in_time {s : State} (inTime : ∀ r ∈ s.com.requests, s.clk.absFold.toNat < r.fold + 400) : s.exchangeTimeout = s := by
  have kept : s.com.requests.filter (fun r => !decide (r.fold + 400 ≤ s.clk.absFold.toNat)) = s.com.requests :=
    List.filter_eq_self.mpr fun r mem => by simp [inTime r mem]
  have none : s.com.requests.countP (fun r => decide (r.fold + 400 ≤ s.clk.absFold.toNat)) = 0 :=
    List.countP_eq_zero.mpr fun r mem => by simp [inTime r mem]
  unfold State.exchangeTimeout
  dsimp only
  rw [kept, none]
  exact congrArg (fun x => { s with com := { s.com with cnt := { s.com.cnt with exRejected := x } } }) (BitVec.add_zero _)

theorem State.beaconDue_of_not_due {s : State} (notDue : s.com.state ≠ .master ∨ s.deviceFold % s.periodFolds ≠ s.cfg.com.beaconFold) : s.beaconDue = s :=
  if_neg (by rcases notDue with h | h <;> simp [h])

theorem State.delayReqDue_of_not_due {s : State} (notDue : ∀ k ∈ s.com.reqFolds, s.clk.absFold.toNat < k) : s.delayReqDue = s := by
  have none : s.com.reqFolds.filter (fun k => decide (k ≤ s.clk.absFold.toNat)) = [] :=
    List.filter_eq_nil_iff.mpr fun k mem => by simp [notDue k mem]
  have kept : s.com.reqFolds.filter (fun k => decide (s.clk.absFold.toNat < k)) = s.com.reqFolds :=
    List.filter_eq_self.mpr fun k mem => by simp [notDue k mem]
  unfold State.delayReqDue
  dsimp only
  rw [none, kept]
  (repeat' split) <;> rfl

theorem State.delayRespDue_of_not_due {s : State} (notDue : ∀ o ∈ s.com.owed, s.clk.absFold.toNat < o.dueFold) : s.delayRespDue = s := by
  have none : s.com.owed.filter (fun o => decide (o.dueFold ≤ s.clk.absFold.toNat)) = [] :=
    List.filter_eq_nil_iff.mpr fun o mem => by simp [notDue o mem]
  have kept : s.com.owed.filter (fun o => decide (s.clk.absFold.toNat < o.dueFold)) = s.com.owed :=
    List.filter_eq_self.mpr fun o mem => by simp [notDue o mem]
  unfold State.delayRespDue
  dsimp only
  rw [none, kept]
  rfl

/-- Where nothing is lost, due or late, the slot does nothing after its frames. -/
theorem State.macEnd_of_quiet {s : State} (quiet : macQuiet s s.clk.now) : s.macEnd = s := by
  obtain ⟨-, noBackoff, early, inTime, noBeacon, noRequest, noResponse⟩ := quiet
  rw [State.macEnd, State.beaconMissed_of_early early, State.backoff_of_none noBackoff, State.exchangeTimeout_of_in_time inTime,
    State.beaconDue_of_not_due noBeacon, State.delayReqDue_of_not_due noRequest, State.delayRespDue_of_not_due noResponse]

theorem State.commonsLos_of_kept {s : State} (kept : s.com.lost = false) : s.commonsLos = s := by
  have stays : s.commonsLos = { s with com := { s.com with lost := false } } := if_neg (by simp [kept])
  exact stays.trans (congrArg (fun x => { s with com := { s.com with lost := x } }) kept.symm)

/-- Slot 7 with its queue of received frames empty. -/
def State.macReady (s : State) (t : Nat) : State := { s.enterSlot 7 t with com := { s.com with inbox := [] } }

/-- Slot 7 with one frame checks it, and does what else is for it to do. -/
theorem exec_commonsMacSlot_of_one {s : State} {t : Nat} {x : Inbound} (met : frameMet s t x) :
    exec (.commonsMacSlot t) s = .next ((s.macReady t).checkFrame x).macEnd := by
  obtain ⟨due, runs, one, kept, -⟩ := met
  have los : (s.enterSlot 7 t).commonsLos = s.enterSlot 7 t := State.commonsLos_of_kept kept
  have inbox : (s.enterSlot 7 t).com.inbox = [x] := one
  have macRuns : (s.enterSlot 7 t).macRuns = true := runs
  show Host.Outcome.next (s.inSlot 7 t fun s => s.macSlot) = _
  rw [State.inSlot_of_due due, State.macSlot, if_pos macRuns, los, State.readInbox, inbox]
  rfl

/-! ### The checks of R238 -/

/-- Version 1 and a known TYPE. -/
abbrev frameTyped (b : List Byte) : Prop := fld b 0 1 % 16 = 1 ∧ 16 ≤ fld b 0 1 ∧ fld b 0 1 < 96

/-- The checks after the tag's: freshness, the addressee, and room for a beacon's sender. -/
def State.admitFrame (s : State) (f : Inbound) (kind : Nat) : State :=
  let b := f.frame.psdu
  let secs := if kind = 1 then some (fld b 10 6) else none
  if !s.com.fresh (fld b 4 4) (fld b 8 2) secs then
    ({ s with com := { s.com with cnt := { s.com.cnt with replay := s.com.cnt.replay + 1 } } } : State).raise Ev.replay (fld b 4 4)
  else if kind ≠ 1 && fld b 10 4 ≠ s.cfg.com.devId then s
  else if kind = 1 && !s.replayRoom (fld b 4 4) then { s with com := { s.com with cnt := { s.com.cnt with overflow := s.com.cnt.overflow + 1 } } }
  else (s.noteReplay (fld b 4 4) (fld b 8 2) secs).acceptFrame f (fld b 4 4)

section
variable {s : State} {f : Inbound}

theorem State.checkFrame_of_malformed (bad : fld f.frame.psdu 0 1 % 16 ≠ 1 ∨ fld f.frame.psdu 0 1 < 16 ∨ 96 ≤ fld f.frame.psdu 0 1) :
    s.checkFrame f = { s with com := { s.com with cnt := { s.com.cnt with badFrame := s.com.cnt.badFrame + 1 } } } := by
  refine if_pos ?_
  simp only [Bool.or_eq_true, decide_eq_true_eq]
  omega

variable (typed : frameTyped f.frame.psdu)
include typed

theorem State.checkFrame_of_stranger (other : fld f.frame.psdu 2 2 ≠ s.cfg.com.netId) :
    s.checkFrame f = { s with com := { s.com with cnt := { s.com.cnt with stranger := s.com.cnt.stranger + 1 } } } := by
  refine (if_neg ?_).trans (if_pos other)
  simp only [Bool.or_eq_true, decide_eq_true_eq]
  omega

/-- A frame without the tag that the key gives, or too short to hold one, or where there is no key, is forged (log 59). -/
theorem State.checkFrame_of_untaggable (own : fld f.frame.psdu 2 2 = s.cfg.com.netId)
    (untagged : s.com.key = none ∨ f.frame.psdu.length < frameMin (fld f.frame.psdu 0 1 / 16)) : s.checkFrame f =
      ({ s with com := { s.com with cnt := { s.com.cnt with forged := s.com.cnt.forged + 1 } } } : State).raise Ev.forged (fld f.frame.psdu 4 4) := by
  refine (if_neg ?_).trans ((if_neg (not_not.mpr own)).trans (if_pos ?_))
  · simp only [Bool.or_eq_true, decide_eq_true_eq]
    omega
  · rcases untagged with noKey | short
    · simp [noKey]
    · simp [short]

theorem State.checkFrame_of_tagged {kind : Nat} (tagged : frameTagged s f.frame.psdu kind) : s.checkFrame f = s.admitFrame f kind := by
  obtain ⟨head, own, long, k, key, tag⟩ := tagged
  have kindIs : fld f.frame.psdu 0 1 / 16 = kind := by omega
  refine (if_neg ?_).trans ((if_neg (not_not.mpr own)).trans ((if_neg ?_).trans ?_))
  · simp only [Bool.or_eq_true, decide_eq_true_eq]
    omega
  · simp [kindIs, Nat.not_lt.mpr long, key, tag]
  · rw [kindIs]
    rfl

end

theorem frameTyped_of_tagged {s : State} {b : List Byte} {kind : Nat} (tagged : frameTagged s b kind) (low : 1 ≤ kind) (high : kind ≤ 5) : frameTyped b := by
  obtain ⟨head, -⟩ := tagged
  omega

section
variable {s : State} {f : Inbound} {kind : Nat}

theorem State.admitFrame_of_stale
    (stale : s.com.fresh (fld f.frame.psdu 4 4) (fld f.frame.psdu 8 2) (if kind = 1 then some (fld f.frame.psdu 10 6) else none) = false) :
    s.admitFrame f kind =
      ({ s with com := { s.com with cnt := { s.com.cnt with replay := s.com.cnt.replay + 1 } } } : State).raise Ev.replay (fld f.frame.psdu 4 4) :=
  if_pos (by rw [stale]; rfl)

theorem State.admitFrame_of_beacon (fresh : s.com.fresh (fld f.frame.psdu 4 4) (fld f.frame.psdu 8 2) (some (fld f.frame.psdu 10 6)) = true)
    (room : s.replayRoom (fld f.frame.psdu 4 4) = true) : s.admitFrame f 1 =
      (s.noteReplay (fld f.frame.psdu 4 4) (fld f.frame.psdu 8 2) (some (fld f.frame.psdu 10 6))).acceptFrame f (fld f.frame.psdu 4 4) := by
  simp [State.admitFrame, fresh, room]

variable (addressed : kind ≠ 1) (fresh : s.com.fresh (fld f.frame.psdu 4 4) (fld f.frame.psdu 8 2) none = true)
include addressed fresh

theorem State.admitFrame_of_elsewhere (other : fld f.frame.psdu 10 4 ≠ s.cfg.com.devId) : s.admitFrame f kind = s := by
  simp [State.admitFrame, addressed, fresh, other]

theorem State.admitFrame_of_own (own : fld f.frame.psdu 10 4 = s.cfg.com.devId) : s.admitFrame f kind =
    (s.noteReplay (fld f.frame.psdu 4 4) (fld f.frame.psdu 8 2) none).acceptFrame f (fld f.frame.psdu 4 4) := by
  simp [State.admitFrame, addressed, fresh, own]

end

/-- The replay state alone is written, and after a beacon it holds what the beacon carried (10 R239). -/
theorem State.noteReplay_writes (s : State) (id seq : Nat) (secs : Option Nat) : ∃ l, s.noteReplay id seq secs = { s with com := { s.com with replay := l } } ∧
    ∀ n, secs = some n → ∃ r ∈ l, r.id = id ∧ r.seq = seq ∧ r.secs = some n := by
  unfold State.noteReplay
  split
  · rename_i r known
    refine ⟨_, rfl, fun n named => ⟨{ r with seq := seq, secs := some n }, List.mem_map.mpr ⟨r, List.mem_of_find?_eq_some known, ?_⟩, ?_, rfl, rfl⟩⟩
    · rw [if_pos (by simpa using List.find?_some known), named]
      rfl
    · simpa using List.find?_some known
  · split
    · exact ⟨_, rfl, fun n named => ⟨_, List.mem_append_right _ (List.mem_singleton.mpr rfl), rfl, rfl, named⟩⟩
    · rename_i unnamed
      exact ⟨_, rfl, fun n named => absurd (by simp [named]) unnamed⟩

/-! ### What a frame that is taken does, by TYPE -/

section
variable {s : State} {f : Inbound} {src : Nat}

theorem State.acceptFrame_of_beacon (kind : fld f.frame.psdu 0 1 = 16 * 1 + 1) : s.acceptFrame f src = s.acceptBeacon f src := by
  simp [State.acceptFrame, kind]

theorem State.acceptFrame_of_request (kind : fld f.frame.psdu 0 1 = 16 * 2 + 1) :
    s.acceptFrame f src = s.acceptRequest f src (fld f.frame.psdu 8 2) := by
  simp [State.acceptFrame, kind]

theorem State.acceptFrame_of_response {r : Request} (kind : fld f.frame.psdu 0 1 = 16 * 3 + 1) (one : s.com.requests = [r]) (seq : r.seq = fld f.frame.psdu 14 2)
    (master : r.master = src) : s.acceptFrame f src =
      s.judgeExchange r (fld f.frame.psdu 16 6 * 1000000000 + fld f.frame.psdu 22 4) (fld f.frame.psdu 26 4) f.rxFs := by
  simp [State.acceptFrame, kind, one, seq, master]

theorem State.acceptFrame_of_mgmt (kind : fld f.frame.psdu 0 1 = 16 * 4 + 1) :
    s.acceptFrame f src = s.acceptMgmt src ((f.frame.psdu.drop 14).take (f.frame.psdu.length - 18)) := by
  simp [State.acceptFrame, kind]

end

/-! ### Slot 7 with one frame, by what its checks find -/

/-- Slot 7 with its queue empty and a replay state. -/
def State.macNoted (s : State) (t : Nat) (l : List Replay) : State := { s.enterSlot 7 t with com := { s.com with inbox := [], replay := l } }

section
variable {s : State} {t kind : Nat} {x : Inbound}

/-- Where the checks leave nothing else for the slot to do, what they leave is its result. -/
theorem exec_commonsMacSlot_of_checked {y : State} (met : frameMet s t x) (checked : (s.macReady t).checkFrame x = y) (quiet : macQuiet y y.clk.now) :
    exec (.commonsMacSlot t) s = .next y := by
  rw [exec_commonsMacSlot_of_one met, checked, State.macEnd_of_quiet quiet]

theorem State.macReady_checkFrame (tagged : frameTagged s x.frame.psdu kind) (low : 1 ≤ kind) (high : kind ≤ 5) :
    (s.macReady t).checkFrame x = (s.macReady t).admitFrame x kind :=
  State.checkFrame_of_tagged (frameTyped_of_tagged tagged low high) tagged

/-- Where slot 7 meets one frame, nothing else is for it to do. -/
theorem macQuiet_of_met (met : frameMet s t x) : macQuiet s t := by
  obtain ⟨-, -, -, quiet⟩ := met
  exact quiet

/-- An accepted frame to this device has its replay state kept and does what its TYPE says, where that leaves nothing else for the slot to do. -/
theorem exec_commonsMacSlot_of_own (taken : frameTaken s t x kind none) (low : 2 ≤ kind) (high : kind ≤ 5)
    (own : fld x.frame.psdu 10 4 = s.cfg.com.devId) :
    ∃ l, ∀ y, (s.macNoted t l).acceptFrame x (fld x.frame.psdu 4 4) = y → macQuiet y y.clk.now → exec (.commonsMacSlot t) s = .next y := by
  obtain ⟨met, tagged, fresh⟩ := taken
  obtain ⟨l, noted, -⟩ := (s.macReady t).noteReplay_writes (fld x.frame.psdu 4 4) (fld x.frame.psdu 8 2) none
  have admitted : (s.macReady t).admitFrame x kind = _ := State.admitFrame_of_own (by omega) fresh own
  refine ⟨l, fun y accepted quiet => exec_commonsMacSlot_of_checked met ?_ quiet⟩
  rw [State.macReady_checkFrame tagged (by omega) high, admitted, noted]
  exact accepted

/-- An accepted beacon has the replay state of its sender kept, and is heard. -/
theorem exec_commonsMacSlot_of_beacon (taken : frameTaken s t x 1 (some (fld x.frame.psdu 10 6))) (room : s.replayRoom (fld x.frame.psdu 4 4) = true) :
    ∃ l, exec (.commonsMacSlot t) s = .next ((s.macNoted t l).acceptBeacon x (fld x.frame.psdu 4 4)).macEnd ∧
      ∃ r ∈ l, r.id = fld x.frame.psdu 4 4 ∧ r.seq = fld x.frame.psdu 8 2 ∧ r.secs = some (fld x.frame.psdu 10 6) := by
  obtain ⟨met, tagged, fresh⟩ := taken
  have ⟨head, _⟩ := tagged
  obtain ⟨l, noted, keeps⟩ := (s.macReady t).noteReplay_writes (fld x.frame.psdu 4 4) (fld x.frame.psdu 8 2) (some (fld x.frame.psdu 10 6))
  have admitted : (s.macReady t).admitFrame x 1 = _ := State.admitFrame_of_beacon fresh room
  rw [exec_commonsMacSlot_of_one met, State.macReady_checkFrame tagged (by decide) (by decide), admitted, noted, State.acceptFrame_of_beacon head]
  exact ⟨l, rfl, keeps _ rfl⟩

end

/-! ### An accepted beacon (10 R236) -/

/-- What an accepted beacon leaves of itself apart from tracking, with the failed CCA that is to be answered. -/
def State.reception (s : State) : List Inbound × Option Nat × Option Int × BitVec 32 × List Heard × List Replay × HostIo × Settings :=
  (s.com.inbox, s.com.ccaFold, s.com.rssi, s.com.cnt.accepted, s.com.heard, s.com.replay, s.host, s.cfg)

theorem State.hear_writes (s : State) (id grade unc : Nat) : ∃ l h, s.hear id grade unc = { s with com := { s.com with heard := l ++ [h] } } ∧
    h.id = id ∧ h.grade = grade ∧ h.fold = s.clk.absFold.toNat ∧ h.unc = unc := ⟨_, _, rfl, rfl, rfl, rfl, rfl⟩

theorem State.beaconLabel_reception (s : State) (b : List Byte) (x : Int) : (s.beaconLabel b x).reception = s.reception := by
  unfold State.beaconLabel
  dsimp only
  split <;> rfl

theorem State.setMac_reception (s : State) (m : MacState) : (s.setMac m).reception = s.reception := by
  unfold State.setMac State.raiseIf
  split <;> rfl

theorem State.trackMaster_reception (s : State) (m : Option Nat) : (s.trackMaster m).reception = s.reception := by
  unfold State.trackMaster
  dsimp only
  split
  · rfl
  · split
    · rfl
    · split
      · exact State.setMac_reception _ _
      · rfl

/-- A sample writes candidates, events and the model's second alone. -/
theorem State.sampleAt_reception (s : State) (i t : Nat) (v : Fs) : (s.sampleAt i t v).com = s.com ∧ (s.sampleAt i t v).host = s.host ∧
    (s.sampleAt i t v).cfg = s.cfg := by
  unfold State.sampleAt State.trip State.gather
  dsimp only
  (repeat' split) <;> simp [State.acceptSample]

theorem State.askDelay_writes (s : State) : ∃ period folds n, s.askDelay = { s with
    com := { s.com with reqPeriod := period, reqFolds := folds }, freeN := n } := by
  unfold State.askDelay
  dsimp only
  (repeat' split) <;> exact ⟨_, _, _, rfl⟩

/-- A beacon of the tracked master changes neither the master nor what was received, and REFC takes its grade (10 R237). -/
theorem State.trackedBeacon_facts (s : State) (f : Inbound) : (s.trackedBeacon f).reception = s.reception ∧ (s.trackedBeacon f).com.tracked = s.com.tracked ∧
    ((s.trackedBeacon f).cand 7).advNew = some (fld f.frame.psdu 1 1 / 16) := by
  unfold State.trackedBeacon
  extract_lets b tx v killed t s1 u s2
  have sampled : s1.com = s.com ∧ s1.host = s.host ∧ s1.cfg = s.cfg := by
    unfold s1
    split
    · exact ⟨rfl, rfl, rfl⟩
    · exact State.sampleAt_reception _ _ _ _
  obtain ⟨com, host, cfg⟩ := sampled
  clear_value s1
  obtain ⟨period, folds, n, asks⟩ := State.askDelay_writes { s2 with com := { s2.com with expect := some (t + s2.periodFolds * foldFs, fld b 8 2 + 1) } }
  rw [asks]
  refine ⟨?_, show s1.com.tracked = s.com.tracked from congrArg Commons.tracked com, ?_⟩
  · show s1.reception = s.reception
    simp only [State.reception, com, host, cfg]
  · exact congrArg Cand.advNew (s1.cand_updCand_self (i := 7) _ (by decide))

/-- An accepted beacon counted, heard and labelled, before it is tracked. -/
def State.heardBeacon (s : State) (f : Inbound) (src : Nat) : State :=
  (({ s with com := { s.com with rssi := some (divNear f.frame.rssi 2), cnt := { s.com.cnt with accepted := s.com.cnt.accepted + 1 } } } : State).hear src
    (fld f.frame.psdu 1 1 / 16) (fld f.frame.psdu 20 4)).beaconLabel f.frame.psdu f.at_

/-- The device with the master that it tracks after the beacon. -/
def State.masterChosen (s : State) (f : Inbound) (src : Nat) : State := (s.heardBeacon f src).trackMaster ((s.heardBeacon f src).chooseMaster src)

theorem State.acceptBeacon_of_tracked {s : State} {f : Inbound} {src : Nat} (tracked : (s.masterChosen f src).com.tracked = some src) :
    s.acceptBeacon f src = (s.masterChosen f src).trackedBeacon f := if_pos tracked

theorem State.acceptBeacon_of_other {s : State} {f : Inbound} {src : Nat} (other : (s.masterChosen f src).com.tracked ≠ some src) :
    s.acceptBeacon f src = s.masterChosen f src := if_neg other

/-- It is heard with its grade and uncertainty, and counts. -/
theorem State.heardBeacon_reception (s : State) (f : Inbound) (src : Nat) : ∃ l h, (s.heardBeacon f src).reception =
    (s.com.inbox, s.com.ccaFold, some (divNear f.frame.rssi 2), s.com.cnt.accepted + 1, l ++ [h], s.com.replay, s.host, s.cfg) ∧
    h.id = src ∧ h.grade = fld f.frame.psdu 1 1 / 16 ∧ h.fold = s.clk.absFold.toNat ∧ h.unc = fld f.frame.psdu 20 4 := by
  obtain ⟨l, h, hears, facts⟩ := State.hear_writes
    { s with com := { s.com with rssi := some (divNear f.frame.rssi 2), cnt := { s.com.cnt with accepted := s.com.cnt.accepted + 1 } } } src
    (fld f.frame.psdu 1 1 / 16) (fld f.frame.psdu 20 4)
  refine ⟨l, h, ?_, facts⟩
  rw [State.heardBeacon, State.beaconLabel_reception, hears]
  rfl

/-- Whether it is tracked or not, what was heard of it stands. -/
theorem State.acceptBeacon_reception (s : State) (f : Inbound) (src : Nat) : (s.acceptBeacon f src).reception = (s.heardBeacon f src).reception := by
  have chosen : (s.masterChosen f src).reception = (s.heardBeacon f src).reception := State.trackMaster_reception _ _
  by_cases tracked : (s.masterChosen f src).com.tracked = some src
  · obtain ⟨kept, -⟩ := (s.masterChosen f src).trackedBeacon_facts f
    rw [State.acceptBeacon_of_tracked tracked, kept, chosen]
  · rw [State.acceptBeacon_of_other tracked, chosen]

/-- Where its sender is tracked after it, REFC takes its grade. -/
theorem State.acceptBeacon_advNew {s : State} {f : Inbound} {src : Nat} (tracked : (s.acceptBeacon f src).com.tracked = some src) :
    ((s.acceptBeacon f src).cand 7).advNew = some (fld f.frame.psdu 1 1 / 16) := by
  by_cases chosen : (s.masterChosen f src).com.tracked = some src
  · obtain ⟨-, -, grade⟩ := (s.masterChosen f src).trackedBeacon_facts f
    rw [State.acceptBeacon_of_tracked chosen, grade]
  · rw [State.acceptBeacon_of_other chosen] at tracked
    exact absurd tracked chosen

/-- What slot 7 leaves alone after its frames, with the tracked master and the candidates. -/
def State.tracking (s : State)  := (s.reception, s.com.tracked, s.cands)

theorem State.queueFrame_tracking (s : State) (f : TxFrame) : (s.queueFrame f).tracking = s.tracking := rfl

theorem State.beaconMissed_tracking (s : State) : s.beaconMissed.tracking = s.tracking := by
  unfold State.beaconMissed
  (repeat' split) <;> rfl

theorem State.beaconDue_tracking (s : State) : s.beaconDue.tracking = s.tracking := by
  unfold State.beaconDue
  dsimp only
  split <;> rfl

theorem State.delayReqDue_tracking (s : State) : s.delayReqDue.tracking = s.tracking := by
  unfold State.delayReqDue
  dsimp only
  (repeat' split)
  · exact forEach_keeps State.tracking _ _ (fun _ x => x.queueFrame_tracking _) _
  · rfl
  · rfl

theorem State.delayRespDue_tracking (s : State) : s.delayRespDue.tracking = s.tracking :=
  forEach_keeps State.tracking _ _ (fun _ x => x.queueFrame_tracking _) _

/-- Without a failed CCA to answer, what the slot does after its frames leaves them alone. -/
theorem State.macEnd_tracking {s : State} (none : s.com.ccaFold = none) : s.macEnd.tracking = s.tracking := by
  have stays : s.beaconMissed.com.ccaFold = Option.none := by
    unfold State.beaconMissed
    (repeat' split) <;> exact none
  rw [State.macEnd, State.delayRespDue_tracking, State.delayReqDue_tracking, State.beaconDue_tracking, State.backoff_of_none stays]
  exact s.beaconMissed_tracking

/-! ### Requests, responses and management packets (10 R232, R233, R240) -/

/-- The responses that a MASTER owes or has queued. -/
def State.responses (s : State) : Nat := s.com.owed.length + ((s.com.queue ++ s.com.onAir.toList).filter fun f => f.kind = 3).length

/-- The response that a request is owed, with the receive timestamp in seconds and nanoseconds. -/
def Inbound.owed (f : Inbound) (src seq : Nat) : Owed :=
  { dst := src, reqSeq := seq, t2Sec := f.rxFs / 1000000 / 1000000000, t2Ns := f.rxFs / 1000000 % 1000000000, dueFold := f.at_.toNat / foldFs + 8 }

section
variable {s : State} (f : Inbound) (src seq : Nat) (master : s.cfg.com.role = 1)
include master

theorem State.acceptRequest_of_room (room : s.responses < 4) :
    s.acceptRequest f src seq = { s with com := { s.com with owed := s.com.owed ++ [f.owed src seq] } } :=
  (if_neg (not_not.mpr master)).trans (if_neg (Nat.not_le.mpr room))

theorem State.acceptRequest_of_full (full : 4 ≤ s.responses) :
    s.acceptRequest f src seq = { s with com := { s.com with cnt := { s.com.cnt with reqDropped := s.com.cnt.reqDropped + 1 } } } :=
  (if_neg (not_not.mpr master)).trans (if_pos full)

end

/-- The delay that a response gives: half of what is left of the time from t1 to t4. -/
def Request.delay (r : Request) (dt t4 : Nat) : Fs := satFs (((t4 : Int) - ((r.t1 + dt) * 1000000 : Nat)) / 2)

/-- A delay out of line with the eight that are held. -/
abbrev State.farDelay (s : State) (d : Fs) : Prop := s.com.dvals.length = 8 ∧ 50000 < (d - meanI s.com.dvals).natAbs

section
variable {s : State} {r : Request} {dt t4 : Nat} (t2 : Nat)

theorem State.judgeExchange_of_good (low : 0 ≤ r.delay dt t4) (high : r.delay dt t4 ≤ 10000000) (near : ¬ s.farDelay (r.delay dt t4)) :
    s.judgeExchange r t2 dt t4 = { s with com := { s.com with
      requests := s.com.requests.erase r
      dvals := (s.com.dvals ++ [r.delay dt t4]).drop (s.com.dvals.length - 7)
      offset := satFs ((t4 : Int) - ((t2 + dt) * 1000000 : Nat) - r.delay dt t4)
      cnt := { s.com.cnt with exAccepted := s.com.cnt.exAccepted + 1 } } } := by
  refine if_neg ?_
  simp only [Bool.or_eq_true, Bool.and_eq_true, decide_eq_true_eq, not_or]
  exact ⟨⟨not_lt.mpr low, not_lt.mpr high⟩, near⟩

theorem State.judgeExchange_of_bad (bad : r.delay dt t4 < 0 ∨ 10000000 < r.delay dt t4 ∨ s.farDelay (r.delay dt t4)) :
    s.judgeExchange r t2 dt t4 = { s with com := { s.com with
      requests := s.com.requests.erase r
      cnt := { s.com.cnt with exRejected := s.com.cnt.exRejected + 1 } } } := by
  refine if_pos ?_
  simp only [Bool.or_eq_true, Bool.and_eq_true, decide_eq_true_eq, or_assoc]
  exact bad

end

/-- The packet of pen 3 that a management frame carries. -/
def mgmtPacket (pkt : List Byte) : Packet := { parsePacket pkt with call := { (parsePacket pkt).call with pen := 3 }, air := true }

theorem State.acceptMgmt_of_good {s : State} {src : Nat} {pkt : List Byte} (enabled : s.cfg.com.mgmtEn = true) (role : s.cfg.com.role ≠ 3)
    (peer : src = s.cfg.com.mgmtPeer) (length : pkt.length = 10 + fld pkt 4 2) (crc : crc16 (pkt.take (pkt.length - 2)) = fld pkt (pkt.length - 2) 2)
    (active : (s.penSt 3).state = .active) (credit : 0 < (s.io 3).free) : s.acceptMgmt src pkt =
      enqueue (mgmtPacket pkt) { s with com := { s.com with cnt := { s.com.cnt with mgmtServed := s.com.cnt.mgmtServed + 1 } } } := by
  unfold State.acceptMgmt
  dsimp only
  rw [if_neg (by simp [enabled, role, peer]), if_neg (not_not.mpr length), if_neg (not_not.mpr crc), if_neg (by simp [active]), if_neg (by simp [active]),
    if_neg (Nat.ne_of_gt credit)]
  rfl

/-- A queued packet stands last in its pen's queue and has taken a credit. -/
theorem enqueue_io (k : Packet) (s : State) : (enqueue k s).io k.call.pen = { s.io k.call.pen with
    free := (s.io k.call.pen).free - 1
    accepted := (s.io k.call.pen).accepted + 1
    queue := (s.io k.call.pen).queue ++ [{ k with order := s.host.order }] } :=
  (s.io_updIo k.call.pen k.call.pen _).trans (if_pos rfl)

end Sys2Proof.Machine

open Sys2Proof Sys2Proof.Machine

/-- Settles O46: a frame's end by its header, its FCS and the injection on its link; in slot 7 each check in its order, after which nothing else is for the slot
to do, or, after a beacon, nothing that touches what the beacon left. -/
theorem receivedFramesAreChecked : Obligations.ReceivedFramesAreChecked := by
  intro s t
  refine ⟨fun f => ⟨exec_radioFrameReceived_of_deaf t, ?header, ?fcs, ?heard, ?injected⟩,
    fun x => ⟨?rejected, ?elsewhere, ?beacon, ?request, ?response, ?mgmt⟩⟩
  case header =>
    intro receives fault
    obtain ⟨cause, drops⟩ := exec_radioFrameReceived_of_header t receives fault
    obtain ⟨rf, bg, ended, noFrame, dropped, received⟩ := ((s.setNow t).dropRx cause).endFrame_writes
    rw [drops, ended]
    exact ⟨_, rfl, dropped, received, rfl, noFrame⟩
  case fcs =>
    intro receives plain short bad
    obtain ⟨rf, bg, ended, -, dropped, received⟩ := (s.setNow t).endFrame_writes
    rw [exec_radioFrameReceived_of_bad_fcs t receives plain short bad, ended]
    exact ⟨_, rfl, received, dropped, rfl, rfl⟩
  case heard =>
    rintro ⟨receives, plain, short, good, quiet, noHeld⟩
    obtain ⟨rf, bg, ended, -, -, received⟩ := (s.setNow t).endFrame_writes
    have taken := State.receiveFrame_of_no_injection (s := (s.setNow t).endFrame) ((s.setNow t).inbound ((s.setNow t).rxStamped f))
      (by rw [ended]; exact noHeld) (by rw [ended]; exact quiet)
    rw [exec_radioFrameReceived_of_good t receives plain short good, taken, State.takeIn_eq, ended]
    exact ⟨_, rfl, congrArg (· + 1) received, rfl, rfl, fun deaf => if_neg (ne_true_of_eq_false deaf), fun listens => if_pos listens⟩
  case injected =>
    intro receives plain short good drops once noHeld
    obtain ⟨rf, bg, ended, -, -, received⟩ := (s.setNow t).endFrame_writes
    have dropped := State.receiveFrame_of_drop (s := (s.setNow t).endFrame) ((s.setNow t).inbound ((s.setNow t).rxStamped f)) (by rw [ended]; exact noHeld)
      (by rw [ended]; exact drops) (by rw [ended]; exact once)
    rw [exec_radioFrameReceived_of_good t receives plain short good, dropped, ended]
    exact ⟨_, rfl, received, rfl, rfl, rfl⟩
  case rejected =>
    intro met
    have quiet := macQuiet_of_met met
    refine ⟨fun bad => ?_, fun version low high => ⟨fun other => ?_, fun own untagged => ?_, fun kind tagged stale => ?_⟩⟩
    · exact exec_commonsMacSlot_of_checked met (State.checkFrame_of_malformed bad) quiet
    · exact exec_commonsMacSlot_of_checked met (State.checkFrame_of_stranger ⟨version, low, high⟩ other) quiet
    · exact ⟨_, exec_commonsMacSlot_of_checked met (State.checkFrame_of_untaggable ⟨version, low, high⟩ own untagged) quiet, rfl,
        State.raise_count _ _ _ _, rfl, rfl⟩
    · have admitted : (s.macReady t).admitFrame x kind = _ := State.admitFrame_of_stale stale
      have checked : (s.macReady t).checkFrame x = _ := (State.checkFrame_of_tagged (s := s.macReady t) ⟨version, low, high⟩ tagged).trans admitted
      exact ⟨_, exec_commonsMacSlot_of_checked met checked quiet, rfl, State.raise_count _ _ _ _, rfl, rfl⟩
  case elsewhere =>
    rintro kind low high ⟨met, tagged, fresh⟩ other
    have admitted : (s.macReady t).admitFrame x kind = s.macReady t := State.admitFrame_of_elsewhere (by omega) fresh other
    have quiet := macQuiet_of_met met
    exact exec_commonsMacSlot_of_checked met ((State.macReady_checkFrame tagged (by omega) high).trans admitted) quiet
  case beacon =>
    intro taken room
    have ⟨met, _⟩ := taken
    obtain ⟨l, runs, replayed⟩ := exec_commonsMacSlot_of_beacon taken room
    obtain ⟨before, h, heard, facts⟩ := (s.macNoted t l).heardBeacon_reception x (fld x.frame.psdu 4 4)
    have received := ((s.macNoted t l).acceptBeacon_reception x (fld x.frame.psdu 4 4)).trans heard
    have ⟨_, noBackoff, _⟩ := macQuiet_of_met met
    have ends := State.macEnd_tracking ((congrArg (·.2.1) received).trans noBackoff)
    simp only [State.tracking, received] at ends
    simp only [State.reception, Prod.mk.injEq] at ends
    obtain ⟨⟨inbox, -, rssi, accepted, heard, replay, host, cfg⟩, tracked, cands⟩ := ends
    refine ⟨_, runs, inbox, rssi, accepted, ⟨h, ?_, facts⟩, ?_, fun tracks => ?_, host, cfg⟩
    · rw [heard]
      exact List.mem_append_right _ (List.mem_singleton.mpr rfl)
    · rw [replay]
      exact replayed
    · rw [State.cand, cands]
      exact State.acceptBeacon_advNew (tracked.symm.trans tracks)
  case request =>
    intro taken own master later
    have ⟨met, ⟨head, _⟩, _⟩ := taken
    obtain ⟨l, runs⟩ := exec_commonsMacSlot_of_own taken (by decide) (by decide) own
    have quiet := macQuiet_of_met met
    have ⟨kept, noBackoff, early, inTime, noBeacon, noRequest, noResponse⟩ := quiet
    have request : (s.macNoted t l).acceptFrame x (fld x.frame.psdu 4 4) = _ := State.acceptFrame_of_request head
    refine ⟨fun room => ?_, fun full => ?_⟩
    · have notDue : ∀ o ∈ s.com.owed ++ [x.owed (fld x.frame.psdu 4 4) (fld x.frame.psdu 8 2)], s.clk.absFold.toNat < o.dueFold := fun o mem =>
        (List.mem_append.mp mem).elim (noResponse o) fun new => by rw [List.mem_singleton.mp new]; exact later
      exact ⟨_, _, runs _ (request.trans (State.acceptRequest_of_room x _ _ master room)) ⟨kept, noBackoff, early, inTime, noBeacon, noRequest, notDue⟩,
        rfl, rfl, rfl, Nat.div_add_mod' _ _, rfl, rfl, rfl, rfl, rfl⟩
    · exact ⟨_, runs _ (request.trans (State.acceptRequest_of_full x _ _ master full)) quiet, rfl, rfl⟩
  case response =>
    intro r taken own one seq master d far
    have ⟨met, ⟨head, _⟩, _⟩ := taken
    obtain ⟨l, runs⟩ := exec_commonsMacSlot_of_own taken (by decide) (by decide) own
    obtain ⟨kept, noBackoff, early, -, noBeacon, noRequest, noResponse⟩ := macQuiet_of_met met
    have response : (s.macNoted t l).acceptFrame x (fld x.frame.psdu 4 4) = _ := State.acceptFrame_of_response head one seq master
    have closed : s.com.requests.erase r = [] := by simp [one]
    have inTime : ∀ q ∈ s.com.requests.erase r, s.clk.absFold.toNat < q.fold + 400 := by simp [closed]
    refine ⟨fun low high near => ?_, fun bad => ?_⟩
    · exact ⟨_, runs _ (response.trans (State.judgeExchange_of_good _ low high near)) ⟨kept, noBackoff, early, inTime, noBeacon, noRequest, noResponse⟩,
        closed, rfl, rfl, rfl, rfl⟩
    · exact ⟨_, runs _ (response.trans (State.judgeExchange_of_bad _ bad)) ⟨kept, noBackoff, early, inTime, noBeacon, noRequest, noResponse⟩,
        closed, rfl, rfl, rfl⟩
  case mgmt =>
    intro pkt taken own enabled role peer length crc active credit
    have ⟨met, ⟨head, _⟩, _⟩ := taken
    obtain ⟨l, runs⟩ := exec_commonsMacSlot_of_own taken (by decide) (by decide) own
    have quiet := macQuiet_of_met met
    have served : (s.macNoted t l).acceptFrame x (fld x.frame.psdu 4 4) = _ :=
      (State.acceptFrame_of_mgmt head).trans (State.acceptMgmt_of_good enabled role peer length crc active credit)
    have io := enqueue_io (mgmtPacket pkt) { s.macNoted t l with
      com := { (s.macNoted t l).com with cnt := { s.com.cnt with mgmtServed := s.com.cnt.mgmtServed + 1 } } }
    exact ⟨_, _, runs _ served quiet, congrArg PenIo.queue io, rfl, rfl, rfl, congrArg PenIo.free io, rfl, rfl, rfl⟩

end

section
/-! The commons MAC's rows: what falls due and times out, a loss of REFC, the channel assessment and its backoff, and slot 7 with no received frame, with O45
(01 R17, R18; 10 R225, R226, R228, R230, R232, R233, R241). -/

namespace Sys2Proof.Machine

/-! ### The rows within slot 7 (01 R18; 10 R225) -/

theorem State.schedule_of_macRuns {s : State} (runs : s.macRuns = true) : s.schedule = true := by
  simp only [State.macRuns, Bool.and_eq_true] at runs
  obtain ⟨⟨⟨-, scheduled⟩, -⟩, -⟩ := runs
  exact scheduled

section
variable {s : State} {f : State → State}

/-- A part of the MAC's slot happens while the MAC runs and the sequencer stands in the slot. -/
theorem State.inMac_of_standing (runs : s.macRuns = true) (stands : s.clk.slot = 8) : s.inMac f = f s :=
  (State.inTask_of_standing (State.schedule_of_macRuns runs) stands _).trans (if_pos runs)

theorem State.inMac_of_idle (idle : f s = s) : s.inMac f = s :=
  State.inTask_of_idle 7 (by rw [idle, ite_self])

theorem State.inMac_of_elsewhere (away : s.schedule = false ∨ s.clk.slot ≠ 8 ∨ s.macRuns = false) : s.inMac f = s := by
  rcases away with still | elsewhere | stopped
  · exact State.inTask_of_elsewhere (.inl still) _
  · exact State.inTask_of_elsewhere (.inr elsewhere) _
  · exact State.inTask_of_idle 7 (if_neg (by simp [stopped]))

end

/-! ### What falls due and what times out (10 R230, R232, R233, R241) -/

section
variable {s : State}

/-- A MASTER's beacon joins the queue in its fold, where none of that fold is queued or on the air. -/
theorem State.beaconDue_of_due (master : s.com.state = .master) (due : s.deviceFold % s.periodFolds = s.cfg.com.beaconFold)
    (first : ∀ f ∈ s.com.queue ++ s.com.onAir.toList, f.kind = 1 → f.due ≠ s.clk.absFold.toNat) :
    s.beaconDue = s.queueFrame { kind := 1, body := [], attempt := 1, fold := 0, seq := 0 } := by
  have had : ((s.com.queue ++ s.com.onAir.toList).any fun f => f.kind = 1 && f.due = s.clk.absFold.toNat) = false :=
    List.any_eq_false.mpr fun f mem => by simpa using first f mem
  refine if_pos ?_
  simp only [master, due, had, decide_true, Bool.and_self, Bool.not_false]

theorem State.delayReqDue_of_untracked (untracked : s.com.tracked = none) : s.delayReqDue = s := by
  simp only [State.delayReqDue, untracked]

theorem State.delayReqDue_of_due {k m : Nat} (one : s.com.reqFolds = [k]) (tracked : s.com.tracked = some m) (due : k ≤ s.clk.absFold.toNat)
    (follows : s.com.state = .track ∨ s.com.state = .master) :
    s.delayReqDue = ({ s with com := { s.com with reqFolds := [] } } : State).queueFrame
      { kind := 2, body := [], attempt := 1, fold := 0, seq := 0, dst := m } := by
  have taken : [k].filter (fun x => decide (x ≤ s.clk.absFold.toNat)) = [k] := by simp [due]
  have left : [k].filter (fun x => decide (s.clk.absFold.toNat < x)) = [] := by simp [due]
  unfold State.delayReqDue
  simp only [tracked]
  rw [if_pos (by simpa using follows), one, taken, left]
  rfl

/-- The response that is owed leaves the list for the queue. -/
theorem State.delayRespDue_of_due {o : Owed} (one : s.com.owed = [o]) (due : o.dueFold ≤ s.clk.absFold.toNat) :
    s.delayRespDue = ({ s with com := { s.com with owed := [] } } : State).queueFrame
      { kind := 3, body := [], attempt := 1, fold := 0, seq := 0, dst := o.dst, reqSeq := o.reqSeq, t2 := o.t2Sec * 1000000000 + o.t2Ns } := by
  have taken : [o].filter (fun x => decide (x.dueFold ≤ s.clk.absFold.toNat)) = [o] := by simp [due]
  have left : [o].filter (fun x => decide (s.clk.absFold.toNat < x.dueFold)) = [] := by simp [due]
  unfold State.delayRespDue
  dsimp only
  rw [one, taken, left]
  rfl

theorem State.exchangeTimeout_of_late {r : Request} (one : s.com.requests = [r]) (late : r.fold + 400 ≤ s.clk.absFold.toNat) :
    s.exchangeTimeout = { s with com := { s.com with requests := [], cnt := { s.com.cnt with exRejected := s.com.cnt.exRejected + 1 } } } := by
  simp [State.exchangeTimeout, one, late]

/-- An overdue beacon is missed, and the next is expected a period on (10 R241, log 60). -/
theorem State.beaconMissed_of_overdue {e q : Nat} (expected : s.com.expect = some (e, q)) (overdue : e + 4000000000000 ≤ s.instant) :
    s.beaconMissed = ({ s with com := { s.com with
      expect := some (e + s.periodFolds * foldFs, (q + 1) % 65536)
      cnt := { s.com.cnt with missed := s.com.cnt.missed + 1 } } } : State).raise Ev.beaconMissed (q % 65536) := by
  unfold State.beaconMissed
  rw [expected]
  exact if_pos overdue

end

/-! ### Channel access (10 R230) -/

section
variable {s : State} {k : Nat} {f : TxFrame} {r : List TxFrame} (failed : s.com.ccaFold = some k) (head : s.com.queue = f :: r)
include failed head

/-- With attempts left the frame waits for a fold that is drawn anew. -/
theorem State.backoff_of_attempts_left (left : f.attempt < s.cfg.com.maxCca) : s.backoff = { s.draw with com := { s.com with
    ccaFold := none
    queue := { f with attempt := f.attempt + 1, fold := k + 2 * (Config.random s.freeN % 16) + 1 } :: r } } := by
  unfold State.backoff
  rw [failed, head]
  exact if_neg (Nat.not_le.mpr left)

/-- A beacon whose last attempt has failed is skipped. -/
theorem State.backoff_of_last_beacon (last : s.cfg.com.maxCca ≤ f.attempt) (beacon : f.kind = 1) :
    s.backoff = ({ s.draw with com := { s.com with
      ccaFold := none, queue := r, cnt := { s.com.cnt with skipped := s.com.cnt.skipped + 1 } } } : State).raise Ev.beaconSkipped f.seq := by
  unfold State.backoff
  rw [failed, head]
  exact (if_pos last).trans (if_pos beacon)

end

section
variable {s : State} {t : Nat}

/-- Without a frame, six blocks, or an answer to the last failure there is no assessment. -/
theorem exec_ccaAttempt_of_none (none : s.com.queue = [] ∨ (s.setNow t).ccaBlocks = none ∨ s.com.ccaFold ≠ none) :
    exec (.ccaAttempt .ofState t) s = .next (s.setNow t) := by
  show execCcaAttempt .ofState t s = _
  unfold execCcaAttempt
  dsimp only
  split
  next f r sum head blocks =>
    have head : s.com.queue = f :: r := head
    have failed : s.com.ccaFold ≠ Option.none := (none.resolve_left (by simp [head])).resolve_left (by simp [blocks])
    rw [if_pos (by simp [Option.isSome_iff_ne_none.mpr failed])]
  next => rfl

variable {f : TxFrame} {r : List TxFrame} (head : s.com.queue = f :: r)
include head

/-- With a frame and six blocks, the head is assessed by their mean where the assessment may be made. -/
theorem exec_ccaAttempt_of_head {sum : Int} (blocks : (s.setNow t).ccaBlocks = some sum) : exec (.ccaAttempt .ofState t) s =
    .next (if !(s.setNow t).mayCca f || s.com.ccaFold.isSome then s.setNow t
      else if sum < 12 * s.cfg.com.ccaThr then (s.setNow t).ccaPass f r else (s.setNow t).ccaFail) := by
  show execCcaAttempt .ofState t s = _
  unfold execCcaAttempt
  dsimp only
  rw [show (s.setNow t).com.queue = f :: r from head, blocks]
  rfl

theorem exec_ccaAttempt_of_barred (barred : (s.setNow t).mayCca f = false) : exec (.ccaAttempt .ofState t) s = .next (s.setNow t) := by
  cases blocks : (s.setNow t).ccaBlocks with
  | none => exact exec_ccaAttempt_of_none (.inr (.inl blocks))
  | some sum => exact (exec_ccaAttempt_of_head head blocks).trans (congrArg _ (if_pos (by simp [barred])))

theorem exec_ccaAttempt_of_made {sum : Int} (may : (s.setNow t).mayCca f = true) (blocks : (s.setNow t).ccaBlocks = some sum) (answered : s.com.ccaFold = none) :
    exec (.ccaAttempt .ofState t) s = .next (if sum < 12 * s.cfg.com.ccaThr then (s.setNow t).ccaPass f r else (s.setNow t).ccaFail) :=
  (exec_ccaAttempt_of_head head blocks).trans (congrArg _ (if_neg (by simp [may, answered])))

end

section
variable {s : State} {f : TxFrame} (r : List TxFrame)

/-- A request that goes on the air opens its exchange. -/
theorem State.ccaPass_of_request (request : f.kind = 2) : ∃ q : Request, q.seq = f.seq ∧ q.master = f.dst ∧ s.ccaPass f r =
    { s with com := { s.com with queue := r, onAir := some { f with body := s.buildFrame f }, requests := s.com.requests ++ [q] } } :=
  ⟨_, rfl, rfl, congrArg (fun c => { s with com := c }) (if_pos request)⟩

theorem State.ccaPass_of_other (other : f.kind ≠ 2) :
    s.ccaPass f r = { s with com := { s.com with queue := r, onAir := some { f with body := s.buildFrame f } } } :=
  congrArg (fun c => { s with com := c }) (if_neg other)

end

/-! ### A loss of REFC (10 R225, R237) -/

/-- The MAC's state, the master it tracks and expects, a loss not yet seen, the candidates and the settings: what a search begins with. -/
def State.following (s : State) := (s.com.state, s.com.tracked, s.com.lost, s.com.expect, s.cands, s.cfg)

theorem State.setMac_com (s : State) (m : MacState) : (s.setMac m).com = { s.com with state := m } := by
  unfold State.setMac State.raiseIf
  split <;> rfl

/-- The search that a loss of REFC in TRACK begins, where no other master is still heard (log 60). -/
def State.searchAnew (s : State) : State :=
  (({ s with com := { s.com with lost := false, tracked := none, expect := none, reqFolds := [] } } : State).setMac .search).updCand 7 fun c =>
    { c with advNew := some 15 }

theorem State.commonsLos_of_alone {s : State} (lost : s.com.lost = true) (tracks : s.com.state = .track)
    (alone : ∀ h ∈ s.com.heard, s.com.tracked = some h.id ∨ s.stillHeard h = false) : s.commonsLos = s.searchAnew := by
  have noOther : (s.com.heard.any fun h => s.com.tracked ≠ some h.id && s.stillHeard h) = false :=
    List.any_eq_false.mpr fun h mem => by
      rcases alone h mem with own | gone
      · simp [own]
      · simp [gone]
  refine if_pos ?_
  simp only [lost, tracks, noOther, decide_true, Bool.and_self, Bool.not_false]

theorem State.searchAnew_com (s : State) : s.searchAnew.com =
    { s.com with state := .search, lost := false, tracked := none, expect := none, reqFolds := [] } := State.setMac_com _ _

theorem State.queueFrame_following (s : State) (f : TxFrame) : (s.queueFrame f).following = s.following := rfl

theorem State.delayRespDue_following (s : State) : s.delayRespDue.following = s.following :=
  forEach_keeps State.following _ _ (fun _ x => x.queueFrame_following _) _

/-! ### Slot 7 with no received frame (01 R17; 10 R225) -/

section
variable {s : State}

theorem State.readInbox_of_empty (empty : s.com.inbox = []) : s.readInbox = s := by
  unfold State.readInbox
  rw [empty]
  exact congrArg (fun x => { s with com := { s.com with inbox := x } }) empty.symm

/-- Where no beacon is overdue and the answer to a failed CCA leaves nothing else to do, that answer is all the slot does. -/
theorem State.macEnd_of_backoff {y : State} (early : ∀ e q, s.com.expect = some (e, q) → s.instant < e + 4000000000000) (backs : s.backoff = y)
    (quiet : macQuiet y y.clk.now) : s.macEnd = y := by
  obtain ⟨-, -, -, inTime, noBeacon, noRequest, noResponse⟩ := quiet
  rw [State.macEnd, State.beaconMissed_of_early early, backs, State.exchangeTimeout_of_in_time inTime, State.beaconDue_of_not_due noBeacon,
    State.delayReqDue_of_not_due noRequest, State.delayRespDue_of_not_due noResponse]

section
variable (calm : s.com.expect = none) (answered : s.com.ccaFold = none)
include calm answered

/-- With no beacon expected and no failed CCA, exchanges time out and frames fall due. -/
theorem State.macEnd_of_calm : s.macEnd = s.exchangeTimeout.beaconDue.delayReqDue.delayRespDue := by
  rw [State.macEnd, State.beaconMissed_of_early (by simp [calm]), State.backoff_of_none answered]

/-- With no exchange open either, frames fall due. -/
theorem State.macEnd_of_no_exchange (closed : s.com.requests = []) : s.macEnd = s.beaconDue.delayReqDue.delayRespDue := by
  rw [State.macEnd_of_calm calm answered, State.exchangeTimeout_of_in_time (by simp [closed])]

/-- A search, which tracks no master, stays what it is to the slot's end. -/
theorem State.macEnd_of_search (searches : s.com.state = .search) (untracked : s.com.tracked = none) : s.macEnd.following = s.following := by
  rw [State.macEnd_of_calm calm answered, State.beaconDue_of_not_due (s := s.exchangeTimeout) (.inl (by simp [State.exchangeTimeout, searches])),
    State.delayReqDue_of_untracked (s := s.exchangeTimeout) untracked, State.delayRespDue_following]
  rfl

end

variable {t : Nat} (due : s.slotDue 7 t = true)
include due

theorem exec_commonsMacSlot_of_stopped (stopped : s.macRuns = false) : exec (.commonsMacSlot t) s = .next (s.enterSlot 7 t) :=
  congrArg _ ((State.inSlot_of_due due _).trans (if_neg (ne_true_of_eq_false stopped)))

variable (runs : s.macRuns = true)
include runs

/-- While the MAC runs, the slot is a loss of REFC, the frames received, and what comes after them. -/
theorem exec_commonsMacSlot_of_running : exec (.commonsMacSlot t) s = .next (s.enterSlot 7 t).commonsLos.readInbox.macEnd :=
  congrArg _ ((State.inSlot_of_due due _).trans (if_pos runs))

variable (empty : s.com.inbox = [])
include empty

/-- Without a frame and without a loss, what the slot does after its frames is all that it does. -/
theorem exec_commonsMacSlot_of_kept (kept : s.com.lost = false) : exec (.commonsMacSlot t) s = .next (s.enterSlot 7 t).macEnd := by
  rw [exec_commonsMacSlot_of_running due runs, State.commonsLos_of_kept (s := s.enterSlot 7 t) kept, State.readInbox_of_empty (s := s.enterSlot 7 t) empty]

/-- Without a frame, what a loss of REFC leaves is what the slot goes on with. -/
theorem exec_commonsMacSlot_of_lost (lost : s.com.lost = true) (tracks : s.com.state = .track)
    (alone : ∀ h ∈ s.com.heard, s.com.tracked = some h.id ∨ s.stillHeard h = false) :
    exec (.commonsMacSlot t) s = .next (s.enterSlot 7 t).searchAnew.macEnd := by
  have emptied : (s.enterSlot 7 t).searchAnew.com.inbox = [] := by
    rw [State.searchAnew_com]
    exact empty
  rw [exec_commonsMacSlot_of_running due runs, State.commonsLos_of_alone (s := s.enterSlot 7 t) lost tracks alone, State.readInbox_of_empty emptied]

end

end Sys2Proof.Machine

open Sys2Proof Sys2Proof.Machine

/-- Settles O45: slot 7 by what its parts find, then its rows one by one, each of which rests outside the slot and where nothing is due, and the channel
assessment by what bars it and by the mean of its blocks. The next beacon after a miss and who is still heard are the model's reading (log 60). -/
theorem commonsMacQueuesAndTimesOut : Obligations.CommonsMacQueuesAndTimesOut := by
  intro s t n queued beacon request response
  have rests {x : State} (h : x.schedule = false ∨ x.clk.slot ≠ 8 ∨ x.macRuns = false) (f : State → State) :
      (.next (x.inMac f) : Host.Outcome State Fault Refusal) = .next x := congrArg _ (State.inMac_of_elsewhere h)
  have idles {x : State} {f : State → State} (h : f x = x) : (.next (x.inMac f) : Host.Outcome State Fault Refusal) = .next x :=
    congrArg _ (State.inMac_of_idle h)
  have acts {x x' : State} {f : State → State} (runs : x.macRuns = true) (stands : x.clk.slot = 8) (h : f x = x') :
      (.next (x.inMac f) : Host.Outcome State Fault Refusal) = .next x' := congrArg _ ((State.inMac_of_standing runs stands).trans h)
  refine ⟨exec_commonsMacSlot_of_stopped, ?quiet, ?fallsDue, ?backoff, ?loss,
    fun away => ⟨rests away _, rests away _, rests away _, rests away _, rests (x := s.setNow t) away _⟩,
    fun stands runs => ⟨fun master due first => acts runs stands (State.beaconDue_of_due master due first),
      fun k m one tracked due follows => acts runs stands (State.delayReqDue_of_due one tracked due follows),
      fun o one due => acts runs stands (State.delayRespDue_of_due one due),
      fun r one late => acts runs stands (State.exchangeTimeout_of_late one late)⟩,
    fun notDue => idles (State.beaconDue_of_not_due notDue), fun none => idles (State.delayReqDue_of_not_due (by simp [none])),
    fun notDue => idles (State.delayRespDue_of_not_due notDue), fun inTime => idles (State.exchangeTimeout_of_in_time inTime),
    exec_ccaAttempt_of_none, fun f r head => exec_ccaAttempt_of_barred head, ?assessed, ?missed,
    fun early => idles (State.beaconMissed_of_early (s := s.setNow t) early)⟩
  case quiet =>
    intro due runs empty quiet
    have ⟨kept, _⟩ := quiet
    rw [exec_commonsMacSlot_of_kept due runs empty kept, State.macEnd_of_quiet (s := s.enterSlot 7 t) quiet]
  case fallsDue =>
    intro due runs empty kept calm closed answered
    have ends : exec (.commonsMacSlot t) s = .next (s.enterSlot 7 t).beaconDue.delayReqDue.delayRespDue := by
      rw [exec_commonsMacSlot_of_kept due runs empty kept, State.macEnd_of_no_exchange (s := s.enterSlot 7 t) calm answered closed]
    refine ⟨fun master fold noRequest noResponse first => ?_, fun k m tracks tracked one reached noResponse => ?_,
      fun o noBeacon noRequest one reached => ?_⟩
    · rw [ends, State.beaconDue_of_due (s := s.enterSlot 7 t) master fold first,
        State.delayReqDue_of_not_due (s := (s.enterSlot 7 t).queueFrame _) (by simp [State.queueFrame, State.enterSlot, noRequest]),
        State.delayRespDue_of_not_due (s := (s.enterSlot 7 t).queueFrame _) (by simp [State.queueFrame, State.enterSlot, noResponse])]
      rfl
    · have other : s.com.state ≠ .master := by simp [tracks]
      rw [ends, State.beaconDue_of_not_due (s := s.enterSlot 7 t) (.inl other),
        State.delayReqDue_of_due (s := s.enterSlot 7 t) one tracked reached (.inl tracks), State.delayRespDue_of_not_due]
      · rfl
      · simp [State.queueFrame, State.enterSlot, noResponse]
    · rw [ends, State.beaconDue_of_not_due (s := s.enterSlot 7 t) noBeacon,
        State.delayReqDue_of_not_due (s := s.enterSlot 7 t) (by simp [State.enterSlot, noRequest]),
        State.delayRespDue_of_due (s := s.enterSlot 7 t) one reached]
      rfl
  case backoff =>
    intro k f r due runs empty quiet failed head
    obtain ⟨kept, -, early, inTime, noBeacon, noRequest, noResponse⟩ := quiet
    have ends {y : State} (backs : (s.enterSlot 7 t).backoff = y) (quiet : macQuiet y y.clk.now) : exec (.commonsMacSlot t) s = .next y := by
      rw [exec_commonsMacSlot_of_kept due runs empty kept, State.macEnd_of_backoff (s := s.enterSlot 7 t) early backs quiet]
    refine ⟨fun left => ?_, fun last beacon => ?_⟩
    · have backs := State.backoff_of_attempts_left (s := s.enterSlot 7 t) failed head left
      exact ⟨_, k + 2 * (Config.random s.freeN % 16) + 1, ends backs ⟨kept, rfl, early, inTime, noBeacon, noRequest, noResponse⟩, by omega, by omega,
        rfl, rfl⟩
    · have backs := State.backoff_of_last_beacon (s := s.enterSlot 7 t) failed head last beacon
      refine ⟨_, ends backs ⟨kept, rfl, early, inTime, noBeacon, noRequest, noResponse⟩, rfl, ?_⟩
      rw [State.raise_count, if_pos ⟨rfl, by decide⟩]
      rfl
  case loss =>
    intro due runs lost tracks empty answered alone
    have search := (s.enterSlot 7 t).searchAnew_com
    have follows : (s.enterSlot 7 t).searchAnew.macEnd.following = (s.enterSlot 7 t).searchAnew.following :=
      State.macEnd_of_search (by rw [search]) (by rw [search]; exact answered) (by rw [search]) (by rw [search])
    simp only [State.following, search, Prod.mk.injEq] at follows
    obtain ⟨state, tracked, seen, expect, cands, cfg⟩ := follows
    refine ⟨_, exec_commonsMacSlot_of_lost due runs empty lost tracks alone, state, tracked, seen, expect, ?_, cfg.trans (State.setMac_keeps _ _).2.1⟩
    rw [State.cand, cands]
    exact congrArg Cand.advNew (State.cand_updCand_self _ (i := 7) _ (by decide))
  case assessed =>
    intro sum f r head may blocks answered
    have made := exec_ccaAttempt_of_made head may blocks answered
    refine ⟨fun clear => ?_, fun busy => made.trans (congrArg _ (if_neg (Int.not_lt.mpr busy)))⟩
    have passed : exec (.ccaAttempt .ofState t) s = .next ((s.setNow t).ccaPass f r) := made.trans (congrArg _ (if_pos clear))
    by_cases request : f.kind = 2
    · obtain ⟨q, seq, master, opens⟩ := State.ccaPass_of_request (s := s.setNow t) r request
      rw [passed, opens]
      exact ⟨_, _, rfl, rfl, rfl, rfl, rfl, rfl, rfl, fun other => absurd request other, fun _ => ⟨q, rfl, seq, master⟩, rfl⟩
    · rw [passed, State.ccaPass_of_other r request]
      exact ⟨_, _, rfl, rfl, rfl, rfl, rfl, rfl, rfl, fun _ => rfl, fun is => absurd is request, rfl⟩
  case missed =>
    intro e q expected runs stands overdue
    refine ⟨_, acts (x := s.setNow t) runs stands (State.beaconMissed_of_overdue expected overdue), rfl, rfl, ?_⟩
    rw [State.raise_count, if_pos ⟨rfl, by decide⟩]
    rfl
end

section
/-! Word lock and the drove's timeouts: what a change of the drove's state writes, a word lock that goes, and the parts of slot 9's task that judge CLAIM, LEAD
and the ring, with O48 (01 R17, R18, R32; 02 R39; 11 R250–R253). -/

namespace Sys2Proof.Machine

/-! ### A change of the drove's state (11 R251–R254) -/

/-- What the drove holds after a change of state. -/
theorem State.setDrove_drv (s : State) (x : DrvState) (tx : DrvTx) : (s.setDrove x tx).drv = { s.drv with
    state := x
    since := if s.drv.state ≠ x then s.instant else s.drv.since
    tx := tx
    after := if swaps s.drv.tx tx then List.replicate 4 Sym.brk else s.drv.after
    quiet := if s.drv.state ≠ x ∧ (x = .listen ∨ x = .claim) then 0 else s.drv.quiet
    ringBroken := s.drv.ringBroken && !(s.drv.state ≠ x && x = DrvState.claim)
    hop := if s.drv.state ≠ x ∧ (x = .claim ∨ x = .lead) then 0 else s.drv.hop } := by
  unfold State.setDrove
  dsimp only
  rw [State.raiseIf_drv]
  by_cases top : s.drv.state ≠ x ∧ (x = .claim ∨ x = .lead)
  · rw [if_pos (by simpa using top), if_pos top, State.updCand_drv]
    simp
  · rw [if_neg (by simpa using top), if_neg top]
    simp

/-- REFD goes to grade 15 with a claim or a lead, and stands otherwise. -/
theorem State.setDrove_cand (s : State) (x : DrvState) (tx : DrvTx) : (s.setDrove x tx).cand 6 =
    if s.drv.state ≠ x ∧ (x = .claim ∨ x = .lead) then { s.cand 6 with advNew := some 15 } else s.cand 6 := by
  unfold State.setDrove
  dsimp only
  rw [State.raiseIf_cand]
  by_cases top : s.drv.state ≠ x ∧ (x = .claim ∨ x = .lead)
  · rw [if_pos (by simpa using top), if_pos top, State.cand_updCand_self _ _ (by decide)]
    rfl
  · rw [if_neg (by simpa using top), if_neg top]
    rfl

/-- A new state is an occurrence of DROVE_STATE. -/
theorem State.setDrove_count {s : State} {x : DrvState} (tx : DrvTx) (changes : s.drv.state ≠ x) :
    ((s.setDrove x tx).ev.srcs.getD Ev.droveState {}).count = (s.ev.srcs.getD Ev.droveState {}).count + 1 := by
  unfold State.setDrove
  dsimp only
  refine (State.raiseIf_count _ _ _ _ _).trans (congrArg₂ (· + ·) ?_ (if_pos ⟨by simpa using changes, rfl, by decide⟩))
  split <;> rfl

/-! ### Word lock (11 R250; 02 R39) -/

/-- Word lock goes, and REFD's activity window runs from here. -/
theorem State.unlockDrove_of_locked {s : State} (locked : s.drv.lock = true) : s.unlockDrove =
    ({ s with drv := { s.drv with lock := false } } : State).updCand 6 fun c => { c with lastEdge := some s.instant } := if_pos locked

theorem State.unlockDrove_state (s : State) : s.unlockDrove.drv.state = s.drv.state := by
  unfold State.unlockDrove
  split <;> rfl

/-- What a device whose word lock has gone does next: a member listens again with BREAK words, a listener sends them too. -/
def State.afterWordLock (s : State) : State :=
  match s.drv.state with
  | .member => s.setDrove .listen .breakWords
  | .listen => { s with drv := { s.drv with tx := .breakWords } }
  | _ => s

section
variable {s : State} {c : LockLoss} {t : Nat}

/-- No lock to lose, and a silence of fewer than 16 folds loses none. -/
theorem exec_wordLockLoss_of_kept (kept : s.drv.lock = false ∨ (c = .silence ∧ s.drv.quiet < 16)) :
    exec (.wordLockLoss ⟨c, t⟩) s = .next (s.setNow t) := by
  refine if_pos ?_
  rw [State.setNow_drv]
  rcases kept with unlocked | ⟨silent, short⟩
  · simp [unlocked]
  · simp [silent, short]

variable (locked : s.drv.lock = true) (ends : c ≠ .silence ∨ 16 ≤ s.drv.quiet)
include locked ends

/-- A lock that goes is followed by what the state asks for. -/
theorem exec_wordLockLoss_of_lost : exec (.wordLockLoss ⟨c, t⟩) s = .next (s.setNow t).unlockDrove.afterWordLock := by
  refine (if_neg ?_).trans ?_
  · rw [State.setNow_drv]
    rcases ends with other | long
    · simp [locked, other]
    · simp [locked, long]
  · unfold State.afterWordLock
    cases (s.setNow t).unlockDrove.drv.state <;> rfl

/-- A member listens again, with BREAK words. -/
theorem exec_wordLockLoss_of_member (member : s.drv.state = .member) :
    exec (.wordLockLoss ⟨c, t⟩) s = .next ((s.setNow t).unlockDrove.setDrove .listen .breakWords) := by
  rw [exec_wordLockLoss_of_lost locked ends, State.afterWordLock, (s.setNow t).unlockDrove_state, State.setNow_drv, member]

/-- A claimant or lead goes on. -/
theorem exec_wordLockLoss_of_own (own : s.drv.state = .claim ∨ s.drv.state = .lead) :
    exec (.wordLockLoss ⟨c, t⟩) s = .next (s.setNow t).unlockDrove := by
  rw [exec_wordLockLoss_of_lost locked ends, State.afterWordLock, (s.setNow t).unlockDrove_state, State.setNow_drv]
  rcases own with own | own <;> rw [own]

end

/-! ### The timeouts of slot 9 (11 R251, R252) -/

theorem State.claimTimeout_of_due {s : State} (listens : s.drv.state = .listen) (may : s.cfg.drv.prio ≠ 255)
    (quiet : 16 + 4 * s.cfg.drv.prio ≤ s.drv.quiet) : s.claimTimeout = s.setDrove .claim .own := if_pos (by simp [listens, may, quiet])

theorem State.leadTimeout_of_due {s : State} (claims : s.drv.state = .claim) (quiet : 64 ≤ s.drv.quiet) : s.leadTimeout = s.setDrove .lead .own :=
  if_pos (by simp [claims, quiet])

theorem State.ringTimeout_of_due {s : State} (leads : s.drv.state = .lead) (ring : s.cfg.drv.ring = true) (closed : s.drv.ringBroken = false)
    (lost : 16 ≤ s.drv.sinceReturn) : s.ringTimeout = ({ s with drv := { s.drv with ringBroken := true } } : State).raise Ev.drvRingBroken 0 :=
  if_pos (by simp [leads, ring, closed, lost])

/-- No other device than the lead of a ring not known to be broken, and no return within 16 folds, breaks the ring. -/
theorem State.ringTimeout_of_not_due {s : State}
    (other : s.drv.state ≠ .lead ∨ s.cfg.drv.ring = false ∨ s.drv.ringBroken = true ∨ s.drv.sinceReturn < 16) : s.ringTimeout = s := by
  refine if_neg ?_
  rcases other with follows | chain | broken | returned
  · simp [follows]
  · simp [chain]
  · simp [broken]
  · simp [returned]

end Sys2Proof.Machine

open Sys2Proof Sys2Proof.Machine

/-- Settles O48: a word lock that goes by the drove's state, and each timeout by where the sequencer stands and by whether it is due. -/
theorem droveStatesTimeOut : Obligations.DroveStatesTimeOut := by
  unfold Obligations.DroveStatesTimeOut
  intro s t
  have rests (h : s.schedule = false ∨ s.clk.slot ≠ 10) (f : State → State) : (.next (s.inTask 9 f) : Host.Outcome State Fault Refusal) = .next s :=
    congrArg _ (State.inTask_of_elsewhere h f)
  have idles {f : State → State} (h : f s = s) : (.next (s.inTask 9 f) : Host.Outcome State Fault Refusal) = .next s :=
    congrArg _ (State.inTask_of_idle 9 h)
  have task {f : State → State} {s' : State} (runs : s.schedule = true) (stands : s.clk.slot = 10) (h : f s = s') :
      (.next (s.inTask 9 f) : Host.Outcome State Fault Refusal) = .next s' := congrArg _ ((State.inTask_of_standing runs stands f).trans h)
  refine ⟨fun c unlocked => exec_wordLockLoss_of_kept (.inl unlocked), fun short => exec_wordLockLoss_of_kept (.inr ⟨rfl, short⟩), ?member, ?own,
    fun h => ⟨rests h _, rests h _, rests h _⟩, ?claim, ?noClaim, ?lead, ?noLead,
    fun runs stands leads ring closed lost => task runs stands (State.ringTimeout_of_due leads ring closed lost),
    fun other => idles (State.ringTimeout_of_not_due other)⟩
  case member =>
    intro c locked ends member
    have unlocked := State.unlockDrove_of_locked (s := s.setNow t) locked
    have changes : (s.setNow t).unlockDrove.drv.state ≠ .listen := by
      rw [State.unlockDrove_state, State.setNow_drv, member]
      decide
    refine ⟨_, exec_wordLockLoss_of_member locked ends member, State.setDrove_state _ _ _, ?_, ?_, ?_, ?_, ?_⟩
    · rw [State.setDrove_drv]
    · rw [State.setDrove_drv, unlocked]
      rfl
    · rw [State.setDrove_drv]
      exact if_pos ⟨changes, .inl rfl⟩
    · rw [State.setDrove_count _ changes, unlocked]
      rfl
    · rw [State.setDrove_cand, if_neg (by simp), unlocked, State.cand_updCand_self _ _ (by decide)]
  case own =>
    intro c locked ends own
    rw [exec_wordLockLoss_of_own locked ends own, State.unlockDrove_of_locked (s := s.setNow t) locked]
    rfl
  case claim =>
    intro runs stands listens may quiet
    have changes : s.drv.state ≠ .claim := by simp [listens]
    refine ⟨_, task runs stands (State.claimTimeout_of_due listens may quiet), State.setDrove_state _ _ _, ?_, ?_, ?_, ?_, ?_⟩
    · rw [State.setDrove_drv]
    · rw [State.setDrove_drv]
      exact if_pos ⟨changes, .inl rfl⟩
    · rw [State.setDrove_drv]
      exact if_pos ⟨changes, .inr rfl⟩
    · rw [State.setDrove_drv]
      simp [changes]
    · rw [State.setDrove_cand, if_pos ⟨changes, .inl rfl⟩]
  case noClaim =>
    intro other
    refine idles (State.claimTimeout_of_not_due fun listens => ?_)
    exact other.resolve_left (not_not.mpr listens)
  case lead =>
    intro runs stands claims quiet
    have changes : s.drv.state ≠ .lead := by simp [claims]
    refine ⟨_, task runs stands (State.leadTimeout_of_due claims quiet), State.setDrove_state _ _ _, ?_, ?_, ?_, State.setDrove_count _ changes⟩
    · rw [State.setDrove_drv]
    · rw [State.setDrove_drv]
      exact if_pos ⟨changes, .inr rfl⟩
    · rw [State.setDrove_cand, if_pos ⟨changes, .inr rfl⟩]
  case noLead =>
    intro other
    refine idles (State.leadTimeout_of_not_due fun claims => ?_)
    exact other.resolve_left (not_not.mpr claims)
end

section
/-! The echo of the drove and its freezes: what one round trip makes of the last eight echo values, and a drove FREEZE at the boundary it is due at, with O49 (01
R21, R32; 04 R82; 11 R254, R255, R262). -/

namespace Sys2Proof.Machine

/-! ### Echoes (11 R254, R255) -/

/-- The echo value of a round trip: half of what it takes beyond 64 words. -/
def echoValue (rt : Nat) : Int := divNear ((rt : Int) - 512000000) 2

/-- An echo value lies out of its bounds, or far from the mean of the eight kept. -/
def Drove.rejects (d : Drove) (v : Int) : Prop := v < 0 ∨ 500000000 < v ∨ (d.echo.length = 8 ∧ 2000000 < (v - d.c).natAbs)

/-- The drove in the window of its echo: K28.7 sent at DRV_IN±, and idle sent on where it forwards. -/
def Drove.echoing (d : Drove) : Drove := { d with
  inWords := [Sym.echo], after := if d.tx = .forward then d.after ++ idleWords 256 else d.after }

/-- The last eight echo values with a new one. -/
def Drove.echoWith (d : Drove) (v : Int) : List Nat := (d.echo ++ [v.toNat]).drop (d.echo.length - 7)

theorem Drove.echoWith_of_few {d : Drove} (v : Int) (few : d.echo.length < 8) : d.echoWith v = d.echo ++ [v.toNat] := by
  rw [Drove.echoWith, Nat.sub_eq_zero_of_le (by omega), List.drop_zero]

theorem Drove.echoWith_of_eight {d : Drove} (v : Int) (eight : d.echo.length = 8) : d.echoWith v = d.echo.drop 1 ++ [v.toNat] := by
  rw [Drove.echoWith, eight, List.drop_append_of_le_length (by omega)]

section
variable {s : State} {rt : Nat}

/-- A device that is OFF, the lead of a chain, and a fold of another HOP make no echo. -/
theorem exec_echoMeasurement_of_silent
    (silent : s.drv.state = .off ∨ (s.drv.state = .lead ∧ s.cfg.drv.ring = false) ∨ s.clk.inSec % 256 ≠ s.drv.hop) :
    exec (.echoMeasurement rt) s = .next s := by
  refine if_pos ?_
  rcases silent with off | ⟨leads, chain⟩ | other
  · simp [State.echoes, off]
  · simp [State.echoes, leads, chain]
  · simp [other]

theorem State.echoes_of_on (on : s.drv.state ≠ .off) (ring : s.drv.state ≠ .lead ∨ s.cfg.drv.ring = true) : s.echoes = true := by
  rcases ring with follows | ring
  · simp [State.echoes, on, follows]
  · simp [State.echoes, on, ring]

variable (on : s.drv.state ≠ .off) (ring : s.drv.state ≠ .lead ∨ s.cfg.drv.ring = true) (mine : s.clk.inSec % 256 = s.drv.hop)
include on ring mine

/-- A value that is rejected counts as bad, with its round trip in ns. -/
theorem exec_echoMeasurement_of_rejected (bad : s.drv.rejects (echoValue rt)) : exec (.echoMeasurement rt) s =
    .next (({ s with drv := { s.drv.echoing with echoBad := s.drv.echoBad + 1 } } : State).raise Ev.drvEchoFault (min (2 ^ 32 - 1) (rt / 1000000))) := by
  refine (if_neg (by simp [State.echoes_of_on on ring, mine])).trans (if_pos ?_)
  simp only [Bool.or_eq_true, Bool.and_eq_true, decide_eq_true_eq]
  exact or_assoc.mpr bad

/-- Any other value joins the last eight. -/
theorem exec_echoMeasurement_of_kept (good : ¬ s.drv.rejects (echoValue rt)) : exec (.echoMeasurement rt) s =
    .next { s with drv := { s.drv.echoing with echoOk := s.drv.echoOk + 1, echo := s.drv.echoWith (echoValue rt) } } := by
  refine (if_neg (by simp [State.echoes_of_on on ring, mine])).trans (if_neg ?_)
  simp only [Bool.or_eq_true, Bool.and_eq_true, decide_eq_true_eq]
  exact fun bad => good (or_assoc.mp bad)

end

/-! ### Freezes (11 R262; 04 R82) -/

theorem exec_droveFreezeTakesEffect (s : State) : exec .droveFreezeTakesEffect s =
    .next (if s.schedule then s.droveFreeze (s.clk.absFold.toNat + 1) else s) := rfl

theorem State.droveFreeze_of_due {s : State} {k boundary : Nat} (waits : k ∈ s.drv.freezes) (due : k ≤ boundary) :
    s.droveFreeze boundary = ({ s with drv := { s.drv with freezes := s.drv.freezes.filter fun k => boundary < k } } : State).askHold :=
  if_pos (List.any_eq_true.mpr ⟨k, waits, decide_eq_true due⟩)

theorem State.droveFreeze_of_not_due {s : State} {boundary : Nat} (later : ∀ k ∈ s.drv.freezes, boundary < k) : s.droveFreeze boundary = s :=
  if_neg (by simpa using later)

end Sys2Proof.Machine

open Sys2Proof Sys2Proof.Machine

/-- Settles O49: an echo by whether the device makes one and whether its value is rejected, a freeze by whether the schedule runs and one is due. -/
theorem echoesAndDroveFreezes : Obligations.EchoesAndDroveFreezes := by
  unfold Obligations.EchoesAndDroveFreezes
  intro s rt v out mine
  refine ⟨exec_echoMeasurement_of_silent, ?few, ?eight, fun ⟨on, ring, hop⟩ bad => exec_echoMeasurement_of_rejected on ring hop bad, ?due, ?waits⟩
  case few =>
    rintro ⟨on, ring, hop⟩ least most few
    have good : ¬ s.drv.rejects (echoValue rt) := by
      rintro (low | high | ⟨eight, -⟩)
      · exact absurd least (not_le.mpr low)
      · exact absurd most (not_le.mpr high)
      · omega
    rw [exec_echoMeasurement_of_kept on ring hop good, Drove.echoWith_of_few _ few]
    rfl
  case eight =>
    rintro ⟨on, ring, hop⟩ least most eight near
    have good : ¬ s.drv.rejects (echoValue rt) := by
      rintro (low | high | ⟨-, far⟩)
      · exact absurd least (not_le.mpr low)
      · exact absurd most (not_le.mpr high)
      · exact absurd near (not_le.mpr far)
    rw [exec_echoMeasurement_of_kept on ring hop good, Drove.echoWith_of_eight _ eight]
    rfl
  case due =>
    intro k waits runs due
    rw [exec_droveFreezeTakesEffect, if_pos runs, State.droveFreeze_of_due waits due]
    rfl
  case waits =>
    rintro (later | still)
    · rw [exec_droveFreezeTakesEffect, State.droveFreeze_of_not_due later, ite_self]
    · rw [exec_droveFreezeTakesEffect, if_neg (by simp [still])]
end

section
/-! The ownership lock, and what a command that may reset leaves of the queue of commands (12 R290; 18 R411, R414, R416): a reset is held where one comes, and
without one the lock and the queue stand. -/

namespace Sys2Proof.Machine

/-- A command that may reset either leaves the queue and the ownership lock, or is the reset, which is then held. -/
structure ResetOrStays (s s' : State) : Prop where
  pending : s'.pending = s.pending
  lock : s'.ownLock = s.ownLock ∨ s'.pow.held = true

theorem ResetOrStays.reset {s x : State} (h : x.pending = s.pending) (cause : Nat) : ResetOrStays s (x.enterReset cause) :=
  ⟨(x.enterReset_pending cause).trans h, .inr rfl⟩

theorem ResetOrStays.stays {s s' : State} (pending : s'.pending = s.pending) (lock : s'.ownLock = s.ownLock) : ResetOrStays s s' := ⟨pending, .inl lock⟩

/-- Each command that may reset answers a next state. -/
theorem exec_of_mayReset {c : Instr} (hr : mayReset c = true) (s : State) : ∃ s', exec c s = .next s' ∧ ResetOrStays s s' := by
  cases c <;> cases hr
  case powerOnReset => exact ⟨_, rfl, .reset rfl 0⟩
  case pinReset ns =>
    simp only [exec, execPinReset]
    split
    · exact ⟨_, rfl, .stays rfl rfl⟩
    · split
      · exact ⟨_, rfl, .stays rfl rfl⟩
      · exact ⟨_, rfl, .reset rfl 1⟩
  case watchdogExpiry =>
    refine ⟨_, rfl, ?_⟩
    split
    · exact .stays rfl rfl
    · exact .reset rfl 2
  case softResetExecution t =>
    refine ⟨_, rfl, ?_⟩
    split
    · split
      · exact .reset (s.setNow_pending t) 3
      · exact .stays rfl rfl
    · exact .stays rfl rfl
  case hotsetSaveEnd bad t =>
    cases saving : s.store.saving with
    | none =>
      simp only [exec, execHotsetSaveEnd, State.setNow_store, saving]
      exact ⟨_, rfl, .stays rfl rfl⟩
    | some img =>
      refine ⟨_, exec_hotsetSaveEnd s bad t img saving, ?_⟩
      split
      · exact .reset (by simp) 1
      · split <;> exact .stays (by simp [State.resumeNext]) (by simp [State.resumeNext])

/-- A command that does not reset answers a next state with the queue of commands as it was, and takes no ownership lock away. -/
theorem exec_of_not_mayReset {c : Instr} (hr : mayReset c = false) (s : State) :
    ∃ s', exec c s = .next s' ∧ s'.pending = s.pending ∧ (s.ownLock = true → s'.ownLock = true) := by
  by_cases hb : ∃ m, c = .foldBoundary m
  · obtain ⟨m, rfl⟩ := hb
    exact ⟨_, rfl, s.boundary_pending m, s.boundary_ownLock m⟩
  by_cases hw : ∃ ns x, c = .wakeRequest ns x
  · obtain ⟨ns, x, rfl⟩ := hw
    refine ⟨_, exec_wakeRequest s ns x, ?_⟩
    split <;> simp
  obtain ⟨s', hx, ha⟩ := exec_steady c s hr (not_exists.mp hb) fun ns x e => hw ⟨ns, x, e⟩
  exact ⟨s', hx, ha.pending, fun h => ha.ownLock.trans h⟩

end Sys2Proof.Machine

open Sys2Proof Sys2Proof.Machine

/-- Settles O59: only a command that may reset can clear the lock, and then reset is held. -/
theorem ownershipLockLastsUntilReset : Obligations.OwnershipLockLastsUntilReset := by
  intro c s s' locked h
  cases hr : mayReset c with
  | false =>
    obtain ⟨x, hx, -, keeps⟩ := exec_of_not_mayReset hr s
    cases hx.symm.trans h
    exact .inl (keeps locked)
  | true =>
    obtain ⟨x, hx, reset⟩ := exec_of_mayReset hr s
    cases hx.symm.trans h
    exact reset.lock.imp (·.trans locked) fun held => ⟨rfl, held⟩

/-- Settles O55: a command resets or it does not, and either way it answers with the queue that it found. -/
theorem commandsAnswerANextState : Obligations.CommandsAnswerANextState := by
  intro c s
  cases hr : mayReset c with
  | false =>
    obtain ⟨x, hx, pending, -⟩ := exec_of_not_mayReset hr s
    exact ⟨x, hx, pending⟩
  | true =>
    obtain ⟨x, hx, reset⟩ := exec_of_mayReset hr s
    exact ⟨x, hx, reset.pending⟩

/-- Settles O13, by the cases of the queue; the opcode table spells no command. -/
theorem stepRunsTheFrontCommand : Obligations.StepRunsTheFrontCommand := by
  refine ⟨fun c r s queue => ?_, fun s empty => ?_, fun nbits w s => ⟨rfl, rfl⟩⟩
  · simp only [step, queue]
  · simp only [step, empty]
end

section
/-! A packet at the hardware's checks (12 R282, R285, R288), what closed interfaces leave undone (12 R268; 18 R418, R425), and a packet whose class is not its
opcode's (12 R280). -/

namespace Sys2Proof.Machine

/-! ### The hardware's checks of a packet (12 R282) -/

/-- The pen serves the air: no packet of the wire is for it (10 R240). -/
abbrev State.servesAir (s : State) (p : Pen) : Prop := p = 3 ∧ s.cfg.com.mgmtEn = true

section
variable {s : State} {k : Packet}

theorem admitPacket_of_air (air : s.servesAir k.call.pen) : admitPacket k s = reject k St.denied s := if_pos (by simpa using air)

theorem admitPacket_of_wire (wire : ¬s.servesAir k.call.pen) : admitPacket k s =
    if (s.penSt k.call.pen).state = .disabled then reject k St.denied s
    else if (s.penSt k.call.pen).state = .resetting then reject k St.abandoned s
    else if (s.io k.call.pen).free = 0 then
      ((reject k St.noCredit s).updIo k.call.pen fun c => { c with noCredit := c.noCredit + 1 }).raise Ev.noCredit k.call.pen.val
    else enqueue k s := if_neg (by simpa using wire)

theorem admitPacket_of_disabled (wire : ¬s.servesAir k.call.pen) (disabled : (s.penSt k.call.pen).state = .disabled) :
    admitPacket k s = reject k St.denied s := by
  rw [admitPacket_of_wire wire, if_pos disabled]

theorem admitPacket_of_resetting (wire : ¬s.servesAir k.call.pen) (resetting : (s.penSt k.call.pen).state = .resetting) :
    admitPacket k s = reject k St.abandoned s := by
  rw [admitPacket_of_wire wire, if_neg (by simp [resetting]), if_pos resetting]

theorem admitPacket_of_no_credit (wire : ¬s.servesAir k.call.pen) (active : (s.penSt k.call.pen).state = .active) (spent : (s.io k.call.pen).free = 0) :
    admitPacket k s =
      ((reject k St.noCredit s).updIo k.call.pen fun c => { c with noCredit := c.noCredit + 1 }).raise Ev.noCredit k.call.pen.val := by
  rw [admitPacket_of_wire wire, if_neg (by simp [active]), if_neg (by simp [active]), if_pos spent]

theorem admitPacket_of_credit (wire : ¬s.servesAir k.call.pen) (active : (s.penSt k.call.pen).state = .active) (credit : 0 < (s.io k.call.pen).free) :
    admitPacket k s = enqueue k s := by
  rw [admitPacket_of_wire wire, if_neg (by simp [active]), if_neg (by simp [active]), if_neg (by omega)]

/-! ### Closed interfaces (18 R418) -/

theorem deliver_of_closed {op : BitVec 16} {q : Call} (closed : s.ifaceOpen = false) : deliver op q s = s := if_pos (by simp [closed])

theorem State.directWrite_of_closed {addr : Nat} {data : List Byte} (closed : s.ifaceOpen = false) : s.directWrite addr data = s := if_neg (by simp [closed])

/-- A crook frame needs the interfaces, and a crook pin the pins' functions, which need them too. -/
theorem State.crookAct_of_closed {code : Nat} {src : CrookSrc} {fire : CrookCmd → State → State} (closed : s.ifaceOpen = false) :
    s.crookAct code src fire = s := by
  cases src with
  | frame bytes => exact if_pos (by simp [closed])
  | pin n level => exact if_pos (by simp [State.pinsRun, closed])

/-! ### A packet alone in the queues -/

variable {op : BitVec 16} {q : Call} {sv : Serve}

/-- A packet that joins empty queues is alone in them. -/
theorem enqueue_alone (empty : ∀ p, (s.io p).queue = []) : (enqueue { opcode := op, call := q } s).Alone (queued op q s) where
  own := (enqueue_queue op q s q.pen).trans (by simp [empty])
  others p other := (enqueue_queue op q s p).trans (by simp [empty, show q.pen ≠ p from Ne.symm other])

/-- A packet that the hardware passes with every queue empty is served at once, and takes its credit. -/
theorem deliver_alone (opened : s.ifaceOpen = true) (runs : s.schedule = true) (slot : s.clk.slot ≤ 14) (wire : ¬s.servesAir q.pen)
    (active : (s.penSt q.pen).state = .active) (credit : 0 < (s.io q.pen).free) (empty : ∀ p, (s.io p).queue = []) (unbegun : s.host.begun = none)
    (serves : (enqueue { opcode := op, call := q } s).Serves (queued op q s) sv) :
    deliver op q s = s.answered q ((queued op q s).result sv) := by
  have alone := enqueue_alone (op := op) (q := q) empty
  have joined : (((enqueue { opcode := op, call := q } s).io q.pen).queue.contains (queued op q s)) = true := by
    rw [enqueue_queue]; simp
  have taken : (enqueue { opcode := op, call := q } s).taken (queued op q s) = s.takeCredit q := enqueue_serve op q s (by simp [empty])
  simp only [deliver]
  rw [if_neg (by simp [opened]), admitPacket_of_credit (k := { opcode := op, call := q }) wire active credit, if_pos (by
    simp only [Bool.and_eq_true, decide_eq_true_eq]
    exact ⟨⟨runs, slot⟩, joined⟩)]
  refine (alone.reach serves unbegun).trans ?_
  rw [taken]
  rfl

/-! ### FLAGS, the reserved bytes and the class (12 R278, R280) -/

theorem State.decide_of_reserved {k : Packet} (set : k.call.flags ≠ 0 ∨ k.call.rsv ≠ 0) : s.decide_ k = .refuse St.badParam := if_pos (by simpa using set)

theorem State.decide_of_wrong_class {k : Packet} {c : Nat} {chk : Call → State → Serve} (flags : k.call.flags = 0) (rsv : k.call.rsv = 0)
    (info : opInfo k.opcode.toNat = some (c, chk)) (other : k.call.cls.toNat ≠ c) : s.decide_ k = .refuse St.badOpcode := by
  simp [State.decide_, flags, rsv, info, other]

/-- A refusal does nothing at once, and its result waits for the boundary. -/
theorem State.Serves.refuse {k : Packet} {st : BitVec 16} (decides : s.decide_ k = .refuse st) (wire : k.air = false) : s.Serves k (.refuse st) :=
  ⟨decides, rfl, rfl, rfl, wire⟩

/-- The interpreter's table gives every command's opcode the class of its row (13 R308–R326). -/
theorem opInfo_of_commandOf {c : Instr} {cls : BitVec 2} (h : commandOf c = some (op, cls, q)) : ∃ chk, opInfo op.toNat = some (cls.toNat, chk) := by
  cases c <;> cases h <;> exact ⟨_, rfl⟩

end

end Sys2Proof.Machine

open Sys2Proof Sys2Proof.Machine

/-- Settles O14: each row asks for open interfaces before it does anything. -/
theorem closedInterfacesIgnoreTheHost : Obligations.ClosedInterfacesIgnoreTheHost := by
  intro s t closed
  have shut : (s.setNow t).ifaceOpen = false := closed
  have crook (code : Nat) (src : CrookSrc) (fire : CrookCmd → State → State) :
      (.next ((s.setNow t).crookAct code src fire) : Host.Outcome State Fault Refusal) = .next (s.setNow t) := congrArg _ (State.crookAct_of_closed shut)
  have write (addr : Nat) (data : List Byte) :
      (.next ((s.setNow t).directWrite addr data) : Host.Outcome State Fault Refusal) = .next (s.setNow t) := congrArg _ (State.directWrite_of_closed shut)
  have ignores (f : State → State) :
      (.next (if (s.setNow t).ifaceOpen then f (s.setNow t) else s.setNow t) : Host.Outcome State Fault Refusal) = .next (s.setNow t) :=
    congrArg _ (if_neg (by simp [shut]))
  refine ⟨fun bs => ignores (·.writePacket bs), fun sel w => ignores (·.readReply sel w), fun bs => ignores (·.spiTx bs),
    fun a sent n => congrArg Host.Outcome.next ?_, fun off d => ⟨write _ d, write _ d, write _ d⟩, fun a d => write _ d,
    fun src => ⟨crook 1 src _, crook 2 src _, crook 3 src _, crook 4 src _, crook 5 src _⟩,
    fun c op cls q h => (exec_of_commandOf h s).trans (congrArg _ (deliver_of_closed closed))⟩
  by_cases own : a.toNat = s.i2cAddress
  · simp [own, shut, State.i2cAddress]
    rfl
  · exact (if_pos own).trans (if_neg own).symm

/-- Settles O50: the packet is alone in the queues, and the interpreter's first checks refuse it. -/
theorem wrongClassIsRefused : Obligations.WrongClassIsRefused := by
  intro c op cls q s h opened runs slot wire active credit empty unbegun
  obtain ⟨chk, info⟩ := opInfo_of_commandOf h
  have refuses {st : BitVec 16} (decides : (enqueue { opcode := op, call := q } s).decide_ (queued op q s) = .refuse st) :
      exec c s = .next (s.answered q (refused op q st)) :=
    (exec_of_commandOf h s).trans (congrArg _ (deliver_alone opened runs slot wire active credit empty unbegun (.refuse decides rfl)))
  exact ⟨fun set => refuses (State.decide_of_reserved set), fun flags rsv other =>
    refuses (State.decide_of_wrong_class flags rsv info fun same => other (BitVec.eq_of_toNat_eq same))⟩
end

section
/-! Ends of jobs and of pen resets (12 R284, R291, R292). -/

namespace Sys2Proof.Machine

section
variable {s : State} {p : Pen}

theorem State.penSt_updPen (s : State) (p k : Pen) (f : PenSt → PenSt) : (s.updPen p f).penSt k = if p = k then f (s.penSt k) else s.penSt k := by
  simp [State.penSt, State.updPen, Vec_getD_upd, Fin.ext_iff, k.isLt]

theorem State.penSt_raise (s : State) (id detail : Nat) (k : Pen) : (s.raise id detail).penSt k = s.penSt k := rfl

/-- The job that has ended first is taken off the list and reported. -/
theorem State.jobDone_of_ended {o : JobOwner} {st : BitVec 16} {r : List (JobOwner × BitVec 16)} (ended : s.store.ended = (o, st) :: r) :
    s.jobDone o.pen o.engine = { s with store := { s.store with ended := r } }.raise Ev.cmdDone (st.toNat * 2 ^ 16 + o.tag.toNat * 2 ^ 8 + o.pen.val) := by
  simp [State.jobDone, ended, State.mapStore]

theorem State.jobDone_of_none {e : Engine} (none : ∀ x ∈ s.store.ended, x.1.pen ≠ p ∨ x.1.engine ≠ e) : s.jobDone p e = s := by
  have absent : (s.store.ended.find? fun x => x.1.pen = p && x.1.engine = e) = Option.none := by
    simpa [List.find?_eq_none, imp_iff_not_or] using none
  rw [State.jobDone, absent]

theorem State.ifScheduled_of_running {f : State → State} (runs : s.schedule = true) : s.ifScheduled f = f s := if_pos runs

theorem State.ifScheduled_of_stopped {f : State → State} (rests : s.schedule = false) : s.ifScheduled f = s := if_neg (by simp [rests])

theorem State.endPenReset_of_busy (busy : (s.penSt p).state ≠ .resetting ∨ s.storeHolds p = true) : s.endPenReset p = s := by
  unfold State.endPenReset
  rcases busy with other | holds
  · exact if_pos (by simp [other])
  · exact if_pos (by simp [holds])

/-- Once no engine holds a command of the pen its reset ends, at a boundary after the one that began it. -/
theorem State.endPenReset_of_free (resetting : (s.penSt p).state = .resetting) (later : (s.penSt p).since.toNat < s.clk.absFold.toNat)
    (store : s.storeHolds p = false) (cal : ∀ j ∈ s.bg.calQueue, ∀ o, j.owner = some o → o.pen ≠ p) :
    s.endPenReset p = (s.updPen p fun y => { y with toDisabled := false }).setPen p (if (s.penSt p).toDisabled then .disabled else .active) := by
  unfold State.endPenReset
  dsimp only
  rw [no_owned_job CalJob.owner _ s.bg.calQueue p (fun j h => by simp [h]) (fun j o h => by simp [h]) cal,
    if_neg (by simp [resetting, store, later])]

end

end Sys2Proof.Machine

open Sys2Proof Sys2Proof.Machine

/-- Settles O40: a job's end is the first entry of the engines' list, and a pen's reset ends where nothing of the pen is left. -/
theorem jobsAndPenResetsEnd : Obligations.JobsAndPenResetsEnd := by
  intro s p t
  have rests {x : State} (h : x.endPenReset p = x) : exec (.penResetEnd p) x = .next x := congrArg _ ((congrArg (ite _ · x) h).trans (ite_self x))
  refine ⟨fun o st r runs ended own => ?_, fun e none => congrArg Host.Outcome.next ?_, fun elsewhere => congrArg _ (if_neg (by simp [elsewhere])),
    fun other => rests (State.endPenReset_of_busy (.inl other)), fun holds => rests (State.endPenReset_of_busy (.inr holds)),
    fun boundary resetting later store cal => ?_⟩
  · subst own
    exact congrArg _ ((State.ifScheduled_of_running (s := s.setNow t) runs).trans (State.jobDone_of_ended (s := s.setNow t) ended))
  · rcases none with stopped | none
    · exact State.ifScheduled_of_stopped (s := s.setNow t) stopped
    · exact (congrArg (ite _ · _) (State.jobDone_of_none (s := s.setNow t) none)).trans (ite_self _)
  · refine ⟨_, congrArg Host.Outcome.next ((if_pos boundary).trans (State.endPenReset_of_free resetting later store cal)), ?_⟩
    refine ⟨?_, ?_, (State.raise_count _ _ _ _).trans rfl, rfl, rfl, rfl⟩
    · simp [State.setPen, State.penSt_raise, State.penSt_updPen]
    · simp [State.setPen, State.penSt_raise, State.penSt_updPen]
end

section
/-! The checks of the opcodes, one lemma per check (13 R303, R308–R326): where a row's terms hold, every check of the row lets the packet through, and what the
checks guard is what is served. -/

namespace Sys2Proof.Machine

theorem inRange_iff {v lo hi : Nat} : inRange v lo hi = true ↔ lo ≤ v ∧ v ≤ hi := by simp [inRange]

theorem inRangeI_iff {v lo hi : Int} : inRangeI v lo hi = true ↔ lo ≤ v ∧ v ≤ hi := by simp [inRangeI]

/-- A condition asked only where a flag is set, as a check spells it. -/
theorem eq_false_or_of_imp {b : Bool} {p : Prop} (h : b = true → p) : b = false ∨ p := (Bool.eq_false_or_eq_true b).symm.imp_right h

section
variable {q : Call} {s : State}

/-! ### Reads -/

theorem plain_of_length {op : BitVec 16} (h : q.params.length = 0) : plain op q s = Serve.read op [] := checks_ok _ _ (by simpa using h)

theorem indexed_of_terms {op : BitVec 16} {n : Nat} (h : q.params.length = 1 ∧ fld q.params 0 1 < n) : indexed op n q s = Serve.read op q.params :=
  checks_ok _ _ (by simpa using h)

/-! ### System commands (13 R308) -/

theorem checkNop_of_terms (h : NopTerms q s) : checkNop q s = Serve.data q.params := checks_ok _ _ (by simpa using h)

theorem checkAudit_of_terms (h : AuditTerms q s) : checkAudit q s = Serve.data s.auditBytes := checks_ok _ _ (by simpa using h)

theorem checkOutputsRelease_of_terms (h : OutputsReleaseTerms q s) : checkOutputsRelease q s = Serve.stage :=
  checks_ok _ _ (by simpa [OutputsReleaseTerms] using h)

theorem checkPowerState_of_terms (h : PowerStateTerms q s) : checkPowerState q s = Serve.stage := by
  obtain ⟨length, pen, state, sleep⟩ := h
  exact checks_ok _ _ (by simpa [length, pen, state] using imp_iff_not_or.mp sleep)

theorem checkSoftReset_of_terms (h : SoftResetTerms q s) : checkSoftReset q s = Serve.stage := checks_ok _ _ (by simpa using h)

/-! ### Reference and selector commands (13 R310, R311) -/

theorem checkRefInput_of_terms (h : RefInputTerms q s) : checkRefInput q s = Serve.group 0x1011 (q.params.take 1) := by
  obtain ⟨length, ref, own, modeAbc, modeDe, flags, falling, zero3, zero18, den, numAbc, numDe, div, rate, deglitchAbc, deglitch, fits⟩ := h
  refine checks_ok _ _ ?_
  have falls : fld q.params 2 1 % 2 = 0 ∨ fld q.params 1 1 ≤ 1 := by omega
  by_cases abc : fld q.params 0 1 < 4
  · simp [length, ref, own, abc, modeAbc abc, flags, falls, zero3, zero18, den, numAbc abc, div, rate, deglitchAbc abc, fits]
  · have de := Nat.not_lt.mp abc
    simp [length, ref, own, abc, modeDe de, flags, falls, zero3, zero18, den, numDe de, div, rate, deglitch, fits]

theorem checkRefMon_of_terms (h : RefMonTerms q s) : checkRefMon q s = Serve.group 0x1013 (q.params.take 1) := by
  obtain ⟨length, ref, own, advance, hyst, zero3, zero34, jitter, fits, runt, fast, precise, timer⟩ := h
  exact checks_ok _ _ (by simp [inRange_iff, inRangeI_iff, length, ref, own, advance, hyst, zero3, zero34, jitter, fits, runt, fast, precise, timer])

theorem checkRefRank_of_terms (h : RefRankTerms q s) : checkRefRank q s = Serve.group 0x1015 (q.params.take 1) := by
  obtain ⟨length, ref, own, prio, input, link⟩ := h
  refine checks_ok _ _ ?_
  by_cases isInput : fld q.params 0 1 < 6
  · simp [length, ref, own, prio, isInput, input isInput]
  · simp [length, ref, own, prio, isInput, link (Nat.not_lt.mp isInput)]

theorem checkTdcArm_of_terms (h : TdcArmTerms q s) : checkTdcArm q s = Serve.stage := checks_ok _ _ (by simpa using h)

theorem checkTdcResult_of_terms (h : TdcResultTerms q s) : checkTdcResult q s = Serve.read 0x1032 (le 1 q.pen.val) := checks_ok _ _ (by simpa using h)

theorem checkForce_of_terms (h : ForceTerms q s) : checkForce q s = Serve.stage := by
  obtain ⟨length, ref, own, clear⟩ := h
  refine checks_ok _ _ ?_
  by_cases all : fld q.params 0 1 = 255
  · cases standing : s.standingForce with
    | none => simp [length, all]
    | some f => simp [length, all, clear all f standing]
  · simp [length, ref.resolve_right all, all, own all]

/-! ### Loop, stile and model commands (13 R311, R312) -/

theorem checkLoop_of_terms (h : LoopTerms q s) : checkLoop q s = Serve.group 0x2021 [] := by
  obtain ⟨length, pen, code0, code1, code2, code3, fixed, ⟨track, order, acquire⟩, i16, i24, i30, n36, n40, n42, n44, n46, n48, zero, i50, i58⟩ := h
  have bounds : 1 ≤ fld q.params 8 4 ∧ fld q.params 12 4 ≤ 4000000 := by omega
  exact checks_ok _ _ (by
    simp [inRange_iff, inRangeI_iff, length, pen, code0, code1, code2, code3, fixed, track, order, acquire, bounds, i16, i24, i30, n36, n40, n42, n44, n46, n48,
      zero, i50, i58])

theorem checkStile_of_terms (h : StileTerms q s) : checkStile q s = Serve.group 0x2023 [] :=
  checks_ok _ _ (by simpa [StileTerms, inRangeI_iff, and_assoc] using h)

theorem checkHold_of_terms (h : HoldTerms q s) : checkHold q s = Serve.stage := checks_ok _ _ (by simpa using h)

theorem checkNewOsc_of_terms (h : NewOscTerms q s) : checkNewOsc q s = Serve.stage := checks_ok _ _ (by simpa using h)

/-! ### Tally and crook-load commands (13 R311, R326) -/

/-- Where the slots asked for are free, what is served is marked with their number. -/
theorem withSlots_of_free {n flock : Nat} {sv : Serve} (free : n ≤ s.slotsLeft) : withSlots s n flock sv = { sv with mark := n } := if_pos free

theorem checkStep_of_terms (h : StepTerms q s) : checkStep q s = { Serve.stage with mark := 1 } := by
  obtain ⟨length, own, now, zero, amount, start, device, flock, free⟩ := h
  refine (checks_ok _ _ ?_).trans (withSlots_of_free free)
  by_cases whole : BitVec.ofNat 16 (fld q.params 0 2) = 0#16
  · rw [whole] at own
    simp [inRangeI_iff, length, own, zero, amount, start, whole, device whole]
  · simp [length, own, now, zero, amount, start, whole, flock whole]

theorem checkTallyCancel_of_terms (h : TallyCancelTerms q s) : checkTallyCancel q s = Serve.stage := by
  obtain ⟨length, e, found, isOpen, ssct, pen⟩ := h
  refine checks_ok _ _ ?_
  by_cases own : e.src = .switch ∨ e.src = .holdoverExit
  · have host : q.pen = 0 := pen.resolve_right fun mine => own.elim mine.2.1 mine.2.2
    simp [length, found, isOpen, ssct, own, host]
  · simp [length, found, isOpen, ssct, own, pen.imp_right And.left]

theorem checkTallyRead_of_terms (h : TallyReadTerms q s) :
    checkTallyRead q s = Serve.data (tallyPage (if fld q.params 0 1 = 0 then s.snap.tally.entries else s.snap.tally.ring) (fld q.params 1 1)) :=
  checks_ok _ _ (by simpa [and_assoc] using h)

theorem checkOutDelay_of_terms (h : OutDelayTerms q s) : checkOutDelay q s = { Serve.stage with mark := outDelaySlots q s } := by
  obtain ⟨length, output, own, now, zero, positive, small, free⟩ := h
  exact (checks_ok _ _ (by simp [length, output, own, now, zero, positive, small])).trans (withSlots_of_free free)

theorem checkCrookStep_of_terms (h : CrookStepTerms q s) : checkCrookStep q s = { Serve.stage with mark := crookSlots q s } := by
  obtain ⟨length, flock, own, zero, amount, fits, free⟩ := h
  refine (checks_ok _ _ ?_).trans (withSlots_of_free free)
  have named : ¬BitVec.ofNat 16 (fld q.params 0 2) = 0#16 := flock
  simpa [length, named, own, zero, amount, crookDelay] using fits

theorem checkCrookGather_of_terms (h : CrookGatherTerms q s) : checkCrookGather q s = Serve.stage :=
  checks_ok _ _ (by simpa [inRangeI_iff] using h)

theorem checkCrookClear_of_terms (h : CrookClearTerms q s) : checkCrookClear q s = Serve.stage := checks_ok _ _ (by simpa using h)

/-! ### Output commands (13 R313) -/

theorem checkVco_of_terms (h : VcoTerms q s) : checkVco q s = Serve.group 0x3011 [] := by
  obtain ⟨length, pen, freq, off, fits⟩ := h
  exact checks_ok _ _ (by simpa [inRange_iff, length, pen, freq, off, and_assoc] using fits)

theorem checkPaddock_of_terms (h : PaddockTerms q s) : checkPaddock q s = Serve.group 0x3013 (q.params.take 1) := by
  obtain ⟨length, pen, paddock, first, other, vddo, zero, off, fits⟩ := h
  have prediv : (if fld q.params 0 1 = 0 then inRange (fld q.params 1 1) 2 16 else inRange (fld q.params 1 1) 4 64) = true := by
    split_ifs with isFirst
    · exact inRange_iff.mpr (first isFirst)
    · exact inRange_iff.mpr (other isFirst)
  exact checks_ok _ _ (by simpa [length, pen, paddock, prediv, vddo, zero] using ⟨off, fits⟩)

theorem checkOut_of_terms (h : OutTerms q s) : checkOut q s = Serve.group 0x3015 (q.params.take 1) := by
  obtain ⟨length, output, own, zero, word, spare, align, prst, mode, format, drive, vddo, div, duty, freq, pulse⟩ := h
  simp only [outOf, Nat.reducePow] at word align prst mode format drive vddo duty pulse
  exact checks_ok _ _ (by
    simpa [length, output, own, zero, word, spare, align, prst, mode, format, drive, vddo, div, freq] using
      ⟨eq_false_or_of_imp duty, imp_iff_not_or.mp pulse⟩)

theorem checkGateWindow_of_terms (h : GateWindowTerms q s) : checkGateWindow q s = Serve.stage := by
  obtain ⟨length, output, own, zero, gated, order, later, room, apart⟩ := h
  exact checks_ok _ _ (by simpa [length, output, own, zero, gated, order, later, room] using ⟨gated, apart⟩)

theorem checkGateFlush_of_terms (h : GateFlushTerms q s) : checkGateFlush q s = Serve.stage := checks_ok _ _ (by simpa using h)

theorem checkMon_of_terms (h : MonTerms q s) : checkMon q s = Serve.group 0x3023 [] := checks_ok _ _ (by simpa [inRangeI_iff] using h)

/-! ### Pulse, time and shaft commands (13 R314, R315) -/

theorem checkAlign_of_terms (h : AlignTerms q s) : checkAlign q s = Serve.group 0x4011 (q.params.take 1) :=
  checks_ok _ _ (by simpa [inRangeI_iff] using h)

theorem checkGather_of_terms (h : GatherTerms q s) :
    checkGather q s = { Serve.stage with mark := (flockOuts (BitVec.ofNat 16 (fld q.params 0 2))).length } := by
  obtain ⟨length, own, zero, outs, later, offset, free⟩ := h
  exact (checks_ok _ _ (by simpa [inRangeI_iff, length, own, zero, later, offset] using outs)).trans (withSlots_of_free free)

theorem checkTime_of_terms (h : TimeTerms q s) : checkTime q s = Serve.group 0x4015 [] := by
  obtain ⟨length, pen, src, pps, accept, zero, baud⟩ := h
  exact checks_ok _ _ (by simpa [length, pen, src, pps, accept, zero] using baud)

theorem checkTimeWrite_of_terms (h : TimeWriteTerms q s) : checkTimeWrite q s = { Serve.stage with mark := timeSlots q s } := by
  obtain ⟨length, pen, zero, ns, fs, free⟩ := h
  exact (checks_ok _ _ (by simp [length, pen, zero, ns, fs])).trans (withSlots_of_free free)

theorem checkSsct_of_terms (h : SsctTerms q s) : checkSsct q s = Serve.group 0x5011 [] := by
  obtain ⟨length, pen, mode, source, shift, zero⟩ := h
  exact checks_ok _ _ (by simp [inRange_iff, length, pen, mode, source, shift, zero])

theorem checkSsctLoad_of_terms (h : SsctLoadTerms q s) : checkSsctLoad q s = Serve.stage := checks_ok _ _ (by simpa [inRangeI_iff] using h)

theorem checkSsctRead_of_terms (h : SsctReadTerms q s) : checkSsctRead q s = Serve.data (tens s.snap.ssct.bins ++ tens s.snap.ssct.resid) :=
  checks_ok _ _ (by simpa using h)

/-! ### Radio commands (13 R316) -/

theorem checkRf_of_terms (h : RfTerms q s) : checkRf q s = Serve.group 0x6011 [] := by
  obtain ⟨length, own, b0, b1, b2, b3, b4, b5, b7, b8, b9, b10, b12, b13, b14, power, b11, zero, tuned, role⟩ := h
  exact checks_ok _ _ (by
    simpa [inRange_iff, inRangeI_iff, length, own, b0, b1, b2, b3, b4, b5, b7, b8, b9, b10, b12, b13, b14, power, b11, zero] using ⟨tuned, role⟩)

theorem checkChanWrite_of_terms (h : ChanWriteTerms q s) : checkChanWrite q s = Serve.group 0x6014 (q.params.take 1) := by
  obtain ⟨length, own, chan, zero, freq, free⟩ := h
  exact checks_ok _ _ (by simpa [inRange_iff, length, own, chan, zero, or_assoc] using ⟨freq, free⟩)

theorem checkRfRx_of_terms (h : RfRxTerms q s) : checkRfRx q s = Serve.stage := by
  obtain ⟨length, own, on, tuned, role⟩ := h
  have may : fld q.params 0 1 = 0 ∨ s.stagedFreq s.stagedRf.chan ≠ 0 := (Nat.le_one_iff_eq_zero_or_eq_one.mp on).imp_right tuned
  exact checks_ok _ _ (by simpa [length, own, on, role] using may)

/-- A frame of the host goes to the transmitter, which answers when it has ended (13 R316, log 34). -/
theorem checkRfTx_of_terms (h : RfTxTerms q s) : checkRfTx q s = { later := true, act := fun x =>
    { x with rf := { x.rf with hostTx := some { pen := q.pen, tag := q.tag, cls := q.cls, psdu := q.params } } } } := by
  obtain ⟨length, own, fits, tuned, role, run, idle, silent, still⟩ := h
  exact (checks_ok _ _ (by simp [inRange_iff, length, own, fits, tuned, role, run])).trans (if_neg (by simp [idle, silent, still]))

/-- A capture is armed, which the receiver answers when it has its samples (13 R316, log 34). -/
theorem checkRfCapture_of_terms (h : RfCaptureTerms q s) : checkRfCapture q s = { later := true, act := fun x =>
    { x with rf := { x.rf with
      capture := some { pen := q.pen, tag := q.tag, cls := q.cls, iq := decide (fld q.params 0 1 = 1), want := fld q.params 2 2, got := [] } } } } := by
  obtain ⟨length, own, kind, zero, count, idle⟩ := h
  exact (checks_ok _ _ (by simp [inRange_iff, length, own, kind, zero, count])).trans (if_neg (by simp [idle]))

/-- A radio calibration joins the calibration engine's queue (16 R385). -/
theorem checkRfCal_of_terms (h : RfCalTerms q s) : checkRfCal q s =
    { status := St.accepted, act := fun x => { x with bg := x.calQueued q } } := by
  obtain ⟨length, own, which, free⟩ := h
  have idle : (s.bg.calQueue.any fun j => j.ofPen q.pen) = false :=
    no_owned_job CalJob.owner _ s.bg.calQueue q.pen (fun j h => by simp [CalJob.ofPen, h]) (fun j o h => by simp [CalJob.ofPen, h]) free
  exact (checks_ok _ _ (by simp [inRange_iff, length, own, which])).trans (if_neg (by simp [idle]))

theorem checkRfTone_of_terms (h : RfToneTerms q s) : checkRfTone q s = Serve.stage := by
  obtain ⟨length, own, mode, start, role⟩ := h
  have ready := or_and_left.mp (or_iff_not_imp_left.mpr start)
  exact checks_ok _ _ (by simpa [length, own, mode, role] using ready)

/-! ### Commons and drove commands (13 R317, R318) -/

theorem checkCommons_of_terms (h : CommonsTerms q s) : checkCommons q s = Serve.group 0x7011 [] := by
  obtain ⟨length, own, role, beacon, period, hop, hold, cca, maxCca, zero, netId, delay, window, devId, fixed, fold, start, stays⟩ := h
  have mayStart : (s.stagedCom.role ≠ 0 ∨ (setCommons q.params s.stagedCom).role = 0) ∨
      s.com.key.isSome = true ∧ s.stagedFreq (setCommons q.params s.stagedCom).beaconChan ≠ 0 :=
    or_iff_not_imp_left.mpr fun stops => start (not_not.mp (not_or.mp stops).1) (not_or.mp stops).2
  exact checks_ok _ _ (by
    simpa [inRange_iff, inRangeI_iff, length, own, role, beacon, period, hop, hold, cca, maxCca, zero, netId, delay, window, devId, fixed, fold, and_assoc] using
      ⟨mayStart, or_iff_not_imp_left.mpr stays⟩)

theorem checkMgmt_of_terms (h : MgmtTerms q s) : checkMgmt q s = Serve.group 0x7013 [] := by
  obtain ⟨length, pen, on, zero, peer⟩ := h
  exact checks_ok _ _ (by simp [inRange_iff, length, pen, on, zero, peer])

theorem checkDrove_of_terms (h : DroveTerms q s) : checkDrove q s = Serve.group 0x8011 [] := by
  obtain ⟨length, own, cmdEn, en, ring, hop, hold, cmds, zero, id, stays⟩ := h
  exact checks_ok _ _ (by
    simpa [inRange_iff, length, own, cmdEn, en, ring, hop, hold, cmds, zero, id, and_assoc] using eq_false_or_of_imp stays)

theorem checkDroveCmd_of_terms (h : DroveCmdTerms q s) : checkDroveCmd q s = Serve.stage := by
  obtain ⟨length, own, ⟨first, last⟩, zero, gather, freeze, flags, fold, lead, free, alone⟩ := h
  have kinds : fld q.params 0 1 = 1 ∨ fld q.params 0 1 = 2 ∨ fld q.params 0 1 = 3 := by omega
  refine checks_ok _ _ ?_
  rcases kinds with kind | kind | kind
  · simpa [inRange_iff, length, own, zero, kind, gather kind, lead, free] using ⟨fold (by omega), alone⟩
  · simpa [inRange_iff, length, own, zero, kind, freeze kind, lead, free] using ⟨fold (by omega), alone⟩
  · simpa [inRange_iff, length, own, zero, kind, flags kind, lead, free] using alone

/-! ### Store and telemetry commands (13 R319; 16 R387) -/

/-- What a store command that the engine takes does: its job joins the queue with a journal buffer (12 R284, 15 R357). -/
def storeJob (q : Call) (op : BitVec 16) (data : List Byte) (job : StoreJob) : Serve :=
  { status := St.accepted
    body := .bytes data
    act := fun x => x.mapStore fun m =>
      { m with
        jobs := m.jobs ++ [{ job with owner := some { pen := q.pen, tag := q.tag, cls := q.cls, opcode := op, params := q.params } }]
        journals := m.journals + 1 } }

theorem checkModelWrite_of_terms (h : ModelWriteTerms q s) :
    checkModelWrite q s = storeJob q 0x2038 [] { kind := .records [{ type := 0x02, payload := s.modelPayload (s.mdl.written q.params) }] } := by
  obtain ⟨length, pen, flags, zero, span, noSpan, out, free⟩ := h
  refine (checks_ok _ _ ?_).trans (storeServe_free _ _ _ _ _ free)
  cases spanned : bit (fld q.params 46 1) 1 with
  | true => simp [length, pen, flags, zero, span spanned, out]
  | false => simp [length, pen, flags, zero, noSpan spanned, out]

theorem checkSsctSave_of_terms (h : SsctSaveTerms q s) :
    checkSsctSave q s = storeJob q 0x5016 (le 4 (s.store.seqFor 188).toNat) { kind := .records s.ssctRecords } := by
  obtain ⟨length, pen, free⟩ := h
  exact (checks_ok _ _ (by simp [length, pen])).trans (storeServe_free _ _ _ _ _ free)

theorem checkCommonsKey_of_terms (h : CommonsKeyTerms q s) :
    checkCommonsKey q s = storeJob q 0x7014 [] { kind := .records [{ type := 0x05, payload := le 4 0 ++ q.params }] } := by
  obtain ⟨length, pen, free⟩ := h
  exact (checks_ok _ _ (by simp [length, pen])).trans (storeServe_free _ _ _ _ _ free)

theorem checkConfigSave_of_terms (h : ConfigSaveTerms q s) :
    checkConfigSave q s =
      storeJob q 0x9010 [] { kind := .records configParts, snap := some { s.cfg with autostart := decide (fld q.params 0 1 = 1) } } := by
  obtain ⟨length, pen, start, zero, free⟩ := h
  exact (checks_ok _ _ (by simp [length, pen, start, zero])).trans (storeServe_free _ _ _ _ _ free)

theorem checkPageWrite_of_terms (h : PageWriteTerms q s) :
    checkPageWrite q s = storeJob q 0x9012 [] { kind := .pageWrite (fld q.params 0 1) (fld q.params 1 1) (q.params.drop 4) } := by
  obtain ⟨length, page, own, zero, open_, free⟩ := h
  exact (checks_ok _ _ (by simp [inRange_iff, length, page, own, zero, open_])).trans (storeServe_free _ _ _ _ _ free)

theorem checkPageErase_of_terms (h : PageEraseTerms q s) :
    checkPageErase q s = storeJob q 0x9014 [] { kind := .pageErase (fld q.params 0 1) } := by
  obtain ⟨length, page, own, open_, free⟩ := h
  exact (checks_ok _ _ (by simp [length, page, own, open_])).trans (storeServe_free _ _ _ _ _ free)

/-- A chunk of a patch is a record, and the next chunk is the one expected (15 R370). -/
theorem checkPatchWrite_of_terms (h : PatchWriteTerms q s) :
    checkPatchWrite q s = { storeJob q 0x901C [] { kind := .records [patchRecord q s] } with
      act := fun x => ((storeJob q 0x901C [] { kind := .records [patchRecord q s] }).act x).mapStore fun m => { m with patchNext := patchAfter q } } := by
  obtain ⟨length, pen, zero, total, chunk, next, whole, free⟩ := h
  have takes : storeServe q 0x901C s [] { kind := .records [patchRecord q s] } = storeJob q 0x901C [] { kind := .records [patchRecord q s] } :=
    storeServe_free _ _ _ _ _ free
  refine (checks_ok _ _ ?_).trans ?_
  · simpa [inRange_iff, length, pen, zero, total, chunk] using ⟨next, whole⟩
  · simp only [takes]
    exact if_neg Bool.false_ne_true

theorem checkPageRead_of_terms (h : PageReadTerms q s) :
    checkPageRead q s = Serve.data ((List.range (fld q.params 2 2)).map fun i =>
      flashRead s.snap.flash (16 * pageWord (fld q.params 0 1) + (fld q.params 1 1 + i) % 256)) := by
  obtain ⟨length, page, own, count, idle⟩ := h
  exact checks_ok _ _ (by simp [inRange_iff, length, page, own, count, idle])

theorem checkPageWear_of_terms (h : PageWearTerms q s) :
    checkPageWear q s = Serve.data (s.snap.wear.toList.flatMap fun w => le 4 w.erases.toNat ++ le 4 w.raw.toNat) := checks_ok _ _ (by simpa using h)

theorem checkStoreInject_of_terms (h : StoreInjectTerms q s) : checkStoreInject q s = Serve.stage := checks_ok _ _ (by simpa [inRange_iff] using h)

theorem checkTelemRead_of_terms (h : TelemReadTerms q s) :
    checkTelemRead q s = { body := (telemPage q s).body, commit := true, mark := (telemPage q s).mark } := checks_ok _ _ (by simpa [inRange_iff] using h)

/-! ### Event commands (13 R320, R321) -/

theorem checkEvtConfig_of_terms (h : EvtConfigTerms q s) : checkEvtConfig q s = Serve.stage := by
  obtain ⟨length, pen, ⟨some, most⟩, last, bytes⟩ := h
  exact checks_ok _ _ (by simpa [inRange_iff, length, pen, some, most, last, and_assoc] using ⟨by omega, bytes⟩)

theorem checkEvtNotify_of_terms (h : EvtNotifyTerms q s) : checkEvtNotify q s = Serve.stage := checks_ok _ _ (by simpa [and_assoc] using h)

theorem checkEvtStatus_of_terms (h : EvtStatusTerms q s) :
    checkEvtStatus q s = Serve.data ((List.range (evCount q)).flatMap fun k => statusByte q.pen s (evFirst q + k)) := checks_ok _ _ (by simpa using h)

theorem checkEvtClear_of_terms (h : EvtClearTerms q s) : checkEvtClear q s = Serve.stage := by
  obtain ⟨least, length, bitmap, own, named⟩ := h
  have last : evFirst q + evCount q ≤ 288 := by
    simp only [bitmapOk, Bool.and_eq_true, decide_eq_true_eq] at bitmap
    exact bitmap.2
  exact checks_ok _ _ (by simpa [least, ← length, bitmap, named, last] using fun k small => eq_false_or_of_imp (own k small))

theorem checkEvtCounters_of_terms (h : EvtCountersTerms q s) :
    checkEvtCounters q s = Serve.data ((List.range (evCount q)).flatMap fun k => le 4 (s.snap.ev.srcs.getD (evFirst q + k) {}).count.toNat) :=
  checks_ok _ _ (by simpa [EvtCountersTerms, inRange_iff] using h)

theorem checkEvtQueue_of_terms (h : EvtQueueTerms q s) :
    checkEvtQueue q s = { body := (queuePage q s).body, commit := (queuePage q s).commit, mark := (queuePage q s).mark } := by
  obtain ⟨length, count, consume, host, zero⟩ := h
  have may : fld q.params 1 1 % 2 = 0 ∨ q.pen = 0 := by
    rcases Nat.le_one_iff_eq_zero_or_eq_one.mp consume with no | yes
    · exact .inl (by omega)
    · exact .inr (host yes)
  exact checks_ok _ _ (by simpa [inRange_iff, length, count, consume, zero] using may)

/-! ### Pin, pen and test commands (13 R322–R324) -/

theorem checkPin_of_terms (h : PinTerms q s) : checkPin q s = Serve.group 0xB011 (q.params.take 1) := by
  obtain ⟨length, pin, own, may, func, sub, pull, sleep, zero, uart, sole, unlocked⟩ := h
  have mine : q.pen = 0 ∨ ((fld q.params 1 1 ≠ 3 ∨ fld q.params 2 1 / 32 % 4 = q.pen.val) ∧
      ((fld q.params 1 1 ≠ 6 ∨ fld q.params 2 1 % 4 = 0) ∨ fld q.params 2 1 % 4 = 3)) ∧ fld q.params 1 1 ≠ 7 :=
    may.imp_right fun ⟨other, prst, reset⟩ => ⟨⟨imp_iff_not_or.mp prst, .inl (imp_iff_not_or.mp reset)⟩, other⟩
  have pad : (fld q.params 1 1 ≠ 4 ∨ fld q.params 0 1 = 20) ∨ fld q.params 0 1 = 21 := or_assoc.mpr (imp_iff_not_or.mp uart)
  exact checks_ok _ _ (by
    simpa [length, pin, own, func, sub, pull, sleep, zero, unlocked] using ⟨mine, pad, imp_iff_not_or.mp sole⟩)

/-- The first step of a PIN_LOCK waits in the pen for the second (17 R404). -/
theorem checkPinLock_of_first (h : PinLockTerms q s) :
    checkPinLock q s = { act := fun x => x.updIo q.pen fun c => { c with pinStep := some (BitVec.ofNat 32 (fld q.params 4 4)) } } := by
  obtain ⟨length, code, own, zero, named, pins, first⟩ := h
  refine (checks_ok _ _ ?_).trans (if_pos code)
  have pins24 : fld q.params 4 4 < 16777216 := pins
  simpa [length, code, zero, named, pins24, first] using fun n small => eq_false_or_of_imp (own n small)

theorem checkPinLock_of_second (h : PinLockSecondTerms q s) : checkPinLock q s = Serve.stage := by
  obtain ⟨length, code, own, zero, named, pins, first⟩ := h
  refine (checks_ok _ _ ?_).trans (if_neg (by simp [code]))
  have pins24 : fld q.params 4 4 < 16777216 := pins
  simpa [length, code, zero, named, pins24, first] using fun n small => eq_false_or_of_imp (own n small)

theorem checkOwnerSet_of_terms (h : OwnerSetTerms q s) : checkOwnerSet q s = Serve.stage :=
  checks_ok _ _ (by simpa [inRange_iff, and_assoc] using h)

theorem checkOwnerLock_of_terms (h : OwnerLockTerms q s) : checkOwnerLock q s = Serve.stage :=
  checks_ok _ _ (by simpa [OwnerLockTerms] using h)

theorem checkPenOp_of_terms (h : q.params.length = 1 ∧ q.pen = 0 ∧ (1 ≤ fld q.params 0 1 ∧ fld q.params 0 1 ≤ 3)) : checkPenOp q s = Serve.stage :=
  checks_ok _ _ (by simpa [inRange_iff] using h)

theorem checkInject_of_terms (h : InjectTerms q s) : checkInject q s = Serve.stage := by
  obtain ⟨length, pen, link, kind, zero, delayed, other⟩ := h
  refine checks_ok _ _ ?_
  by_cases delays : fld q.params 1 1 = 4
  · simp [inRangeI_iff, length, pen, link, delays, zero, delayed delays]
  · simp [length, pen, link, kind, delays, zero, other delays]

theorem checkRefKill_of_terms (h : RefKillTerms q s) : checkRefKill q s = Serve.stage := by
  obtain ⟨length, pen, ref, on⟩ := h
  exact checks_ok _ _ (by simp [length, pen, ref, on])

theorem checkSlotOverrun_of_terms (h : SlotOverrunTerms q s) : checkSlotOverrun q s = Serve.stage := checks_ok _ _ (by simpa [and_assoc] using h)

theorem checkDrvTest_of_terms (h : DrvTestTerms q s) : checkDrvTest q s = Serve.stage := checks_ok _ _ (by simpa using h)

end

end Sys2Proof.Machine
end

section
/-! Commands that the interpreter comes to at once (12 R282, R283; 13 R303): one rule for
those that are answered with the result that their checks give, one for the jobs of the store engine, and the opcodes' rows by them. -/

namespace Sys2Proof.Machine

/-- A decision that does nothing at once: its result alone waits for the boundary. -/
structure Serve.Plain (sv : Serve) : Prop where
  act : sv.act = id
  wait : sv.wait = false
  later : sv.later = false

/-- The result of a plain decision. -/
def Serve.result (sv : Serve) (op : BitVec 16) (q : Call) : Staged :=
  { opcode := op, call := q, status := sv.status, body := sv.body, commit := sv.commit, mark := sv.mark }

/-- The state in which the interpreter checks a packet that it comes to at once: the packet stands in its queue. -/
abbrev State.joined (s : State) (op : BitVec 16) (q : Call) : State := enqueue { opcode := op, call := q } s

/-- No result staged, nothing changed. -/
theorem State.stage_none (s : State) : s.stage none = s := by simp [State.stage]

section
variable {op : BitVec 16} {q : Call} {s : State} {c : Nat} {chk : Call → State → Serve}

/-- A command whose decision does something at once: that happens after the credit is taken, and the result waits for the boundary, unless a unit will
answer. -/
theorem deliver_acting {sv : Serve} (serves : chk q (s.joined op q) = sv) (prompt : Prompt (BitVec.ofNat 2 c) q s)
    (queues : ∀ (x : State) (p : Pen), ((sv.act x).io p).queue = (x.io p).queue := by exact fun _ _ => rfl)
    (turns : ∀ (x : State) (p : Pen), sv.act (x.turn p) = (sv.act x).turn p := by exact fun _ _ => rfl)
    (served : sv.wait = false := by rfl) (info : opInfo op.toNat = some (c, chk) := by rfl) (small : c < 4 := by decide) :
    Host.Outcome.next (φ := Fault) (ρ := Refusal) (deliver op q s) =
      .next ((sv.act (s.takeCredit q)).stage (if sv.later then none else some (sv.result op q))) :=
  congrArg Host.Outcome.next (deliver_prompt op c chk q s sv prompt small info serves served queues turns)

/-- A command whose checks decide plainly is answered with the result. -/
theorem deliver_answered {sv : Serve} (serves : chk q (s.joined op q) = sv) (prompt : Prompt (BitVec.ofNat 2 c) q s)
    (plain : sv.Plain := by exact ⟨rfl, rfl, rfl⟩) (info : opInfo op.toNat = some (c, chk) := by rfl) (small : c < 4 := by decide) :
    Host.Outcome.next (φ := Fault) (ρ := Refusal) (deliver op q s) = .next (s.answered q (sv.result op q)) := by
  obtain ⟨act, wait, later⟩ := plain
  rw [deliver_acting serves prompt (by simp [act]) (by simp [act]) wait info small, act, later]
  rfl

/-- A command whose checks hand a job to the store engine has it queued there, and is accepted. -/
theorem deliver_queued {data : List Byte} {job : StoreJob} (serves : chk q (s.joined op q) = storeJob q op data job)
    (prompt : Prompt (BitVec.ofNat 2 c) q s) (info : opInfo op.toNat = some (c, chk) := by rfl) (small : c < 4 := by decide) :
    Host.Outcome.next (φ := Fault) (ρ := Refusal) (deliver op q s) = .next (s.queuedJob q op data job) :=
  deliver_acting serves prompt (info := info) (small := small)

/-- A command that a unit will answer: what its decision does, and no result yet. -/
theorem deliver_later {act : State → State} (serves : chk q (s.joined op q) = { later := true, act := act }) (prompt : Prompt (BitVec.ofNat 2 c) q s)
    (queues : ∀ (x : State) (p : Pen), ((act x).io p).queue = (x.io p).queue := by exact fun _ _ => rfl)
    (turns : ∀ (x : State) (p : Pen), act (x.turn p) = (act x).turn p := by exact fun _ _ => rfl)
    (info : opInfo op.toNat = some (c, chk) := by rfl) (small : c < 4 := by decide) :
    Host.Outcome.next (φ := Fault) (ρ := Refusal) (deliver op q s) = .next (act (s.takeCredit q)) :=
  (deliver_acting serves prompt queues turns (info := info) (small := small)).trans (congrArg Host.Outcome.next (State.stage_none _))

/-- The first step of a PIN_LOCK is kept in its pen. -/
theorem deliver_pinStep {m : BitVec 32}
    (serves : chk q (s.joined op q) = { act := fun x => x.updIo q.pen fun c => { c with pinStep := some m } }) (prompt : Prompt (BitVec.ofNat 2 c) q s)
    (info : opInfo op.toNat = some (c, chk) := by rfl) (small : c < 4 := by decide) :
    Host.Outcome.next (φ := Fault) (ρ := Refusal) (deliver op q s) =
      .next (((s.takeCredit q).updIo q.pen fun c => { c with pinStep := some m }).stage (some (answers op q (.bytes [])))) := by
  refine deliver_acting serves prompt (queues := fun x p => ?_) (info := info) (small := small)
  rw [State.io_updIo]
  split <;> rfl

/-- The terms of a PIN_LOCK's first step say nothing of the queue that its packet joins. -/
theorem PinLockTerms.joined (h : PinLockTerms q s) : PinLockTerms q (s.joined 0xB012 q) := by
  obtain ⟨length, code, own, zero, named, pins, first⟩ := h
  exact ⟨length, code, own, zero, named, pins, (enqueue_pinStep 0xB012 q s).trans first⟩

theorem PinLockSecondTerms.joined (h : PinLockSecondTerms q s) : PinLockSecondTerms q (s.joined 0xB012 q) := by
  obtain ⟨length, code, own, zero, named, pins, first⟩ := h
  exact ⟨length, code, own, zero, named, pins, (enqueue_pinStep 0xB012 q s).trans first⟩

end

end Sys2Proof.Machine

open Sys2Proof Sys2Proof.Machine

/-- Settles O1: the rows of 13 R308; AUDIT's and POWER_STATE's terms are those their checks ask. -/
theorem systemCommandsAnswered : Obligations.SystemCommandsAnswered := by
  intro q s
  exact ⟨fun now ok => deliver_answered (checkNop_of_terms ok) now,
    fun now ok => deliver_answered (checkAudit_of_terms ok) now,
    fun now ok => deliver_answered (checkOutputsRelease_of_terms ok) now,
    fun now ok => deliver_answered (checkPowerState_of_terms ok) now,
    fun now ok => deliver_answered (checkSoftReset_of_terms ok) now,
    fun now ok => deliver_answered (plain_of_length ok) now⟩

/-- Settles O2: the rows of the references and of their monitors, group reads answered by index (13 R310). -/
theorem referenceCommandsAnswered : Obligations.ReferenceCommandsAnswered := by
  intro q s
  exact ⟨fun now ok => deliver_answered (checkRefInput_of_terms ok) now,
    fun now ok => deliver_answered (indexed_of_terms ok) now,
    fun now ok => deliver_answered (checkRefMon_of_terms ok) now,
    fun now ok => deliver_answered (indexed_of_terms ok) now,
    fun now ok => deliver_answered (checkRefRank_of_terms ok) now,
    fun now ok => deliver_answered (indexed_of_terms ok) now,
    fun now ok => deliver_answered (plain_of_length ok) now,
    fun now ok => deliver_answered (checkTdcArm_of_terms ok) now,
    fun now ok => deliver_answered (checkTdcResult_of_terms ok) now⟩

/-- Settles O3: the rows of the selector, the loop, the stile and the model (13 R311, R312); MODEL_WRITE alone is a job of the store engine. -/
theorem loopCommandsAnswered : Obligations.LoopCommandsAnswered := by
  intro q s
  exact ⟨fun now ok => deliver_answered (checkForce_of_terms ok) now,
    fun now ok => deliver_answered (plain_of_length ok) now,
    fun now ok => deliver_answered (checkLoop_of_terms ok) now,
    fun now ok => deliver_answered (plain_of_length ok) now,
    fun now ok => deliver_answered (checkStile_of_terms ok) now,
    fun now ok => deliver_answered (plain_of_length ok) now,
    fun now ok => deliver_answered (plain_of_length ok) now,
    fun now ok => deliver_answered (checkHold_of_terms ok) now,
    fun now ok => deliver_answered (checkNewOsc_of_terms ok) now,
    fun now ok => deliver_answered (plain_of_length ok) now,
    fun now ok => deliver_queued (checkModelWrite_of_terms ok) now⟩

/-- Settles O4: the rows of the tally (13 R311), and the loads of the crook (13 R326). -/
theorem tallyCommandsAnswered : Obligations.TallyCommandsAnswered := by
  intro q s
  exact ⟨fun now ok => deliver_answered (checkStep_of_terms ok) now,
    fun now ok => deliver_answered (checkTallyCancel_of_terms ok) now,
    fun now ok => deliver_answered (checkTallyRead_of_terms ok) now,
    fun now ok => deliver_answered (checkOutDelay_of_terms ok) now,
    fun now ok => deliver_answered (checkCrookStep_of_terms ok) now,
    fun now ok => deliver_answered (checkCrookGather_of_terms ok) now,
    fun now ok => deliver_answered (checkCrookClear_of_terms ok) now⟩

/-- Settles O5: the rows of the paddocks and outputs (13 R313). -/
theorem outputCommandsAnswered : Obligations.OutputCommandsAnswered := by
  intro q s
  exact ⟨fun now ok => deliver_answered (checkVco_of_terms ok) now,
    fun now ok => deliver_answered (plain_of_length ok) now,
    fun now ok => deliver_answered (checkPaddock_of_terms ok) now,
    fun now ok => deliver_answered (indexed_of_terms ok) now,
    fun now ok => deliver_answered (checkOut_of_terms ok) now,
    fun now ok => deliver_answered (indexed_of_terms ok) now,
    fun now ok => deliver_answered (checkGateWindow_of_terms ok) now,
    fun now ok => deliver_answered (checkGateFlush_of_terms ok) now,
    fun now ok => deliver_answered (indexed_of_terms ok) now,
    fun now ok => deliver_answered (checkMon_of_terms ok) now,
    fun now ok => deliver_answered (plain_of_length ok) now⟩

/-- Settles O6: the rows of the pulses, the time and the shaft (13 R314); SSCT_SAVE alone is a job of the store engine, and its
GEN is the model's choice (log 46). -/
theorem timeCommandsAnswered : Obligations.TimeCommandsAnswered := by
  intro q s
  exact ⟨fun now ok => deliver_answered (checkAlign_of_terms ok) now,
    fun now ok => deliver_answered (indexed_of_terms ok) now,
    fun now ok => deliver_answered (checkGather_of_terms ok) now,
    fun now ok => deliver_answered (checkTime_of_terms ok) now,
    fun now ok => deliver_answered (plain_of_length ok) now,
    fun now ok => deliver_answered (checkTimeWrite_of_terms ok) now,
    fun now ok => deliver_answered (plain_of_length ok) now,
    fun now ok => deliver_answered (checkSsct_of_terms ok) now,
    fun now ok => deliver_answered (plain_of_length ok) now,
    fun now ok => deliver_answered (checkSsctLoad_of_terms ok) now,
    fun now ok => deliver_answered (checkSsctRead_of_terms ok) now,
    fun now ok => deliver_queued (checkSsctSave_of_terms ok) now,
    fun now ok => deliver_answered (plain_of_length ok) now⟩

/-- Settles O7: the rows of the radio (13 R316); RF_TX and RF_CAPTURE are answered later by their units (log 34), and
RF_CAL is a job of the calibrations' engine. -/
theorem radioCommandsAnswered : Obligations.RadioCommandsAnswered := by
  intro q s
  exact ⟨fun now ok => deliver_answered (checkRf_of_terms ok) now,
    fun now ok => deliver_answered (plain_of_length ok) now,
    fun now ok => deliver_answered (checkChanWrite_of_terms ok) now,
    fun now ok => deliver_answered (indexed_of_terms ok) now,
    fun now ok => deliver_answered (checkRfRx_of_terms ok) now,
    fun now ok => deliver_later (checkRfTx_of_terms ok) now,
    fun now ok => deliver_later (checkRfCapture_of_terms ok) now,
    fun now ok => deliver_acting (checkRfCal_of_terms ok) now,
    fun now ok => deliver_answered (plain_of_length ok) now,
    fun now ok => deliver_answered (checkRfTone_of_terms ok) now⟩

/-- Settles O8: the rows of the commons and of the drove (13 R317, R318); COMMONS_KEY alone is a job of the store engine. -/
theorem networkCommandsAnswered : Obligations.NetworkCommandsAnswered := by
  intro q s
  exact ⟨fun now ok => deliver_answered (checkCommons_of_terms ok) now,
    fun now ok => deliver_answered (plain_of_length ok) now,
    fun now ok => deliver_answered (checkMgmt_of_terms ok) now,
    fun now ok => deliver_answered (plain_of_length ok) now,
    fun now ok => deliver_queued (checkCommonsKey_of_terms ok) now,
    fun now ok => deliver_answered (plain_of_length ok) now,
    fun now ok => deliver_answered (checkDrove_of_terms ok) now,
    fun now ok => deliver_answered (plain_of_length ok) now,
    fun now ok => deliver_answered (checkDroveCmd_of_terms ok) now,
    fun now ok => deliver_answered (plain_of_length ok) now⟩

/-- Settles O9: the rows of the store and of the telemetry (13 R319); PATCH_WRITE, a job of the store engine, also counts its chunk. -/
theorem storeCommandsAnswered : Obligations.StoreCommandsAnswered := by
  intro q s
  exact ⟨fun now ok => deliver_queued (checkConfigSave_of_terms ok) now,
    fun now ok => deliver_queued (checkPageWrite_of_terms ok) now,
    fun now ok => deliver_queued (checkPageErase_of_terms ok) now,
    fun now ok => deliver_answered (checkPageRead_of_terms ok) now,
    fun now ok => deliver_answered (plain_of_length ok) now,
    fun now ok => deliver_answered (checkPageWear_of_terms ok) now,
    fun now ok => deliver_acting (checkPatchWrite_of_terms ok) now,
    fun now ok => deliver_answered (checkStoreInject_of_terms ok) now,
    fun now ok => deliver_answered (checkTelemRead_of_terms ok) now⟩

/-- Settles O10: the rows of the events (13 R320). -/
theorem eventCommandsAnswered : Obligations.EventCommandsAnswered := by
  intro q s
  exact ⟨fun now ok => deliver_answered (checkEvtConfig_of_terms ok) now,
    fun now ok => deliver_answered (checkEvtNotify_of_terms ok) now,
    fun now ok => deliver_answered (checkEvtStatus_of_terms ok) now,
    fun now ok => deliver_answered (checkEvtClear_of_terms ok) now,
    fun now ok => deliver_answered (checkEvtCounters_of_terms ok) now,
    fun now ok => deliver_answered (checkEvtQueue_of_terms ok) now⟩

/-- Settles O11: the rows of the pins and of the pens (13 R322, R323); PIN_LOCK's first step waits in its pen for the second (17 R404). -/
theorem pinCommandsAnswered : Obligations.PinCommandsAnswered := by
  intro q s
  exact ⟨fun now ok => deliver_answered (checkPin_of_terms ok) now,
    fun now ok => deliver_answered (indexed_of_terms ok) now,
    fun now ok => deliver_pinStep (checkPinLock_of_first ok.joined) now,
    fun now ok => deliver_answered (checkPinLock_of_second ok.joined) now,
    fun now ok => deliver_answered (plain_of_length ok) now,
    fun now ok => deliver_answered (checkOwnerSet_of_terms ok) now,
    fun now ok => deliver_answered (plain_of_length ok) now,
    fun now ok => deliver_answered (checkOwnerLock_of_terms ok) now,
    fun now ok => deliver_answered (checkPenOp_of_terms ok) now,
    fun now ok => deliver_answered (checkPenOp_of_terms ok) now,
    fun now ok => deliver_answered (checkPenOp_of_terms ok) now⟩

/-- Settles O12: the rows of the tests (13 R324). -/
theorem testCommandsAnswered : Obligations.TestCommandsAnswered := by
  intro q s
  exact ⟨fun now ok => deliver_answered (checkInject_of_terms ok) now,
    fun now ok => deliver_answered (checkRefKill_of_terms ok) now,
    fun now ok => deliver_answered (checkSlotOverrun_of_terms ok) now,
    fun now ok => deliver_answered (checkDrvTest_of_terms ok) now,
    fun now ok => deliver_answered (plain_of_length ok) now⟩
end

section
/-! Transactions on the host interface (12 R265–R268, R278, R282): the bytes of a packet and what the hardware makes of them, a reply's read, and bus
transactions given by their bytes (log 106). -/

namespace Sys2Proof.Machine

/-! ### A packet's bytes (12 R278) -/

theorem length_le (n v : Nat) : (le n v).length = n := by
  induction n generalizing v with
  | zero => rfl
  | succ n ih => simp [le, ih]

theorem ofLe_le (n v : Nat) : ofLe (le n v) = v % 256 ^ n := by
  induction n generalizing v with
  | zero => simp [le, ofLe, Nat.mod_one]
  | succ n ih =>
    have byte : (BitVec.ofNat 8 v).toNat = v % 256 := BitVec.toNat_ofNat ..
    rw [le, ofLe, ih, byte, pow_succ', Nat.mod_mul]

/-- A shift by one bit of a CRC-16 stays in 16 bits. -/
theorem crcMsbBit_lt (c : Nat) : crcMsbBit 16 0x1021 c < 2 ^ 16 := by
  have low : c * 2 % 2 ^ 16 < 2 ^ 16 := Nat.mod_lt _ (by decide)
  unfold crcMsbBit
  split
  · exact Nat.xor_lt_two_pow low (by decide)
  · exact low

theorem crcMsbByte_lt {c : Nat} (b : Byte) : crcMsbByte 16 0x1021 c b < 2 ^ 16 := crcMsbBit_lt _

theorem crc16_lt (bs : List Byte) : crc16 bs < 2 ^ 16 :=
  List.foldlRecOn bs _ (motive := (· < 2 ^ 16)) (by decide) fun _ _ b _ => crcMsbByte_lt b

/-- What a packet's CRC is over: the header and the parameters. -/
def packetBody (op : BitVec 16) (q : Call) : List Byte :=
  le 1 (q.pen.val * 64 + q.cls.toNat * 16 + q.flags.toNat) ++ [q.tag] ++ le 2 op.toNat ++ le 2 q.params.length ++ le 2 q.rsv.toNat ++ q.params

section
variable {op : BitVec 16} {q : Call}

theorem packetBytes_eq : packetBytes op q = packetBody op q ++ le 2 (crc16 (packetBody op q)) := rfl

theorem length_packetBody : (packetBody op q).length = 8 + q.params.length := by simp [packetBody, length_le]; omega

theorem length_packetBytes : (packetBytes op q).length = (packetBody op q).length + 2 := by simp [packetBytes_eq, length_le]

theorem take_packetBytes : (packetBytes op q).take ((packetBytes op q).length - 2) = packetBody op q := by
  rw [length_packetBytes]
  exact List.take_left

theorem fld_packetBytes_crc : fld (packetBytes op q) ((packetBytes op q).length - 2) 2 = crc16 (packetBody op q) := by
  have crc : ((packetBytes op q).drop ((packetBytes op q).length - 2)).take 2 = le 2 (crc16 (packetBody op q)) := by
    rw [length_packetBytes, packetBytes_eq, Nat.add_sub_cancel, List.drop_left]
    exact List.take_of_length_le (by simp [length_le])
  rw [fld, crc, ofLe_le]
  exact Nat.mod_eq_of_lt (crc16_lt _)

theorem fld_packetBytes_head : fld (packetBytes op q) 0 1 = q.pen.val * 64 + q.cls.toNat * 16 + q.flags.toNat := by
  have := q.pen.isLt
  have := q.cls.isLt
  have := q.flags.isLt
  exact (ofLe_le 1 _).trans (Nat.mod_eq_of_lt (by omega))

theorem fld_packetBytes_tag : fld (packetBytes op q) 1 1 = q.tag.toNat := rfl

theorem fld_packetBytes_opcode : fld (packetBytes op q) 2 2 = op.toNat := (ofLe_le 2 _).trans (Nat.mod_eq_of_lt op.isLt)

theorem fld_packetBytes_length (short : q.params.length ≤ 1024) : fld (packetBytes op q) 4 2 = q.params.length :=
  (ofLe_le 2 _).trans (Nat.mod_eq_of_lt (by omega))

theorem fld_packetBytes_rsv : fld (packetBytes op q) 6 2 = q.rsv.toNat := (ofLe_le 2 _).trans (Nat.mod_eq_of_lt q.rsv.isLt)

theorem params_packetBytes : ((packetBytes op q).drop 8).take q.params.length = q.params := by
  have after : (packetBytes op q).drop 8 = q.params ++ le 2 (crc16 (packetBody op q)) := rfl
  rw [after, List.take_left]

/-- The hardware reads from a packet's bytes the packet that they spell. -/
theorem parsePacket_packetBytes (short : q.params.length ≤ 1024) : parsePacket (packetBytes op q) = { opcode := op, call := q } := by
  have pen := q.pen.isLt
  have cls := q.cls.isLt
  have flags := q.flags.isLt
  simp only [parsePacket, fld_packetBytes_head, fld_packetBytes_tag, fld_packetBytes_opcode, fld_packetBytes_length short, fld_packetBytes_rsv,
    params_packetBytes, BitVec.ofNat_toNat, BitVec.setWidth_eq]
  congr
  · exact Fin.ext (show (_ / 64) % 4 = _ by omega)
  · exact BitVec.eq_of_toNat_eq (by rw [BitVec.toNat_ofNat]; omega)
  · exact BitVec.eq_of_toNat_eq (by rw [BitVec.toNat_ofNat]; omega)

/-! ### What the hardware makes of a packet's bytes (12 R282) -/

variable {s : State} {t : Nat}

theorem State.writePacket_of_bad_length {bs : List Byte} (bad : bs.length ≠ 10 + fld bs 4 2 ∨ 1024 < fld bs 4 2) :
    s.writePacket bs = reject (parsePacket bs) St.badLength s := if_pos (by simpa using bad)

theorem State.writePacket_of_length {bs : List Byte} (length : bs.length = 10 + fld bs 4 2) (short : fld bs 4 2 ≤ 1024) :
    s.writePacket bs = if crc16 (bs.take (bs.length - 2)) ≠ fld bs (bs.length - 2) 2 then reject (parsePacket bs) St.badCrc s
      else admitPacket (parsePacket bs) s := if_neg (by simp [← length, short])

/-- The bytes of a packet reach the checks of its pen. -/
theorem State.writePacket_packetBytes (short : q.params.length ≤ 1024) :
    s.writePacket (packetBytes op q) = admitPacket { opcode := op, call := q } s := by
  have len : fld (packetBytes op q) 4 2 = q.params.length := fld_packetBytes_length short
  rw [State.writePacket_of_length (by rw [len, length_packetBytes, length_packetBody]; omega) (by omega), take_packetBytes, fld_packetBytes_crc,
    if_neg (by simp), parsePacket_packetBytes short]

theorem exec_writeCommandPacket (opened : s.ifaceOpen = true) (bs : List Byte) :
    exec (.writeCommandPacket bs t) s = .next ((s.setNow t).writePacket bs) := congrArg Host.Outcome.next (if_pos opened)

/-- A packet's reject stands in the reject slot, and one that stood there unread is counted as lost. -/
theorem reject_host (k : Packet) (st : BitVec 16) : (reject k st s).host =
    { s.host with
      reject := some { pen := k.call.pen, cls := k.call.cls, tag := k.call.tag, status := st, opcode := k.opcode, data := [] }
      rejectLost := if s.host.reject = none then s.host.rejectLost else s.host.rejectLost + 1 } := by
  cases h : s.host.reject <;> simp [reject, h]

theorem reject_cfg (k : Packet) (st : BitVec 16) : (reject k st s).cfg = s.cfg := by simp [reject]

theorem reject_io (k : Packet) (st : BitVec 16) (p : Pen) : (reject k st s).io p = s.io p := by simp [State.io, reject_host]

/-! ### Reads of replies (12 R267) -/

theorem State.readReply_of_oldest {p : Pen} {r : Reply} (whole : Bool) (oldest : (s.io p).oldest = some r) :
    s.readReply (BitVec.ofNat 8 p.val) whole =
      let driven : State := { s with host := { s.host with out := r.bytes false } }
      if whole then driven.updIo p fun c => c.take r else driven := by
  have sel : (BitVec.ofNat 8 p.val).toNat = p.val := by rw [BitVec.toNat_ofNat]; omega
  have pen : Fin.ofNat 4 p.val = p := Fin.ext (Nat.mod_eq_of_lt p.isLt)
  simp only [State.readReply, sel]
  rw [if_neg (by omega), if_neg (by omega), pen, oldest]

/-! ### Transactions given by their bytes (12 R265–R268) -/

theorem exec_spi (opened : s.ifaceOpen = true) (bs : List Byte) :
    exec (.badInstructionTransaction (.spi bs) t) s = .next ((s.setNow t).spiTx bs) := congrArg Host.Outcome.next (if_pos opened)

theorem exec_i2c_of_other {a : BitVec 7} (other : a.toNat ≠ s.i2cAddress) (sent : List Byte) (n : Nat) :
    exec (.badInstructionTransaction (.i2c a sent n) t) s = .next (s.setNow t) := congrArg Host.Outcome.next (if_pos other)

theorem exec_i2c_of_own {a : BitVec 7} (opened : s.ifaceOpen = true) (own : a.toNat = s.i2cAddress) (sent : List Byte) (n : Nat) :
    exec (.badInstructionTransaction (.i2c a sent n) t) s = .next ((s.setNow t).i2cTx sent n) :=
  congrArg Host.Outcome.next ((if_neg (not_not_intro own)).trans (if_pos opened))

variable {i : Byte} {rest : List Byte}

theorem State.spiTx_of_bad (bad : i = 0 ∨ 5 < i.toNat ∨ i = 5 ∧ rest.length ≠ 12) :
    s.spiTx (i :: rest) = { s with host := { s.host with badInstr := s.host.badInstr + 1 } } := by
  refine if_pos ?_
  rcases bad with rfl | above | ⟨rfl, length⟩
  · rfl
  · simp [above]
  · simp [length]

/-- An instruction of a row of its own does nothing in this one (log 106). -/
theorem State.spiTx_of_other (other : i = 1 ∨ i = 2 ∨ i = 4 ∨ (i = 5 ∧ rest.length = 12)) : s.spiTx (i :: rest) = s := by
  rcases other with rfl | rfl | rfl | ⟨rfl, length⟩
  · rfl
  · rfl
  · rfl
  · simp [State.spiTx, length]

theorem State.i2cTx_of_bad (n : Nat) (bad : i = 0 ∨ 4 < i.toNat) :
    s.i2cTx (i :: rest) n = { s with host := { s.host with nack := true } } := by
  refine if_pos ?_
  rcases bad with rfl | above
  · rfl
  · simp [above]

theorem State.i2cTx_of_zeros {sent : List Byte} {n : Nat} (zeros : sent = [] ∨ (0 < n ∧ ∃ rest, sent = 1 :: rest ∨ sent = 4 :: rest)) :
    s.i2cTx sent n = { s with host := { s.host with nack := false, out := List.replicate n 0 } } := by
  rcases zeros with rfl | ⟨reads, rest, rfl | rfl⟩
  · rfl
  · simp [State.i2cTx, reads.ne']
  · simp [State.i2cTx, reads.ne']

end

end Sys2Proof.Machine

open Sys2Proof Sys2Proof.Machine

/-- Settles O15: a packet's bytes reach the checks of its pen, which queue or reject it; every other transaction takes the branch of its row. -/
theorem hostTransactionsServed : Obligations.HostTransactionsServed := by
  intro s t opened away
  have admitted (op : BitVec 16) (q : Call) (short : q.params.length ≤ 1024) :
      exec (.writeCommandPacket (packetBytes op q) t) s = .next (admitPacket { opcode := op, call := q } (s.setNow t)) :=
    (exec_writeCommandPacket opened _).trans (congrArg _ (State.writePacket_packetBytes short))
  have rejected {op : BitVec 16} {q : Call} {st : BitVec 16} (short : q.params.length ≤ 1024)
      (turns : admitPacket { opcode := op, call := q } (s.setNow t) = reject { opcode := op, call := q } st (s.setNow t)) :
      ∃ s', away op q st s' ∧ s'.host.pens = s.host.pens := by
    refine ⟨_, ⟨(admitted op q short).trans (congrArg _ turns), ?_⟩, by rw [reject_host]; rfl⟩
    simp only [reject_host, reject_cfg, reject_io]
    exact ⟨rfl, rfl, rfl, rfl, rfl, rfl, _, rfl, rfl, rfl, rfl, rfl, rfl⟩
  refine ⟨fun op q short => ⟨fun pen air => ?_, fun wire disabled => ?_, fun wire resetting => ?_, fun wire active spent => ?_⟩,
    fun op q short wire active credit => ?_, fun bs bad => ?_, fun bs length short bad => ?_, fun p r whole oldest => ?_, fun i rest bad => ?_,
    fun a ds => exec_spi opened _, fun i rest other => ?_, fun a sent n other => exec_i2c_of_other other sent n, fun a n own => ?_⟩
  · exact rejected short (admitPacket_of_air ⟨pen, air⟩)
  · exact rejected short (admitPacket_of_disabled wire disabled)
  · exact rejected short (admitPacket_of_resetting wire resetting)
  · refine ⟨_, ⟨(admitted op q short).trans (congrArg _ (admitPacket_of_no_credit wire active spent)), ?_⟩, ?_⟩
    · simp only [State.raise_cfg, State.raise_host, State.io, State.updIo, reject_host, reject_cfg, Vec_getD_upd_same _ _ _ _ q.pen.isLt]
      exact ⟨rfl, rfl, rfl, rfl, rfl, rfl, _, rfl, rfl, rfl, rfl, rfl, rfl⟩
    · simp only [State.raise_host, State.io, State.updIo, reject_host, Vec_getD_upd_same _ _ _ _ q.pen.isLt]
      rfl
  · exact (admitted op q short).trans (congrArg _ (admitPacket_of_credit wire active credit))
  · exact (exec_writeCommandPacket opened bs).trans (congrArg _ (State.writePacket_of_bad_length bad))
  · exact (exec_writeCommandPacket opened bs).trans (congrArg _ ((State.writePacket_of_length length short).trans (if_pos bad)))
  · refine ⟨_, congrArg Host.Outcome.next ((if_pos opened).trans (State.readReply_of_oldest whole oldest)), ?_⟩
    cases whole
    · exact ⟨rfl, rfl, rfl⟩
    · exact ⟨rfl, (State.io_updIo _ p p _).trans (if_pos rfl), rfl⟩
  · exact (exec_spi opened _).trans (congrArg _ (State.spiTx_of_bad bad))
  · exact (exec_spi opened _).trans (congrArg _ (State.spiTx_of_other other))
  · exact ⟨fun i rest bad => (exec_i2c_of_own opened own _ n).trans (congrArg _ (State.i2cTx_of_bad n bad)),
      fun x rest => exec_i2c_of_own opened own _ n,
      fun sent zeros => (exec_i2c_of_own opened own sent n).trans (congrArg _ (State.i2cTx_of_zeros zeros))⟩
end

section
/-! The canonical form of the flash (15 R350, R374): what programs or erases keeps the form, and every other command leaves the cells as they are. -/

namespace Sys2Proof.Machine

/-- The canonical form of the flash is kept from one state to another. -/
def State.KeepsFlash (s s' : State) : Prop := flashOk s.store.flash = true → flashOk s'.store.flash = true

theorem State.KeepsFlash.of_eq {s s' : State} (h : s'.store.flash = s.store.flash) : s.KeepsFlash s' := fun ok => h ▸ ok

theorem State.KeepsFlash.refl (s : State) : s.KeepsFlash s := id

theorem State.KeepsFlash.trans {a b c : State} (h : a.KeepsFlash b) (k : b.KeepsFlash c) : a.KeepsFlash c := k ∘ h

theorem State.KeepsFlash.setNow (s : State) (t : Nat) : s.KeepsFlash (s.setNow t) := .of_eq rfl

/-- A step to a state whose flash keeps its form. -/
def FlashSafe (s : State) (o : Host.Outcome State Fault Refusal) : Prop := ∃ s', o = .next s' ∧ s.KeepsFlash s'

theorem FlashSafe.next {s s' : State} (h : s.KeepsFlash s') : FlashSafe s (.next s') := ⟨s', rfl, h⟩

theorem FlashSafe.ite {s : State} {a b : Host.Outcome State Fault Refusal} (c : Prop) [Decidable c] (ha : FlashSafe s a) (hb : FlashSafe s b) :
    FlashSafe s (if c then a else b) := by
  split
  · exact ha
  · exact hb

section
variable {s : State} {f : State → State}

theorem State.KeepsFlash.ite {a b : State} (c : Prop) [Decidable c] (ha : s.KeepsFlash a) (hb : s.KeepsFlash b) : s.KeepsFlash (if c then a else b) := by
  split
  · exact ha
  · exact hb

theorem State.KeepsFlash.inSlot (n t : Nat) (h : ∀ x : State, x.KeepsFlash (f x)) : s.KeepsFlash (s.inSlot n t f) :=
  .ite _ (.trans (b := s.enterSlot n t) (.of_eq rfl) (h _)) (.setNow s t)

theorem State.KeepsFlash.inTask (n : Nat) (h : ∀ x : State, x.KeepsFlash (f x)) : s.KeepsFlash (s.inTask n f) := .ite _ (h s) (.refl s)

theorem State.KeepsFlash.inMac (h : ∀ x : State, x.KeepsFlash (f x)) : s.KeepsFlash (s.inMac f) := .inTask 7 fun x => .ite _ (h x) (.refl x)

theorem State.KeepsFlash.ifScheduled (h : ∀ x : State, x.KeepsFlash (f x)) : s.KeepsFlash (s.ifScheduled f) := .ite _ (h s) (.refl s)

theorem State.KeepsFlash.whileScheduled (t : Nat) (h : ∀ x : State, x.KeepsFlash (f x)) : s.KeepsFlash (s.whileScheduled t f) :=
  .ite _ (.trans (.setNow s t) (h _)) (.setNow s t)

end

theorem State.KeepsFlash.spiTx (s : State) (l : List Byte) : s.KeepsFlash (s.spiTx l) := by
  unfold State.spiTx
  split
  · exact .refl s
  · exact .ite _ (.of_eq rfl) (.ite _ (.of_eq rfl) (.refl s))

theorem State.KeepsFlash.i2cTx (s : State) (l : List Byte) (n : Nat) : s.KeepsFlash (s.i2cTx l n) := by
  unfold State.i2cTx
  split
  · exact .of_eq rfl
  · exact .ite _ (.of_eq rfl) (.ite _ (.of_eq rfl) (.ite _ (.of_eq rfl) (.of_eq rfl)))

theorem execBadInstructionTransaction_flashSafe (tx : BusTx) (t : Nat) (s : State) : FlashSafe s (execBadInstructionTransaction tx t s) := by
  refine .next (.trans (.setNow s t) ?_)
  split
  · exact .ite _ (.spiTx _ _) (.refl _)
  · exact .ite _ (.refl _) (.ite _ (.i2cTx _ _ _) (.of_eq rfl))

theorem execPreciseGateEnd_flashSafe (i : Fin 8) (c : Computed) (t : Nat) (s : State) : FlashSafe s (execPreciseGateEnd i c t s) := by
  refine .next (.trans (.setNow s t) (.ite _ ?_ (.refl _)))
  dsimp only
  split
  · refine .ite _ (.of_eq rfl) ?_
    split <;> exact .of_eq (by simp)
  · exact .of_eq rfl

theorem execRefEdge_flashSafe (i : Fin 6) (rising : Bool) (phase : EdgePhase) (t : Nat) (s : State) : FlashSafe s (execRefEdge i rising phase t s) := by
  refine .ite _ (.next (.setNow s t)) ?_
  refine .ite _ (.next (.of_eq (by simp))) ?_
  extract_lets runt s1 s2
  have h1 : s.KeepsFlash s1 := .ite _ (.of_eq (by simp)) (.of_eq (by simp))
  have h2 : s.KeepsFlash s2 := h1.trans (.of_eq rfl)
  clear_value s2 s1
  refine .ite _ (.next (h1.trans (.of_eq (by simp)))) (.ite _ (.next h1) ?_)
  exact .ite _ (.next (h2.trans (.of_eq (by simp)))) (.next (h2.trans (.of_eq rfl)))

/-- Every reset keeps the form. -/
theorem State.KeepsFlash.enterReset (s : State) (c : Nat) : s.KeepsFlash (s.enterReset c) := State.enterReset_flashOk s c

/-- The rows that may reset keep the form. -/
theorem exec_flashSafe_of_mayReset {c : Instr} (hr : mayReset c = true) (s : State) : FlashSafe s (exec c s) := by
  cases c <;> cases hr
  case powerOnReset => exact .next (.enterReset s 0)
  case pinReset ns => exact .ite _ (.next (.refl s)) (.ite _ (.next (.of_eq rfl)) (.next (.enterReset s 1)))
  case watchdogExpiry => exact .next (.ite _ (.refl s) (.enterReset s 2))
  case softResetExecution t =>
    refine .next (.trans (.setNow s t) ?_)
    split
    · exact .ite _ (.enterReset _ 3) (.refl _)
    · exact .refl _
  case hotsetSaveEnd bad t =>
    cases saving : s.store.saving with
    | none =>
      simp only [exec, execHotsetSaveEnd, State.setNow_store, saving]
      exact .next (.setNow s t)
    | some img =>
      have saved : s.KeepsFlash ((s.setNow t).endSave bad) := .trans (.setNow s t) fun ok => State.endSave_flashOk _ bad ok
      rw [exec_hotsetSaveEnd s bad t img saving]
      refine .next (saved.trans (.ite _ (.enterReset _ 1) (.ite _ (.of_eq rfl) (.of_eq ?_))))
      simp [State.resumeNext]

/-- A row that bears no opcode keeps the form. -/
theorem exec_flashSafe_of_row (c : Instr) (s : State) (hc : commandOf c = none) (hr : mayReset c = false) : FlashSafe s (exec c s) := by
  cases c <;> cases hc <;> cases hr
  case foldBoundary m => exact .next (.of_eq (s.boundary_flash m))
  case wakeRequest ns x => exact .next (.ite _ (.of_eq (by simp)) (.refl s))
  case badInstructionTransaction tx t => exact execBadInstructionTransaction_flashSafe tx t s
  case preciseGateEnd i m t => exact execPreciseGateEnd_flashSafe i m t s
  case refEdge i r p t => exact execRefEdge_flashSafe i r p t s
  case storeEngineSlot ok t => exact .next (.inSlot 10 t fun x h => State.storeSlot_flashOk x ok h)
  case flashWordProgramEnd t => exact .next (.trans (.setNow s t) fun h => State.programEnd_flashOk _ h)
  case flashEraseEnd t => exact .next (.trans (.setNow s t) (.ite _ (.refl _) fun h => State.eraseEnd_flashOk _ h))
  case sleepEntry e => exact .next (.trans (.setNow s e.t) (.ite _ (fun h => State.enterSleep_flashOk _ e.bad h) (.refl _)))
  case resetRelease a b =>
    refine .next (.ite _ (.trans (.of_eq ?_) fun h => State.startUp_flashOk _ h) (.refl s))
    simp
  case npfailFall t =>
    simp only [exec, execNpfailFall]
    refine .ite _ (.next (.of_eq rfl)) (.next (.ite _ (.of_eq (by simp)) (.trans (.of_eq ?_) fun h => State.beginSave_flashOk _ h)))
    simp
  case learningObservation =>
    refine .next (.inTask 0 fun x => ?_)
    split
    · exact .of_eq (by simp)
    · exact .refl x
  case stepFlock | gateOn | gateOff | freeze | gatherNow =>
    exact .next (.trans (.setNow s _) (.of_eq (State.crookAct_flash _ _ _ _ fun c x => by simp)))
  case beaconDue | delayReqDue | delayRespDue | exchangeTimeout => exact .next (.inMac fun x => .of_eq (by simp))
  case beaconMissed t => exact .next (.trans (.setNow s t) (.inMac fun x => .of_eq (by simp)))
  case compaction => exact .next (.inTask 10 fun x => .ite _ (.of_eq (by simp)) (.refl x))
  case reserveSlot => exact .next (.inSlot 16 _ fun x => .ite _ (.of_eq (by simp)) (.refl x))
  case secondsComparison t => exact .next (.whileScheduled t fun x => .ite _ (.of_eq (by simp)) (.refl x))
  case jobEnd | radioCalibrationEnd => exact .next (.trans (.setNow s _) (.ifScheduled fun x => .of_eq (by simp)))
  case droveFreezeTakesEffect => exact .next (.ifScheduled fun x => .of_eq (by simp))
  case hourlyRecord t => exact .next (.trans (.setNow s t) (.inTask 10 fun x => .of_eq (by simp)))
  case bwStageEnd | lockAchieved | lossOfLock | claimTimeout | leadTimeout | ringReturnTimeout | modelSaveTimer | refreshCheck | compactionRetry | radioCalDue =>
    exact .next (.inTask _ fun x => .of_eq (by simp))
  case dpllUpdateSlot | stileAndTallySlot | shaftTableSlot | outputSchedulerSlot | referenceMonitorsSlot | eventEngineSlot | commandInterpreterSlot |
      commonsMacSlot | droveSlot | calibrationSlot | scrubSlot | telemetrySlot =>
    exact .next (.inSlot _ _ fun x => .of_eq (by simp))
  case gpioSet | gpioClr | gpioTgl | directRegisterWrite | deferredCommandServed | longCommandStart => exact .next (.of_eq (by simp))
  case pinInputLevelChange | npfailRise | tdcIntervalTimeout | jtagTckEdge => exact .next (.of_eq rfl)
  case writeCommandPacket | readReply | slotEnd | qualificationTimerExpiry => exact .next (.trans (.setNow s _) (.ite _ (.of_eq (by simp)) (.refl _)))
  case activityWindowExpiry => exact .next (.trans (.setNow s _) (.ite _ (.refl _) (.of_eq (by simp))))
  case outputReleaseTakesEffect | wakeDividerRestart | penResetEnd => exact .next (.ite _ (.of_eq (by simp)) (.refl s))
  case carrierDetect => exact .next (.trans (.setNow s _) (.ite _ (.of_eq rfl) (.refl _)))
  case apllLockAcquired | prbsCheckerLock => exact .next (.ite _ (.of_eq rfl) (.refl s))
  all_goals
    simp only [exec, execTallyEntryActivation, execGateWindowStart, execGateWindowStop, execAlignedStart, execShaftIndexEdge, execShaftIndexTimeout,
      execMonSecondEnd, execUartSentence, execGpioEdge, execPenResetPinEdge, execApllLossOfLock, execApllLockTimeout, execLeadFrameTransmit,
      execDroveFrameReceived, execWordLockLoss, execEchoMeasurement, execCcaAttempt, execTxFrameEnd, execRadioFrameReceived, execDiversityWindowEnd, execRxBlock,
      execHopSettleComplete, execSynthUnlock, execCodeError]
    (repeat' split) <;> exact .next (.of_eq (by simp))

/-- Every command keeps the form. -/
theorem exec_flashSafe (c : Instr) (s : State) : FlashSafe s (exec c s) := by
  cases hr : mayReset c with
  | true => exact exec_flashSafe_of_mayReset hr s
  | false =>
    cases hc : commandOf c with
    | none => exact exec_flashSafe_of_row c s hc hr
    | some x =>
      rw [exec_of_commandOf hc]
      exact .next (.of_eq (by simp))

end Sys2Proof.Machine

open Sys2Proof Sys2Proof.Machine

/-- Settles O56: the step is idle, or the command at the queue's front, which keeps the form whatever it does to the cells. -/
theorem stepKeepsFlashCanonical : Obligations.StepKeepsFlashCanonical := by
  intro s s' ok h
  cases hq : s.pending with
  | nil =>
    simp only [step, hq] at h
    cases h
    exact ok
  | cons c rest =>
    simp only [step, hq] at h
    obtain ⟨x, hx, keeps⟩ := exec_flashSafe c { s with pending := rest }
    cases hx.symm.trans h
    exact keeps ok
end

section
/-! Slot 5 (14 R337, R338; 17 R395): the pins' time stamps are taken, the queue stays within its 64 entries, and an occurrence joins it or is dropped. -/

namespace Sys2Proof.Machine

section
variable (s : State)

/-! ### What the parts of the slot leave alone -/

/-- A figure that is told nothing of the events stands as a pin's edges are raised. -/
theorem State.raisePinEdges_keeps {β : Type} (g : State → β) (raises : ∀ s id detail, g (State.raise s id detail) = g s) (n : Nat) (p : PinSt) :
    g (s.raisePinEdges n p) = g s := by
  unfold State.raisePinEdges
  rw [forEach_keeps g _ _ (fun _ _ => raises _ _ _), forEach_keeps g _ _ (fun _ _ => raises _ _ _)]

/-- A figure that is told nothing of the events and the pins stands as all edges are raised. -/
theorem State.raiseEdges_keeps {β : Type} (g : State → β) (raises : ∀ s id detail, g (State.raise s id detail) = g s)
    (pins : ∀ s n f, g (State.updPin s n f) = g s) : g s.raiseEdges = g s := by
  unfold State.raiseEdges
  exact forEach_keeps g _ _ (fun n x => (State.raisePinEdges_keeps _ g raises _ _).trans (pins _ _ _)) s

/-- After the edges the slot writes the events and the host's part alone. -/
theorem State.eventSlot_keeps {β : Type} (g : State → β) (events : ∀ (s : State) e, g { s with ev := e } = g s)
    (host : ∀ (s : State) h, g { s with host := h } = g s) : g s.eventSlot = g s.raiseEdges := by
  have overflow (x : State) : g x.queueOverflow = g x := by
    unfold State.queueOverflow
    split
    · rfl
    · exact events _ _
  have joins (o : Occ) (x : State) : g (x.queueOcc o) = g x := by
    unfold State.queueOcc
    dsimp only
    split <;> exact (events _ _).trans (overflow x)
  have queues (x : State) : g x.queueOccs = g x := by
    unfold State.queueOccs
    exact (forEach_keeps g _ _ joins _).trans (events _ _)
  exact (host _ _).trans ((queues _).trans (overflow _))

/-! ### The pins' time stamps -/

/-- A pin holds no time stamp. -/
def PinSt.unstamped (p : PinSt) : Prop := p.stamps = [] ∧ p.beyond = []

/-- Each of the 24 pins has its time stamps taken. -/
theorem State.raiseEdges_unstamped {n : Nat} (small : n < 24) : (s.raiseEdges.pin n).unstamped := by
  have round (m : Nat) (x : State) : (((x.updPin m fun p => { p with stamps := [], beyond := [] }).raisePinEdges m (x.pin m)).pin n) =
      (x.updPin m fun p => { p with stamps := [], beyond := [] }).pin n := by
    rw [State.raisePinEdges_keeps _ (·.pin n) fun _ _ _ => rfl]
  unfold State.raiseEdges
  refine forEach_makes (p := fun x => (x.pin n).unstamped) (List.mem_range.mpr small) (fun x => ?_) (fun m x h => ?_) s
  · rw [round, State.pin_updPin, if_pos ⟨rfl, small⟩]
    exact ⟨rfl, rfl⟩
  · rw [round, State.pin_updPin]
    split
    · exact ⟨rfl, rfl⟩
    · exact h

theorem State.updPin_of_eq {n : Nat} {f : PinSt → PinSt} (same : f (s.pin n) = s.pin n) : s.updPin n f = s := by
  have ident : s.pins.upd n id = s.pins := by simp [Vec.upd]
  exact congrArg (fun v => { s with pins := v }) ((Vec_upd_congr s.pins n {} f id same).trans ident)

/-- Without time stamps slot 5 raises no edge. -/
theorem State.raiseEdges_of_unstamped (quiet : ∀ n < 24, (s.pin n).unstamped) : s.raiseEdges = s := by
  unfold State.raiseEdges
  refine forEach_rests fun n mem => ?_
  obtain ⟨stamps, beyond⟩ := quiet n (List.mem_range.mp mem)
  rw [State.updPin_of_eq s (by rw [← stamps, ← beyond]), State.raisePinEdges, stamps, beyond]
  rfl

/-! ### The queue -/

theorem State.queueOverflow_length (fits : s.ev.queue.length ≤ 64) : s.queueOverflow.ev.queue.length ≤ 64 := by
  unfold State.queueOverflow
  split
  · exact fits
  · rename_i room
    simp only [Bool.or_eq_true, decide_eq_true_eq, not_or, Nat.not_le] at room
    simpa using room.1.2

theorem State.queueOcc_length (o : Occ) (fits : s.ev.queue.length ≤ 64) : (s.queueOcc o).ev.queue.length ≤ 64 := by
  unfold State.queueOcc
  dsimp only
  split
  · rename_i room
    simpa using room
  · exact s.queueOverflow_length fits

theorem State.queueOccs_length (fits : s.ev.queue.length ≤ 64) : s.queueOccs.ev.queue.length ≤ 64 := by
  unfold State.queueOccs
  exact forEach_inv (fun x => x.ev.queue.length ≤ 64) _ _ (fun o x within => x.queueOcc_length o within) _ fits

theorem State.updateIrq_ev : s.updateIrq.ev = s.ev := rfl

theorem State.eventSlot_length (fits : s.ev.queue.length ≤ 64) : s.eventSlot.ev.queue.length ≤ 64 := by
  have edges : s.raiseEdges.ev.queue = s.ev.queue := s.raiseEdges_keeps (·.ev.queue) (fun _ _ _ => rfl) fun _ _ _ => rfl
  rw [State.eventSlot, State.updateIrq_ev]
  exact State.queueOccs_length _ (State.queueOverflow_length _ (by rw [edges]; exact fits))

theorem State.queueOverflow_of_none (none : s.ev.dropped = 0) : s.queueOverflow = s := by simp [State.queueOverflow, none]

/-- With no time stamps, nothing dropped and one occurrence, the slot queues that one. -/
theorem State.eventSlot_of_one {o : Occ} (quiet : ∀ n < 24, (s.pin n).unstamped) (one : s.ev.occs = [o]) (none : s.ev.dropped = 0) :
    s.eventSlot = (({ s with ev := { s.ev with occs := [] } } : State).queueOcc o).updateIrq := by
  rw [State.eventSlot, s.raiseEdges_of_unstamped quiet, s.queueOverflow_of_none none, State.queueOccs, one]
  rfl

theorem State.queueOcc_of_room {o : Occ} (none : s.ev.dropped = 0) (room : s.ev.queue.length < 64) :
    s.queueOcc o = { s with ev := { s.ev with queue := s.ev.queue ++ [o] } } := by
  rw [State.queueOcc, s.queueOverflow_of_none none, if_pos room]

theorem State.queueOcc_of_full {o : Occ} (none : s.ev.dropped = 0) (full : 64 ≤ s.ev.queue.length) :
    s.queueOcc o = { s with ev := { s.ev with
      dropped := s.ev.dropped + 1
      srcs := s.ev.srcs.upd Ev.queueOverflow fun e => { e with count := e.count + 1, sticky := true, raised := true } } } := by
  rw [State.queueOcc, s.queueOverflow_of_none none, if_neg (Nat.not_lt.mpr full)]

end

end Sys2Proof.Machine

open Sys2Proof Sys2Proof.Machine

/-- Settles O31: what the slot keeps and its queue's bound hold round by round; a single occurrence is one round, which queues or drops it. -/
theorem eventSlotQueuesOccurrences : Obligations.EventSlotQueuesOccurrences := by
  intro s t due
  have run : exec (.eventEngineSlot t) s = .next (s.enterSlot 5 t).eventSlot := congrArg Host.Outcome.next (State.inSlot_of_due due _)
  have keeps {β : Type} (g : State → β) (events : ∀ (s : State) e, g { s with ev := e } = g s) (pins : ∀ s n f, g (State.updPin s n f) = g s)
      (host : ∀ (s : State) h, g { s with host := h } = g s) : g (s.enterSlot 5 t).eventSlot = g (s.enterSlot 5 t) :=
    (State.eventSlot_keeps _ g events host).trans (State.raiseEdges_keeps _ g (fun _ _ _ => events _ _) pins)
  refine ⟨fun fits => ⟨_, run, State.eventSlot_length _ fits, fun n small => ?_, ?_, ?_, ?_, ?_⟩, fun o quiet one none => ⟨fun room => ?_, fun full => ?_⟩⟩
  · have pins := State.eventSlot_keeps (s.enterSlot 5 t) (·.pin n) (fun _ _ => rfl) fun _ _ => rfl
    have taken := State.raiseEdges_unstamped (s.enterSlot 5 t) small
    rwa [← pins] at taken
  · exact keeps (·.cfg) (fun _ _ => rfl) (fun _ _ _ => rfl) fun _ _ => rfl
  · exact keeps (·.snap) (fun _ _ => rfl) (fun _ _ _ => rfl) fun _ _ => rfl
  · exact keeps (·.tally) (fun _ _ => rfl) (fun _ _ _ => rfl) fun _ _ => rfl
  · exact keeps (·.lp) (fun _ _ => rfl) (fun _ _ _ => rfl) fun _ _ => rfl
  · refine ⟨_, run, ?_⟩
    rw [State.eventSlot_of_one _ (by exact quiet) (by exact one) (by exact none), State.updateIrq_ev, State.queueOcc_of_room _ (by exact none) (by exact room)]
    rfl
  · have counted := Vec_getD_upd_same s.ev.srcs Ev.queueOverflow (fun e => { e with count := e.count + 1, sticky := true, raised := true }) {} (by decide)
    refine ⟨_, run, ?_⟩
    rw [State.eventSlot_of_one _ (by exact quiet) (by exact one) (by exact none), State.updateIrq_ev, State.queueOcc_of_full _ (by exact none) (by exact full)]
    exact ⟨rfl, congrArg (· + 1) none, rfl, congrArg Source.count counted, congrArg Source.sticky counted⟩
end

section
/-! Slot 12 (16 R376, R382–R385; 09 R218): the supervision of the tuning voltage and the TDC step write the background alone, and one step of the calibration
at the queue's head follows. -/

namespace Sys2Proof.Machine

/-- The background after the supervision of the tuning voltage and the TDC step of in-second fold `fold`. -/
def Background.supervised (b : Background) (fold margin meas : Nat) : Background :=
  { b with
    acc := { b.acc with vtuneLow := b.acc.vtuneLow || decide (margin < 50) }
    tdcMeas := if 8 ≤ fold ∨ 8 ≤ b.tdcMeas.length then b.tdcMeas else b.tdcMeas ++ [meas] }

section
variable (s : State) (margin meas : Nat)

theorem State.calSlot_eq : s.calSlot margin meas = (s.mapBg (·.supervised s.clk.inSec margin meas)).calStep := by
  refine congrArg State.calStep ?_
  by_cases low : margin < 50 <;> by_cases done : 8 ≤ s.clk.inSec ∨ 8 ≤ s.bg.tdcMeas.length <;>
    simp [State.tdcStep, Background.supervised, State.mapBg, low, done]

theorem exec_calibrationSlot {t : Nat} (due : s.slotDue 12 t = true) :
    exec (.calibrationSlot margin meas t) s = .next (((s.enterSlot 12 t).mapBg (·.supervised s.clk.inSec margin meas)).calStep) := by
  show Host.Outcome.next (s.inSlot 12 t _) = _
  rw [State.inSlot_of_due due, State.calSlot_eq]
  rfl

theorem Background.supervised_of_idle {b : Background} {fold : Nat} (late : 8 ≤ fold) (held : 50 ≤ margin) : b.supervised fold margin meas = b := by
  simp [Background.supervised, late, not_lt.mpr held]

end

section
variable {s : State} {j : CalJob} {r : List CalJob} {w : Nat} {ws : List Nat}

theorem State.calStep_of_empty (empty : s.bg.calQueue = []) : s.calStep = s := by
  unfold State.calStep
  rw [empty]

theorem State.calStep_of_started (head : s.bg.calQueue = j :: r) (which : j.which = w :: ws) (started : j.started = true) :
    s.calStep = s.mapBg fun b => { b with calQueue := { j with left := j.left - 1 } :: r } := by
  simp [State.calStep, State.updCal, State.mapBg, upd, head, which, started]

theorem State.calStep_of_start (head : s.bg.calQueue = j :: r) (which : j.which = w :: ws) (waits : j.started = false)
    (free : s.calMayStart (calFolds w) = true) :
    s.calStep = { s.mapBg (fun b => { b with
      calQueue := { j with started := true, begun := true, left := calFolds w - 1, entry := s.calEntry w } :: r
      acc := { b.acc with radioCal := true } }) with rf := { s.rf with state := .cal } } := by
  simp [State.calStep, State.updCal, State.mapBg, upd, head, which, waits, free]

theorem State.calStep_of_wait (head : s.bg.calQueue = j :: r) (which : j.which = w :: ws) (waits : j.started = false)
    (busy : s.calMayStart (calFolds w) = false) : s.calStep = s := by
  simp [State.calStep, head, which, waits, busy]

/-- A calibration's step leaves the TDC, the flag of the tuning voltage, the settings and the outputs. -/
theorem State.calStep_keeps (s : State) :
    s.calStep.bg.tdcMeas = s.bg.tdcMeas ∧ s.calStep.bg.tdcScale = s.bg.tdcScale ∧ s.calStep.bg.acc.vtuneLow = s.bg.acc.vtuneLow ∧
      s.calStep.cfg = s.cfg ∧ s.calStep.outs = s.outs := by
  unfold State.calStep
  (repeat' split) <;> exact ⟨rfl, rfl, rfl, rfl, rfl⟩

end

end Sys2Proof.Machine

open Sys2Proof Sys2Proof.Machine

/-- Settles O32: the slot is the calibration's step after the background's part, and each clause is a case of one of the two. -/
theorem calibrationSlotRunsOneStep : Obligations.CalibrationSlotRunsOneStep := by
  intro s margin meas t due
  have run := exec_calibrationSlot s margin meas due
  obtain ⟨taken, scale, low, settings, outs⟩ := State.calStep_keeps ((s.enterSlot 12 t).mapBg (·.supervised s.clk.inSec margin meas))
  refine ⟨fun early few => ⟨_, run, taken.trans ?_, scale, settings⟩, fun past => ⟨_, run, taken.trans ?_, scale, settings⟩, fun late empty held => ?_,
    ⟨_, run, low, outs⟩, fun j r w ws head which => ⟨fun started => ?_, fun waits free => ?_, fun waits busy => ?_⟩⟩
  · exact if_neg (not_or.mpr ⟨not_le.mpr early, not_le.mpr few⟩)
  · exact if_pos past
  · refine (run.trans (congrArg _ (State.calStep_of_empty empty))).trans ?_
    exact congrArg (fun b => Host.Outcome.next { s.enterSlot 12 t with bg := b }) (Background.supervised_of_idle margin meas late held)
  · exact ⟨_, run.trans (congrArg _ (State.calStep_of_started head which started)), rfl, rfl⟩
  · exact ⟨_, run.trans (congrArg _ (State.calStep_of_start head which waits free)), rfl, rfl, rfl⟩
  · exact ⟨_, run.trans (congrArg _ (State.calStep_of_wait head which waits busy)), rfl, rfl⟩
end

section
/-! The GPIO registers of the direct window (12 R270, R271; 17 R400, R401): a whole register acts once, as its highest byte is written, and a loaded patch's own
write follows it. -/

namespace Sys2Proof.Machine

theorem Vec_getD_mapIdx {α β : Type} {n : Nat} (f : Nat → α → β) (v : Vec α n) (i : Nat) (a : α) (b : β) (small : i < n) :
    (v.mapIdx f).getD i b = f i (v.getD i a) := by
  have inside : i < v.toList.length := v.length_eq.symm ▸ small
  simp [Vec.getD, Vec.mapIdx, inside]

/-- What SET (0), CLR (1) and TGL (2) make of a latch. -/
def PinSt.acted (kind : Nat) (p : PinSt) : PinSt := { p with latch := if kind = 0 then true else if kind = 1 then false else !p.latch }

section
variable {s : State} {t : Nat} {n : Nat}

theorem State.pin_actLatches (s : State) (kind v : Nat) (small : n < 24) :
    (s.actLatches kind v).pin n = if v.testBit n then (s.pin n).acted kind else s.pin n :=
  Vec_getD_mapIdx (fun n (p : PinSt) => if v.testBit n then p.acted kind else p) s.pins n {} {} small

theorem State.portWrite_of_rom (rom : s.host.patchLoaded = none) : s.portWrite = s := by simp [State.portWrite, rom]

/-- A loaded patch writes the latches that its mask names, and takes one free draw (log 68). -/
theorem State.portWrite_of_patch (patch : s.host.patchLoaded ≠ none) : ∃ (mask value : BitVec 24) (pins : Vec PinSt 24),
    s.portWrite = { s.draw with pins := pins } ∧
    ∀ n < 24, pins.getD n {} = if mask.getLsbD n then { s.pin n with latch := value.getLsbD n } else s.pin n := by
  refine ⟨(Config.patchPort s.freeN).1, (Config.patchPort s.freeN).2, _, if_neg (by simpa using patch), fun n small => ?_⟩
  exact Vec_getD_mapIdx (fun n (p : PinSt) => if (Config.patchPort s.freeN).1.getLsbD n then { p with latch := (Config.patchPort s.freeN).2.getLsbD n } else p)
    s.pins n {} {} small

/-- A whole write to the register of SET, CLR or TGL acts once on the latches. -/
theorem State.windowWrite_of_register (s : State) (kind : Fin 3) (b0 b1 b2 b3 : Byte) :
    s.windowWrite (0x14 + 4 * kind) [b0, b1, b2, b3] = (s.actLatches kind (ofLe [b0, b1, b2, b3])).portWrite := by
  fin_cases kind <;> rfl

/-- A write that stays outside the three registers is ignored. -/
theorem State.windowWrite_of_outside (s : State) {addr : Nat} {data : List Byte}
    (outside : addr + data.length ≤ 0x14 ∨ (0x20 ≤ addr ∧ addr + data.length ≤ 256)) : s.windowWrite addr data = s := by
  refine forEach_rests fun i mem => ?_
  have inside := List.mem_range.mp mem
  have plain : (addr + i) % 256 = addr + i := Nat.mod_eq_of_lt (by omega)
  simp only [State.windowByte, plain]
  rw [if_neg (by omega), if_neg (by omega), if_neg (by omega)]

end

/-- The state after a whole write to a register: its latches acted on, then what a loaded patch writes through its own port. -/
structure ActedOnLatches (s : State) (t kind v : Nat) (s' : State) : Prop where
  rom : s.host.patchLoaded = none → s' = { s with clk := { s.clk with now := t }, pins := s'.pins } ∧
    ∀ n < 24, s'.pin n = if v.testBit n then (s.pin n).acted kind else s.pin n
  patch : s.host.patchLoaded ≠ none → s' = { s with clk := { s.clk with now := t }, pins := s'.pins, freeN := s.freeN + 1 } ∧
    ∃ mask value : BitVec 24, ∀ n < 24, s'.pin n =
      if mask.getLsbD n then { (if v.testBit n then (s.pin n).acted kind else s.pin n) with latch := value.getLsbD n }
      else if v.testBit n then (s.pin n).acted kind else s.pin n

theorem State.actedOnLatches (s : State) (t kind v : Nat) : ActedOnLatches s t kind v (((s.setNow t).actLatches kind v).portWrite) where
  rom rom := by
    rw [State.portWrite_of_rom (by exact rom)]
    exact ⟨rfl, fun n small => State.pin_actLatches _ kind v small⟩
  patch patch := by
    obtain ⟨mask, value, pins, wrote, latches⟩ := State.portWrite_of_patch (s := (s.setNow t).actLatches kind v) patch
    rw [wrote]
    refine ⟨rfl, mask, value, fun n small => (latches n small).trans ?_⟩
    rw [State.pin_actLatches _ kind v small]
    rfl

end Sys2Proof.Machine

open Sys2Proof Sys2Proof.Machine

/-- Settles O16: each register is one act on the latches, whose number it fixes; every other address is ignored byte by byte. -/
theorem gpioRegistersActOnLatches : Obligations.GpioRegistersActOnLatches := by
  intro s t b0 b1 b2 b3 opened
  have writes (a : Nat) (d : List Byte) : (s.setNow t).directWrite a d = (s.setNow t).windowWrite a d := if_pos opened
  have acts (kind : Fin 3) : ActedOnLatches s t kind (ofLe [b0, b1, b2, b3]) ((s.setNow t).directWrite (0x14 + 4 * kind) [b0, b1, b2, b3]) := by
    rw [writes, State.windowWrite_of_register]
    exact s.actedOnLatches t kind _
  refine ⟨⟨_, rfl, (acts 0).rom, (acts 0).patch⟩, ⟨_, rfl, (acts 1).rom, (acts 1).patch⟩, ⟨_, rfl, (acts 2).rom, (acts 2).patch⟩,
    ⟨_, rfl, (acts 0).rom, (acts 0).patch⟩, fun a d outside => ?_⟩
  exact congrArg Host.Outcome.next ((writes _ d).trans (State.windowWrite_of_outside _ outside))
end

section
/-! The pins' edges and the test port (12 R292; 17 R395, R397, R405; 19 R439, R441): what one edge writes at its pin, and what one edge of TCK does to the
TAP controller and its registers. -/

namespace Sys2Proof.Machine

/-! ### Edges of pins -/

section
variable {s : State} {n : Fin 24} {level : Bool} {t : Nat}

/-- The pin's level as its edge is seen, before what its function makes of it. -/
def State.seen (s : State) (n : Fin 24) (level : Bool) (t : Nat) : State := (s.setNow t).updPin n fun p => { p with pad := level }

/-- Two changes of a pin are one change that agrees with them on what stands there. -/
theorem State.updPin_updPin (s : State) {n : Nat} {f g h : PinSt → PinSt} (agree : g (f (s.pin n)) = h (s.pin n)) :
    (s.updPin n f).updPin n g = s.updPin n h :=
  congrArg (fun v => { s with pins := v }) ((Vec_upd_upd s.pins n f g).trans (Vec_upd_congr s.pins n {} (g ∘ f) h agree))

theorem exec_gpioEdge (s : State) (n : Fin 24) (level : Bool) (t : Nat) :
    exec (.gpioEdge n level t) s = if !(s.pinCfg n).countsEdge level || !s.pinsRun then .next (s.seen n level t)
      else .next ((s.seen n level t).updPin n fun p => p.takeEdge level s.clk.absFold (s.setNow t).instant) := rfl

/-- An edge that the pin counts is one change of the pin: its level, and what `takeEdge` makes of it (17 R395). -/
theorem exec_gpioEdge_of_counted {h : PinSt → PinSt} (counts : (s.pinCfg n).countsEdge level = true) (runs : s.pinsRun = true)
    (takes : PinSt.takeEdge { s.pin n with pad := level } level s.clk.absFold (s.setNow t).instant = h (s.pin n)) :
    exec (.gpioEdge n level t) s = .next ((s.setNow t).updPin n h) := by
  rw [exec_gpioEdge, if_neg (by simp [counts, runs])]
  exact congrArg _ (State.updPin_updPin _ takes)

theorem PinSt.takeEdge_of_few {p : PinSt} {fold : BitVec 64} {at_ : Nat} (few : (if p.stampFold = fold then p.stamped else 0) < 8) :
    p.takeEdge level fold at_ = { p with
      edges := p.edges + 1, stamps := p.stamps ++ [(level, gpsStamp at_)], stamped := (if p.stampFold = fold then p.stamped else 0) + 1, stampFold := fold } :=
  if_pos few

theorem PinSt.takeEdge_of_many {p : PinSt} {fold : BitVec 64} {at_ : Nat} (many : 8 ≤ if p.stampFold = fold then p.stamped else 0) :
    p.takeEdge level fold at_ = { p with edges := p.edges + 1, beyond := p.beyond ++ [level] } := if_neg (Nat.not_lt.mpr many)

theorem exec_penResetPinEdge (s : State) (n : Fin 24) (level : Bool) (t : Nat) :
    exec (.penResetPinEdge n level t) s =
      let c := s.pinCfg n
      let pen : Pen := Fin.ofNat 4 (c.sub.toNat / 4)
      if c.func = 6 && c.sub.toNat % 4 = 2 && c.sub.getLsbD 4 = !level && pen ≠ 0 && s.pinsRun then
        .next ((s.seen n level t).updPen pen fun p =>
          if (s.setNow t).crossesLate then { p with pinLate := p.pinLate + 1 } else { p with pinReset := p.pinReset + 1 })
      else .next (s.seen n level t) := rfl

end

/-! ### The test port -/

section
variable (x : Test) (tms tdi : Bool) (pads : List Bool)

theorem Test.tckRise_keeps : (x.tckRise tms tdi pads).tap = x.tap.next tms ∧ (x.tckRise tms tdi pads).cells = x.cells ∧ (x.tckRise tms tdi pads).ir = x.ir := by
  unfold Test.tckRise
  split <;> exact ⟨rfl, rfl, rfl⟩

variable {x}

theorem Test.tckRise_of_shift (shift : x.tap = .shDr) : (x.tckRise tms tdi pads).drShift = x.drShift.drop 1 ++ [tdi] := by
  simp [Test.tckRise, shift, shiftIn]

theorem Test.tckRise_of_capture (capture : x.tap = .capDr) : (x.tckRise tms tdi pads).drShift = captureDr x.ir pads := by
  simp [Test.tckRise, capture]

variable (x) in
theorem Test.tckFall_tap : x.tckFall.tap = x.tap := by
  unfold Test.tckFall
  split
  case h_5 => split <;> rfl
  all_goals rfl

theorem Test.tckFall_of_reset (reset : x.tap = .reset) : x.tckFall.ir = 1 := by simp [Test.tckFall, reset]

theorem Test.tckFall_of_shift (shift : x.tap = .shDr) : x.tckFall.tdo = x.drShift.headD false := by simp [Test.tckFall, shift]

/-- The code of all ones selects BYPASS (19 R441). -/
theorem Test.tckFall_of_bypass (update : x.tap = .upIr) (ones : ofBits x.irShift = 2 ^ irLength - 1) : x.tckFall.ir = 0 := by
  simp [Test.tckFall, irSelects, update, ones]

theorem Test.tckFall_of_update (update : x.tap = .upDr) (scans : x.ir = 2 ∨ x.ir = 3) : x.tckFall.cells = x.drShift := by
  simp [Test.tckFall, update, scans]

end

end Sys2Proof.Machine

open Sys2Proof Sys2Proof.Machine

/-- Settles O38, row by row: an edge of a pin by what its function makes of it, an edge of TCK by the controller's state. -/
theorem pinAndTestPortEvents : Obligations.PinAndTestPortEvents := by
  intro s n level t
  refine ⟨fun counts runs => ⟨fun few => ?_, fun many => ?_⟩, fun ignored => ?_, fun k pen runs func names pull edge => ?_, fun other => ?_, rfl,
    fun bits errors low high => ?_, fun bits errors off => ?_, fun tms tdi pads => ⟨_, rfl, ?_⟩, fun tms tdi pads => ⟨_, rfl, ?_⟩⟩
  · exact exec_gpioEdge_of_counted counts runs (PinSt.takeEdge_of_few (p := { s.pin n with pad := level }) few)
  · exact exec_gpioEdge_of_counted counts runs (PinSt.takeEdge_of_many (p := { s.pin n with pad := level }) many)
  · rw [exec_gpioEdge, if_pos (by rcases ignored with h | h <;> simp [h])]
    rfl
  · have named : Fin.ofNat 4 ((s.pinCfg n).sub.toNat / 4) = k := Fin.ext names
    simp only [exec_penResetPinEdge, named]
    exact if_pos (by rw [func, pull, edge]; simp [pen, runs])
  · rw [exec_penResetPinEdge]
    refine if_neg ?_
    rcases other with func | pull | edge | rest
    · simp [func]
    · simp [pull]
    · rw [edge]; simp
    · simp [rest]
  · exact congrArg _ (if_pos (by simp [low, high]))
  · exact congrArg _ (if_neg (by simp; omega))
  · obtain ⟨tap, cells, ir⟩ := Test.tckRise_keeps s.test tms tdi pads
    refine ⟨tap, cells, ir, fun shift => Test.tckRise_of_shift tms tdi pads shift, fun capture code => ?_, fun capture code => ?_, fun capture code => ?_, rfl⟩
    · exact (Test.tckRise_of_capture tms tdi pads capture).trans (by rw [code]; rfl)
    · refine (Test.tckRise_of_capture tms tdi pads capture).trans ?_
      rcases code with code | code <;> rw [code] <;> rfl
    · exact (Test.tckRise_of_capture tms tdi pads capture).trans (by rw [code]; rfl)
  · exact ⟨Test.tckFall_tap s.test, Test.tckFall_of_reset, Test.tckFall_of_shift, Test.tckFall_of_bypass, Test.tckFall_of_update, rfl⟩
end

section
/-! Slots 13 and 15 (16 R376–R381, R386, R387): what a check of an SRAM word finds and does, word after word of the fold, the comparison with the shadow, and a
telemetry slot's sample and entry. -/

namespace Sys2Proof.Machine

/-! ### What a scrub leaves -/

/-- What checks of SRAM words have made of the turned bits, how many they have counted corrected and uncorrectable, and what they leave alone. -/
structure Scrubbed (s s' : State) (flips : List (Nat × Nat)) (corrected uncorrectable : BitVec 32) : Prop where
  flips : s'.bg.flips = flips
  corrected : (s'.ev.srcs.getD Ev.scrubCorrected {}).count = (s.ev.srcs.getD Ev.scrubCorrected {}).count + corrected
  uncorrectable : (s'.ev.srcs.getD Ev.scrubUncorrectable {}).count = (s.ev.srcs.getD Ev.scrubUncorrectable {}).count + uncorrectable
  cfg : s'.cfg = s.cfg
  lp : s'.lp = s.lp
  inSec : s'.clk.inSec = s.clk.inSec

section
variable {s x y : State} {l m : List (Nat × Nat)} {c d u v : BitVec 32} {w k j n : Nat} {demand : Bool}

theorem Scrubbed.refl (flips : s.bg.flips = l) : Scrubbed s s l 0 0 := ⟨flips, by simp, by simp, rfl, rfl, rfl⟩

theorem Scrubbed.trans (h : Scrubbed s x l c u) (i : Scrubbed x y m d v) : Scrubbed s y m (c + d) (u + v) where
  flips := i.flips
  corrected := by rw [i.corrected, h.corrected, BitVec.add_assoc]
  uncorrectable := by rw [i.uncorrectable, h.uncorrectable, BitVec.add_assoc]
  cfg := i.cfg.trans h.cfg
  lp := i.lp.trans h.lp
  inSec := i.inSec.trans h.inSec

/-- What writes neither sources, settings, loops nor the clock counts nothing more. -/
theorem Scrubbed.andThen (h : Scrubbed s x l c u) (flips : y.bg.flips = m) (srcs : y.ev.srcs = x.ev.srcs) (cfg : y.cfg = x.cfg) (lp : y.lp = x.lp)
    (clk : y.clk = x.clk) : Scrubbed s y m c u where
  flips := flips
  corrected := by rw [srcs, h.corrected]
  uncorrectable := by rw [srcs, h.uncorrectable]
  cfg := cfg.trans h.cfg
  lp := lp.trans h.lp
  inSec := by rw [clk, h.inSec]

/-! ### The check of one word -/

/-- A word of which no bit is turned. -/
theorem State.checkWord_of_clean (clean : ∀ e ∈ s.bg.flips, e.1 ≠ w) : s.checkWord rebuildShadow w demand = s := by
  have none : s.bg.flipped w = [] := by
    simp only [Background.flipped, List.map_eq_nil_iff, List.filter_eq_nil_iff, decide_eq_true_eq]
    exact clean
  simp only [State.checkWord, none]

theorem Scrubbed.corrects (one : s.bg.flips = [(w, k)]) : Scrubbed s (s.checkWord rebuildShadow w demand) [] 1 0 := by
  have turned : s.bg.flipped w = [k] := by simp [Background.flipped, one]
  simp only [State.checkWord, turned]
  refine ⟨by simp [State.mapBg, Background.rewrite, one], ?_, ?_, rfl, rfl, rfl⟩ <;> rw [State.raise_count] <;> rfl

/-- A word of region 2 is written as zero in the place that it lies in. -/
theorem State.zeroWord_keeps (s : State) (w : Nat) : (s.zeroWord w).bg.flips = s.bg.flips ∧ (s.zeroWord w).ev.srcs = s.ev.srcs ∧
    (s.zeroWord w).cfg = s.cfg ∧ (s.zeroWord w).lp = s.lp ∧ (s.zeroWord w).clk = s.clk := by
  unfold State.zeroWord
  split <;> exact ⟨rfl, rfl, rfl, rfl, rfl⟩

/-- Shadow words rebuilt write the shadow alone. -/
theorem rebuildShadow_keeps (w : Nat) (s : State) : (rebuildShadow w s).bg.flips = s.bg.flips ∧ (rebuildShadow w s).ev.srcs = s.ev.srcs ∧
    (rebuildShadow w s).cfg = s.cfg ∧ (rebuildShadow w s).lp = s.lp ∧ (rebuildShadow w s).clk = s.clk := by
  unfold rebuildShadow
  generalize (List.range 8000).filter _ = l
  have keeps {β : Type} (g : State → β) (piece : ∀ n s, g (State.shadowPiece s (shadowPieceOf n)) = g s) := forEach_keeps g l _ piece s
  exact ⟨keeps (·.bg.flips) fun _ _ => rfl, keeps (·.ev.srcs) fun _ _ => rfl, keeps (·.cfg) fun _ _ => rfl, keeps (·.lp) fun _ _ => rfl,
    keeps (·.clk) fun _ _ => rfl⟩

/-- Two turned bits of a word are counted uncorrectable; a word of region 2 or 3 is written anew. -/
theorem Scrubbed.uncorrects (two : s.bg.flips = [(w, j), (w, k)]) :
    Scrubbed s (s.checkWord rebuildShadow w demand) (if 2 ≤ sramRegionOf w then [] else s.bg.flips) 0 1 := by
  have turned : s.bg.flipped w = [j, k] := by simp [Background.flipped, two]
  have anew (x : State) (flips : x.bg.flips = s.bg.flips) : (x.mapBg fun b => b.rewrite w).bg.flips = [] := by
    simp [State.mapBg, Background.rewrite, flips, two]
  have raised (detail : Nat) : Scrubbed s (s.raise Ev.scrubUncorrectable detail) s.bg.flips 0 1 := by
    refine ⟨rfl, ?_, ?_, rfl, rfl, rfl⟩ <;> rw [State.raise_count] <;> rfl
  have region : sramRegionOf w < 4 := Nat.mod_lt _ (by decide)
  simp only [State.checkWord, turned]
  split
  next two =>
    obtain ⟨flips, srcs, cfg, lp, clk⟩ := State.zeroWord_keeps
      ((s.raise Ev.scrubUncorrectable (w % 2 ^ 15 + 2 ^ 24 * sramRegionOf w + demandBit demand)).mapBg fun b => b.rewrite w) w
    rw [if_pos (by omega)]
    exact (raised _).andThen (flips.trans (anew _ rfl)) srcs cfg lp clk
  next =>
    split
    next three =>
      obtain ⟨flips, srcs, cfg, lp, clk⟩ := rebuildShadow_keeps w
        ((s.raise Ev.scrubUncorrectable (w % 2 ^ 15 + 2 ^ 24 * sramRegionOf w + demandBit demand)).mapBg fun b => b.rewrite w)
      rw [if_pos (by omega)]
      exact (raised _).andThen (flips.trans (anew _ rfl)) srcs cfg lp clk
    next =>
      rw [if_neg (by omega)]
      exact raised _

/-! ### The words of a fold -/

/-- The checks of the fold's four words. -/
def State.scrubWords (s : State) : State := forEach (List.range 4) State.scrubWord s

theorem State.scrubWords_of_elsewhere (elsewhere : ∀ e ∈ s.bg.flips, e.1 / 4 ≠ s.clk.inSec) : s.scrubWords = s := by
  refine forEach_rests fun k mem => State.checkWord_of_clean fun e he same => elsewhere e he ?_
  have := List.mem_range.mp mem
  omega

/-- Where all turned bits are of one word of the fold, and stay so, the four checks are that word's. -/
theorem State.scrubWords_of_word (within : w / 4 = s.clk.inSec) (one : ∀ e ∈ s.bg.flips, e.1 = w)
    (checked : Scrubbed s (s.checkWord rebuildShadow w false) l c u) (still : ∀ e ∈ l, e.1 = w) : s.scrubWords = s.checkWord rebuildShadow w false := by
  have place : 4 * s.clk.inSec + w % 4 = w := by omega
  refine forEach_once (o := w % 4) List.nodup_range (List.mem_range.mpr (Nat.mod_lt _ (by decide))) ?_ (fun k mem other => ?_) fun k mem other => ?_
  · rw [State.scrubWord, place]
  · have := List.mem_range.mp mem
    exact State.checkWord_of_clean fun e he same => other (by have := one e he; omega)
  · have := List.mem_range.mp mem
    refine State.checkWord_of_clean fun e he same => other ?_
    have := still e (checked.flips ▸ he)
    have := checked.inSec
    omega

/-- A live setting that differs from its shadow word is reported, and its restore waits for the boundary. -/
def State.mismatched (s : State) (n : Nat) : State := (s.mapBg fun b => { b with restore := b.restore ++ [n] }).raise Ev.shadowMismatch n

theorem State.checkShadow_cases (s : State) (n : Nat) : s.checkShadow n = s.checkWord rebuildShadow (Config.shadowWord n) false ∨
    s.checkShadow n = (s.checkWord rebuildShadow (Config.shadowWord n) false).mismatched n := by
  unfold State.checkShadow
  dsimp only
  split
  · exact .inr rfl
  · exact .inl rfl

theorem Scrubbed.mismatched (h : Scrubbed s x l c u) (n : Nat) : Scrubbed s (x.mismatched n) l c u where
  flips := h.flips
  corrected := by rw [State.mismatched, State.raise_count]; exact (BitVec.add_zero _).trans h.corrected
  uncorrectable := by rw [State.mismatched, State.raise_count]; exact (BitVec.add_zero _).trans h.uncorrectable
  cfg := h.cfg
  lp := h.lp
  inSec := h.inSec

theorem Scrubbed.comparesShadow (h : Scrubbed s (s.checkWord rebuildShadow (Config.shadowWord n) false) l c u) : Scrubbed s (s.checkShadow n) l c u := by
  rcases s.checkShadow_cases n with same | differs
  · exact same ▸ h
  · exact differs ▸ h.mismatched n

/-- A clean shadow word adds nothing to a scrub. -/
theorem Scrubbed.thenClean (h : Scrubbed s x l c u) (clean : ∀ e ∈ l, e.1 ≠ Config.shadowWord n) : Scrubbed s (x.checkShadow n) l c u := by
  have same : x.checkWord rebuildShadow (Config.shadowWord n) false = x := State.checkWord_of_clean (h.flips ▸ clean)
  rcases x.checkShadow_cases n with e | e <;> rw [e, same]
  · exact h
  · exact h.mismatched n

/-- A clean shadow word is compared with its setting (16 R381). -/
theorem State.checkShadow_of_clean (clean : ∀ e ∈ s.bg.flips, e.1 ≠ Config.shadowWord n) :
    s.checkShadow n = if s.pieceDiffers (shadowPieceOf n) then s.mismatched n else s := by
  have none : s.bg.flipped (Config.shadowWord n) = [] := by
    simp only [Background.flipped, List.map_eq_nil_iff, List.filter_eq_nil_iff, decide_eq_true_eq]
    exact clean
  simp only [State.checkShadow, none, State.checkWord_of_clean clean]
  rfl

/-! ### The slot's checks -/

theorem exec_scrubSlot (acts : List SramAct) (live : List (Nat × List Byte)) {t : Nat} (due : s.slotDue 13 t = true) :
    exec (.scrubSlot acts live t) s =
      .next ((forEach acts State.sramAct (forEach live State.strikeLive (s.enterSlot 13 t))).scrubWords.checkShadow s.clk.inSec) :=
  congrArg Host.Outcome.next (State.inSlot_of_due due _)

theorem exec_scrubSlot_of_quiet {t : Nat} (due : s.slotDue 13 t = true) :
    exec (.scrubSlot [] [] t) s = .next ((s.enterSlot 13 t).scrubWords.checkShadow s.clk.inSec) := exec_scrubSlot [] [] due

/-- A scrub of a state with no turned bit compares the shadow word alone. -/
theorem State.scrub_of_clean (n : Nat) (clean : s.bg.flips = []) :
    s.scrubWords.checkShadow n = if s.pieceDiffers (shadowPieceOf n) then s.mismatched n else s := by
  rw [State.scrubWords_of_elsewhere (by simp [clean]), State.checkShadow_of_clean (by simp [clean])]

/-- A turned bit is corrected once where the slot of fold `n` meets its word, as one of the fold's four or as the one that holds the shadow word, and stays
elsewhere. -/
theorem Scrubbed.scrub_of_one (fold : s.clk.inSec = n) (one : s.bg.flips = [(w, k)]) :
    Scrubbed s (s.scrubWords.checkShadow n) (if decide (w / 4 = n ∨ Config.shadowWord n = w) then [] else [(w, k)])
      (if decide (w / 4 = n ∨ Config.shadowWord n = w) then 1 else 0) 0 := by
  by_cases within : w / 4 = n
  · have fixed : Scrubbed s (s.checkWord rebuildShadow w false) [] 1 0 := .corrects one
    rw [State.scrubWords_of_word (within.trans fold.symm) (by simp [one]) fixed (by simp)]
    simp only [within, true_or, decide_true, if_true]
    exact fixed.thenClean (by simp)
  · rw [State.scrubWords_of_elsewhere (by simp [one, fold, within])]
    by_cases holds : Config.shadowWord n = w
    · simp only [holds, or_true, decide_true, if_true]
      exact .comparesShadow (by rw [holds]; exact .corrects one)
    · simp only [within, holds, or_false, decide_false, Bool.false_eq_true, if_false]
      exact (Scrubbed.refl one).thenClean (by simpa using fun h => holds h.symm)

/-- Two turned bits of a word of fold `n` are found once, and once more where the word also holds the shadow word and keeps its bits. -/
theorem Scrubbed.scrub_of_two (fold : s.clk.inSec = n) (within : w / 4 = n) (two : s.bg.flips = [(w, j), (w, k)]) :
    Scrubbed s (s.scrubWords.checkShadow n) (if 2 ≤ sramRegionOf w then [] else s.bg.flips) 0
      (if Config.shadowWord n = w ∧ sramRegionOf w < 2 then 2 else 1) := by
  have found : Scrubbed s (s.checkWord rebuildShadow w false) (if 2 ≤ sramRegionOf w then [] else s.bg.flips) 0 1 := .uncorrects two
  rw [State.scrubWords_of_word (within.trans fold.symm) (by simp [two]) found (by split <;> simp [two])]
  by_cases again : Config.shadowWord n = w ∧ sramRegionOf w < 2
  · obtain ⟨holds, low⟩ := again
    simp only [if_pos (And.intro holds low), if_neg (not_le.mpr low)] at found ⊢
    have twice := Scrubbed.uncorrects (demand := false) (found.flips.trans two)
    rw [if_neg (not_le.mpr low), found.flips] at twice
    exact found.trans (.comparesShadow (by rw [holds]; exact twice))
  · rw [if_neg again]
    refine found.thenClean fun e mem same => again ?_
    split at mem
    · exact absurd mem List.not_mem_nil
    · next low =>
      have word : e.1 = w := by rw [two] at mem; rcases List.mem_pair.mp mem with rfl | rfl <;> rfl
      exact ⟨same.symm.trans word, not_le.mp low⟩

end

/-! ### Telemetry -/

section
variable {s : State}

/-- The sample in turn joins its sum (16 R386). -/
def Background.sampled (b : Background) (x : Int) : Background :=
  { b with acc := { b.acc with sums := upd b.acc.sums b.acc.turn (· + x), counts := upd b.acc.counts b.acc.turn (· + 1), turn := (b.acc.turn + 1) % 11 } }

theorem State.telemSlot_eq (s : State) (x : Int) : s.telemSlot x = match s.bg.closing with
    | some e => (s.mapBg fun b => { b.sampled x with closing := none }).appendTelem e
    | none => s.mapBg (·.sampled x) := rfl

theorem State.telemSlot_of_none (x : Int) (none : s.bg.closing = none) : s.telemSlot x = s.mapBg (·.sampled x) := by
  rw [State.telemSlot_eq, none]

theorem State.telemSlot_of_entry (x : Int) {e : List Byte} (waits : s.bg.closing = some e) :
    s.telemSlot x = (s.mapBg fun b => { b.sampled x with closing := none }).appendTelem e := by
  rw [State.telemSlot_eq, waits]

theorem State.appendTelem_of_room {e : List Byte} (room : s.bg.ring.length < 64) : s.appendTelem e = s.mapBg fun b => { b with ring := b.ring ++ [e] } :=
  if_pos room

/-- A full ring loses its oldest entry, counted where no read has reached it (16 R387). -/
theorem State.appendTelem_of_full {e : List Byte} (full : 64 ≤ s.bg.ring.length) :
    (s.appendTelem e).bg = { s.bg with
      ring := s.bg.ring.drop 1 ++ [e], ringBase := s.bg.ringBase + 1, lost := if s.bg.readMark ≤ s.bg.ringBase then s.bg.lost + 1 else s.bg.lost } := by
  simp only [State.appendTelem, if_neg (Nat.not_lt.mpr full), State.raiseIf]
  by_cases unread : s.bg.readMark ≤ s.bg.ringBase <;> simp [unread, State.mapBg]

end

end Sys2Proof.Machine

open Sys2Proof Sys2Proof.Machine

/-- Settles O33: the scrub word by word, then the shadow word; the telemetry slot by whether an entry waits and the ring has room for it. -/
theorem scrubAndTelemetrySlots : Obligations.ScrubAndTelemetrySlots := by
  intro s t n differs met
  refine ⟨fun due => ⟨fun clean => ⟨?compare, fun x => ?live, fun w k => ?strike⟩, fun w k one => ⟨?read, ?scrub⟩, fun w j k _ within two => ?two⟩,
    fun due x => ⟨fun none => ?none, fun e waits room => ?room, fun e waits full => ?full⟩⟩
  case compare =>
    refine ⟨_, (exec_scrubSlot_of_quiet due).trans (congrArg _ (State.scrub_of_clean (s := s.enterSlot 13 t) _ clean)), ?_⟩
    by_cases differ : (s.enterSlot 13 t).pieceDiffers (shadowPieceOf s.clk.inSec) = true
    · simp only [differs, differ, if_true]
      refine ⟨rfl, ?_, rfl⟩
      simp only [n, State.mismatched, State.raise_count]
      rfl
    · simp only [differs, differ, Bool.false_eq_true, if_false, List.append_nil]
      exact ⟨rfl, (BitVec.add_zero _).symm, trivial⟩
  case live =>
    refine ⟨_, (exec_scrubSlot [] [x] due).trans (congrArg _ (State.scrub_of_clean (s := (s.enterSlot 13 t).strikeLive x) _ clean)), ?_⟩
    split <;> exact ⟨rfl, rfl⟩
  case strike =>
    have turned : ((s.enterSlot 13 t).mapBg fun b => b.strike w k).bg.flips = [(w, k)] := by simp [State.mapBg, Background.strike, State.enterSlot, clean]
    have scrubbed := Scrubbed.scrub_of_one (s := (s.enterSlot 13 t).mapBg fun b => b.strike w k) (n := s.clk.inSec) rfl turned
    have run : exec (.scrubSlot [.strike w k] [] t) s = .next (((s.enterSlot 13 t).mapBg fun b => b.strike w k).scrubWords.checkShadow s.clk.inSec) :=
      exec_scrubSlot [.strike w k] [] due
    exact ⟨_, run, scrubbed.flips, scrubbed.corrected, scrubbed.cfg⟩
  case read =>
    have fixed : Scrubbed (s.enterSlot 13 t) ((s.enterSlot 13 t).checkWord rebuildShadow w true) [] 1 0 := .corrects one
    have scrubbed : Scrubbed (s.enterSlot 13 t) (((s.enterSlot 13 t).checkWord rebuildShadow w true).scrubWords.checkShadow s.clk.inSec) [] 1 0 := by
      have still := State.scrubWords_of_elsewhere (s := (s.enterSlot 13 t).checkWord rebuildShadow w true) (by rw [fixed.flips]; simp)
      rw [still]
      exact fixed.thenClean (by simp)
    have run : exec (.scrubSlot [.read w] [] t) s = .next (((s.enterSlot 13 t).checkWord rebuildShadow w true).scrubWords.checkShadow s.clk.inSec) :=
      exec_scrubSlot [.read w] [] due
    exact ⟨_, run, scrubbed.flips, scrubbed.corrected, scrubbed.cfg⟩
  case scrub =>
    have scrubbed := Scrubbed.scrub_of_one (s := s.enterSlot 13 t) (n := s.clk.inSec) rfl one
    exact ⟨_, exec_scrubSlot_of_quiet due, scrubbed.flips, scrubbed.corrected, scrubbed.cfg⟩
  case two =>
    have scrubbed := Scrubbed.scrub_of_two (s := s.enterSlot 13 t) (n := s.clk.inSec) rfl within two
    exact ⟨_, exec_scrubSlot_of_quiet due, scrubbed.flips, scrubbed.cfg, scrubbed.lp, scrubbed.corrected.trans (BitVec.add_zero _), scrubbed.uncorrectable⟩
  all_goals
    have run : exec (.telemetrySlot x t) s = .next ((s.enterSlot 15 t).telemSlot x) := congrArg Host.Outcome.next (State.inSlot_of_due due _)
  case none =>
    exact ⟨_, run.trans (congrArg _ (State.telemSlot_of_none (s := s.enterSlot 15 t) x none)), rfl, rfl, rfl, rfl, rfl⟩
  case room =>
    exact ⟨_, run.trans (congrArg _ ((State.telemSlot_of_entry (s := s.enterSlot 15 t) x waits).trans (State.appendTelem_of_room room))), rfl, rfl, rfl, rfl⟩
  case full =>
    refine ⟨_, run.trans (congrArg _ (State.telemSlot_of_entry (s := s.enterSlot 15 t) x waits)), ?_⟩
    rw [State.appendTelem_of_full (by exact full)]
    exact ⟨rfl, rfl, rfl, rfl⟩
end

section
/-! The store engine's slot and the flash's own ends (15 R358, R367, R372–R375): what the engine does where no timer is due, by what it has in hand. -/

namespace Sys2Proof.Machine

section
variable {s : State} {w : Writing} {ok : Bool}

/-! ### The slot where no timer is due -/

theorem State.storeTimers_of_quiet (quiet : storeQuiet s) : s.storeTimers = s := by
  obtain ⟨-, hour, model, age, retry⟩ := quiet
  rw [State.storeTimers, State.hourly_of_running hour, State.modelTimer_of_running model, State.refreshCheck_of_unasked age,
    State.compRetryIdle_of_not_due retry]

theorem State.storeSlot_of_halted (halted : s.store.halted = true) : s.storeSlot ok = s := if_pos halted

/-- Without a timer the slot is the engine's step on what it has in hand. -/
theorem State.storeSlot_of_quiet (quiet : storeQuiet s) : s.storeSlot ok = match s.store.phase with
    | .writing _ => s.stepWord ok
    | .erasing _ _ true => s.afterErase.goOn
    | .erasing _ _ false => s
    | .idle => s.goOn := by
  have runs : s.store.halted = false := quiet.1
  simp only [State.storeSlot, State.storeTimers_of_quiet quiet, runs, Bool.false_eq_true, if_false] <;> rfl

theorem State.storeSlot_of_idle (quiet : storeQuiet s) (idle : s.store.phase = .idle) : s.storeSlot ok = s.goOn := by
  rw [State.storeSlot_of_quiet quiet, idle]

theorem State.storeSlot_of_writing (quiet : storeQuiet s) (writes : s.store.phase = .writing w) : s.storeSlot ok = s.stepWord ok := by
  rw [State.storeSlot_of_quiet quiet, writes]

/-! ### The engine going on -/

theorem State.goOn_of_busy (busy : s.store.phase ≠ .idle) : s.goOn = s := if_neg busy

theorem State.goOn_of_no_job (idle : s.store.phase = .idle) (none : s.store.jobs = []) : s.goOn = s := by
  rw [State.goOn, if_pos idle, State.nextOp, none]

/-- A page write begins by buffering its page and erasing it (15 R372). -/
theorem State.goOn_of_pageWrite {j : StoreJob} {r : List StoreJob} {p off : Nat} {data : List Byte} (idle : s.store.phase = .idle) (jobs : s.store.jobs = j :: r)
    (kind : j.kind = .pageWrite p off data) :
    s.goOn = ((s.updHead fun j => { j with begun := true }).mapStore fun x => { x with buffer := flashBytes x.flash (16 * pageWord p) 256 }).startErase true p := by
  rw [State.goOn, if_pos idle, State.nextOp, jobs]
  simp only [kind]

/-- What the engine begins raises no event. -/
theorem State.nextOp_ev (k : Nat) (s : State) : (State.nextOp k s).ev = s.ev := by
  have ends (s : State) (st : BitVec 16) : (s.endStoreJob st).ev = s.ev := by
    unfold State.endStoreJob
    split <;> rfl
  have compacts (s : State) : s.startCompaction.ev = s.ev := by
    unfold State.startCompaction
    dsimp only
    split <;> rfl
  induction k generalizing s with
  | zero => rfl
  | succ k ih =>
    unfold State.nextOp
    (repeat' split) <;> simp only [ih, ends, compacts] <;> rfl

theorem State.goOn_ev (s : State) : s.goOn.ev = s.ev := by
  unfold State.goOn
  split
  · exact State.nextOp_ev _ s
  · rfl

/-! ### A word's verdict -/

/-- The verdict of a word that is programmed and that no injection turns. -/
theorem State.stepWord_of_done (writes : s.store.phase = .writing w) (issued : w.issued = true) (done : w.done = true) (plain : w.fault = none) :
    s.stepWord ok = if ok then s.wordVerified w else s.wordFailed w := by
  obtain ⟨base, words, kind, type, idx, i, d, f⟩ := w
  obtain ⟨rfl, rfl, rfl⟩ : i = true ∧ d = true ∧ f = none := ⟨issued, done, plain⟩
  have same : s.programEnd = s := by simp [State.programEnd, writes]
  simp [State.stepWord, same, writes]

/-- A verified word that is not the last is followed by the next (15 R374). -/
theorem State.wordVerified_of_more (plain : w.fault = none) (more : w.idx + 1 < w.words.length) :
    s.wordVerified w = s.mapStore fun x => { x with phase := .writing { w with idx := w.idx + 1, issued := true, done := false } } := by
  simp [State.wordVerified, plain, more]

/-- A failed word of a page has the page erased, to be written again from the buffer (15 R372). -/
theorem State.wordFailed_of_page (page : w.kind = 3) (first : s.store.restoring = false) :
    s.wordFailed w = ((s.verifyFail 3 0 (w.base + w.idx)).mapStore fun x => { x with restoring := true }).startErase true ((w.base - 1536) / 16) := by
  have kept : s.dropCommit w = s := by simp [State.dropCommit, page]
  have fails : s.pageFailed w = ((s.verifyFail 3 0 (w.base + w.idx)).mapStore fun x => { x with restoring := true }).startErase true ((w.base - 1536) / 16) :=
    if_neg (by simp [first])
  rw [State.wordFailed, kept, page, if_neg (by decide), if_neg (by decide), if_neg (by decide), fails]
  refine State.goOn_of_busy fun idle => ?_
  cases idle

/-- A failed last word of a record leaves no COMMIT (15 R358; log 95). -/
theorem State.wordFailed_of_commit (record : w.kind = 0) (last : w.idx + 1 = w.words.length) :
    s.wordFailed w = ((s.mapStore fun x => { x with flash := flashErase x.flash (16 * (w.base + w.idx)) (16 * (w.base + w.idx) + 16) }).recordFailed w).goOn := by
  have drops : s.dropCommit w = s.mapStore fun x => { x with flash := flashErase x.flash (16 * (w.base + w.idx)) (16 * (w.base + w.idx) + 16) } := by
    simp [State.dropCommit, record, last]
  simp [State.wordFailed, drops, record]

theorem State.verifyFail_count (s : State) (kind type a : Nat) :
    ((s.verifyFail kind type a).ev.srcs.getD Ev.storeVerifyFail {}).count = (s.ev.srcs.getD Ev.storeVerifyFail {}).count + 1 := by
  rw [State.verifyFail, State.raise_count, if_pos ⟨rfl, by decide⟩]

theorem State.recordFailed_ev (s : State) (w : Writing) : (s.recordFailed w).ev = (s.verifyFail 0 w.type (w.base + w.idx)).ev := by
  unfold State.recordFailed State.endStoreJob
  dsimp only
  (repeat' split) <;> rfl

/-! ### The flash's own ends -/

theorem State.programEnd_of_flight (writes : s.store.phase = .writing w) (issued : w.issued = true) (flight : w.done = false) :
    s.programEnd = s.mapStore fun x => { x with
      flash := flashProgram x.flash (16 * (w.base + w.idx)) (w.words.getD w.idx []), phase := .writing { w with done := true } } := by
  simp [State.programEnd, writes, issued, flight]

theorem State.programEnd_of_idle (idle : s.store.phase = .idle) : s.programEnd = s := by simp [State.programEnd, idle]

theorem State.eraseEnd_of_idle (idle : s.store.phase = .idle) : s.eraseEnd = s := by simp [State.eraseEnd, idle]

theorem State.warnWear_store (s : State) (count what : Nat) : (s.warnWear count what).store = s.store ∧ (s.warnWear count what).cfg = s.cfg := by
  unfold State.warnWear
  (repeat' split) <;> exact ⟨rfl, rfl⟩

/-- The end of a page's erase leaves its 256 bytes erased (15 R374). -/
theorem State.eraseEnd_of_page {p : Nat} (erases : s.store.phase = .erasing true p false) :
    s.eraseEnd.store.flash = flashErase s.store.flash (16 * pageWord p) (16 * pageWord p + 256) ∧ s.eraseEnd.store.phase = .erasing true p true ∧
      s.eraseEnd.cfg = s.cfg := by
  unfold State.eraseEnd
  simp only [erases]
  split
  · exact ⟨rfl, rfl, rfl⟩
  · simp only [State.warnWear_store]
    exact ⟨rfl, rfl, rfl⟩

/-- An erase that is no restore's is counted for its page (15 R373). -/
theorem State.eraseEnd_counts {p : Nat} (small : p < 32) (erases : s.store.phase = .erasing true p false) (own : s.store.restoring = false) :
    (s.eraseEnd.store.wear.getD p {}).erases = (s.store.wear.getD p {}).erases + 1 := by
  unfold State.eraseEnd
  simp only [erases, own, Bool.false_eq_true, if_false, State.warnWear_store]
  exact congrArg Wear.erases (Vec_getD_upd_same s.store.wear p _ {} small)

end

end Sys2Proof.Machine

open Sys2Proof Sys2Proof.Machine

/-- Settles O41: the slot by what the engine has in hand, a word's verdict by what it belongs to, and the flash's ends by what they end. -/
theorem storeEngineProgramsAndErases : Obligations.StoreEngineProgramsAndErases := by
  intro s t
  have programs : exec (.flashWordProgramEnd t) s = .next (s.setNow t).programEnd := rfl
  have erased (free : s.store.saving = none) : exec (.flashEraseEnd t) s = .next (s.setNow t).eraseEnd := congrArg _ (if_neg (by simp [free]))
  refine ⟨fun due => ?_, fun w writes issued flight => ?_, fun idle => ⟨?_, ?_⟩, fun saving => ?_, fun p small free erases own => ?_,
    fun ok p small free erases => ?_⟩
  · have run {ok : Bool} {x : State} (h : (s.enterSlot 10 t).storeSlot ok = x) : exec (.storeEngineSlot ok t) s = .next x :=
      (congrArg Host.Outcome.next (State.inSlot_of_due due _)).trans (congrArg _ h)
    have verdict {w : Writing} (ok : Bool) (quiet : storeQuiet s) (writes : s.store.phase = .writing w) (issued : w.issued = true) (done : w.done = true)
        (plain : w.fault = none) : (s.enterSlot 10 t).storeSlot ok = if ok then (s.enterSlot 10 t).wordVerified w else (s.enterSlot 10 t).wordFailed w :=
      (State.storeSlot_of_writing (s := s.enterSlot 10 t) quiet writes).trans (State.stepWord_of_done writes issued done plain)
    refine ⟨fun ok halted => run (State.storeSlot_of_halted halted), fun ok quiet idle none => ?_, fun ok j p off data quiet idle jobs kind => ?_,
      fun w quiet writes issued done plain more => ?_, fun w quiet writes issued done plain page first => ?_,
      fun w quiet writes issued done plain record last => ?_⟩
    · exact run ((State.storeSlot_of_idle (s := s.enterSlot 10 t) quiet idle).trans (State.goOn_of_no_job idle none))
    · exact ⟨_, run ((State.storeSlot_of_idle (s := s.enterSlot 10 t) quiet idle).trans (State.goOn_of_pageWrite idle jobs kind)), rfl, rfl, rfl⟩
    · exact ⟨_, run ((verdict true quiet writes issued done plain).trans (State.wordVerified_of_more plain more)), rfl, rfl, rfl⟩
    · exact ⟨_, run ((verdict false quiet writes issued done plain).trans (State.wordFailed_of_page page first)), rfl, rfl, State.verifyFail_count _ _ _ _⟩
    · refine ⟨_, run ((verdict false quiet writes issued done plain).trans (State.wordFailed_of_commit record last)), ?_, ?_⟩
      · rw [(State.goOn_frame _).2.1, (State.recordFailed_frame _ _).2.1]
        rfl
      · rw [State.goOn_ev, State.recordFailed_ev]
        exact State.verifyFail_count _ _ _ _
  · exact programs.trans (congrArg _ (State.programEnd_of_flight (s := s.setNow t) writes issued flight))
  · exact programs.trans (congrArg _ (State.programEnd_of_idle (s := s.setNow t) idle))
  · refine congrArg Host.Outcome.next ((congrArg (ite _ _) (State.eraseEnd_of_idle (s := s.setNow t) idle)).trans (ite_self _))
  · exact congrArg _ (if_pos (Option.isSome_iff_ne_none.mpr saving))
  · obtain ⟨flash, phase, cfg⟩ := State.eraseEnd_of_page (s := s.setNow t) erases
    exact ⟨_, erased free, phase, flash, State.eraseEnd_counts (s := s.setNow t) small erases own, cfg⟩
  · obtain ⟨flash, -, -⟩ := State.eraseEnd_of_page (s := s.setNow t) erases
    refine ⟨_, erased free, fun a => ?_⟩
    rw [flash]
    exact flashRead_erase _ _ _ _ ok
end

section
/-! The causes of a full restart (15 R359; 18 R410–R416): what reset leaves while it is held, and when each cause comes to it. -/

namespace Sys2Proof.Machine

variable {s : State}

/-- A bank erase that a reset with power cuts has erased pages of the bank from its first on (15 R359). -/
theorem State.enterReset_flash_of_erasing {c b : Nat} (powered : c ≠ 0) (erases : s.store.phase = .erasing false b false) :
    (s.enterReset c).store.flash =
      flashErase s.store.flash (16 * bankWord (b = 1)) (16 * bankWord (b = 1) + 256 * (Config.erasedPages s.freeN % 49)) := by
  have cut : (s.storeThrough (decide (c = 0))).store.flash = s.eraseCut.store.flash := by
    rw [decide_eq_false powered]
    rfl
  refine (show (s.enterReset c).store.flash = _ from cut).trans ?_
  unfold State.eraseCut
  rw [erases]
  rfl

/-- Reset is held with its cause, and everything but the straps, the pads, NPFAIL and the store stands at its reset value (18 R411, R414). -/
theorem State.enterReset_held (s : State) (c : Nat) : heldInReset c s (s.enterReset c) := by
  refine ⟨rfl, rfl, rfl, rfl, rfl, rfl, rfl, rfl, rfl, rfl, rfl, rfl, rfl, rfl, s.enterReset_host c, rfl, fun n small => ?_,
    State.storeThrough_keeps (·.pow.npfail) s _ (fun _ _ => rfl) fun _ => rfl, fun powered idle => s.enterReset_flash c powered idle, fun b powered erases => ?_⟩
  · have cleared : (s.enterReset c).pin n = { pad := (s.pin n).pad } := by
      rw [State.pin, State.enterReset_pins]
      exact Vec_getD_map (fun p : PinSt => ({ pad := p.pad } : PinSt)) s.pins n {} {} small
    rw [cleared]
    exact ⟨rfl, rfl⟩
  · exact ⟨_, Nat.le_of_lt_succ (Nat.mod_lt _ (by decide)), State.enterReset_flash_of_erasing powered erases⟩

theorem nresetCounts_of_long {ns : Nat} (long : 1000 ≤ ns) : nresetCounts ns = true := by simp [nresetCounts, long]

theorem nresetCounts_of_short {ns : Nat} (short : ns < 100) : nresetCounts ns = false := by
  simp only [nresetCounts, Bool.or_eq_false_iff, Bool.and_eq_false_iff, decide_eq_false_iff_not]
  exact ⟨by omega, .inl (by omega)⟩

theorem State.allLow_iff (s : State) : s.allLow = true ↔ ∀ o < 16, (s.out o).running = false ∧ (s.out o).lowAt ≤ s.instant := by
  simp [State.allLow]

theorem exec_pinReset (s : State) (ns : Nat) : exec (.pinReset ns) s =
    if !nresetCounts ns then .next s else if s.store.saving.isSome then .next { s with pow := { s.pow with pinWait := true } } else .next (s.enterReset 1) := rfl

theorem exec_watchdogExpiry (s : State) : exec .watchdogExpiry s =
    .next (if s.pow.held || s.pow.npfail || s.pow.state = .sleep || s.pow.wdMissed < 62 then s else s.enterReset 2) := rfl

/-- A soft reset that is due acts once no save runs and its outputs are low or its second has passed (18 R415). -/
theorem exec_softResetExecution_of_due {c : Nat} (t : Nat) (due : s.pow.softReset = some c) :
    exec (.softResetExecution t) s = .next (if s.store.saving.isNone && ((s.setNow t).allLow || c + secondFs ≤ (s.setNow t).instant) then
      (s.setNow t).enterReset 3 else s.setNow t) := by
  simp only [exec, execSoftResetExecution, State.setNow_pow, due]
  rfl

theorem exec_softResetExecution_of_none (t : Nat) (none : s.pow.softReset = none) : exec (.softResetExecution t) s = .next (s.setNow t) := by
  simp only [exec, execSoftResetExecution, State.setNow_pow, none]

end Sys2Proof.Machine

open Sys2Proof Sys2Proof.Machine

/-- Settles O20, cause by cause: each comes to the reset that `State.enterReset_held` describes, or waits, or is none. -/
theorem resetsHoldTheDevice : Obligations.ResetsHoldTheDevice := by
  intro s
  refine ⟨⟨_, rfl, s.enterReset_held 0⟩, fun ns long free => ⟨_, ?_, s.enterReset_held 1⟩, fun ns long saving => ?_, fun ns short => ?_,
    fun free power awake missed => ⟨_, ?_, s.enterReset_held 2⟩, fun paused => ?_, fun c t due free low => ⟨_, ?_, (s.setNow t).enterReset_held 3⟩,
    fun c t due waits => ?_, fun t none => exec_softResetExecution_of_none t none, fun t => State.allLow_iff _⟩
  · rw [exec_pinReset, nresetCounts_of_long long]
    simp [free]
  · rw [exec_pinReset, nresetCounts_of_long long, if_neg (by decide), if_pos (Option.isSome_iff_ne_none.mpr saving)]
  · rw [exec_pinReset, nresetCounts_of_short short]
    rfl
  · rw [exec_watchdogExpiry, if_neg (by simp [free, power, awake, missed])]
  · rw [exec_watchdogExpiry, if_pos (by rcases paused with h | h <;> simp [h])]
  · rw [exec_softResetExecution_of_due t due, if_pos (by simpa [free] using low)]
  · rw [exec_softResetExecution_of_due t due, if_neg ?_]
    rintro both
    simp only [Bool.and_eq_true, Option.isNone_iff_eq_none, Bool.or_eq_true, decide_eq_true_eq] at both
    obtain ⟨free, low⟩ := both
    rcases waits with saving | ⟨high, early⟩
    · exact saving free
    · exact low.elim (fun h => Bool.false_ne_true (high.symm.trans h)) (not_le.mpr early)
end

section
/-! Release of reset (18 R410, R416–R418): the straps, the hold that ends, and what the firmware's steps leave alone. -/

namespace Sys2Proof.Machine

/-- What start-up leaves as reset's end has left it: the power state but for the events that wait, the clock, tally, outputs, pens and pins, the DPLL's state and
the straps. -/
def State.released (s : State) :=
  ({ s.pow with bootEvents := [] }, s.clk, s.tally, s.outs, s.pens, s.pins, s.lp.state, s.host.straps)

section
variable (s : State) (l : List Item)

theorem State.recoverStore_released : s.recoverStore.released = s.released := by
  unfold State.recoverStore
  split <;> rfl

theorem State.loadPatch_released : (s.loadPatch l).released = s.released := by
  unfold State.loadPatch
  split
  · rfl
  · split
    · rfl
    · dsimp only
      (repeat' split) <;> rfl

theorem State.loadCounters_released (img rec_ : Option Item) : (s.loadCounters img rec_).released = s.released := by
  unfold State.loadCounters
  (repeat' split) <;> rfl

theorem State.loadWear_released (img : Option Item) : (s.loadWear l img).released = s.released := rfl

theorem State.loadHotSet_released : (s.loadHotSet l).released = s.released := by
  unfold State.loadHotSet
  extract_lets valid images img rec_ model s1 s2 s3
  clear_value model img
  have h1 : s1.released = s.released := by
    unfold s1
    (repeat' split) <;> rfl
  have h2 : s2.released = s.released := (State.loadWear_released _ _ _).trans ((s1.loadCounters_released _ _).trans h1)
  have h3 : s3.released = s.released := by
    unfold s3
    (repeat' split) <;> exact h2
  (repeat' split) <;> exact h3

theorem State.loadSsct_released : (s.loadSsct l).released = s.released := by
  unfold State.loadSsct
  split <;> rfl

theorem State.loadKey_released : (s.loadKey l).released = s.released := by
  unfold State.loadKey
  split <;> rfl

theorem State.loadConfig_released : (s.loadConfig l).released = s.released := by
  unfold State.loadConfig
  split <;> rfl

theorem State.startUp_released : s.startUp.released = s.released := by
  unfold State.startUp
  extract_lets s1 scan l top s2 s3 s4
  have loaded : s3.released = s.released :=
    (State.loadConfig_released _ l).trans <| (State.loadKey_released _ l).trans <| (State.loadSsct_released _ l).trans <|
      (State.loadHotSet_released _ scan.1).trans <| (State.loadPatch_released s2 l).trans s.recoverStore_released
  clear_value s3
  exact loaded

/-- The straps are sampled after a power-on or pin reset only (18 R410). -/
theorem State.sampleStraps_eq (a b : Bool) : s.sampleStraps a b = { s with host := { s.host with
    straps := if s.pow.cause ≤ 1 then BitVec.ofNat 2 (b2n a + 2 * b2n b) else s.host.straps } } := by
  unfold State.sampleStraps
  split <;> rfl

/-- The shadow holds the settings that start-up has loaded (18 R417). -/
theorem State.startUp_shadow : s.startUp.shadow = s.startUp.cfg := by
  unfold State.startUp
  extract_lets s1 scan l top s2 s3 s4
  clear_value s4
  rfl

end

end Sys2Proof.Machine

open Sys2Proof Sys2Proof.Machine

/-- Settles O21: release ends the hold, and start-up leaves what it has made of the power state. -/
theorem resetReleaseStartsTheDevice : Obligations.ResetReleaseStartsTheDevice := by
  intro s a b
  refine ⟨fun free => congrArg Host.Outcome.next (if_neg (by simp [free])), fun held => ⟨_, congrArg Host.Outcome.next (if_pos held), ?_⟩⟩
  have kept := (s.sampleStraps a b).leaveReset.startUp_released
  have shadow := (s.sampleStraps a b).leaveReset.startUp_shadow
  generalize (s.sampleStraps a b).leaveReset.startUp = x at kept shadow ⊢
  rw [State.sampleStraps_eq] at kept
  simp only [State.released, Prod.mk.injEq] at kept
  obtain ⟨pow, clk, tally, outs, pens, pins, state, straps⟩ := kept
  have field {α : Type} (f : Power → α) := congrArg f pow
  have closed : x.pow.opened = false := field Power.opened
  have boundaries : x.pow.bootIn = Config.bootFolds s.freeN % 65 := field Power.bootIn
  refine ⟨field Power.held, by simp [State.ifaceOpen, closed], field Power.booting, ?_, field Power.suspended, field Power.npfail, clk, tally, outs, pens, pins,
    state, shadow, straps⟩
  rw [boundaries]
  exact Nat.le_of_lt_succ (Nat.mod_lt _ (by decide))
end

section
/-! Crook actions (14 R344–R347): what a source asks, and the refusals. A command that meets a cause changes REFUSED and LAST and raises its event; everything
else of the lane is decided by `crookCause`, whose first cause that holds is the one reported. -/

namespace Sys2Proof.Machine

/-- What the hardware sees of a source before its action: of a pin, its new level. -/
def State.sees (s : State) : CrookSrc → State
  | .frame _ => s
  | .pin n level => s.updPin n fun p => { p with pad := level }

/-- A source that the lane serves: a frame of twelve bytes, or a pin while the pins have their functions (14 R345; 17 R405). -/
structure State.ServesCrook (s : State) (src : CrookSrc) : Prop where
  frame : ∀ b, src = .frame b → b.length = 12
  pin : ∀ n l, src = .pin n l → s.pinsRun = true

/-- The form faults of a frame besides its CRC: a reserved field, or a reserved action or flock (14 R345, R347). -/
def ReservedCrook (b : List Byte) : Prop :=
  fld b 0 1 / 16 % 4 ≠ 0 ∨ fld b 1 1 ≠ 0 ∨ fld b 4 6 ≠ 0 ∨ (decodeCrook b).code = 0 ∨ 5 < (decodeCrook b).code ∨
    (fld b 2 2 ≠ 0 ∧ (decodeCrook b).code ≠ 2 ∧ (decodeCrook b).code ≠ 3)

section
variable {s : State} {code : Nat} {src : CrookSrc} {c : CrookCmd} {fire : CrookCmd → State → State}

/-! ### What a source asks -/

theorem State.crookAct_of_command (opened : s.ifaceOpen = true) (serves : s.ServesCrook src) (asks : s.crookCmd code src = some c) :
    s.crookAct code src fire = (s.sees src).crookGo c fire := by
  cases src with
  | frame b => simp [State.crookAct, opened, asks, serves.frame b rfl, State.sees]
  | pin n level => simp [State.crookAct, serves.pin n level rfl, asks, State.sees]

theorem State.crookAct_of_silence (opened : s.ifaceOpen = true) (serves : s.ServesCrook src) (asks : s.crookCmd code src = none) :
    s.crookAct code src fire = s.sees src := by
  cases src with
  | frame b => simp [State.crookAct, opened, asks, serves.frame b rfl, State.sees]
  | pin n level => simp [State.crookAct, serves.pin n level rfl, asks, State.sees]

theorem State.crookAct_of_length {b : List Byte} (opened : s.ifaceOpen = true) (length : b.length ≠ 12) :
    s.crookAct code (.frame b) fire = { s with host := { s.host with badInstr := s.host.badInstr + 1 } } := by
  cases asks : s.crookCmd code (.frame b) <;> simp [State.crookAct, opened, asks, length]

theorem State.crookAct_of_pins_off {n : Fin 24} {l : Bool} (off : s.pinsRun = false) : s.crookAct code (.pin n l) fire = s := by
  simp [State.crookAct, off]

theorem State.crookGo_of_cause (cause : s.crookCause c ≠ 0) :
    s.crookGo c fire = (s.updCrook c.pen fun k => { k with refused := true, last := if 1 ≤ c.code ∧ c.code ≤ 5 then c.code else k.last }).raiseFrom
      Ev.crookRefused (crookDetail c (if s.crookCause c = 1 ∨ s.crookCause c = 2 then c.flock else s.crookFlock c) (s.crookCause c)) := by
  simp [State.crookGo, cause]

/-- A pin's level has no part in the decision. -/
theorem State.crookCause_sees (s : State) (src : CrookSrc) (c : CrookCmd) : (s.sees src).crookCause c = s.crookCause c := by
  cases src <;> rfl

theorem State.crookFlock_sees (s : State) (src : CrookSrc) (c : CrookCmd) : (s.sees src).crookFlock c = s.crookFlock c := by
  cases src <;> rfl

/-- A command that meets a cause changes no more than REFUSED and LAST, and raises CROOK_REFUSED. -/
theorem State.crookAct_of_cause (opened : s.ifaceOpen = true) (serves : s.ServesCrook src) (cause : s.crookCause c ≠ 0) (asks : s.crookCmd code src = some c) :
    s.crookAct code src fire =
      ((s.sees src).updCrook c.pen fun k => { k with refused := true, last := if 1 ≤ c.code ∧ c.code ≤ 5 then c.code else k.last }).raiseFrom
        Ev.crookRefused (crookDetail c (if s.crookCause c = 1 ∨ s.crookCause c = 2 then c.flock else s.crookFlock c) (s.crookCause c)) := by
  rw [State.crookAct_of_command opened serves asks, State.crookGo_of_cause (by rwa [State.crookCause_sees]), State.crookCause_sees, State.crookFlock_sees]

/-- A pin asks only in the CROOK function, with its own action, at the edge that its EDGE bit names (17 R391). -/
theorem State.crookCmd_pin_isSome (s : State) (n : Fin 24) (l : Bool) (code : Nat) :
    (s.crookCmd code (.pin n l)).isSome = true ↔ (s.pinCfg n).func = 3 ∧ (s.pinCfg n).sub.toNat % 16 = code ∧ (s.pinCfg n).sub.getLsbD 4 ≠ l := by
  simp only [State.crookCmd]
  split
  case isTrue other =>
    simp only [Bool.or_eq_true, decide_eq_true_eq] at other
    simp only [Option.isSome_none, Bool.false_eq_true, false_iff]
    tauto
  case isFalse own =>
    simp only [Bool.or_eq_true, decide_eq_true_eq] at own
    simp only [Option.isSome_some, true_iff]
    tauto

theorem State.crookCmd_pin {n : Fin 24} {l : Bool} (asks : s.crookCmd code (.pin n l) = some c) :
    c.fault = 0 ∧ c.pin = true ∧ c.code = code ∧ c.pen = Fin.ofNat 4 ((s.pinCfg n).sub.toNat / 32) := by
  simp only [State.crookCmd] at asks
  split at asks
  case isTrue => cases asks
  case isFalse => cases asks; exact ⟨rfl, rfl, rfl, rfl⟩

/-! ### The form of a frame -/

theorem ofLe_eq_zero (l : List Byte) : ofLe l = 0 ↔ ∀ b ∈ l, b = 0 := by
  induction l with
  | nil => simp [ofLe]
  | cons b l ih =>
    have byte : b.toNat = 0 ↔ b = 0 := ⟨fun h => BitVec.eq_of_toNat_eq h, fun h => h ▸ rfl⟩
    simp only [ofLe, List.forall_mem_cons, ← ih, ← byte]
    omega

theorem zeros_iff (p : List Byte) (o n : Nat) : zeros p o n = true ↔ fld p o n = 0 := by
  simp [zeros, fld, ofLe_eq_zero]

theorem decodeCrook_fault (b : List Byte) [Decidable (ReservedCrook b)] :
    (decodeCrook b).fault = if crc16 (b.take 10) ≠ fld b 10 2 then 1 else if ReservedCrook b then 2 else 0 := by
  have zero (o n : Nat) : zeros b o n = false ↔ fld b o n ≠ 0 := by rw [← Bool.not_eq_true, zeros_iff]
  have same : (fld b 0 1 / 16 % 4 ≠ 0 || !zeros b 1 1 || !zeros b 4 6 || fld b 0 1 % 16 = 0 || 5 < fld b 0 1 % 16 ||
      (fld b 2 2 ≠ 0 && fld b 0 1 % 16 ≠ 2 && fld b 0 1 % 16 ≠ 3)) = true ↔ ReservedCrook b := by
    simp only [ReservedCrook, decodeCrook, Bool.or_eq_true, Bool.and_eq_true, Bool.not_eq_true', decide_eq_true_eq, zero]
    tauto
  simp only [decodeCrook, same]

/-! ### The cause of a refusal (14 R347) -/

theorem State.crookCause_of_fault (fault : c.fault ≠ 0) : s.crookCause c = c.fault := if_pos fault

theorem State.crookCause_of_idle (fault : c.fault = 0) (idle : (s.penSt c.pen).state ≠ .active) : s.crookCause c = 3 := by
  simp only [State.crookCause]
  rw [if_neg (by simp [fault]), if_pos idle]

theorem State.crookCause_of_busy (fault : c.fault = 0) (active : (s.penSt c.pen).state = .active) (busy : s.instant < (s.crook.getD c.pen {}).busyTo) :
    s.crookCause c = 4 := by
  simp only [State.crookCause]
  rw [if_neg (by simp [fault]), if_neg (by simp [active]), if_pos busy]

/-- What is left to refuse of a command that its pen may give now. -/
theorem State.crookCause_of_free (fault : c.fault = 0) (active : (s.penSt c.pen).state = .active) (free : (s.crook.getD c.pen {}).busyTo ≤ s.instant) :
    s.crookCause c =
      if (c.code = 1 && (s.crookEntry c.pen).isNone) || (c.code = 5 && (s.crook.getD c.pen {}).gather.isNone) then 5
      else if (c.code = 2 || c.code = 3) && (if c.pin then c.flock = 0 else !((flockOuts c.flock).all fun o => s.owner o = c.pen)) then 6
      else if c.code = 4 && c.pen ≠ 0 then 7 else 0 := by
  simp only [State.crookCause]
  rw [if_neg (by simp [fault]), if_neg (by simp [active]), if_neg (by omega)]

theorem State.crookCause_of_sound (fault : c.fault = 0) : s.crookCause c ≠ 1 ∧ s.crookCause c ≠ 2 := by
  simp only [State.crookCause]
  rw [if_neg (by simp [fault])]
  constructor <;> (repeat' split) <;> decide

/-- The first form fault that a frame has is its cause. -/
theorem State.crookCause_frame (s : State) (b : List Byte) :
    (s.crookCause (decodeCrook b) = 1 ↔ crc16 (b.take 10) ≠ fld b 10 2) ∧
    (s.crookCause (decodeCrook b) = 2 ↔ crc16 (b.take 10) = fld b 10 2 ∧ ReservedCrook b) ∧
    ((decodeCrook b).fault = 0 ↔ crc16 (b.take 10) = fld b 10 2 ∧ ¬ReservedCrook b) := by
  classical
  have fault := decodeCrook_fault b
  by_cases crc : crc16 (b.take 10) = fld b 10 2
  case neg =>
    rw [if_pos crc] at fault
    rw [State.crookCause_of_fault (by omega), fault]
    simp [crc]
  case pos =>
    rw [if_neg (by simp [crc])] at fault
    by_cases reserved : ReservedCrook b
    case pos =>
      rw [if_pos reserved] at fault
      rw [State.crookCause_of_fault (by omega), fault]
      simp [crc, reserved]
    case neg =>
      rw [if_neg reserved] at fault
      have sound := State.crookCause_of_sound (s := s) fault
      simp [crc, reserved, fault, sound]

/-- The causes that depend on the device, in the order of 14 R347. -/
theorem State.crookCause_device (fault : c.fault = 0) :
    ((s.penSt c.pen).state ≠ .active → s.crookCause c = 3) ∧
    ((s.penSt c.pen).state = .active →
      (s.instant < (s.crook.getD c.pen {}).busyTo → s.crookCause c = 4) ∧
      ((s.crook.getD c.pen {}).busyTo ≤ s.instant →
        (c.code = 1 → (s.crookCause c = 5 ↔ s.crookEntry c.pen = none)) ∧
        (c.code = 5 → (s.crookCause c = 5 ↔ (s.crook.getD c.pen {}).gather = none)) ∧
        (c.code = 2 ∨ c.code = 3 → c.pin = false → (s.crookCause c = 6 ↔ ∃ o ∈ flockOuts c.flock, s.owner o ≠ c.pen)) ∧
        (c.code = 2 ∨ c.code = 3 → c.pin = true → (s.crookCause c = 6 ↔ c.flock = 0)) ∧
        (c.code = 4 → (s.crookCause c = 7 ↔ c.pen ≠ 0)))) := by
  refine ⟨State.crookCause_of_idle fault, fun active => ⟨State.crookCause_of_busy fault active, fun free => ?_⟩⟩
  rw [State.crookCause_of_free fault active free]
  refine ⟨fun code => ?_, fun code => ?_, fun code frame => ?_, fun code pin => ?_, fun code => ?_⟩
  · cases loaded : s.crookEntry c.pen <;> simp [code]
  · cases loaded : (s.crook.getD c.pen {}).gather <;> simp [code]
  · rcases code with code | code <;> simp [code, frame]
  · rcases code with code | code <;> simp [code, pin]
  · simp [code]

/-- What holds of the lane whatever the action holds of its five rows. -/
theorem exec_crook_rows {t : Nat} {r : State} {P : Nat → Prop} (acts : ∀ code fire, P code → (s.setNow t).crookAct code src fire = r) :
    (P 1 → exec (.stepFlock src t) s = .next r) ∧ (P 2 → exec (.gateOn src t) s = .next r) ∧ (P 3 → exec (.gateOff src t) s = .next r) ∧
    (P 4 → exec (.freeze src t) s = .next r) ∧ (P 5 → exec (.gatherNow src t) s = .next r) :=
  ⟨fun asks => congrArg Host.Outcome.next (acts 1 _ asks), fun asks => congrArg Host.Outcome.next (acts 2 _ asks),
    fun asks => congrArg Host.Outcome.next (acts 3 _ asks), fun asks => congrArg Host.Outcome.next (acts 4 _ asks),
    fun asks => congrArg Host.Outcome.next (acts 5 _ asks)⟩

end
end Sys2Proof.Machine

open Sys2Proof Sys2Proof.Machine

/-- Settles O18: the lane's own case analysis, with the cause read off the order of 14 R347. -/
theorem crookActionsRefused : Obligations.CrookActionsRefused := by
  intro s t opened
  refine ⟨fun src c frame pin cause => ?_, fun b length => ?_, fun n l off => ?_, fun src frame pin => ?_, fun n l code => ?_, fun b _ => ?_,
    fun n l code c asks => State.crookCmd_pin asks, fun c fault => State.crookCause_device fault⟩
  · have rows := exec_crook_rows (s := s) (t := t) fun code fire => State.crookAct_of_cause (fire := fire) opened ⟨frame, pin⟩ cause
    cases src <;> exact rows
  · have rows := exec_crook_rows (s := s) (t := t) fun code fire (_ : True) => State.crookAct_of_length (code := code) (fire := fire) opened length
    simpa using rows
  · have rows := exec_crook_rows (s := s) (t := t) fun code fire (_ : True) => State.crookAct_of_pins_off (code := code) (n := n) (l := l) (fire := fire) off
    simpa using rows
  · have rows := exec_crook_rows (s := s) (t := t) fun code fire => State.crookAct_of_silence (fire := fire) opened ⟨frame, pin⟩
    cases src <;> exact rows
  · exact State.crookCmd_pin_isSome _ n l code
  · exact State.crookCause_frame _ b

end

section
/-! Settings groups read back (13 R302). A field of a packet, written out again in its own width, is the bytes it was read from, so a group whose settings are the
packet's fields spells the packet; what is left is that each commit leaves those settings as the packet has them. -/

namespace Sys2Proof.Machine

/-! ### A field is the bytes it was read from (00 R4) -/

theorem le_ofLe (l : List Byte) : le l.length (ofLe l) = l := by
  induction l with
  | nil => rfl
  | cons b l ih =>
    have byte : BitVec.ofNat 8 (b.toNat + 256 * ofLe l) = b := BitVec.eq_of_toNat_eq (by have := b.isLt; simp; omega)
    have rest : (b.toNat + 256 * ofLe l) / 256 = ofLe l := by have := b.isLt; omega
    rw [List.length_cons, ofLe, le, byte, rest, ih]

theorem ofLe_lt (l : List Byte) : ofLe l < 256 ^ l.length := by
  induction l with
  | nil => simp [ofLe]
  | cons b l ih =>
    have := b.isLt
    rw [ofLe, List.length_cons, pow_succ']
    omega

section
variable {p : List Byte} {o n : Nat}

theorem length_cut (fits : o + n ≤ p.length) : ((p.drop o).take n).length = n := by simp; omega

theorem fld_lt (fits : o + n ≤ p.length) : fld p o n < 256 ^ n := by
  have small := ofLe_lt ((p.drop o).take n)
  rwa [length_cut fits] at small

theorem le_fld (fits : o + n ≤ p.length) : le n (fld p o n) = (p.drop o).take n := by
  have whole := le_ofLe ((p.drop o).take n)
  rwa [length_cut fits] at whole

theorem leI_fldI (fits : o + n ≤ p.length) : leI n (fldI p o n) = (p.drop o).take n := by
  have small := fld_lt fits
  have pattern : (fldI p o n % (256 ^ n : Int)).toNat = fld p o n := by
    have cast : ((fld p o n : Int) % (256 ^ n : Int)).toNat = fld p o n := by
      rw [Int.emod_eq_of_lt (by omega) (by exact_mod_cast small)]; rfl
    simp only [fldI]
    split
    · rw [Int.sub_emod_right, cast]
    · exact cast
  rw [leI, pattern, le_fld fits]

/-- A flag in a byte of 0 or 1. -/
theorem le_flag (fits : o + 1 ≤ p.length) (flag : fld p o 1 ≤ 1) : le 1 (b2n (decide (fld p o 1 = 1))) = (p.drop o).take 1 := by
  have value : b2n (decide (fld p o 1 = 1)) = fld p o 1 := by
    by_cases set : fld p o 1 = 1 <;> simp [b2n, set]; omega
  rw [value, le_fld fits]

/-- A field in `w` bits that holds all of its bytes. -/
theorem le_ofNat {w : Nat} (fits : o + n ≤ p.length) (small : fld p o n < 2 ^ w) : le n (BitVec.ofNat w (fld p o n)).toNat = (p.drop o).take n := by
  rw [BitVec.toNat_ofNat, Nat.mod_eq_of_lt small, le_fld fits]

/-- A reserved field. -/
theorem le_zeros (fits : o + n ≤ p.length) (zero : zeros p o n = true) : le n 0 = (p.drop o).take n := by
  rw [← le_fld fits, (zeros_iff p o n).mp zero]

end

/-- Two flags of a byte below 4. -/
theorem b2n_bits {v : Nat} (small : v < 4) : b2n (bit v 0) + 2 * b2n (bit v 1) = v := by
  interval_cases v <;> rfl

/-! ### What the commits leave of the settings -/

section
variable {β : Type} (g : State → β) (blind : ∀ s o f, g (State.updOut s o f) = g s)
include blind

theorem State.putBy_keeps (s : State) (o edge : Nat) : g (s.putBy o edge) = g s := by
  simp only [State.putBy]
  split
  · rfl
  · exact blind _ _ _

/-- What no output holds, an output's start and stop leave alone. -/
theorem State.setRunningAt_keeps (s : State) (o t low : Nat) (again : Bool) : g (s.setRunningAt o t low again) = g s := by
  rw [State.setRunningAt]
  split
  · rw [blind, State.settle_keeps g blind]
  split
  · rfl
  split
  · rfl
  · rw [blind, State.putBy_keeps g blind, State.settle_keeps g blind]

end

variable {q : Call} {s : State}

theorem commitVco_fvco : (commitVco q s).cfg.fvco = fld q.params 0 8 := by
  unfold commitVco
  split
  case isTrue same => exact same.symm
  case isFalse => rfl

theorem commitPaddock_pads (k : fld q.params 0 1 < 4) : (commitPaddock q s).cfg.pads.getD (fld q.params 0 1) {} =
    { prediv := fld q.params 1 1, vddo := fld q.params 2 1 } := Vec_getD_upd_same _ _ _ _ k

theorem commitOut_outCfg (small : fld q.params 0 1 < 16) : ∃ c : OutCfg, (commitOut q s).outCfg (fld q.params 0 1) =
    { c with config := BitVec.ofNat 32 (fld q.params 4 4), div := fld q.params 8 4, period := fld q.params 12 4, width := fld q.params 16 4 } := by
  unfold commitOut
  extract_lets p o t old new low s1 s2
  have cfg : (s2.setRunningAt o t low (old.format ≠ 0 && new.format ≠ 0 && old.format ≠ new.format)).cfg = setOut p s1.cfg :=
    State.setRunningAt_keeps (·.cfg) (fun _ _ _ => rfl) _ _ _ _ _
  rw [State.outCfg, cfg]
  exact ⟨_, Vec_getD_upd_same _ _ _ _ small⟩

theorem commitAlign_outCfg (o : fld q.params 0 1 < 16) : ∃ c : OutCfg, (commitAlign q s).outCfg (fld q.params 0 1) =
    { c with alignCount := fld q.params 2 2, alignOffset := fldI q.params 4 8 } := ⟨_, Vec_getD_upd_same _ _ _ _ o⟩

theorem commitSsct_cfg : (commitSsct q s).cfg.ssct = { mode := fld q.params 0 1, ref5 := decide (fld q.params 1 1 = 1), shift := fld q.params 2 1 } := by
  simp only [commitSsct]
  (repeat' split) <;> rfl

theorem commitCommons_cfg : (commitCommons q s).cfg.com = setCommons q.params s.cfg.com := by
  have forgets (s : State) : s.macForget.cfg = s.cfg := (State.macForget_keeps s).2.1
  simp only [commitCommons]
  (repeat' split) <;> simp [forgets]

theorem commitDrove_cfg : (commitDrove q s).cfg.drv = drvCfgOf q.params := by
  have off (s : State) (tx : DrvTx) : (s.droveOff tx).cfg = s.cfg :=
    State.droveOff_keeps (·.cfg) (fun _ _ => rfl) (fun _ _ _ => rfl) (fun s id d => s.raise_cfg id d) s tx
  have on (s : State) : s.droveOn.cfg = s.cfg :=
    State.setDrove_keeps (·.cfg) (fun _ _ => rfl) (fun _ _ _ => rfl) (fun s id d => s.raise_cfg id d) s _ _
  simp only [commitDrove]
  (repeat' split) <;> simp [off, on]

theorem commitPin_pinCfg (n : fld q.params 0 1 < 24) : (commitPin q s).pinCfg (fld q.params 0 1) =
    { func := fld q.params 1 1, sub := BitVec.ofNat 8 (fld q.params 2 1), pull := fld q.params 3 1, sleep := fld q.params 4 1 } :=
  Vec_getD_upd_same _ _ _ _ n

theorem commitRefInput_refCfg (i : fld q.params 0 1 < 8) : ∃ c : RefCfg, (commitRefInput q s).refCfg (fld q.params 0 1) =
    { c with
      mode := fld q.params 1 1
      term := bit (fld q.params 2 1) 0
      falling := bit (fld q.params 2 1) 1
      nomNum := fld q.params 4 4
      nomDen := fld q.params 8 4
      div := fld q.params 12 4
      deglitch := fld q.params 16 2 } := ⟨_, Vec_getD_upd_same _ _ _ _ i⟩

theorem commitRefRank_refCfg (i : fld q.params 0 1 < 8) : ∃ c : RefCfg, (commitRefRank q s).refCfg (fld q.params 0 1) =
    { c with prio := fld q.params 1 1, grade := fld q.params (if fld q.params 0 1 < 6 then 2 else 3) 1 } := ⟨_, Vec_getD_upd_same _ _ _ _ i⟩

/-! ### The groups -/

theorem vco_readsBack (terms : VcoTerms q s) : (commitVco q s).vcoGroup = q.params := by
  obtain ⟨length, -⟩ := terms
  simp (disch := omega) only [State.vcoGroup, commitVco_fvco, le_fld, List.drop_zero, List.take_of_length_le]

theorem paddock_readsBack (terms : PaddockTerms q s) : (commitPaddock q s).paddockGroup (fld q.params 0 1) = q.params := by
  obtain ⟨length, -, k, -, -, -, zero, -⟩ := terms
  simp (disch := omega) only [State.paddockGroup, commitPaddock_pads k, le_zeros _ zero, le_fld, List.drop_zero,
    ← List.take_add, Nat.reduceAdd, List.take_of_length_le]

theorem out_readsBack (terms : OutTerms q s) : (commitOut q s).outGroup (fld q.params 0 1) = q.params := by
  obtain ⟨length, o, -, zero, config, -⟩ := terms
  obtain ⟨c, committed⟩ := commitOut_outCfg (q := q) (s := s) o
  simp (disch := omega) only [State.outGroup, committed, le_ofNat, le_zeros _ zero, le_fld, List.drop_zero,
    ← List.take_add, Nat.reduceAdd, List.take_of_length_le]

theorem mon_readsBack (terms : MonTerms q s) : (commitMon q s).monGroup = q.params := by
  obtain ⟨length, -⟩ := terms
  simp (disch := omega) only [State.monGroup, commitMon, leI_fldI, List.drop_zero, List.take_of_length_le]

theorem align_readsBack (terms : AlignTerms q s) : (commitAlign q s).alignGroup (fld q.params 0 1) = q.params := by
  obtain ⟨length, o, -, zero, -⟩ := terms
  obtain ⟨c, committed⟩ := commitAlign_outCfg (q := q) (s := s) o
  simp (disch := omega) only [State.alignGroup, committed, leI_fldI, le_zeros _ zero, le_fld, List.drop_zero,
    ← List.take_add, Nat.reduceAdd, List.take_of_length_le]

theorem time_readsBack (terms : TimeTerms q s) : (commitTime q s).timeGroup = q.params := by
  obtain ⟨length, -, -, -, accept, zero, -⟩ := terms
  have mask := le_ofNat (p := q.params) (o := 8) (n := 2) (w := 16) (by omega) (fld_lt (by omega))
  simp (disch := omega) only [State.timeGroup, commitTime, le_flag, mask, le_zeros _ zero, le_fld, List.drop_zero,
    ← List.take_add, Nat.reduceAdd, List.take_of_length_le]

theorem ssct_readsBack (terms : SsctTerms q s) : (commitSsct q s).ssctGroup = q.params := by
  obtain ⟨length, -, -, ref5, -, zero⟩ := terms
  simp (disch := omega) only [State.ssctGroup, commitSsct_cfg, le_flag, le_zeros _ zero, le_fld, List.drop_zero,
    ← List.take_add, Nat.reduceAdd, List.take_of_length_le]

theorem rf_readsBack (terms : RfTerms q s) : (commitRf q s).rfGroup = q.params := by
  obtain ⟨length, -, -, -, -, gain, -, diversity, -, tuner, -, -, -, -, -, -, -, zero, -⟩ := terms
  have committed : (commitRf q s).cfg.rf = rfCfgOf q.params := congrArg Settings.rf (State.takeRf_keeps _).2.1
  simp (disch := omega) only [State.rfGroup, committed, rfCfgOf, le_flag, leI_fldI, le_zeros _ zero, le_fld, List.drop_zero,
    ← List.take_add, Nat.reduceAdd, List.take_of_length_le]

theorem commons_readsBack (terms : CommonsTerms q s) : (commitCommons q s).commonsGroup = q.params := by
  obtain ⟨length, -, -, -, -, -, -, -, -, zero, -⟩ := terms
  simp (disch := omega) only [State.commonsGroup, commitCommons_cfg, setCommons, leI_fldI, le_zeros _ zero, le_fld, List.drop_zero,
    ← List.take_add, Nat.reduceAdd, List.take_of_length_le]

theorem mgmt_readsBack (terms : MgmtTerms q s) : (commitMgmt q s).mgmtGroup = q.params := by
  obtain ⟨length, -, enable, zero, -⟩ := terms
  simp (disch := omega) only [State.mgmtGroup, commitMgmt, le_flag, le_zeros _ zero, le_fld, List.drop_zero,
    ← List.take_add, Nat.reduceAdd, List.take_of_length_le]

theorem drove_readsBack (terms : DroveTerms q s) : (commitDrove q s).droveGroup = q.params := by
  obtain ⟨length, -, -, enable, ring, -, -, command, zero, -⟩ := terms
  simp (disch := omega) only [State.droveGroup, commitDrove_cfg, drvCfgOf, le_flag, le_ofNat, le_zeros _ zero, le_fld, List.drop_zero,
    ← List.take_add, Nat.reduceAdd, List.take_of_length_le]

theorem pin_readsBack (terms : PinTerms q s) : (commitPin q s).pinGroup (fld q.params 0 1) = q.params := by
  obtain ⟨length, n, -, -, -, -, -, -, zero, -⟩ := terms
  have sub := le_ofNat (p := q.params) (o := 2) (n := 1) (w := 8) (by omega) (fld_lt (by omega))
  simp (disch := omega) only [State.pinGroup, commitPin_pinCfg n, sub, le_zeros _ zero, le_fld, List.drop_zero,
    ← List.take_add, Nat.reduceAdd, List.take_of_length_le]

theorem refInput_readsBack (terms : RefInputTerms q s) : (commitRefInput q s).refInputGroup (fld q.params 0 1) = q.params := by
  obtain ⟨length, i, -, -, -, flags, -, zero, last, -⟩ := terms
  obtain ⟨c, committed⟩ := commitRefInput_refCfg (q := q) (s := s) (by omega)
  simp (disch := omega) only [State.refInputGroup, committed, b2n_bits flags, le_zeros _ zero, le_zeros _ last, le_fld, List.drop_zero,
    ← List.take_add, Nat.reduceAdd, List.take_of_length_le]

theorem refRank_readsBack (terms : RefRankTerms q s) : (commitRefRank q s).refRankGroup (fld q.params 0 1) = q.params := by
  obtain ⟨length, i, -, -, input, other⟩ := terms
  obtain ⟨c, committed⟩ := commitRefRank_refCfg (q := q) (s := s) i
  by_cases low : fld q.params 0 1 < 6
  case pos =>
    rw [State.refRankGroup, committed, if_pos low, ← (input low).2]
    simp (disch := omega) only [low, if_true, ← List.append_assoc, le_fld, List.drop_zero, ← List.take_add, Nat.reduceAdd, List.take_of_length_le]
  case neg =>
    rw [State.refRankGroup, committed, if_neg low, ← (other (by omega)).1]
    simp (disch := omega) only [low, if_false, ← List.append_assoc, le_fld, List.drop_zero, ← List.take_add, Nat.reduceAdd, List.take_of_length_le]

end Sys2Proof.Machine

open Sys2Proof Sys2Proof.Machine

/-- Settles O52: each group's read after its commit spells the packet again, field by field. -/
theorem groupWritesReadBack : Obligations.GroupWritesReadBack := by
  intro q s
  refine ⟨fun terms => ?_, fun terms => ?_, fun terms => ?_, fun terms => ?_, fun terms => ?_, fun terms => ?_, fun terms => ?_,
    fun terms => ?_, fun terms => ?_, fun terms => ?_, fun terms => ?_, fun terms => ?_, fun terms => ?_, fun terms => ?_⟩
  · simpa [commitOp, commitOutsAt, readBytes, just] using vco_readsBack terms
  · simpa [commitOp, commitOutsAt, readBytes, just] using paddock_readsBack terms
  · simpa [commitOp, commitOutsAt, readBytes, just] using out_readsBack terms
  · simpa [commitOp, commitOutsAt, readBytes, just] using mon_readsBack terms
  · simpa [commitOp, commitTimeAt, readBytes, just] using align_readsBack terms
  · simpa [commitOp, commitTimeAt, readBytes, just] using time_readsBack terms
  · simpa [commitOp, commitShaftAt, readBytes, just] using ssct_readsBack terms
  · simpa [commitOp, commitRadioAt, readBytes, just] using rf_readsBack terms
  · simpa [commitOp, commitCommonsAt, readBytes, just] using commons_readsBack terms
  · simpa [commitOp, commitCommonsAt, readBytes, just] using mgmt_readsBack terms
  · simpa [commitOp, commitDroveAt, readBytes, just] using drove_readsBack terms
  · simpa [commitOp, commitPinsAt, readBytes, just] using pin_readsBack terms
  · simpa [commitOp, commitRefsAt, readBytes, just] using refInput_readsBack terms
  · simpa [commitOp, commitRefsAt, readBytes, just] using refRank_readsBack terms

end

section
/-! Release of the outputs, and the restart of the dividers after a wake (18 R419, R427, R428). A divider's restart enters one entry and begins its output's grid
anew, and reads nothing of the other outputs: the loop is followed by what stands after the first `k` of its rounds. -/

namespace Sys2Proof.Machine

/-- A loop over the numbers below `n`, by what stands after each of its rounds. -/
theorem forEach_range {P : Nat → State → Prop} {n : Nat} {f : Nat → State → State} {s : State} (start : P 0 s)
    (round : ∀ k < n, ∀ x, P k x → P (k + 1) (f k x)) : P n (forEach (List.range n) f s) := by
  induction n with
  | zero => exact start
  | succ n ih =>
    rw [forEach, List.range_succ, List.foldl_append]
    exact round n (Nat.lt_succ_self n) _ (ih fun k small => round k (Nat.lt_succ_of_lt small))

/-! ### An output's grid (06 R135; 07 R156) -/

/-- What an output's edges are counted from and planned by. -/
def Out.grid (x : Out) : Option Nat × List Plan × Option Nat × Option Nat := (x.origin, x.plans, x.index, x.frame)

section
variable (s : State) (o t : Nat)

theorem State.settleTo_grid : s.OutEvent o Out.grid (s.settleTo o t) := by
  unfold State.settleTo
  dsimp only
  (repeat' split) <;> exact .updOut s fun _ => rfl

theorem State.settleSeg_grid : s.OutEvent o Out.grid (s.settleSeg o t) := by
  unfold State.settleSeg
  dsimp only
  split
  · exact ((s.settleTo_grid o _).trans (.updOut _ fun _ => by rfl)).trans (State.settleTo_grid _ o t)
  · exact s.settleTo_grid o t

/-- Without plans no train starts, and settling only counts. -/
theorem State.settle_grid (still : (s.out o).plans = []) : s.OutEvent o Out.grid (s.settle o t) := by
  have counts : s.settle o t = s.settleSeg o t := by rw [State.settle, still]; rfl
  exact counts ▸ s.settleSeg_grid o t

theorem State.putBy_grid : s.OutEvent o Out.grid (s.putBy o t) := by
  simp only [State.putBy]
  split
  · exact .refl s
  · exact .updOut s fun _ => rfl

theorem State.setRunningAt_grid (low : Nat) (again : Bool) (still : (s.out o).plans = []) : s.OutEvent o Out.grid (s.setRunningAt o t low again) := by
  rw [State.setRunningAt]
  split
  · exact (s.settle_grid o t still).trans (.updOut _ fun _ => rfl)
  split
  · exact .refl s
  split
  · exact .refl s
  · exact ((s.settle_grid o _ still).trans (State.putBy_grid _ o _)).trans (.updOut _ fun _ => by split <;> rfl)

end

/-- Bringing RUNNING up to date leaves the grid of every output without plans, and what no output holds. -/
theorem State.runAll_grid (s : State) (t n : Nat) (still : ∀ o < 16, (s.out o).plans = []) (small : n < 16) :
    ((s.runAll t).out n).grid = (s.out n).grid := by
  have all : ∀ o < 16, ((s.runAll t).out o).grid = (s.out o).grid := by
    refine forEach_range (P := fun _ x => ∀ o < 16, (x.out o).grid = (s.out o).grid) (fun _ _ => rfl) fun k low x same o small => ?_
    have plans : (x.out k).plans = [] := (congrArg (·.2.1) (same k low)).trans (still k low)
    have settles := x.setRunningAt_grid k t (x.nextLow k t) false plans
    by_cases own : o = k
    case pos => exact own ▸ settles.kept.trans (same k low)
    case neg => exact (congrArg Out.grid (settles.others o own)).trans (same o small)
  exact all n small

theorem State.runAll_keeps {β : Type} (g : State → β) (blind : ∀ s o f, g (State.updOut s o f) = g s) (s : State) (t : Nat) : g (s.runAll t) = g s :=
  forEach_keeps g _ (fun o s => s.setRunning o t false) (fun o s => s.setRunningAt_keeps g blind o t _ _) s

/-! ### The entry of a wake (18 R428) -/

/-- The entry that a wake adds for an output, as it enters the tally. -/
def State.wakeNew (s : State) (o : Nat) (a : Fs) : Entry :=
  { src := .gather, flock := BitVec.ofNat 16 (2 ^ o), pen := 0, slot := 31, seq := s.tally.nextSeq, amount := a, created := s.clk.absFold, wake := true
    immediate := true, prog := (flockOuts (BitVec.ofNat 16 (2 ^ o))).map fun o => (o, 0) }

/-- What no payment changes of an entry. -/
def Entry.fixedPart (e : Entry) : Bool × TallySrc × BitVec 16 × Pen × Nat × BitVec 32 × Fs := (e.wake, e.src, e.flock, e.pen, e.slot, e.seq, e.amount)

/-- An entry of a sequence number paid in full. -/
def Entry.paidOff (seq : BitVec 32) (prog : List (Nat × Fs)) (applied : Fs) (e : Entry) : Entry :=
  if e.seq = seq then { e with prog := prog, applied := applied, status := .done } else e

theorem Entry.paidOff_fixedPart (seq : BitVec 32) (prog : List (Nat × Fs)) (applied : Fs) (e : Entry) :
    (e.paidOff seq prog applied).fixedPart = e.fixedPart := by
  unfold Entry.paidOff
  split <;> rfl

theorem Entry.paidOff_of_own (e : Entry) {seq : BitVec 32} (prog : List (Nat × Fs)) (applied : Fs) (own : e.seq = seq) :
    (e.paidOff seq prog applied).status = .done ∧ (e.paidOff seq prog applied).applied = applied := by
  simp [Entry.paidOff, own]

theorem Tally.finish_payOut (t : Tally) (e : Entry) (o : Nat) (x : Fs) : ∃ prog applied,
    ((t.payOut e o x).updEntry e.seq fun e => { e with status := .done }).entries = t.entries.map (Entry.paidOff e.seq prog applied) ∧
    prog = e.prog.map (fun p => if p.1 = o then (p.1, p.2 + x) else p) ∧ applied = leastProgress e.amount (prog.map (·.2)) := by
  refine ⟨_, _, ?_, rfl, rfl⟩
  simp only [Tally.payOut, Tally.updEntry, List.map_map]
  refine List.map_congr_left fun y _ => ?_
  by_cases own : y.seq = e.seq <;> simp [Entry.paidOff, own]

theorem State.finishEntry_tally (s : State) (e : Entry) :
    (s.finishEntry e).tally = s.tally.updEntry e.seq fun e => { e with status := .done } := by
  simp [State.finishEntry]

theorem flockOuts_one : ∀ o < 16, flockOuts (BitVec.ofNat 16 (2 ^ o)) = [o] := by decide

/-- A wake adds its entry and pays off the entry of that sequence number, which is the added one where no other has it. -/
theorem State.wakeEntry_tally (s : State) {o : Nat} (small : o < 16) (a : Fs) : ∃ prog applied,
    (s.wakeEntry o a).tally.entries = (s.tally.entries ++ [s.wakeNew o a]).map (Entry.paidOff s.tally.nextSeq prog applied) ∧
    (s.wakeEntry o a).tally.nextSeq = s.tally.nextSeq + 1 ∧ ((∀ e ∈ s.tally.entries, e.seq ≠ s.tally.nextSeq) → applied = a) := by
  unfold State.wakeEntry
  extract_lets t
  have entries : t.entries = s.tally.entries ++ [s.wakeNew o a] := rfl
  have nextSeq : t.nextSeq = s.tally.nextSeq + 1 := rfl
  split
  case h_1 e found =>
    have seq : e.seq = s.tally.nextSeq := by simpa using List.find?_some found
    obtain ⟨prog, applied, paid, progress, least⟩ := t.finish_payOut e o a
    rw [State.finishEntry_tally]
    refine ⟨prog, applied, by rw [paid, entries, seq], nextSeq, fun fresh => ?_⟩
    have own : e = s.wakeNew o a := by
      have found : (s.tally.entries ++ [s.wakeNew o a]).find? (fun e => e.seq = s.tally.nextSeq) = some e := found
      rw [List.find?_append, List.find?_eq_none.mpr (by simpa using fresh)] at found
      simpa [State.wakeNew, eq_comm] using found
    subst own
    rw [least, progress]
    simp only [State.wakeNew, flockOuts_one o small, List.map_cons, List.map_nil, if_true, Int.zero_add, leastProgress, List.foldl_nil]
  case h_2 missing =>
    have absent := List.find?_eq_none.mp missing (s.wakeNew o a) (by simp [entries])
    simp [State.wakeNew] at absent

/-- The entry of a wake writes the tally and the events alone. -/
theorem State.wakeEntry_keeps {β : Type} (g : State → β) (tally : ∀ (s : State) x, g { s with tally := x } = g s)
    (raise : ∀ s id d, g (State.raise s id d) = g s) (s : State) (o : Nat) (a : Fs) : g (s.wakeEntry o a) = g s := by
  simp only [State.wakeEntry, State.finishEntry, State.raiseIf]
  (repeat' split) <;> simp only [raise, tally]

/-! ### One divider's restart -/

/-- The shift reads its own output, the settings and the clock. -/
theorem State.wakeShift_congr {s x : State} {o : Nat} (cfg : x.cfg = s.cfg) (clk : x.clk = s.clk) (out : x.out o = s.out o) : x.wakeShift o = s.wakeShift o := by
  simp only [State.wakeShift, State.outCfg, State.pulsePeriod, State.basePeriod, State.frameOf, State.originOf, State.foldStart, cfg, clk, out] <;> rfl

theorem State.restartDivider_keeps {β : Type} (g : State → β) (tally : ∀ (s : State) x, g { s with tally := x } = g s)
    (raise : ∀ s id d, g (State.raise s id d) = g s) (blind : ∀ s o f, g (State.updOut s o f) = g s) (s : State) (o : Nat) :
    g (s.restartDivider o) = g s := by
  rw [State.restartDivider, State.wakeEntry_keeps g tally raise, State.regrid, blind, State.settle_keeps g blind]

theorem State.restartDivider_tally (s : State) {o : Nat} (small : o < 16) : ∃ prog applied,
    (s.restartDivider o).tally.entries =
      (s.tally.entries ++ [s.wakeNew o (satFs (flockAmount (s.wakeShift o)))]).map (Entry.paidOff s.tally.nextSeq prog applied) ∧
    (s.restartDivider o).tally.nextSeq = s.tally.nextSeq + 1 ∧
    ((∀ e ∈ s.tally.entries, e.seq ≠ s.tally.nextSeq) → applied = satFs (flockAmount (s.wakeShift o))) := by
  have regrid (c : Fs) : (s.regrid o c).tally = s.tally ∧ (s.regrid o c).clk = s.clk := by
    have keeps := State.settle_keeps (fun s => (s.tally, s.clk)) (fun _ _ _ => rfl) s o s.foldStart
    exact ⟨congrArg Prod.fst keeps, congrArg Prod.snd keeps⟩
  unfold State.restartDivider
  extract_lets sum a
  obtain ⟨tally, clk⟩ := regrid (sum - a)
  have added := (s.regrid o (sum - a)).wakeEntry_tally small a
  rw [State.wakeNew, clk, tally] at added
  exact added

theorem State.restartDivider_others (s : State) {o n : Nat} (other : n ≠ o) : (s.restartDivider o).out n = s.out n := by
  unfold State.restartDivider
  have outs (x : State) (a : Fs) : (x.wakeEntry o a).out n = x.out n :=
    State.wakeEntry_keeps (·.out n) (fun _ _ => rfl) (fun s id d => congrArg (·.getD n {}) (s.raise_outs id d)) x o a
  rw [outs, State.regrid, State.out_updOut_other _ _ other, (s.settle_event o _).others n other]

theorem State.restartDivider_out (s : State) (o : Fin 16) : ((s.restartDivider o).out o).origin = some s.foldStart ∧
    ((s.restartDivider o).out o).plans = [] ∧ ((s.restartDivider o).out o).index = none ∧
    ((s.outCfg o).mode = 1 → ((s.restartDivider o).out o).frame = some s.foldStart) := by
  unfold State.restartDivider
  have outs (x : State) (a : Fs) : (x.wakeEntry o a).out o = x.out o :=
    State.wakeEntry_keeps (·.out o) (fun _ _ => rfl) (fun s id d => congrArg (·.getD o {}) (s.raise_outs id d)) x o a
  rw [outs, State.regrid, State.out_updOut_self]
  exact ⟨rfl, rfl, rfl, fun pulse => if_pos pulse⟩

/-! ### All sixteen -/

/-- No entry has one of the sixteen sequence numbers to come. -/
def State.SeqsFree (s : State) : Prop := ∀ x ∈ s.tally.entries, ∀ k < 16, x.seq ≠ s.tally.nextSeq + BitVec.ofNat 32 k

/-- The entry that the wake of `s` leaves for an output. -/
structure State.WakeEntryOf (s : State) (o : Nat) (e : Entry) : Prop where
  fixed : e.fixedPart = (true, .gather, BitVec.ofNat 16 (2 ^ o), 0, 31, s.tally.nextSeq + BitVec.ofNat 32 o, satFs (flockAmount (s.wakeShift o)))
  done : s.SeqsFree → e.status = .done ∧ e.applied = satFs (flockAmount (s.wakeShift o))

/-- What stands once the dividers of the outputs below `k` have restarted from `s`. -/
structure State.Restarted (s : State) (k : Nat) (x : State) : Prop where
  cfg : x.cfg = s.cfg
  clk : x.clk = s.clk
  pow : x.pow = s.pow
  rel : x.rel = s.rel
  waiting : ∀ o, k ≤ o → x.out o = s.out o
  grid : ∀ o < k, (x.out o).origin = some s.foldStart ∧ (x.out o).plans = [] ∧ (x.out o).index = none ∧
    ((s.outCfg o).mode = 1 → (x.out o).frame = some s.foldStart)
  seqs : x.tally.entries.map (·.seq) = s.tally.entries.map (·.seq) ++ (List.range k).map fun j => s.tally.nextSeq + BitVec.ofNat 32 j
  nextSeq : x.tally.nextSeq = s.tally.nextSeq + BitVec.ofNat 32 k
  entries : ∀ o < k, ∃ e ∈ x.tally.entries, s.WakeEntryOf o e

theorem seq_ne {n : BitVec 32} {j k : Nat} (before : j < k) (small : k < 16) : n + BitVec.ofNat 32 j ≠ n + BitVec.ofNat 32 k := by
  intro same
  have same := congrArg BitVec.toNat ((BitVec.add_right_inj n).mp same)
  simp only [BitVec.toNat_ofNat] at same
  omega

section
variable {s x : State} {k : Nat}

/-- The number that a round gives is free where the sixteen were. -/
theorem State.Restarted.fresh (r : s.Restarted k x) (small : k < 16) (free : s.SeqsFree) : ∀ e ∈ x.tally.entries, e.seq ≠ x.tally.nextSeq := by
  intro e mem
  have seq : e.seq ∈ x.tally.entries.map (·.seq) := List.mem_map_of_mem mem
  rw [r.seqs, List.mem_append] at seq
  rw [r.nextSeq]
  rcases seq with old | new
  · obtain ⟨y, mem, same⟩ := List.mem_map.mp old
    exact same ▸ free y mem k small
  · obtain ⟨j, mem, same⟩ := List.mem_map.mp new
    exact same ▸ seq_ne (List.mem_range.mp mem) small

theorem State.WakeEntryOf.paidOff {o : Nat} {e : Entry} (w : s.WakeEntryOf o e) (before : o < k) (small : k < 16) (prog : List (Nat × Fs)) (applied : Fs) :
    s.WakeEntryOf o (e.paidOff (s.tally.nextSeq + BitVec.ofNat 32 k) prog applied) := by
  have seq : e.seq = s.tally.nextSeq + BitVec.ofNat 32 o := congrArg (·.2.2.2.2.2.1) w.fixed
  have kept : e.paidOff (s.tally.nextSeq + BitVec.ofNat 32 k) prog applied = e := if_neg (seq ▸ seq_ne before small)
  exact kept.symm ▸ w

theorem State.Restarted.round (r : s.Restarted k x) (small : k < 16) : s.Restarted (k + 1) (x.restartDivider k) := by
  have keeps := State.restartDivider_keeps (fun s => (s.cfg, s.clk, s.pow, s.rel)) (fun _ _ => rfl)
    (fun s id d => by simp) (fun _ _ _ => rfl) x k
  simp only [Prod.mk.injEq] at keeps
  obtain ⟨cfg, clk, pow, rel⟩ := keeps
  have foldStart : x.foldStart = s.foldStart := by rw [State.foldStart, r.clk]; rfl
  have outCfg : x.outCfg k = s.outCfg k := by rw [State.outCfg, r.cfg]; rfl
  have shift : x.wakeShift k = s.wakeShift k := State.wakeShift_congr r.cfg r.clk (r.waiting k le_rfl)
  obtain ⟨prog, applied, entries, nextSeq, amount⟩ := x.restartDivider_tally small
  refine ⟨cfg.trans r.cfg, clk.trans r.clk, pow.trans r.pow, rel.trans r.rel, fun o later => ?_, fun o before => ?_, ?_, ?_, fun o before => ?_⟩
  · rw [x.restartDivider_others (by omega), r.waiting o (by omega)]
  · rcases Nat.lt_succ_iff_lt_or_eq.mp before with earlier | rfl
    · rw [x.restartDivider_others (by omega)]
      exact r.grid o earlier
    · have own := x.restartDivider_out ⟨o, small⟩
      rwa [foldStart, outCfg] at own
  · have kept : (fun e : Entry => (e.paidOff x.tally.nextSeq prog applied).seq) = (·.seq) :=
      funext fun e => congrArg (·.2.2.2.2.2.1) (e.paidOff_fixedPart _ _ _)
    rw [entries, List.map_map, Function.comp_def, kept, List.map_append, r.seqs, List.range_succ, List.map_append, List.append_assoc]
    simp [State.wakeNew, r.nextSeq]
  · rw [nextSeq, r.nextSeq, BitVec.add_assoc, BitVec.ofNat_add]
    rfl
  · rw [entries]
    rcases Nat.lt_succ_iff_lt_or_eq.mp before with earlier | rfl
    · obtain ⟨e, mem, wake⟩ := r.entries o earlier
      exact ⟨_, List.mem_map_of_mem (List.mem_append_left _ mem), r.nextSeq ▸ wake.paidOff earlier small prog applied⟩
    · refine ⟨_, List.mem_map_of_mem (List.mem_append_right _ (List.mem_singleton_self _)), ?_, fun free => ?_⟩
      · rw [Entry.paidOff_fixedPart, ← r.nextSeq, ← shift]
        rfl
      · obtain ⟨status, paid⟩ := (x.wakeNew o (satFs (flockAmount (x.wakeShift o)))).paidOff_of_own prog applied (seq := x.tally.nextSeq) rfl
        exact ⟨status, by rw [paid, amount (r.fresh small free), shift]⟩

end

theorem State.restarted (s : State) : s.Restarted 16 (forEach (List.range 16) State.restartDivider s) :=
  forEach_range (P := s.Restarted) ⟨rfl, rfl, rfl, rfl, fun _ _ => rfl, fun _ none => absurd none (Nat.not_lt_zero _), by simp, by simp,
    fun _ none => absurd none (Nat.not_lt_zero _)⟩ fun _ small _ r => r.round small

/-! ### The rows -/

theorem State.lockStands_iff (s : State) : s.lockStands = true ↔ s.lp.aplLock = true ∧ ∃ k, s.lp.lockFold = some k ∧ k < s.clk.absFold.toNat := by
  cases since : s.lp.lockFold <;> simp [State.lockStands, since]

theorem State.releaseOutputs_of_undue (s : State)
    (rests : s.rel.released = true ∨ (s.rel.ordered = false ∧ s.cfg.autostart = false) ∨ s.lp.aplLock = false) : s.releaseOutputs = s := by
  refine if_pos ?_
  rcases rests with released | ⟨ordered, autostart⟩ | unlocked
  · simp [released]
  · simp [ordered, autostart]
  · simp [State.lockStands, unlocked]

theorem State.releaseOutputs_of_due (s : State) (fresh : s.rel.released = false) (ordered : s.rel.ordered = true ∨ s.cfg.autostart = true)
    (stands : s.lockStands = true) : s.releaseOutputs.rel.released = true ∧ s.releaseOutputs.cfg = s.cfg ∧ s.releaseOutputs.tally = s.tally ∧
    s.releaseOutputs.lp = s.lp := by
  have due : s.releaseOutputs = ({ s with rel := { s.rel with released := true } }).runAll s.foldStart := by
    refine if_neg ?_
    rcases ordered with ordered | autostart
    · simp [fresh, ordered, stands]
    · simp [fresh, autostart, stands]
  have keeps := State.runAll_keeps (fun s => (s.rel, s.cfg, s.tally, s.lp)) (fun _ _ _ => rfl) { s with rel := { s.rel with released := true } } s.foldStart
  simp only [Prod.mk.injEq] at keeps
  obtain ⟨rel, cfg, tally, lp⟩ := keeps
  rw [due]
  exact ⟨by rw [rel], cfg, tally, lp⟩

theorem State.restartDividers_of_undue (s : State) (rests : s.pow.relock = false ∨ s.lp.aplLock = false) : s.restartDividers = s := by
  refine if_pos ?_
  rcases rests with settled | unlocked
  · simp [settled]
  · simp [unlocked]

/-- The state as the dividers begin to restart. -/
def State.relocked (s : State) : State := { s with pow := { s.pow with relock := false }, rel := { s.rel with stopping := false } }

/-- The dividers have restarted, and RUNNING is brought up to date after them. -/
theorem State.restartDividers_of_due (s : State) (relock : s.pow.relock = true) (lock : s.lp.aplLock = true) : ∃ x, s.relocked.Restarted 16 x ∧
    s.restartDividers.cfg = s.cfg ∧ s.restartDividers.pow = s.relocked.pow ∧ s.restartDividers.rel = s.relocked.rel ∧ s.restartDividers.tally = x.tally ∧
    ∀ o < 16, (s.restartDividers.out o).grid = (x.out o).grid := by
  have r := s.relocked.restarted
  refine ⟨_, r, ?_⟩
  have due : s.restartDividers = (forEach (List.range 16) State.restartDivider s.relocked).runAll s.foldStart := if_neg (by simp [relock, lock])
  generalize forEach (List.range 16) State.restartDivider s.relocked = x at r due
  have keeps := State.runAll_keeps (fun s => (s.cfg, s.pow, s.rel, s.tally)) (fun _ _ _ => rfl) x s.foldStart
  simp only [Prod.mk.injEq] at keeps
  obtain ⟨cfg, pow, rel, tally⟩ := keeps
  rw [due]
  exact ⟨cfg.trans r.cfg, pow.trans r.pow, rel.trans r.rel, tally, fun o small => x.runAll_grid _ o (fun k low => (r.grid k low).2.1) small⟩

end Sys2Proof.Machine

open Sys2Proof Sys2Proof.Machine

/-- Settles O23: release is the flag and RUNNING brought up to date; the restart is followed output by output. -/
theorem outputsReleaseAndRestart : Obligations.OutputsReleaseAndRestart := by
  intro s
  refine ⟨fun elsewhere => ?_, fun here fresh ordered stands => ?_, fun rests => ?_, s.lockStands_iff, fun here relock lock => ?_, fun rests => ?_⟩
  · exact ⟨congrArg Host.Outcome.next (if_neg (by simp [elsewhere])), congrArg Host.Outcome.next (if_neg (by simp [elsewhere]))⟩
  · obtain ⟨released, cfg, tally, lp⟩ := s.releaseOutputs_of_due fresh ordered stands
    exact ⟨_, congrArg Host.Outcome.next (if_pos here), released, cfg, tally, lp⟩
  · refine congrArg Host.Outcome.next ?_
    rw [s.releaseOutputs_of_undue rests, ite_self]
  · obtain ⟨x, r, cfg, pow, rel, tally, grid⟩ := s.restartDividers_of_due relock lock
    refine ⟨_, congrArg Host.Outcome.next (if_pos here), by rw [pow]; rfl, by rw [rel]; rfl, ?_, ?_, fun o small => ?_, fun o small => ?_, cfg⟩
    · have length := congrArg List.length r.seqs
      simp only [List.length_map, List.length_append, List.length_range] at length
      rw [tally, length]
      rfl
    · rw [tally, r.nextSeq]
      rfl
    · have same := grid o small
      simp only [Out.grid, Prod.mk.injEq] at same
      obtain ⟨origin, plans, index, frame⟩ := same
      obtain ⟨edge, none, unindexed, pulse⟩ := r.grid o small
      exact ⟨origin.trans edge, plans.trans none, index.trans unindexed, fun mode => frame.trans (pulse mode)⟩
    · obtain ⟨e, mem, fixed, done⟩ := r.entries o small
      simp only [Entry.fixedPart, Prod.mk.injEq] at fixed
      obtain ⟨wake, src, flock, pen, slot, seq, amount⟩ := fixed
      refine ⟨e, tally ▸ mem, wake, src, flock, pen, slot, seq, amount, fun free => ?_⟩
      obtain ⟨status, applied⟩ := done free
      exact ⟨status, applied.trans amount.symm⟩
  · refine congrArg Host.Outcome.next ?_
    rw [s.restartDividers_of_undue rests, ite_self]

end

section
/-! Crook actions at the output logic (14 R346, R348; 05 R124; 06 R138, R147, R148; 04 R82; 07 R165). An action fires in the state that its latency leads to, and
what it writes is followed output by output: a round reads and writes its own output's part alone. -/

namespace Sys2Proof.Machine

/-- A loop over a list, by what stands after each of its first parts. -/
theorem forEach_stages {α : Type} {P : List α → State → Prop} {l : List α} {f : α → State → State} {s : State} (start : P [] s)
    (round : ∀ pre n post, l = pre ++ n :: post → ∀ x, P pre x → P (pre ++ [n]) (f n x)) : P l (forEach l f s) := by
  have upTo : ∀ pre post, l = pre ++ post → P pre (forEach pre f s) := by
    intro pre
    induction pre using List.reverseRecOn with
    | nil => exact fun _ _ => start
    | append_singleton pre n ih =>
      intro post parts
      rw [List.append_assoc, List.singleton_append] at parts
      rw [forEach, List.foldl_append]
      exact round pre n post parts _ (ih _ parts)
  exact upTo l [] (List.append_nil l).symm

/-! ### What an output's edges are read from (06 R132, R134, R137) -/

/-- Two states in which an output has the same figures and the same divider. -/
structure State.SameSource (o : Nat) (s x : State) : Prop where
  out : x.out o = s.out o
  outCfg : x.outCfg o = s.outCfg o
  prediv : x.cfg.prediv o = s.cfg.prediv o
  fvco : x.cfg.fvco = s.cfg.fvco

section
variable {s x : State} {o : Nat} (same : s.SameSource o x)
include same

theorem State.SameSource.originOf : x.originOf o = s.originOf o := by rw [State.originOf, same.out]; rfl

theorem State.SameSource.basePeriod : x.basePeriod o = s.basePeriod o := by rw [State.basePeriod, same.outCfg, same.prediv, same.fvco]; rfl

theorem State.SameSource.pulsePeriod : x.pulsePeriod o = s.pulsePeriod o := by rw [State.pulsePeriod, same.outCfg, same.basePeriod]; rfl

theorem State.SameSource.frameOf : x.frameOf o = s.frameOf o := by rw [State.frameOf, same.out, same.originOf]; rfl

theorem State.SameSource.edgesIn (a b : Nat) : x.edgesIn o a b = s.edgesIn o a b := by rw [State.edgesIn, same.originOf, same.basePeriod]; rfl

theorem State.SameSource.edgeFrom (t : Nat) : x.edgeFrom o t = s.edgeFrom o t := by simp only [State.edgeFrom, same.originOf, same.basePeriod]

theorem State.SameSource.trainLeft : x.trainLeft o = s.trainLeft o := by simp only [State.trainLeft, same.out, same.outCfg]

theorem State.SameSource.startsIn (a b : Nat) : x.startsIn o a b = s.startsIn o a b := by
  simp only [State.startsIn, same.frameOf, same.pulsePeriod, same.trainLeft]

theorem State.SameSource.lastStartBefore (a b : Nat) : x.lastStartBefore o a b = s.lastStartBefore o a b := by
  simp only [State.lastStartBefore, same.startsIn, same.out, same.frameOf, same.pulsePeriod]

theorem State.SameSource.fallIndex (l : Nat) : x.fallIndex o l = s.fallIndex o l := by
  simp only [State.fallIndex, same.originOf, same.basePeriod, same.out, same.outCfg]

theorem State.SameSource.fallOf (l : Nat) : x.fallOf o l = s.fallOf o l := by
  simp only [State.fallOf, same.originOf, same.basePeriod, same.out, same.fallIndex]

theorem State.SameSource.clearOf (l : Nat) : x.clearOf o l = s.clearOf o l := by
  simp only [State.clearOf, same.originOf, same.basePeriod, same.fallIndex]

theorem State.SameSource.edgesBefore (t : Nat) : x.edgesBefore o t = s.edgesBefore o t := by
  simp only [State.edgesBefore, same.originOf, same.basePeriod, same.out]

theorem State.SameSource.wholePeriods (a b : Nat) : x.wholePeriods o a b = s.wholePeriods o a b := by
  simp only [State.wholePeriods, same.edgesBefore]

theorem State.SameSource.windowFrom : x.windowFrom o = s.windowFrom o := by
  simp only [State.windowFrom, same.out, same.edgeFrom]

theorem State.SameSource.risingEdges (a b : Nat) : x.risingEdges o a b = s.risingEdges o a b := by
  simp only [State.risingEdges, same.out, same.outCfg, same.startsIn, same.edgesIn]

theorem State.SameSource.highFs : x.highFs o = s.highFs o := by
  simp only [State.highFs, same.outCfg, same.prediv, same.fvco]

theorem State.SameSource.halfLow : x.halfLow o = s.halfLow o := by
  simp only [State.halfLow, same.outCfg, same.basePeriod, same.highFs]

theorem State.SameSource.lastStartBy (t : Nat) : x.lastStartBy o t = s.lastStartBy o t := by
  simp only [State.lastStartBy, same.out, same.lastStartBefore]

theorem State.SameSource.pulseLimit (t : Nat) : x.pulseLimit o t = s.pulseLimit o t := by
  simp only [State.pulseLimit, same.lastStartBy, same.fallOf, same.clearOf, same.outCfg]

theorem State.SameSource.frameBefore (e : Nat) : x.frameBefore o e = s.frameBefore o e := by
  simp only [State.frameBefore, same.out, same.frameOf]

theorem State.SameSource.planGather (target low : Nat) (seq : BitVec 32) : x.planGather o target low seq = s.planGather o target low seq := by
  simp only [State.planGather, State.edgeFor, same.pulsePeriod, same.out, same.pulseLimit, same.edgeFrom, same.outCfg, same.frameBefore]

/-- The same change of the output keeps the two alike. -/
theorem State.SameSource.updOut (f : Out → Out) : (s.updOut o f).SameSource o (x.updOut o f) where
  out := by rw [State.out_updOut, State.out_updOut, same.out]
  outCfg := same.outCfg
  prediv := same.prediv
  fvco := same.fvco

theorem State.SameSource.settleTo (t : Nat) : (s.settleTo o t).SameSource o (x.settleTo o t) := by
  unfold State.settleTo
  dsimp only
  rw [same.out, same.outCfg]
  simp only [same.startsIn, same.lastStartBefore, same.wholePeriods, same.windowFrom, same.edgesIn]
  (repeat' split) <;> exact same.updOut _

end

section
variable {s x : State} {o : Nat} (same : s.SameSource o x)
include same

theorem State.SameSource.settleSeg (t : Nat) : (s.settleSeg o t).SameSource o (x.settleSeg o t) := by
  unfold State.settleSeg
  dsimp only
  rw [same.out]
  split
  · exact ((same.settleTo _).updOut _).settleTo t
  · exact same.settleTo t

theorem State.SameSource.startTrain (p : Plan) : (s.startTrain o p).SameSource o (x.startTrain o p) := by
  unfold State.startTrain
  rw [same.outCfg]
  exact (same.settleSeg p.start).updOut _

theorem State.SameSource.forEach_startTrain (l : List Plan) :
    (forEach l (fun p s => s.startTrain o p) s).SameSource o (forEach l (fun p s => s.startTrain o p) x) := by
  unfold forEach
  induction l generalizing s x with
  | nil => exact same
  | cons p l ih => exact ih (same.startTrain p)

theorem State.SameSource.settle (t : Nat) : (s.settle o t).SameSource o (x.settle o t) := by
  unfold State.settle
  rw [same.out]
  exact (same.forEach_startTrain _).settleSeg t

end

/-! ### Where an action fires (14 R349) -/

/-- The state in which a command fires, its latency after the decode: it is outstanding until now. -/
def State.armed (s : State) (c : CrookCmd) : State :=
  (s.draw.updCrook c.pen fun k =>
    { k with refused := false, last := if 1 ≤ c.code && c.code ≤ 5 then c.code else k.last, busyTo := s.instant + s.crookDelay }).setNow
      (s.clk.now + s.crookDelay)

/-- What CROOK_FIRED's event, the pen's status and a crook pin's level are read from. -/
def State.lane (p : Pen) (s : State) : Clock × Nat × Vec PinSt 24 × (Bool × Nat × Nat) × BitVec 32 × Vec EvCfg 288 :=
  (s.clk, s.freeN, s.pins, ((s.crook.getD p {}).refused, (s.crook.getD p {}).last, (s.crook.getD p {}).busyTo), (s.ev.srcs.getD Ev.crookFired {}).count, s.cfg.ev)

/-- An action of code `code` has fired at the present instant, in a state that still stands `d` fs before it (14 R277, R346, R348). -/
def State.HasFired (s : State) (t d : Nat) (src : CrookSrc) (c : CrookCmd) (flock : BitVec 16) (code : Nat) (s' : State) : Prop :=
  s'.clk = (s.setNow t).clk ∧ s'.freeN = s.freeN + 1 ∧ (s'.crook.getD c.pen {}).refused = false ∧ (s'.crook.getD c.pen {}).last = code ∧
    (s'.crook.getD c.pen {}).busyTo = (s.setNow t).instant + d ∧ (∀ n l, src = .pin n l → (s'.pin n).pad = l) ∧
    (let o : Occ := { id := Ev.crookFired, fold := s.clk.absFold, ns := s.nsAt (t + d), detail := BitVec.ofNat 32 (crookDetail c flock 0) }
     if (s.setNow (t + d)).crossesLate then o ∈ s'.ev.late
     else (s'.ev.srcs.getD Ev.crookFired {}).count = (s.ev.srcs.getD Ev.crookFired {}).count + 1 ∧
       ((s.cfg.ev.getD Ev.crookFired {}).enable = true → o ∈ s'.ev.occs))

section
variable {s : State} {t : Nat} {src : CrookSrc} {c : CrookCmd} {code : Nat} {fire : CrookCmd → State → State}

/-- The state that an action's effect is left in: CROOK_FIRED is raised at the instant of the effect, and the step's own instant returns. -/
def State.afterFire (s : State) (t : Nat) (c : CrookCmd) (y : State) : State :=
  (y.raiseFrom Ev.crookFired (crookDetail c ((s.setNow t).crookFlock c) 0)).setNow t

theorem State.crookAct_of_no_cause (opened : s.ifaceOpen = true) (serves : s.ServesCrook src) (asks : (s.setNow t).crookCmd code src = some c)
    (free : (s.setNow t).crookCause c = 0) :
    (s.setNow t).crookAct code src fire = s.afterFire t c (fire c (((s.setNow t).sees src).armed c)) := by
  have decoded := State.crookAct_of_command (s := s.setNow t) (fire := fire) opened ⟨serves.frame, serves.pin⟩ asks
  have cause := ((s.setNow t).crookCause_sees src c).trans free
  rw [decoded, State.crookGo]
  simp only [cause, ne_eq, not_true_eq_false, if_false, State.crookFlock_sees]
  cases src <;> rfl

theorem State.lane_raise_other (s : State) (p : Pen) {id : Nat} (detail : Nat) (other : id ≠ Ev.crookFired) : (s.raise id detail).lane p = s.lane p := by
  have count : ((s.raise id detail).ev.srcs.getD Ev.crookFired {}).count = (s.ev.srcs.getD Ev.crookFired {}).count := by
    rw [State.raise_count, if_neg fun own => other own.1, add_zero]
  rw [State.lane, count, State.raise_clk, State.raise_freeN, State.raise_pins, State.raise_crook, State.raise_cfg]
  rfl

theorem State.lane_raiseFrom_other (s : State) (p : Pen) {id : Nat} (detail : Nat) (other : id ≠ Ev.crookFired) :
    (s.raiseFrom id detail).lane p = s.lane p := by
  unfold State.raiseFrom
  split
  · rfl
  · exact s.lane_raise_other p detail other

/-- What is raised from another domain is an occurrence at the present instant, which waits where it crosses too late (01 R29–R31). -/
theorem State.raiseFrom_occurs (s : State) {id : Nat} (detail : Nat) (known : id < 288) :
    let o : Occ := { id := id, fold := s.clk.absFold, ns := s.nsAt s.clk.now, detail := BitVec.ofNat 32 detail }
    if s.crossesLate then o ∈ (s.raiseFrom id detail).ev.late
    else ((s.raiseFrom id detail).ev.srcs.getD id {}).count = (s.ev.srcs.getD id {}).count + 1 ∧
      ((s.cfg.ev.getD id {}).enable = true → o ∈ (s.raiseFrom id detail).ev.occs) := by
  intro o
  unfold State.raiseFrom
  split
  case isTrue late => exact List.mem_append_right _ (List.mem_singleton_self o)
  case isFalse inTime =>
    refine ⟨by rw [State.raise_count, if_pos ⟨rfl, known⟩], fun enabled => ?_⟩
    have occ : (s.raise id detail).ev.occs = s.ev.occs ++ [o] := by
      rw [State.raise, State.raiseAt]
      simp only [enabled, if_true, BitVec.ofNat_toNat, BitVec.setWidth_eq]
      rfl
    exact occ ▸ List.mem_append_right _ (List.mem_singleton_self o)

theorem State.armed_lane (s : State) (c : CrookCmd) (known : 1 ≤ c.code ∧ c.code ≤ 5) : (s.armed c).lane c.pen =
    ({ s.clk with now := s.clk.now + s.crookDelay }, s.freeN + 1, s.pins, (false, c.code, s.instant + s.crookDelay),
      (s.ev.srcs.getD Ev.crookFired {}).count, s.cfg.ev) := by
  have own : ((s.armed c).crook.getD c.pen {}) = { s.crook.getD c.pen {} with refused := false, last := c.code, busyTo := s.instant + s.crookDelay } := by
    have taken := Vec_getD_upd_same s.crook c.pen.val (fun k =>
      { k with refused := false, last := if 1 ≤ c.code && c.code ≤ 5 then c.code else k.last, busyTo := s.instant + s.crookDelay }) {} c.pen.isLt
    exact taken.trans (by simp [known])
  rw [State.lane, own]
  rfl

/-- An effect that leaves the lane leaves the action fired. -/
theorem State.hasFired (known : 1 ≤ c.code ∧ c.code ≤ 5) {y : State} (lane : y.lane c.pen = (((s.setNow t).sees src).armed c).lane c.pen) :
    s.HasFired t (s.setNow t).crookDelay src c ((s.setNow t).crookFlock c) c.code (s.afterFire t c y) := by
  have sees (n : Fin 24) (l : Bool) (pin : src = .pin n l) : (((s.setNow t).sees src).pins.getD n {}).pad = l := by
    subst pin
    exact congrArg PinSt.pad (Vec_getD_upd_same _ _ _ _ n.isLt)
  have other : ((s.setNow t).sees src).clk = { s.clk with now := t } ∧ ((s.setNow t).sees src).freeN = s.freeN ∧
      ((s.setNow t).sees src).instant = (s.setNow t).instant ∧ ((s.setNow t).sees src).crookDelay = (s.setNow t).crookDelay ∧
      ((s.setNow t).sees src).ev = s.ev ∧ ((s.setNow t).sees src).cfg = s.cfg := by cases src <;> exact ⟨rfl, rfl, rfl, rfl, rfl, rfl⟩
  obtain ⟨clk₀, freeN₀, instant₀, delay₀, ev₀, cfg₀⟩ := other
  rw [State.armed_lane _ _ known, clk₀, freeN₀, instant₀, delay₀, ev₀, cfg₀] at lane
  simp only [State.lane, Prod.mk.injEq] at lane
  obtain ⟨clk, freeN, pins, ⟨refused, last, busyTo⟩, count, enables⟩ := lane
  unfold State.afterFire
  generalize (s.setNow t).crookDelay = d at *
  have event := y.raiseFrom_occurs (crookDetail c ((s.setNow t).crookFlock c) 0) (id := Ev.crookFired) (by decide)
  rw [count, enables, State.crossesLate, State.nsAt, clk] at event
  refine ⟨?_, ?_, ?_, ?_, ?_, fun n l pin => ?_, event⟩
  · rw [State.setNow, State.raiseFrom_clk, clk]; rfl
  · rw [State.setNow_freeN, State.raiseFrom_freeN, freeN]
  · rw [State.setNow_crook, State.raiseFrom_crook, refused]
  · rw [State.setNow_crook, State.raiseFrom_crook, last]
  · rw [State.setNow_crook, State.raiseFrom_crook, busyTo]
  · rw [State.pin, State.setNow_pins, State.raiseFrom_pins, pins, sees n l pin]

end

/-! ### GATE_ON and GATE_OFF (06 R138) -/

/-- What one output's round of a gate action does. -/
def State.gateRound (on : Bool) (o : Nat) (s : State) : State := if on then s.openGate o s.instant else s.closeGate o s.instant true

section
variable {s : State} {on : Bool} {o : Nat}

theorem State.gateRound_on : s.gateRound true o = s.openGate o s.instant := by rw [State.gateRound, if_pos rfl]

theorem State.gateRound_off : s.gateRound false o = s.closeGate o s.instant true := by rw [State.gateRound, if_neg Bool.false_ne_true]

theorem State.gateRound_rests (rests : (s.outCfg o).mode ≠ 2 ∨ (s.out o).gate = on) : s.gateRound on o = s := by
  cases on
  case true => rw [State.gateRound_on, State.openGate, if_pos (by simpa using rests)]
  case false => rw [State.gateRound_off, State.closeGate, if_pos (by simpa using rests)]

theorem State.gateRound_event (s : State) (on : Bool) (o : Nat) : s.OutEvent o (fun _ => ()) (s.gateRound on o) := by
  have settles (t : Nat) : s.OutEvent o (fun _ => ()) (s.settle o t) := (s.settle_event o t).map fun _ => ()
  cases on
  case true =>
    rw [State.gateRound_on, State.openGate]
    split
    · exact .refl s
    · exact (settles _).trans (.updOut _ fun _ => rfl)
  case false =>
    rw [State.gateRound_off, State.closeGate]
    dsimp only
    split
    · exact .refl s
    split
    · exact ((settles _).trans (.updOut _ fun _ => rfl)).trans (.raiseFrom _ _ _)
    · exact (settles _).trans (.updOut _ fun _ => rfl)

theorem State.gateRound_sets {o : Fin 16} (gated : (s.outCfg o).mode = 2) (other : (s.out o).gate ≠ on) :
    ((s.gateRound on o).out o).gate = on ∧ (on = true → ((s.gateRound on o).out o).openAt = s.instant) := by
  cases on
  case true =>
    obtain ⟨-, gate, openAt⟩ := State.openGate_of_closed s.instant gated (by simpa using other)
    rw [State.gateRound_on]
    exact ⟨gate, fun _ => openAt⟩
  case false =>
    rw [State.gateRound_off]
    exact ⟨(State.closeGate_of_open s.instant gated true (by simpa using other)).2, fun no => absurd no Bool.false_ne_true⟩

/-- What holds neither the outputs nor a GATE_EMPTY, a gate's round leaves alone. -/
theorem State.gateRound_keeps {β : Type} (g : State → β) (blind : ∀ s o f, g (State.updOut s o f) = g s)
    (raise : ∀ s id d, id ≠ Ev.crookFired → g (State.raiseFrom s id d) = g s) (s : State) (on : Bool) (small : o < 16) : g (s.gateRound on o) = g s := by
  have settles (t : Nat) := s.settle_keeps g blind o t
  cases on
  case true =>
    rw [State.gateRound_on, State.openGate]
    split
    · rfl
    · exact (blind _ _ _).trans (settles _)
  case false =>
    rw [State.gateRound_off, State.closeGate]
    dsimp only
    split
    · rfl
    split
    · rw [raise _ _ _ (by unfold Ev.crookFired; omega), blind, settles]
    · exact (blind _ _ _).trans (settles _)

end

/-- What stands once the outputs of `pre` have had their rounds of a gate action. -/
structure State.Gating (a : State) (on : Bool) (p : Pen) (pre : List Nat) (y : State) : Prop where
  cfg : y.cfg = a.cfg
  tally : y.tally = a.tally
  lp : y.lp = a.lp
  lane : y.lane p = a.lane p
  sets : ∀ o ∈ pre, (a.outCfg o).mode = 2 → (y.out o).gate = on ∧ ((a.out o).gate ≠ on → on = true → (y.out o).openAt = a.instant)
  rests : ∀ o, o ∉ pre ∨ (a.outCfg o).mode ≠ 2 ∨ (a.out o).gate = on → y.out o = a.out o

theorem State.Gating.round {a y : State} {on : Bool} {p : Pen} {pre : List Nat} {n : Nat} (g : a.Gating on p pre y) (fresh : n ∉ pre) (small : n < 16) :
    a.Gating on p (pre ++ [n]) (y.gateRound on n) := by
  have event := y.gateRound_event on n
  have waits : y.out n = a.out n := g.rests n (.inl fresh)
  have outCfg (o : Nat) : y.outCfg o = a.outCfg o := congrArg (fun c : Settings => c.outs.getD o {}) g.cfg
  have instant : y.instant = a.instant := congrArg (fun c : Clock => foldAt c.absFold.toNat + c.now) (congrArg Prod.fst g.lane)
  have keeps := State.gateRound_keeps (fun s => (s.lp, s.lane p)) (fun _ _ _ => rfl)
    (fun s id d other => Prod.ext (s.raiseFrom_lp id d) (s.lane_raiseFrom_other p d other)) y on small
  simp only [Prod.mk.injEq] at keeps
  obtain ⟨lp, lane⟩ := keeps
  refine ⟨event.cfg.trans g.cfg, event.tally.trans g.tally, lp.trans g.lp, lane.trans g.lane, fun o mem gated => ?_, fun o rests => ?_⟩
  · by_cases own : o = n
    case neg =>
      rw [event.others o own]
      exact g.sets o ((List.mem_append.mp mem).resolve_right fun last => own (List.mem_singleton.mp last)) gated
    case pos =>
      subst own
      by_cases already : (a.out o).gate = on
      · rw [State.gateRound_rests (.inr (waits.symm ▸ already)), waits]
        exact ⟨already, fun other => absurd already other⟩
      · obtain ⟨gate, openAt⟩ := State.gateRound_sets (s := y) (o := ⟨o, small⟩) ((outCfg o).symm ▸ gated) (waits.symm ▸ already)
        exact ⟨gate, fun _ opens => (openAt opens).trans instant⟩
  · by_cases own : o = n
    case neg =>
      rw [event.others o own]
      exact g.rests o (rests.imp_left fun out mem => out (List.mem_append_left _ mem))
    case pos =>
      subst own
      rw [State.gateRound_rests, waits]
      rw [outCfg, waits]
      exact rests.resolve_left fun out => out (List.mem_append_right _ (List.mem_singleton_self o))

theorem flockOuts_nodup (f : BitVec 16) : (flockOuts f).Nodup := List.nodup_range.filter _

/-- In a list without repetitions an element is not among those before it. -/
theorem notMem_of_nodup {l pre post : List Nat} {n : Nat} (distinct : l.Nodup) (parts : l = pre ++ n :: post) : n ∉ pre := by
  rw [parts] at distinct
  exact fun mem => (List.nodup_append.mp distinct).2.2 n mem n List.mem_cons_self rfl

theorem State.fireGate_gating (a : State) (c : CrookCmd) (on : Bool) (p : Pen) : a.Gating on p (flockOuts c.flock) (a.fireGate c on) := by
  refine forEach_stages (P := a.Gating on p) ⟨rfl, rfl, rfl, rfl, fun _ none => absurd none List.not_mem_nil, fun _ _ => rfl⟩ fun pre n post parts y g => ?_
  have mem : n ∈ flockOuts c.flock := parts ▸ List.mem_append_right _ List.mem_cons_self
  exact g.round (notMem_of_nodup (flockOuts_nodup _) parts) (mem_flockOuts.mp mem).1

/-! ### FREEZE (01 R26; 04 R82) -/

theorem State.fireFreeze_lane (a : State) (p : Pen) : a.fireFreeze.lane p = a.lane p := by
  simp only [State.fireFreeze]
  split <;> rfl

theorem State.fireFreeze_keeps (a : State) : a.fireFreeze.tally = a.tally ∧ a.fireFreeze.outs = a.outs ∧ a.fireFreeze.cfg = a.cfg := by
  simp only [State.fireFreeze]
  split <;> exact ⟨rfl, rfl, rfl⟩

theorem State.fireFreeze_staged (a : State) : ∀ g ∈ a.fireFreeze.host.staged, g.opcode = 0x2032 → g.commit = false := by
  intro g mem hold
  obtain ⟨x, -, rfl⟩ := List.mem_map.mp mem
  split at hold
  case isTrue => simp [*]
  case isFalse other => exact absurd hold other

/-! ### GATHER_NOW (07 R165) -/

/-- The entry that a fired crook gather keeps for an output, with the shift of its plan. -/
def gatherEntry (pen : Pen) (target o : Nat) (shift : Fs) : Entry :=
  { src := .gather, flock := BitVec.ofNat 16 (2 ^ o), pen := pen, slot := 0, seq := 0, amount := shift, created := 0, target := some target, fixed := false
    status := .applying }

/-- What one output's round of a crook gather does. -/
def State.gatherRound (pen : Pen) (target o : Nat) (s : State) : State :=
  let p := (s.settle o s.instant).planGather o target s.instant 0
  ((s.settle o s.instant).updOut o fun x => x.addPlan { p with crook := some s.tally.crookNew.length }).keepCrookNew (gatherEntry pen target o p.shift)

theorem State.crookGatherNow_of_room {s : State} {f : BitVec 16} {offset : Fs} (pen : Pen) (room : (s.gatherable f).length ≤ s.slotsLeft) :
    s.crookGatherNow pen f offset = forEach (s.gatherable f) (State.gatherRound pen (s.instant + offset.toNat)) s :=
  if_neg (Nat.not_lt.mpr room)

theorem State.crookGatherNow_of_full {s : State} {f : BitVec 16} {offset : Fs} (pen : Pen) (full : s.slotsLeft < (s.gatherable f).length) :
    s.crookGatherNow pen f offset = s.raiseFrom Ev.tallyRefused (f.toNat * 2 ^ 16 + 2) := if_pos full

theorem Out.mem_addPlan (x : Out) (p : Plan) : p ∈ (x.addPlan p).plans := by simp [Out.addPlan]

/-- The start that a crook gather plans for an output: for its target, from the present instant on. -/
def State.gatherPlan (s : State) (target o : Nat) : Plan := (s.settle o s.instant).planGather o target s.instant 0

theorem State.gatherRound_keeps {β : Type} (g : State → β) (blind : ∀ s o f, g (State.updOut s o f) = g s)
    (keep : ∀ s e, g (State.keepCrookNew s e) = g s) (s : State) (pen : Pen) (target o : Nat) : g (s.gatherRound pen target o) = g s := by
  rw [State.gatherRound, keep, blind, State.settle_keeps g blind]

theorem State.keepCrookNew_out (s : State) (e : Entry) (n : Nat) : (s.keepCrookNew e).out n = s.out n := rfl

theorem State.gatherRound_others (s : State) (pen : Pen) (target : Nat) {o n : Nat} (other : n ≠ o) : (s.gatherRound pen target o).out n = s.out n := by
  rw [State.gatherRound, State.keepCrookNew_out, State.out_updOut_other _ _ other, (s.settle_event o _).others n other]

theorem State.gatherRound_plans (s : State) (pen : Pen) (target : Nat) (o : Fin 16) :
    { s.gatherPlan target o with crook := some s.tally.crookNew.length } ∈ ((s.gatherRound pen target o).out o).plans := by
  rw [State.gatherRound, State.keepCrookNew_out, State.out_updOut_self]
  exact Out.mem_addPlan _ _

theorem State.gatherRound_crookNew (s : State) (pen : Pen) (target o : Nat) :
    (s.gatherRound pen target o).tally.crookNew = s.tally.crookNew ++ [gatherEntry pen target o (s.gatherPlan target o).shift] := by
  rw [State.gatherRound, State.keepCrookNew, State.updOut_tally, (s.settle_event o _).tally, State.gatherPlan]

/-- What stands once the outputs of `pre` have had their rounds of a crook gather. -/
structure State.Gathering (a : State) (pen : Pen) (target : Nat) (pre : List Nat) (y : State) : Prop where
  cfg : y.cfg = a.cfg
  lp : y.lp = a.lp
  crook : y.crook = a.crook
  lane : y.lane pen = a.lane pen
  entries : y.tally.entries = a.tally.entries
  new : ∃ es, y.tally.crookNew = a.tally.crookNew ++ es ∧ es.map (·.flock) = pre.map (fun o => BitVec.ofNat 16 (2 ^ o)) ∧
    ∀ e ∈ es, ∃ o shift, e = gatherEntry pen target o shift
  plans : ∀ o ∈ pre, ∃ k, { a.gatherPlan target o with crook := some k } ∈ (y.out o).plans
  rests : ∀ o, o ∉ pre → y.out o = a.out o

theorem State.Gathering.round {a y : State} {pen : Pen} {target : Nat} {pre : List Nat} {n : Nat} (g : a.Gathering pen target pre y) (fresh : n ∉ pre)
    (small : n < 16) : a.Gathering pen target (pre ++ [n]) (y.gatherRound pen target n) := by
  have same : a.SameSource n y := ⟨g.rests n fresh, by rw [State.outCfg, g.cfg]; rfl, by rw [g.cfg], by rw [g.cfg]⟩
  have instant : y.instant = a.instant := congrArg (fun c : Clock => foldAt c.absFold.toNat + c.now) (congrArg Prod.fst g.lane)
  have plan : y.gatherPlan target n = a.gatherPlan target n := by
    rw [State.gatherPlan, instant, (same.settle a.instant).planGather]
    rfl
  have keeps := State.gatherRound_keeps (fun s => (s.cfg, s.lp, s.crook, s.lane pen, s.tally.entries)) (fun _ _ _ => rfl) (fun _ _ => rfl) y pen target n
  simp only [Prod.mk.injEq] at keeps
  obtain ⟨cfg, lp, crook, lane, entries⟩ := keeps
  refine ⟨cfg.trans g.cfg, lp.trans g.lp, crook.trans g.crook, lane.trans g.lane, entries.trans g.entries, ?_, fun o mem => ?_, fun o out => ?_⟩
  · obtain ⟨es, new, flocks, all⟩ := g.new
    refine ⟨es ++ [gatherEntry pen target n (y.gatherPlan target n).shift], ?_, ?_, fun e mem => ?_⟩
    · rw [State.gatherRound_crookNew, new, List.append_assoc]
    · rw [List.map_append, List.map_append, flocks]
      rfl
    · rcases List.mem_append.mp mem with earlier | last
      · exact all e earlier
      · exact ⟨n, _, List.mem_singleton.mp last⟩
  · rcases List.mem_append.mp mem with earlier | last
    · rw [State.gatherRound_others _ _ _ fun own : o = n => fresh (own ▸ earlier)]
      exact g.plans o earlier
    · cases List.mem_singleton.mp last
      exact ⟨_, plan ▸ y.gatherRound_plans pen target ⟨n, small⟩⟩
  · rw [State.gatherRound_others _ _ _ fun own : o = n => out (List.mem_append_right _ (List.mem_singleton.mpr own))]
    exact g.rests o fun mem => out (List.mem_append_left _ mem)

theorem State.crookGatherNow_gathering {a : State} {pen : Pen} {f : BitVec 16} {offset : Fs} (room : (a.gatherable f).length ≤ a.slotsLeft) :
    a.Gathering pen (a.instant + offset.toNat) (a.gatherable f) (a.crookGatherNow pen f offset) := by
  rw [State.crookGatherNow_of_room pen room]
  refine forEach_stages (P := a.Gathering pen (a.instant + offset.toNat)) ⟨rfl, rfl, rfl, rfl, rfl, ⟨[], by simp⟩,
    fun _ none => absurd none List.not_mem_nil, fun _ _ => rfl⟩ fun pre n post parts y g => ?_
  have mem : n ∈ a.gatherable f := parts ▸ List.mem_append_right _ List.mem_cons_self
  exact g.round (notMem_of_nodup ((flockOuts_nodup f).filter _) parts) (mem_flockOuts.mp (List.mem_of_mem_filter mem)).1

/-! ### STEP_FLOCK (05 R124; 06 R147, R148) -/

/-- What a fired step moves an output by, by the end of the fold: a running one by what its edges to come take, another one whole. -/
def State.stepMove (a : State) (amount : Fs) (o : Nat) : Fs :=
  if (a.out o).running then immediateMove amount (a.risingEdges o a.instant (a.foldStart + foldFs)) (a.halfLow o) else amount

/-- A load's entry as it is fired. -/
def Entry.fired (stop : Nat) (e : Entry) : Entry := { e with status := .applying, immediate := true, movedTo := stop }

/-- The entry of a step once the outputs of `pre` have moved, each by its own share. -/
def Entry.movedBy (e : Entry) (move : Nat → Fs) (pre : List Nat) (applied : Fs) : Entry :=
  { e with applied := applied, prog := (flockOuts e.flock).map fun o => (o, if o ∈ pre then move o else 0) }

theorem Entry.outApplied_movedBy {e : Entry} {move : Nat → Fs} {pre : List Nat} {applied : Fs} {n : Nat} (named : n ∈ flockOuts e.flock) (fresh : n ∉ pre) :
    (e.movedBy move pre applied).outApplied n = 0 := by
  have first : (flockOuts e.flock).find? (fun o => decide (o = n)) = some n := by
    obtain ⟨o, first⟩ := Option.isSome_iff_exists.mp (List.find?_isSome (p := fun o => decide (o = n)).mpr ⟨n, named, decide_eq_true rfl⟩)
    rw [first, show o = n by simpa using List.find?_some first]
  have found : ((flockOuts e.flock).map fun o => (o, if o ∈ pre then move o else 0)).find? (fun p => p.1 = n) = some (n, 0) := by
    rw [List.find?_map]
    exact (congrArg (Option.map _) first).trans (by simp [fresh])
  simp only [Entry.outApplied, Entry.movedBy, found]

/-- An output's own payment is its share of what has moved. -/
theorem Entry.pay_movedBy (e : Entry) (move : Nat → Fs) {pre : List Nat} (applied : Fs) {n : Nat} (fresh : n ∉ pre) :
    (e.movedBy move pre applied).prog.map (fun p => if p.1 = n then (p.1, p.2 + move n) else p) = (e.movedBy move (pre ++ [n]) applied).prog := by
  simp only [Entry.movedBy, List.map_map]
  refine List.map_congr_left fun o _ => ?_
  by_cases own : o = n
  · subst own
    simp [fresh]
  · simp [own]

/-- What stands once the outputs of `pre` have moved for the fired step `e`. -/
structure State.Stepping (b : State) (e : Entry) (pre : List Nat) (y : State) : Prop where
  base : ∃ outs tally, y = { b with cfg := { b.cfg with outs := outs }, tally := tally }
  nextSeq : y.tally.nextSeq = b.tally.nextSeq
  entry : ∃ applied, y.tally.find e.seq = some (e.movedBy (b.stepMove e.amount) pre applied)
  moved : ∀ o ∈ pre, y.outCfg o = { b.outCfg o with delay := (b.outCfg o).delay + b.stepMove e.amount o }
  rests : ∀ o, o ∉ pre → y.outCfg o = b.outCfg o

theorem State.outCfg_updOutCfg (s : State) (o k : Nat) (f : OutCfg → OutCfg) :
    (s.updOutCfg o f).outCfg k = if o = k ∧ k < 16 then f (s.outCfg k) else s.outCfg k := Vec_getD_upd _ _ _ _ _

/-- A payment is seen at the number of its entry. -/
theorem Tally.find_payOut {t : Tally} {e : Entry} {q : BitVec 32} {o : Nat} {prog : List (Nat × Fs)} (found : t.find q = some e) (x : Fs)
    (progress : e.prog.map (fun p => if p.1 = o then (p.1, p.2 + x) else p) = prog) :
    (t.payOut e o x).find q = some { e with prog := prog, applied := leastProgress e.amount (prog.map (·.2)) } := by
  have own : e.seq = q := Tally.find_seq found
  subst progress
  unfold Tally.payOut
  extract_lets prog a d t1
  rw [Tally.find_updEntry t1 e.seq q (fun e => { e with prog := prog, applied := a }) fun _ => rfl, if_pos own.symm, show t1.find q = some e from found]
  rfl

section
variable {b y : State} {e : Entry} {pre : List Nat} {n : Nat}

theorem State.Stepping.move (g : b.Stepping e pre y) (named : n ∈ flockOuts e.flock) (fresh : n ∉ pre) : ∃ applied,
    y.tally.find e.seq = some (e.movedBy (b.stepMove e.amount) pre applied) ∧
    y.moveImmediate e.seq n y.instant (b.foldStart + foldFs) =
      if b.stepMove e.amount n = 0 then y else y.moveOut (e.movedBy (b.stepMove e.amount) pre applied) n (b.stepMove e.amount n) := by
  obtain ⟨applied, found⟩ := g.entry
  refine ⟨applied, found, ?_⟩
  have same : b.SameSource n y := by
    obtain ⟨outs, tally, rfl⟩ := g.base
    exact ⟨rfl, g.rests n fresh, rfl, rfl⟩
  have instant : y.instant = b.instant := by
    obtain ⟨outs, tally, rfl⟩ := g.base
    rfl
  have rest : (e.movedBy (b.stepMove e.amount) pre applied).amount - (e.movedBy (b.stepMove e.amount) pre applied).outApplied n = e.amount := by
    rw [Entry.outApplied_movedBy named fresh, sub_zero]
    rfl
  simp only [State.moveImmediate, found, rest, same.out, same.risingEdges, same.halfLow, instant]
  rfl

theorem State.Stepping.round (g : b.Stepping e pre y) (named : n ∈ flockOuts e.flock) (fresh : n ∉ pre) (steps : e.src = .step) :
    b.Stepping e (pre ++ [n]) (y.moveImmediate e.seq n y.instant (b.foldStart + foldFs)) := by
  have small := (mem_flockOuts.mp named).1
  obtain ⟨applied, found, moves⟩ := g.move named fresh
  rw [moves]
  have others (o : Nat) (own : o ≠ n) : o ∈ pre ++ [n] ↔ o ∈ pre := by simp [own]
  split
  case isTrue still =>
    have prog : e.movedBy (b.stepMove e.amount) (pre ++ [n]) applied = e.movedBy (b.stepMove e.amount) pre applied := by
      refine congrArg (fun prog => { e with applied := applied, prog := prog }) (List.map_congr_left fun o _ => ?_)
      by_cases own : o = n
      · subst own
        simp [fresh, still]
      · simp [own]
    refine ⟨g.base, g.nextSeq, ⟨applied, prog ▸ found⟩, fun o mem => ?_, fun o out => g.rests o fun mem => out (List.mem_append_left _ mem)⟩
    by_cases own : o = n
    · subst own
      rw [g.rests o fresh, still, add_zero]
    · exact g.moved o ((others o own).mp mem)
  case isFalse =>
    have writes : y.moveOut (e.movedBy (b.stepMove e.amount) pre applied) n (b.stepMove e.amount n) =
        ({ y with tally := y.tally.payOut (e.movedBy (b.stepMove e.amount) pre applied) n (b.stepMove e.amount n) }).updOutCfg n fun c =>
          { c with delay := c.delay + b.stepMove e.amount n } := if_pos steps
    rw [writes]
    refine ⟨?_, g.nextSeq, ?_, fun o mem => ?_, fun o out => ?_⟩
    · obtain ⟨outs, tally, rfl⟩ := g.base
      exact ⟨_, _, rfl⟩
    · have paid := Tally.find_payOut found (b.stepMove e.amount n) (e.pay_movedBy (b.stepMove e.amount) applied fresh)
      exact ⟨_, paid⟩
    · rw [State.outCfg_updOutCfg]
      by_cases own : o = n
      · subst own
        rw [if_pos ⟨rfl, small⟩]
        exact congrArg (fun c : OutCfg => { c with delay := c.delay + b.stepMove e.amount o }) (g.rests o fresh)
      · rw [if_neg fun here => own here.1.symm]
        exact g.moved o ((others o own).mp mem)
    · rw [State.outCfg_updOutCfg, if_neg fun (here : n = o ∧ o < 16) => out (here.1 ▸ List.mem_append_right _ (List.mem_singleton_self n))]
      exact g.rests o fun mem => out (List.mem_append_left _ mem)

theorem State.crookEntry_found {a : State} {p : Pen} (loaded : a.crookEntry p = some e) : a.tally.find e.seq = some e ∧ e.crook = true := by
  simp only [State.crookEntry, Option.filter_eq_some_iff, Option.bind_eq_some_iff, Bool.and_eq_true] at loaded
  obtain ⟨⟨q, -, found⟩, ⟨-, crook⟩, -⟩ := loaded
  exact ⟨(Tally.find_seq found).symm ▸ found, crook⟩

/-- The state in which a step's outputs move: its entry fired, and the load consumed. -/
def State.stepTaken (a : State) (p : Pen) (e : Entry) : State :=
  ({ a with tally := a.tally.updEntry e.seq (Entry.fired (a.foldStart + foldFs)) }).updCrook p fun k => { k with step := none }

theorem State.fireStep_stepping {a : State} {c : CrookCmd} (loaded : a.crookEntry c.pen = some e) (steps : e.src = .step)
    (prog : e.prog = (flockOuts e.flock).map fun o => (o, 0)) :
    (a.stepTaken c.pen e).Stepping (e.fired (a.foldStart + foldFs)) (flockOuts e.flock) (a.fireStep c) := by
  obtain ⟨found, -⟩ := State.crookEntry_found loaded
  have fires : a.fireStep c = forEach (flockOuts e.flock) (fun o s => s.moveImmediate e.seq o s.instant (a.foldStart + foldFs)) (a.stepTaken c.pen e) := by
    simp only [State.fireStep, loaded]
    rfl
  have entry : (a.stepTaken c.pen e).tally.find e.seq = some (e.fired (a.foldStart + foldFs)) := by
    refine (Tally.find_updEntry a.tally e.seq e.seq (Entry.fired (a.foldStart + foldFs)) fun _ => rfl).trans ?_
    rw [if_pos rfl, found]
    rfl
  rw [fires]
  refine forEach_stages (P := (a.stepTaken c.pen e).Stepping (e.fired (a.foldStart + foldFs))) ⟨⟨_, _, rfl⟩, rfl, ⟨e.applied, entry.trans ?_⟩,
    fun _ none => absurd none List.not_mem_nil, fun _ _ => rfl⟩ fun pre n post parts y g => ?_
  · simp [Entry.movedBy, Entry.fired, prog]
  · have mem : n ∈ flockOuts e.flock := parts ▸ List.mem_append_right _ List.mem_cons_self
    exact g.round mem (notMem_of_nodup (flockOuts_nodup _) parts) steps

end

theorem State.stepTaken_lane (a : State) (p : Pen) (e : Entry) : (a.stepTaken p e).lane p = a.lane p := by
  have own : ((a.stepTaken p e).crook.getD p {}) = { a.crook.getD p {} with step := none } := Vec_getD_upd_same _ _ _ _ p.isLt
  rw [State.lane, own]
  rfl

theorem State.Stepping.lane {b y : State} {e : Entry} {pre : List Nat} (g : b.Stepping e pre y) (p : Pen) : y.lane p = b.lane p := by
  obtain ⟨outs, tally, rfl⟩ := g.base
  rfl

theorem State.stepTaken_stepMove (a : State) (p : Pen) (e : Entry) (amount : Fs) (o : Nat) : (a.stepTaken p e).stepMove amount o = a.stepMove amount o := by
  have same : a.SameSource o (a.stepTaken p e) := ⟨rfl, rfl, rfl, rfl⟩
  simp only [State.stepMove, same.out, same.risingEdges, same.halfLow]
  rfl

section
variable {a : State} {c : CrookCmd} {e : Entry} (loaded : a.crookEntry c.pen = some e) (steps : e.src = .step)
  (prog : e.prog = (flockOuts e.flock).map fun o => (o, 0))
include loaded steps prog

theorem State.fireStep_lane : (a.fireStep c).lane c.pen = a.lane c.pen :=
  ((State.fireStep_stepping loaded steps prog).lane _).trans (a.stepTaken_lane _ _)

/-- The load is consumed, and the outputs' own figures and the loop are left. -/
theorem State.fireStep_keeps : ((a.fireStep c).crook.getD c.pen {}).step = none ∧ (a.fireStep c).outs = a.outs ∧ (a.fireStep c).lp = a.lp ∧
    (a.fireStep c).tally.nextSeq = a.tally.nextSeq := by
  have g := State.fireStep_stepping loaded steps prog
  obtain ⟨outs, tally, base⟩ := g.base
  refine ⟨?_, by rw [base]; rfl, by rw [base]; rfl, g.nextSeq⟩
  have own : ((a.stepTaken c.pen e).crook.getD c.pen {}).step = none := congrArg CrookPen.step (Vec_getD_upd_same _ _ _ _ c.pen.isLt)
  rw [base]
  exact own

theorem State.fireStep_entry : ∃ e', (a.fireStep c).tally.find e.seq = some e' ∧ e'.status = .applying ∧ e'.immediate = true ∧ e'.crook = true ∧
    e'.movedTo = a.foldStart + foldFs ∧ e'.prog = (flockOuts e.flock).map fun o => (o, a.stepMove e.amount o) := by
  obtain ⟨applied, found⟩ := (State.fireStep_stepping loaded steps prog).entry
  refine ⟨_, found, rfl, rfl, (State.crookEntry_found loaded).2, rfl, List.map_congr_left fun o mem => ?_⟩
  rw [if_pos (show o ∈ flockOuts e.flock from mem), State.stepTaken_stepMove]
  rfl

theorem State.fireStep_outCfg {o : Nat} (small : o < 16) : (a.fireStep c).outCfg o =
    if e.flock.getLsbD o then { a.outCfg o with delay := (a.outCfg o).delay + a.stepMove e.amount o } else a.outCfg o := by
  have g := State.fireStep_stepping loaded steps prog
  split
  case isTrue named =>
    rw [g.moved o (mem_flockOuts.mpr ⟨small, named⟩), State.stepTaken_stepMove]
    rfl
  case isFalse other => exact g.rests o fun mem => other (mem_flockOuts.mp mem).2

end

/-! ### The state that a command fires in, against the state before the step -/

theorem State.SameSource.of_settings {s x : State} (outs : x.outs = s.outs) (cfg : x.cfg = s.cfg) (o : Nat) : s.SameSource o x where
  out := congrArg (·.getD o {}) outs
  outCfg := congrArg (fun c : Settings => c.outs.getD o {}) cfg
  prediv := congrArg (·.prediv o) cfg
  fvco := congrArg (·.fvco) cfg

theorem State.gatherable_congr {s x : State} (cfg : x.cfg = s.cfg) (f : BitVec 16) : x.gatherable f = s.gatherable f :=
  congrArg (fun c : Settings => (flockOuts f).filter fun o => (c.outs.getD o {}).mode = 1 && (c.outs.getD o {}).onCommand) cfg

theorem State.slotsLeft_congr {s x : State} (tally : x.tally = s.tally) (host : x.host = s.host) : x.slotsLeft = s.slotsLeft := by
  simp only [State.slotsLeft, State.stagedSlots, tally, host]

/-- The state that a source's command fires in differs from the one before the step in the pen's status, a pin's level, the instant and a free draw. -/
structure State.ArmedFrom (s : State) (t : Nat) (p : Pen) (a : State) : Prop where
  tally : a.tally = s.tally
  outs : a.outs = s.outs
  cfg : a.cfg = s.cfg
  lp : a.lp = s.lp
  host : a.host = s.host
  clk : a.clk = { s.clk with now := t + (s.setNow t).crookDelay }
  step : (a.crook.getD p {}).step = (s.crook.getD p {}).step
  gather : (a.crook.getD p {}).gather = (s.crook.getD p {}).gather

theorem State.armedFrom (s : State) (t : Nat) (src : CrookSrc) (c : CrookCmd) : s.ArmedFrom t c.pen (((s.setNow t).sees src).armed c) := by
  have own (x : State) : (x.armed c).crook.getD c.pen {} = { x.crook.getD c.pen {} with
      refused := false, last := if 1 ≤ c.code && c.code ≤ 5 then c.code else (x.crook.getD c.pen {}).last, busyTo := x.instant + x.crookDelay } :=
    Vec_getD_upd_same _ _ _ _ c.pen.isLt
  have step := congrArg CrookPen.step (own ((s.setNow t).sees src))
  have gather := congrArg CrookPen.gather (own ((s.setNow t).sees src))
  cases src <;> exact ⟨rfl, rfl, rfl, rfl, rfl, rfl, step, gather⟩

section
variable {s a : State} {t : Nat} {p : Pen} (r : s.ArmedFrom t p a)
include r

theorem State.ArmedFrom.instant : a.instant = (s.setNow t).instant + (s.setNow t).crookDelay := by
  rw [State.instant, State.foldStart, r.clk]
  exact (Nat.add_assoc _ _ _).symm

theorem State.ArmedFrom.foldStart : a.foldStart = s.foldStart := by
  rw [State.foldStart, r.clk]
  rfl

theorem State.ArmedFrom.crookEntry : a.crookEntry p = s.crookEntry p := by
  rw [State.crookEntry, r.step, r.tally]
  rfl

theorem State.ArmedFrom.out (o : Nat) : a.out o = s.out o := congrArg (·.getD o {}) r.outs

theorem State.ArmedFrom.outCfg (o : Nat) : a.outCfg o = s.outCfg o := congrArg (fun c : Settings => c.outs.getD o {}) r.cfg

theorem State.ArmedFrom.stepMove (amount : Fs) (o : Nat) : a.stepMove amount o =
    if (s.out o).running then
      immediateMove amount (s.risingEdges o ((s.setNow t).instant + (s.setNow t).crookDelay) (s.foldStart + foldFs)) (s.halfLow o)
    else amount := by
  have same := State.SameSource.of_settings r.outs r.cfg o
  simp only [State.stepMove, same.out, same.risingEdges, same.halfLow, r.instant, r.foldStart]

theorem State.ArmedFrom.gatherPlan (target o : Nat) : a.gatherPlan target o =
    (s.settle o ((s.setNow t).instant + (s.setNow t).crookDelay)).planGather o target ((s.setNow t).instant + (s.setNow t).crookDelay) 0 := by
  rw [State.gatherPlan, r.instant, ((State.SameSource.of_settings r.outs r.cfg o).settle _).planGather]

end

/-! ### What stands after the five actions -/

theorem State.afterFire_keeps (s : State) (t : Nat) (c : CrookCmd) (y : State) : (s.afterFire t c y).tally = y.tally ∧ (s.afterFire t c y).cfg = y.cfg ∧
    (s.afterFire t c y).lp = y.lp ∧ (s.afterFire t c y).outs = y.outs ∧ (s.afterFire t c y).crook = y.crook ∧ (s.afterFire t c y).host = y.host := by
  simp [State.afterFire]

section
variable {s a : State} {t : Nat} {c : CrookCmd} (r : s.ArmedFrom t c.pen a)
include r

/-- A gate action writes the gate of each GATED output of its flock and of no other. -/
theorem State.afterFire_gate (on : Bool) : let s' := s.afterFire t c (a.fireGate c on)
    (∀ o ∈ flockOuts c.flock, (s.outCfg o).mode = 2 → (s'.out o).gate = on ∧
      ((s.out o).gate ≠ on → on = true → (s'.out o).openAt = (s.setNow t).instant + (s.setNow t).crookDelay)) ∧
    (∀ o < 16, c.flock.getLsbD o = false ∨ (s.outCfg o).mode ≠ 2 ∨ (s.out o).gate = on → s'.out o = s.out o) ∧
    s'.tally = s.tally ∧ s'.lp = s.lp ∧ s'.cfg = s.cfg := by
  intro s'
  obtain ⟨tally, cfg, lp, outs, -, -⟩ := s.afterFire_keeps t c (a.fireGate c on)
  have g := a.fireGate_gating c on c.pen
  have out (o : Nat) : s'.out o = (a.fireGate c on).out o := congrArg (·.getD o {}) outs
  refine ⟨fun o mem gated => ?_, fun o small rests => ?_, tally.trans (g.tally.trans r.tally), lp.trans (g.lp.trans r.lp), cfg.trans (g.cfg.trans r.cfg)⟩
  · rw [out, ← r.instant, ← r.out]
    exact g.sets o mem (by rwa [r.outCfg])
  · rw [out, ← r.out]
    refine g.rests o ?_
    rw [r.outCfg, r.out]
    exact rests.imp_left fun out mem => by simp [(mem_flockOuts.mp mem).2] at out

/-- A freeze holds the DPLL, and asks for HELD over a HOLD staged before (01 R26; 04 R82). -/
theorem State.afterFire_freeze : let s' := s.afterFire t c a.fireFreeze
    (s.lp.held = false → s'.lp = { s.lp with
      staged := none, loop := s.lp.dcoLoop, frozen := true, nextState := none, unmeasured := none, holdCmd := some true, crookHold := true }) ∧
    (s.lp.held = true → s'.lp = { s.lp with holdCmd := some true, crookHold := true }) ∧
    s'.tally = s.tally ∧ s'.outs = s.outs ∧ s'.cfg = s.cfg ∧ (∀ g ∈ s'.host.staged, g.opcode = 0x2032 → g.commit = false) := by
  intro s'
  obtain ⟨tally, cfg, lp, outs, -, host⟩ := s.afterFire_keeps t c a.fireFreeze
  obtain ⟨keepsTally, keepsOuts, keepsCfg⟩ := a.fireFreeze_keeps
  refine ⟨fun free => lp.trans ?_, fun held => lp.trans ?_, tally.trans (keepsTally.trans r.tally), outs.trans (keepsOuts.trans r.outs),
    cfg.trans (keepsCfg.trans r.cfg), host ▸ a.fireFreeze_staged⟩
  · simp [State.fireFreeze, State.askHold, State.freezeInFold, r.lp, free]
  · simp [State.fireFreeze, State.askHold, r.lp, held]

/-- A crook gather plans the start of each output that can take one, and leaves the load (07 R165). -/
theorem State.afterFire_gather {f : BitVec 16} {offset : Fs} (loaded : (s.crook.getD c.pen {}).gather = some (f, offset)) :
    let s' := s.afterFire t c (a.fireGather c)
    let u := (s.setNow t).instant + (s.setNow t).crookDelay
    (a.fireGather c).lane c.pen = a.lane c.pen ∧ (s'.crook.getD c.pen {}).gather = some (f, offset) ∧ s'.cfg = s.cfg ∧ s'.lp = s.lp ∧
      s'.tally.entries = s.tally.entries ∧
      ((s.gatherable f).length ≤ s.slotsLeft →
        ∃ es : List Entry, s'.tally.crookNew = s.tally.crookNew ++ es ∧ es.map (·.flock) = (s.gatherable f).map (fun o => BitVec.ofNat 16 (2 ^ o)) ∧
          (∀ e ∈ es, e.src = .gather ∧ e.status = .applying ∧ e.pen = c.pen ∧ e.target = some (u + offset.toNat)) ∧
          (∀ o ∈ s.gatherable f, ∃ k, { (s.settle o u).planGather o (u + offset.toNat) u 0 with crook := some k } ∈ (s'.out o).plans)) ∧
      (s.slotsLeft < (s.gatherable f).length → s'.tally = s.tally ∧ s'.outs = s.outs) := by
  intro s' u
  have fires : a.fireGather c = a.crookGatherNow c.pen f offset := by
    simp only [State.fireGather, r.gather, loaded]
  obtain ⟨tally, cfg, lp, outs, crook, -⟩ := s.afterFire_keeps t c (a.fireGather c)
  have outsOf := State.gatherable_congr r.cfg f
  have slots := State.slotsLeft_congr r.tally r.host
  have kept : (a.crook.getD c.pen {}).gather = some (f, offset) := r.gather.trans loaded
  by_cases room : (s.gatherable f).length ≤ s.slotsLeft
  case pos =>
    have g := State.crookGatherNow_gathering (a := a) (pen := c.pen) (f := f) (offset := offset) (by rwa [outsOf, slots])
    rw [← fires, r.instant, outsOf] at g
    refine ⟨g.lane, ?_, cfg.trans (g.cfg.trans r.cfg), lp.trans (g.lp.trans r.lp), ?_, fun _ => ?_, fun full => absurd room (Nat.not_le.mpr full)⟩
    · rw [crook, g.crook, kept]
    · rw [tally, g.entries, r.tally]
    · obtain ⟨es, new, flocks, all⟩ := g.new
      refine ⟨es, by rw [tally, new, r.tally], flocks, fun e mem => ?_, fun o mem => ?_⟩
      · obtain ⟨o, shift, rfl⟩ := all e mem
        exact ⟨rfl, rfl, rfl, rfl⟩
      · obtain ⟨k, planned⟩ := g.plans o mem
        rw [r.gatherPlan] at planned
        exact ⟨k, (congrArg (fun outs : Vec Out 16 => (outs.getD o {}).plans) outs).symm ▸ planned⟩
  case neg =>
    have full : a.slotsLeft < (a.gatherable f).length := by rw [outsOf, slots]; omega
    rw [State.crookGatherNow_of_full c.pen full] at fires
    have keeps : (a.fireGather c).lane c.pen = a.lane c.pen ∧ (a.fireGather c).crook = a.crook ∧ (a.fireGather c).cfg = a.cfg ∧
        (a.fireGather c).lp = a.lp ∧ (a.fireGather c).tally = a.tally ∧ (a.fireGather c).outs = a.outs := by
      rw [fires]
      exact ⟨a.lane_raiseFrom_other c.pen _ (by decide), by simp⟩
    obtain ⟨lane, keepsCrook, keepsCfg, keepsLp, keepsTally, keepsOuts⟩ := keeps
    refine ⟨lane, by rw [crook, keepsCrook, kept], cfg.trans (keepsCfg.trans r.cfg), lp.trans (keepsLp.trans r.lp), by rw [tally, keepsTally, r.tally],
      fun fits => absurd fits room, fun _ => ⟨tally.trans (keepsTally.trans r.tally), outs.trans (keepsOuts.trans r.outs)⟩⟩

end

end Sys2Proof.Machine

open Sys2Proof Sys2Proof.Machine

/-- Settles O17: each action by what its outputs' rounds write, fired in the state that its latency leads to. -/
theorem crookActionsFire : Obligations.CrookActionsFire := by
  intro s t src c early opened frame pin s0 d u fired
  have fires {code : Nat} {fire : CrookCmd → State → State} (asks : s0.crookCmd code src = some c) (free : s0.crookCause c = 0) :=
    State.crookAct_of_no_cause (fire := fire) opened ⟨frame, pin⟩ asks free
  have r := s.armedFrom t src c
  have within : d ≤ 160000000 ∧ t + d < foldFs := by
    have bound : d ≤ foldFs - 1 - t := Nat.min_le_right _ _
    exact ⟨(Nat.min_le_left _ _).trans (Nat.min_le_right _ _), by omega⟩
  have stands {code : Nat} {y : State} (known : 1 ≤ code ∧ code ≤ 5) (names : c.code = code)
      (lane : y.lane c.pen = ((s0.sees src).armed c).lane c.pen) : fired code (s.afterFire t c y) := by
    subst names
    exact State.hasFired known lane
  refine ⟨within.1, within.2, fun e asks code free loaded steps prog => ?_, fun asks code free => ?_, fun asks code free => ?_, fun asks code free => ?_,
    fun f offset asks code free loaded => ?_⟩
  all_goals generalize (s0.sees src).armed c = a at r fires stands
  · have loaded := r.crookEntry.trans loaded
    obtain ⟨tally, cfg, lp, outs, crook, -⟩ := s.afterFire_keeps t c (a.fireStep c)
    obtain ⟨consumed, keepsOuts, keepsLp, nextSeq⟩ := State.fireStep_keeps loaded steps prog
    obtain ⟨e', found, status, immediate, marked, movedTo, shares⟩ := State.fireStep_entry loaded steps prog
    refine ⟨_, e', congrArg Host.Outcome.next (fires asks free), stands (by decide) code (State.fireStep_lane loaded steps prog), ?_, tally ▸ found,
      status, immediate, marked, movedTo.trans (congrArg (· + foldFs) r.foldStart), ?_, fun o small => ?_, outs.trans (keepsOuts.trans r.outs),
      lp.trans (keepsLp.trans r.lp), ?_⟩
    · rw [crook]
      exact consumed
    · rw [shares]
      simp only [r.stepMove]
      rfl
    · have committed : (s.afterFire t c (a.fireStep c)).outCfg o = (a.fireStep c).outCfg o := congrArg (fun c : Settings => c.outs.getD o {}) cfg
      rw [committed, State.fireStep_outCfg loaded steps prog small, r.stepMove, r.outCfg]
    · rw [tally, nextSeq, r.tally]
  · obtain ⟨sets, rests, tally, lp, cfg⟩ := State.afterFire_gate r true
    refine ⟨_, congrArg Host.Outcome.next (fires asks free), stands (by decide) code (a.fireGate_gating c true c.pen).lane, fun o mem gated => ?_, rests,
      tally, lp, cfg⟩
    obtain ⟨gate, openAt⟩ := sets o mem gated
    exact ⟨gate, fun closed => openAt (by simp [closed]) rfl⟩
  · obtain ⟨sets, rests, tally, lp, cfg⟩ := State.afterFire_gate r false
    exact ⟨_, congrArg Host.Outcome.next (fires asks free), stands (by decide) code (a.fireGate_gating c false c.pen).lane,
      fun o mem gated => (sets o mem gated).1, rests, tally, lp, cfg⟩
  · exact ⟨_, congrArg Host.Outcome.next (fires asks free), stands (by decide) code (a.fireFreeze_lane c.pen), State.afterFire_freeze r⟩
  · obtain ⟨lane, stays⟩ := State.afterFire_gather r loaded
    exact ⟨_, congrArg Host.Outcome.next (fires asks free), stands (by decide) code lane, stays⟩

end
